-- ==== Sys2Proof/Word.lean ====
section
/-! DEFINITION. The byte, and the finite maps in which the state keeps sparse data. -/

namespace Sys2Proof

/-- One byte. -/
abbrev Byte := BitVec 8

/-- Sparse data by key: pairs of a key and a value, keys strictly rising, no pair equal to what an unlisted key reads as. -/
abbrev Map (α : Type) := List (Nat × α)

end Sys2Proof
end

