-- ==== Sys2Proof/Syntax.lean ====
section
/-! DEFINITION. The commands: one constructor per row of spec/opcode_table.json, with the operands that the spec says the event
or the host access brings; and the types of those operands. -/

namespace Sys2Proof

/-- The state of the 39-bit word a command meets: whole, with one bad bit (its position), or with two (R39, R524). -/
inductive WordErr where
  | clean
  | single (bitPos : Nat)
  | double
  deriving DecidableEq, Repr

/-- What a protected word holds, where that decides the containment of a double-bit error (Table 1.7). -/
inductive WordKind where
  | plain
  | mirrored (mirrorBad : Bool)
  | flowRecord (index : Nat) (mirrorBad : Bool)
  | treeCache  -- a cached copy: a tree-cache or a flow-cache word
  | bufferMeta (handle : Nat)
  | freeList (handle : Nat)
  | mewsMemory (core role : Nat)
  | keyStore (port index : Nat)
  | frameData (handle : Nat)
  deriving DecidableEq, Repr

/-- A protected word: the page that owns it, its SUBSYSTEM, UNIT and ARRAY of Table 1.6, its address in the array. -/
structure WordAt where
  page : Nat
  sub : Nat
  unit : Nat
  array : Nat
  addr : Nat
  kind : WordKind
  deriving DecidableEq, Repr

/-- An allocation of a BWmap addressed to this port or not (R116). -/
structure AllocIn where
  alloc : Nat
  /-- Start time and grant size, in the units of G.9804.2 for the upstream rate. -/
  start : Nat
  size : Nat
  ploamu : Bool
  dbru : Bool
  deriving DecidableEq, Repr

/-- An output of a step of Yunager (R447); `rebuildRegion` says that it rebuilds a region of the LPDDR6 that was lost, numbered as the bits of
RET_MASK, a rule-tree bank from the image held in Arcade (R68, R494); `measure` that it extends a measurement register (R479). -/
inductive YOut where
  | regWrite (page off value : Nat)
  | commitReq (page : Nat)
  | roleWrite (role : Nat) (words : List Nat)
  | ringEntry (ring typ port : Nat) (bytes : List Byte)
  | ploam (fibre kind : Nat) (bytes : List Byte)
  | omci (fibre : Nat) (bytes : List Byte)
  | measure (reg imageId digest : Nat)
  | rebuildRegion (region : Nat) (image : List Byte)
  deriving DecidableEq, Repr

/-- The commands of the terminal. -/
inductive Instr where
  /-- TICK_BOUNDARY (R12). A 125 µs tick begins at its fixed offset from the timing port's downstream frame, or is timed from the TCXO in holdover, and the tick-boundary work runs. -/
  | tickBoundary
  /-- BLOCK_BOUNDARY (R4). A block of 2 430 core cycles begins, and staged writes, swaps and the block-boundary work take effect. -/
  | blockBoundary
  /-- TICK_ALIGN (R52). At the tick boundary after the timing port first synchronises, one tick is lengthened to align it and the PLL leaves FREE-RUN. -/
  | tickAlign (extra : Nat)
  /-- JOURNAL_ENTRY (R15). A work item enters a Carriageway's block journal within its half limit, and the slice takes it in and works on it into the pending ledger. -/
  | journalEntry (src : Nat) (cyc : Nat)
  /-- RECOV_RESET (R94). A stream that has passed no copy for RESET_TICKS ticks sets TAKE_ANY, clears its rejoin flags and counts RESETS. -/
  | recovReset (stream : Nat)
  /-- BLOCK_COMMIT (R284). At the start of block k + 2 the Crossing commits block k: staged writes, item outcomes, ledgers, events and snapshots. -/
  | blockCommit (masked : List Nat) (failed : List (Nat × Bool)) (cycles : Nat)
  /-- TRANSMIT_OPPORTUNITY (R233). At a port node's transmit opportunity the scheduler serves the first ready tier and hands the frame to the MAC. -/
  | transmitOpportunity (port : Nat) (cyc : Nat)
  /-- KERB_FRAME_START (R311). The Kerb MAC starts the highest open, unpaused transmit queue's waiting frame. -/
  | kerbFrameStart (port : Nat) (cyc : Nat)
  /-- KERB_TX_COMPLETE (R21). A frame's last byte leaves the Kerb serialiser: it is delivered, classified, and its buffer is released. -/
  | kerbTxComplete (port : Nat) (cyc : Nat)
  /-- SCRUB_VISIT (R40). The scrubber visits a protected word and corrects a single-bit error in line. -/
  | scrubVisit (word : WordAt) (err : WordErr) (pass : Nat)
  /-- REGISTER_SCRUB (R524). The register scrubber visits a register word and corrects a single-bit error. -/
  | registerScrub (page : Nat) (offset : Nat) (err : WordErr)
  /-- CLOCK_FAULT (R39). The always-on monitor detects loss of the core clock or a PLL, or a thermal trip, and resets the terminal, keeping the record. -/
  | clockFault
  /-- REFERENCE_PART_FAULT (R50). A fault in the TCXO or the 32.768 kHz crystal is reported as a level-7 fault. -/
  | referencePartFault (part : Nat)
  /-- CHANNEL_OUT (R210). An LPDDR6 channel leaves service: its buffers are parked and mirrored reads go to the partner. -/
  | channelOut (channel : Nat)
  /-- CHANNEL_BACK (R63). An LPDDR6 channel returns to service and the rebuild of its mirrored regions starts. -/
  | channelBack (channel : Nat)
  /-- REBUILD_DONE (R63). The rebuild of a returned channel's mirrored regions completes. -/
  | rebuildDone (channel : Nat)
  /-- LOS_ASSERTED (R70). The receiver asserts LOS on low power or loss of recovered clock and freezes the equaliser. -/
  | losAsserted (port : Nat)
  /-- LOS_DEASSERTED (R70). LOS deasserts after the input has stayed above the deassert level for 8 ticks. -/
  | losDeasserted (port : Nat)
  /-- EQ_SWAP_REQUEST (R72). Writing EQ_CTRL.SWAP requests a swap of the active and shadow coefficient sets. -/
  | eqSwapRequest (port cyc : Nat)
  /-- EQ_SWAPPED (R72). At the first PSBd 2 048 symbols after the request the shadow set is checked and swapped in, or refused. -/
  | eqSwapped (port cyc : Nat)
  /-- EQ_CAPTURE (R73). A capture of 1 024 symbols completes and goes to the EQ_ADAPT role's buffer with a CAPTURE message, or to the host ring. -/
  | eqCapture (port : Nat) (samples : List (Bool × Int))
  /-- EQ_HUNT_RESET (R73). After 16 consecutive ticks in HUNT both coefficient sets are reloaded with the reset set. -/
  | eqHuntReset (port : Nat)
  /-- PSYNC_CANDIDATE (R76). The hunter finds a PSync match with a valid SFC and holds it as a PRE-SYNC candidate, or counts CAND_OVERFLOW. -/
  | psyncCandidate (port pos errs sfc : Nat) (sfcOk : Bool)
  /-- DOWNSTREAM_FRAME (R75). A PSBd arrives at its expected position and the synchronisation machine judges the frame good or bad. -/
  | downstreamFrame (port pos errs sfc : Nat) (sfcOk : Bool) (ppb : Int) (cyc : Nat)
  /-- FEC_CODEWORD (R78). A downstream codeword is LDPC-decoded, corrected or marked uncorrectable, and counted. -/
  | fecCodeword (port iters bits : Nat)
  /-- SIGNAL_DEGRADE_WINDOW (R79). At the end of an 8 000-tick window SD is declared or cleared against SD_THRESH. -/
  | signalDegradeWindow (port : Nat)
  /-- SIGNAL_FAIL_CHANGE (R79). SF is declared after LOSS_M ticks over SF_THRESH, or cleared after 8 ticks below it. -/
  | signalFailChange (port : Nat)
  /-- XGEM_FRAME (R80). An XGEM frame is delineated, filtered by port-ID, decrypted and reassembled, and passed to the parser or Town Hall. -/
  | xgemFrame (port header : Nat) (hdrUncorr uncorr : Bool) (pos : Nat) (bytes : List Byte)
  /-- REASM_TIMEOUT (R84). A fragmented frame not complete by the end of the following downstream frame is discarded and its buffer freed. -/
  | reasmTimeout (port portId : Nat)
  /-- XGEM_FILTER_READ (R100). TBL_CMD 1 reads a port-filter entry. -/
  | xgemFilterRead (port : Nat)
  /-- XGEM_FILTER_WRITE (R83). TBL_CMD 2 writes a port-filter entry to staging, refusing a duplicate port-ID. -/
  | xgemFilterWrite (port : Nat)
  /-- XGEM_FILTER_INVALIDATE (R83). TBL_CMD 3 invalidates a port-filter entry in staging. -/
  | xgemFilterInvalidate (port : Nat)
  /-- TIMING_PORT_CHANGE (R89). At a tick boundary the timing port changes and the new port's frame offset is taken. -/
  | timingPortChange
  /-- TP_FORCE (R88). A write to TP_FORCE.FORCE requests a change of timing port at the next tick boundary, or is refused. -/
  | tpForce
  /-- TP_WTR_EXPIRY (R87). Under REVERTIVE the preferred port has qualified for TP_WTR ticks and becomes timing port. -/
  | tpWtrExpiry
  /-- TP_STARTUP_TIMEOUT (R87). The preferred port has not reached SYNC 80 000 ticks after the other port, which becomes timing port. -/
  | tpStartupTimeout
  /-- REJOIN_STALLED (R97). Streams still rejoin RJ_WARN ticks after the port returned, so REJOIN_STALLED is raised once. -/
  | rejoinStalled (port : Nat)
  /-- REJOIN_END_CMD (R97). Writing RJ_CTRL.END ends every stream's rejoin on the port at the next block boundary. -/
  | rejoinEndCmd (port : Nat)
  /-- ROGUE_SHUT (R103). The optical monitor removes laser bias on light without burst-enable or a burst longer than a tick. -/
  | rogueShut (port light cyc : Nat)
  /-- ROGUE_CLEAR (R103). Writing US_CTRL.ROGUE_CLEAR with burst-enable low restores laser bias. -/
  | rogueClear (port : Nat)
  /-- ACT_EN_WRITE (R104). Setting ACT_EN moves Disabled to O1.1; clearing it returns to Disabled with the laser dark and everything discarded. -/
  | actEnWrite (port : Nat) (en : Bool)
  /-- BURST_PROFILE (R104). A Burst_Profile PLOAM for a supported rate moves O1.2 to O2-3 and is stored. -/
  | burstProfile (port rate preamble overhead : Nat) (mic : Option Bool) (msg : List Byte)
  /-- SERIAL_NUMBER_GRANT (R106). A serial-number grant makes the port send Serial_Number_ONU after a fresh random delay. -/
  | serialNumberGrant (port : Nat)
  /-- ASSIGN_ONU_ID (R104). Assign_ONU-ID naming the port's serial number moves O2-3 to O4 and starts TO1. -/
  | assignOnuId (port vendor vssn onuId : Nat) (mic : Option Bool) (msg : List Byte)
  /-- RANGING_GRANT (R107). A ranging grant in O4 makes the port send Registration. -/
  | rangingGrant (port : Nat)
  /-- RANGING_TIME (R108). Ranging_Time moves O4 to O5.1, or in O5.1 assigns a new EqD. -/
  | rangingTime (port : Nat) (relative : Bool) (value : Int) (mic : Option Bool) (msg : List Byte)
  /-- EQD_APPLY (R108). A new EqD takes effect at the first downstream frame boundary at least 1 tick after its message. -/
  | eqdApply (port : Nat)
  /-- DEACTIVATE_ONU_ID (R104). Deactivate_ONU-ID returns O5.1 to O1.1, discarding ONU-ID, EqD, keys and Alloc-IDs. -/
  | deactivateOnuId (port : Nat) (mic : Option Bool) (msg : List Byte)
  /-- DISABLE_SERIAL_NUMBER (R109). Disable_Serial_Number enters O7 and records it, or with enable leaves O7. -/
  | disableSerialNumber (port vendor vssn : Nat) (enable : Bool) (mic : Option Bool) (msg : List Byte)
  /-- TUNING_CONTROL (R104). A Tuning_Control PLOAM is answered with the rejection response and the state is kept. -/
  | tuningControl (port : Nat) (mic : Option Bool) (msg : List Byte)
  /-- KEY_CONTROL (R112). A Key_Control requesting a new key makes the security block generate, store and report a wrapped data key. -/
  | keyControl (port sfc : Nat) (mic : Option Bool) (msg : List Byte)
  /-- KEY_SWITCH (R112). A pending key becomes valid at the superframe count the head end named. -/
  | keySwitch (port : Nat)
  /-- ASSIGN_ALLOC_ID (R451). Assign_Alloc-ID marks an Alloc-ID as assigned to the port. -/
  | assignAllocId (port alloc : Nat) (assign : Bool) (mic : Option Bool) (msg : List Byte)
  /-- SLEEP_ALLOW (R114). Sleep_Allow lets the port enter watchful sleep when its conditions hold. -/
  | sleepAllow (port : Nat) (allow : Bool) (interval next : Nat) (mic : Option Bool) (msg : List Byte)
  /-- CHANGE_POWER_LEVEL (R451). Yunager handles a Change_Power_Level PLOAM in hardware mode. -/
  | changePowerLevel (port : Nat) (mic : Option Bool) (msg : List Byte)
  /-- TO1_EXPIRY (R104). TO1 expires in O4 and the port returns to O1.1, discarding ONU-ID and profiles. -/
  | to1Expiry (port : Nat)
  /-- TO2_EXPIRY (R104). TO2 expires in O6 and the port returns to O1.1 as for Deactivate_ONU-ID. -/
  | to2Expiry (port : Nat)
  /-- ACT_CMD_O11 (R110). Host-assisted ACT_CMD 1 moves the port to O1.1. -/
  | actCmdO11 (port : Nat)
  /-- ACT_CMD_O23 (R110). Host-assisted ACT_CMD 2 moves the port to O2-3. -/
  | actCmdO23 (port : Nat)
  /-- ACT_CMD_O4 (R110). Host-assisted ACT_CMD 3 takes the ONU-ID from ACT_DATA and starts TO1. -/
  | actCmdO4 (port : Nat)
  /-- ACT_CMD_O51 (R110). Host-assisted ACT_CMD 4 moves to O5.1 and applies ACT_EQD. -/
  | actCmdO51 (port : Nat)
  /-- ACT_CMD_O6 (R110). Host-assisted ACT_CMD 5 moves the port to O6. -/
  | actCmdO6 (port : Nat)
  /-- ACT_CMD_O7 (R110). Host-assisted ACT_CMD 6 moves the port to O7. -/
  | actCmdO7 (port : Nat)
  /-- ACT_CMD_LEAVE_O7 (R110). Host-assisted ACT_CMD 7 leaves O7. -/
  | actCmdLeaveO7 (port : Nat)
  /-- APPLY_EQD (R110). ACT_CMD.APPLY_EQD in O5.1 applies a new EqD from ACT_EQD without a change of state. -/
  | applyEqd (port : Nat)
  /-- BWMAP_DECODED (R116). The BWmap is decoded, allocations are converted to instants and rooms, and each is reconciled with its prediction. -/
  | bwmapDecoded (port : Nat) (ok : Bool) (grants : List AllocIn) (cyc : Nat)
  /-- EXTENSION_CUTOFF (R124). Two µs before serialisation the build list is fixed and later commits do not enter the burst. -/
  | extensionCutoff (port cyc : Nat)
  /-- BURST_SERIALISE_START (R119). Serialisation of a burst starts with XGEM framing, encryption and FEC. -/
  | burstSerialiseStart (port cyc : Nat)
  /-- BURST_START (R21). A burst starts: its frames are delivered, shapers charged and build-list entries freed. -/
  | burstStart (port cyc : Nat)
  /-- BURST_END (R119). A burst ends and the laser turns off, freeing the sent frames' buffers. -/
  | burstEnd (port cyc : Nat)
  /-- ALLOC_SLOT_READ (R132). TBL_CMD 1 reads an Alloc-ID slot. -/
  | allocSlotRead (port : Nat)
  /-- ALLOC_SLOT_WRITE (R132). TBL_CMD 2 writes an Alloc-ID slot to staging. -/
  | allocSlotWrite (port : Nat)
  /-- ALLOC_SLOT_UNBIND (R132). TBL_CMD 3 unbinds an Alloc-ID slot in staging. -/
  | allocSlotUnbind (port : Nat)
  /-- KEY_COMPLETE (R577). A frame's key is complete and the classifier walks the tree, in both banks during a swap. -/
  | keyComplete (src : Nat)
  /-- FRAME_LAST_BYTE (R157). At a frame's last byte the FCS decides between forming the work item and squashing speculative results. -/
  | frameLastByte (src : Nat) (fcsOk : Bool) (cyc : Nat)
  /-- RULE_LOAD_START (R153). LOAD_CTRL.START begins loading an image into the standby bank, or is refused at once. -/
  | ruleLoadStart (byHost : Bool)
  /-- RULE_LOAD_DONE (R153). The loader finishes its checks and sets the bank VALID or EMPTY with a RESULT. -/
  | ruleLoadDone (host : Option (List Byte))
  /-- BANK_SWAP_REQUEST (R155). Writing BANK_CTRL.SWAP requests a swap, or is refused. -/
  | bankSwapRequest
  /-- BANK_SWAP (R155). At the boundary 2 blocks after the request the standby bank becomes active and the epoch rises. -/
  | bankSwap
  /-- BANK_RETIRED (R156). A RETIRING bank with drain count zero becomes VALID standby after the post-swap block commits. -/
  | bankRetired
  /-- DEFAULT_TABLE_READ (R161). TBL_CMD 1 reads a default-action entry. -/
  | defaultTableRead
  /-- DEFAULT_TABLE_WRITE (R161). TBL_CMD 2 writes a default-action entry to staging. -/
  | defaultTableWrite
  /-- CUL_RELEASE (R168). CUL_CMD release frees one entry's buffer at the next block boundary. -/
  | culRelease (index : Nat)
  /-- CUL_EXPORT (R168). CUL_CMD export sends one entry to a host ring as a Standard frame and removes it. -/
  | culExport (index : Nat) (ring : Nat)
  /-- CUL_RELEASE_ALL (R168). CUL_CMD release all frees every entry. -/
  | culReleaseAll
  /-- CUL_TABLE_READ (R168). TBL_CMD 1 reads a Cul-de-sac entry. -/
  | culTableRead
  /-- AGEING_VISIT (R183). The ageing engine visits a hashed record and proposes its removal when idle past its limit. -/
  | ageingVisit (record : Nat)
  /-- FLOW_READ (R187). Flow TBL_CMD 1 reads a whole record as committed. -/
  | flowRead
  /-- FLOW_WRITE (R187). Flow TBL_CMD 2 writes a direct-area record from the buffer. -/
  | flowWrite
  /-- FLOW_INSERT (R181). Flow TBL_CMD 3 inserts a record by hash with ORIGIN 1. -/
  | flowInsert
  /-- FLOW_UPDATE (R187). Flow TBL_CMD 4 updates a hashed record's override fields and keeps key and counters. -/
  | flowUpdate
  /-- FLOW_DELETE (R187). Flow TBL_CMD 5 frees a record. -/
  | flowDelete
  /-- FLOW_LOOKUP_CMD (R187). Flow TBL_CMD 6 finds a record by profile and key. -/
  | flowLookupCmd
  /-- FLOW_FLUSH (R187). Flow TBL_CMD 7 starts freeing every unpinned hashed record of a profile, or of all. -/
  | flowFlush
  /-- FLOW_FLUSH_DONE (R187). The last free of a FLUSH commits and BUSY clears. -/
  | flowFlushDone
  /-- FLOW_ENABLE (R188). Setting FLW_CTRL.EN with a changed base or seed starts freeing records below the new base. -/
  | flowEnable
  /-- FLOW_TABLE_READY (R188). The frees after a change or a reset finish and READY reads 1. -/
  | flowTableReady
  /-- BUFFER_REQUEST (R202). A requester presents an allocation request to Market Square. -/
  | bufferRequest (requester : Nat) (size : Nat) (carve : Nat) (cls : Nat) (cyc : Nat)
  /-- BUFFER_ANSWER (R202). A request that won its ranking receives a buffer by the carve and borrow rules, or the empty result. -/
  | bufferAnswer (requester : Nat) (cyc : Nat)
  /-- REF_INC (R205). An INC operation adds a reference and sets the class's holder bit, or is refused. -/
  | refInc (requester : Nat) (cls : Nat) (handle : Nat) (cyc : Nat)
  /-- REF_HANDOVER (R205). A HANDOVER operation sets a holder bit without changing COUNT, or is refused. -/
  | refHandover (requester : Nat) (cls : Nat) (handle : Nat) (cyc : Nat)
  /-- REF_DEC (R205). A DEC operation removes a reference and frees the buffer at zero, or is refused. -/
  | refDec (requester : Nat) (cls : Nat) (handle : Nat) (cyc : Nat)
  /-- P4_STAGE (R212). An operation on an unstaged P4 handle takes a staging slot and starts reading the segment. -/
  | p4Stage (requester : Nat) (cls : Nat) (op : Nat) (segment : Nat)
  /-- P4_STAGE_READY (R212). The staged segment is ready in its slot and the waiting operation is answered. -/
  | p4StageReady (segment : Nat) (bad : Option Nat)
  /-- SQR_DISABLE (R213). Clearing SQR.PAGE_CTRL.ENABLE in an allowed mode stops every grant and operation from the next boundary. -/
  | sqrDisable
  /-- SQR_ENABLE (R213). Setting ENABLE starts building every free list empty, or refuses an oversized configuration. -/
  | sqrEnable
  /-- POOLS_READY (R213). The pool build completes and READY becomes 1 at a block boundary. -/
  | poolsReady
  /-- SQR_TABLE_READ (R217). SQR TBL_CMD 1 reads a buffer's metadata. -/
  | sqrTableRead
  /-- SQR_TABLE_ALLOC (R217). SQR TBL_CMD 2 allocates a buffer as requester 8 with class HOST_SW. -/
  | sqrTableAlloc
  /-- SQR_TABLE_INC (R217). SQR TBL_CMD 3 presents INC on a buffer. -/
  | sqrTableInc
  /-- SQR_TABLE_DEC (R217). SQR TBL_CMD 4 presents DEC on a buffer. -/
  | sqrTableDec
  /-- SQR_INVALID_CMD (R217). SQR TBL_CMD 5 to 7 settles at once with RESULT 5. -/
  | sqrInvalidCmd
  /-- LOG_CLEAR (R217). Writing LOG_CLEAR empties the refusal log at the next block boundary. -/
  | logClear
  /-- GATE_CONFIG_CHANGE (R231). CONFIG_CHANGE requests that the admin gate list come into force, or is refused. -/
  | gateConfigChange (port : Nat)
  /-- GATE_LIST_START (R231). At its start instant the admin list becomes the oper list. -/
  | gateListStart (port : Nat) (cyc : Nat)
  /-- GATE_ENTRY_CHANGE (R227). An oper-list entry's interval ends and the next entry's gates take effect. -/
  | gateEntryChange (port : Nat) (cyc : Nat)
  /-- GATE_READ_ADMIN (R227). Gate TBL_CMD 1 reads an admin-list entry. -/
  | gateReadAdmin
  /-- GATE_WRITE_ADMIN (R230). Gate TBL_CMD 2 writes an admin-list entry, refused while a change is pending. -/
  | gateWriteAdmin
  /-- GATE_READ_OPER (R227). Gate TBL_CMD 3 reads an oper-list entry. -/
  | gateReadOper
  /-- NODE_READ (R256). Node TBL_CMD 1 reads a node record. -/
  | nodeRead
  /-- NODE_WRITE (R256). Node TBL_CMD 2 writes a node record to staging. -/
  | nodeWrite
  /-- NODE_READ_CLEAR_REFUSED (R242). Node TBL_CMD 3 reads a record and clears its REFUSED field. -/
  | nodeReadClearRefused
  /-- BOL_READ (R257). Bollard TBL_CMD 1 reads a policer or profile. -/
  | bolRead
  /-- BOL_WRITE (R257). Bollard TBL_CMD 2 writes a policer or profile to staging, refusing a zero burst. -/
  | bolWrite
  /-- BOL_READ_CLEAR (R257). Bollard TBL_CMD 3 reads a profile and clears its counters. -/
  | bolReadClear
  /-- POLICER_SWEEP (R249). The background sweep refreshes a policer's buckets. -/
  | policerSweep (index : Nat)
  /-- SCH_DUP_MISMATCH (R39). The scheduler's duplicated decision logic disagrees and the decision is recomputed. -/
  | schDupMismatch (unit : Nat)
  /-- BOL_DUP_MISMATCH (R39). Bollard's duplicated confirmation logic disagrees and the decision is recomputed. -/
  | bolDupMismatch
  /-- SLICE_CHECK_FAILED (R272). A Carriageway check fails, fixing the faulty block and starting the replay by the survivors. -/
  | sliceCheckFailed (slice : Nat) (check : Nat) (unit : Nat) (record : Option Nat)
  /-- SLICE_RESET_CHECK (R272). The faulty slice's reset check completes and it owns its regions again, or is fenced. -/
  | sliceResetCheck (slice : Nat) (passed : Bool) (cyc : Nat)
  /-- ENTER_GUARDED (R276). After the replay commits, the terminal enters GUARDED at the block boundary after a fence. -/
  | enterGuarded
  /-- SLICE_TEST_DONE (R277). Town Hall's test of a fenced slice ends with a pass or TEST_FAILED. -/
  | sliceTestDone (slice : Nat) (passed : Bool)
  /-- SLICE_AUTO_RETURN (R278). In hardware mode a tested slice is returned once RTS_HOLD has passed within RTS_MAX. -/
  | sliceAutoReturn (slice : Nat)
  /-- RTS_TEST (R277). RTS_CMD TEST runs the test of a fenced slice again. -/
  | rtsTest (slice : Nat)
  /-- RTS_RETURN (R279). RTS_CMD RETURN requests a slice's return, or is refused. -/
  | rtsReturn (slice : Nat)
  /-- RTS_FENCE (R279). RTS_CMD FENCE requests a manual fence in SERVICE, or is refused. -/
  | rtsFence (slice : Nat)
  /-- SLICE_RETURNED (R279). At boundary b the home map applies and the mode becomes SERVICE. -/
  | sliceReturned
  /-- MANUAL_FENCE_EFFECT (R279). At boundary b the fallback map applies, and GUARDED follows at b + 1. -/
  | manualFenceEffect
  /-- FAULT_INJ_ARM (R270). FAULT_INJ.ARM makes the chosen check fail on the slice's next item. -/
  | faultInjArm (value : Nat)
  /-- LANE_LOST (R294). A lane meets a loss criterion and is declared lost, sending a fallback request or taking the link down. -/
  | laneLost (port : Nat) (lane : Nat) (cause : Nat) (viol : Nat) (disp : Nat) (col : Nat)
  /-- FALLBACK_REQUEST_RX (R296). A received fallback request switches the transmitter to two lanes and resends from column R. -/
  | fallbackRequestRx (port : Nat) (rxOk : Nat) (r : Nat) (sfd : Bool) (cyc : Nat)
  /-- RESUME_MARKER_RX (R297). A resume marker makes the receiver overwrite discarded bytes with the resent ones. -/
  | resumeMarkerRx (port : Nat) (off : Nat) (bytes : List Byte) (sfd : Bool) (cyc : Nat)
  /-- SCHEDULED_MARKER (R292). A scheduled marker falls due every 8 192 columns and is sent in the next gap. -/
  | scheduledMarker (port : Nat) (partnerOk : Nat)
  /-- LANE_RESTORE (R299). A lost lane clean for RESTORE_TICKS is set again in RX_OK. -/
  | laneRestore (port : Nat) (lane : Nat)
  /-- KREF_CTRL_WRITE (R301). A write to KREF_CTRL changes spread or enable, or is refused while a Kerb port is enabled. -/
  | krefCtrlWrite (value : Nat)
  /-- PRBS_INJ_SINGLE (R303). INJ_SINGLE inverts the next generated bit. -/
  | prbsInjSingle (port : Nat) (lane : Nat)
  /-- PRBS_INJ_BURST (R303). INJ_BURST inverts the next BURST_LEN bits. -/
  | prbsInjBurst (port : Nat) (lane : Nat)
  /-- PRBS_LOCK (R302). The checker locks after 32 clean bits, or loses lock at 64 errors in 1 024. -/
  | prbsLock (port : Nat) (lane : Nat) (lock : Bool) (errs : Nat)
  /-- LANE_CTRL_WRITE (R304). A write to LANE_CTRL sets test and loopback fields, ignoring changes while EN is set. -/
  | laneCtrlWrite (port : Nat) (lane : Nat) (value : Nat)
  /-- LPI_ENTRY (R305). After LPI_ENTRY ns without a frame the transmitter enters electrical idle. -/
  | lpiEntry (port : Nat)
  /-- KERB_FRAME_RECEIVED (R307). A Kerb MAC filters and steers a frame on its first 30 bytes, takes a buffer and queues it. -/
  | kerbFrameReceived (port : Nat) (bytes : List Byte) (cyc : Nat)
  /-- PAUSE_RECEIVED (R314). A pause frame holds, restarts or releases transmit queues as Table 10.6 states. -/
  | pauseReceived (port : Nat) (opcode : Nat) (enable : Nat) (times : List Nat) (cyc : Nat)
  /-- PAUSE_EXPIRY (R314). A pause hold's quanta run out and the queue resumes. -/
  | pauseExpiry (port : Nat) (queue : Nat)
  /-- LINK_UP (R316). The link conditions held for UP_HOLD ticks bring the link up and C returns at the next boundary. -/
  | linkUp (port : Nat) (tx : Nat) (rx : Nat) (ids : Nat) (skews : Nat)
  /-- PORT_CTRL_WRITE (R289). A write to PORT_CTRL enables or disables the port and sets its mode fields, ignoring a MODE change while enabled. -/
  | portCtrlWrite (port : Nat) (value : Nat)
  /-- KRB_TABLE_READ (R308). KRB TBL_CMD 1 reads a steering filter or hash word. -/
  | krbTableRead (port : Nat)
  /-- KRB_TABLE_WRITE (R308). KRB TBL_CMD 2 writes a steering filter or hash word to staging. -/
  | krbTableWrite (port : Nat)
  /-- TIME_MEASUREMENT (R330). A measurement of θ completes and is sent to the servo, and lock or unlock is judged. -/
  | timeMeasurement (cyc : Nat)
  /-- CAPTURE_EDGE (R351). An accepted edge on PPS_IN or CAP1 is stamped and queued, and a PPS pulse yields a measurement. -/
  | captureEdge (input : Nat) (falling : Bool) (len : Nat) (cyc : Nat)
  /-- INPUT_STUCK (R351). An input held active for STUCK_TICKS is flagged and ignored, or released after 8 inactive ticks. -/
  | inputStuck (input : Nat) (released : Bool) (ticks : Nat)
  /-- PPS_LOST (R351). PPS_IN gives no accepted pulse for 16 000 ticks. -/
  | ppsLost
  /-- PPS_ARM (R332). Setting PPS_NEXT_SEC.ARM names the second of the next PPS pulse. -/
  | ppsArm
  /-- STEP_APPLY (R334). At a tick boundary one accepted step moves the time of day. -/
  | stepApply
  /-- STEP_SET (R334). STEP_CMD SET requests a step to SET_SEC/SET_NS in software mode. -/
  | stepSet (cyc : Nat)
  /-- STEP_ADJUST (R334). STEP_CMD ADJUST requests a step by ADJ_NS in software mode. -/
  | stepAdjust (cyc : Nat)
  /-- STEP_ACCEPT (R335). STEP_CMD ACCEPT schedules the pending step whatever its size. -/
  | stepAccept (cyc : Nat)
  /-- STEP_DISCARD (R335). STEP_CMD DISCARD clears the pending step. -/
  | stepDiscard
  /-- CLEAR_UNCERTAIN (R341). STEP_CMD CLEAR_UNCERTAIN ends UNCERTAIN in software mode. -/
  | clearUncertain
  /-- AUTO_ACCEPT (R335). A pending step stable for ACCEPT_HOLD ticks is accepted automatically. -/
  | autoAccept
  /-- TOD_LOAD (R328). TOD_CMD.LOAD installs a port's ToD reference from the next tick, or is refused. -/
  | todLoad (byHost : Bool)
  /-- TXTS_POP (R346). Writing TXTS_POP removes the head time-stamp entry. -/
  | txtsPop (port : Nat) (byHost : Bool)
  /-- CAP_POP (R351). Writing CAP_POP removes the head capture entry. -/
  | capPop (input : Nat)
  /-- LAMP_ARM (R349). ARM takes a Lamplighter output's settings at the next block boundary, moving or refusing an early start. -/
  | lampArm (output : Nat)
  /-- LAMP_PULSE (R349). A Lamplighter pulse edge falls due and is given, or suppressed. -/
  | lampPulse (output : Nat) (cyc : Nat)
  /-- HWY_RX_FRAME (R360). A highway frame is written into each tributary's slip buffer and framing and defects are judged. -/
  | hwyRxFrame (hwy : Nat) (data : List Byte) (syncOk : Bool) (cyc : Nat)
  /-- HWY_TX_FRAME (R361). A highway frame reads one frame from the jitter buffer with slip rules and regenerated framing. -/
  | hwyTxFrame (hwy : Nat) (cyc : Nat)
  /-- HWY_CLOCK_LOST (R356). A highway clock stopped for 4 ticks clears CLK_OK and puts its tributaries in LOS. -/
  | hwyClockLost (hwy : Nat)
  /-- CRC4_INTERWORK (R358). 400 ms of multiframe restarts keeps basic alignment and stops CRC-4 monitoring. -/
  | crc4Interwork (index : Nat)
  /-- TRIB_PACKETISE (R364). At the tick completing F frames the packetiser takes a buffer and forms an Express work item. -/
  | tribPacketise (index : Nat)
  /-- PERF_SECOND (R362). At each 8 000-tick second the G.826 counts are taken and revised. -/
  | perfSecond
  /-- BIN_CLOSED (R362). At each 15-minute boundary the closing bin is copied to Arcade. -/
  | binClosed
  /-- FRAMER_FAULT (R369). A framer unit fault holds its highway's 16 tributaries in LOS. -/
  | framerFault (hwy : Nat) (cleared : Bool)
  /-- TRIB_READ (R371). Tributary TBL_CMD 1 reads a record. -/
  | tribRead
  /-- TRIB_WRITE (R371). Tributary TBL_CMD 2 writes a record to staging, refusing one that breaks its rules. -/
  | tribWrite
  /-- TRIB_READ_CLEAR (R371). Tributary TBL_CMD 3 reads a record and clears its counters. -/
  | tribReadClear
  /-- PERF_BIN_READ (R362). Bin TBL_CMD 1 reads a performance bin. -/
  | perfBinRead
  /-- MEWS_DISPATCH (R391). At each tick boundary a core starts the tasks of its RUNNING roles in order. -/
  | mewsDispatch (core : Nat)
  /-- BUNDLE_ISSUE (R381). A Mews core issues one bundle of up to four slot operations. -/
  | bundleIssue (core : Nat)
  /-- XFER_COMPLETE (R376). An XFER completes, or sets XERR while its channel is out of service. -/
  | xferComplete (core : Nat)
  /-- CKPT_COMPLETE (R402). A checkpoint copy completes and becomes valid when its task passes its checks. -/
  | ckptComplete (core : Nat)
  /-- TASK_WAIT (R393). A task ends at WAIT and its held port writes are released after every check passes. -/
  | taskWait (core : Nat)
  /-- TASK_OVERRUN (R392). The watchdog stops a task that has not reached WAIT within BUDGET cycles. -/
  | taskOverrun (core : Nat)
  /-- TASK_TRAP (R403). A trap stops the task, discards its port writes and restarts or stops the role. -/
  | taskTrap (core : Nat)
  /-- MESSAGE_DELIVERY (R395). The router delivers a message or returns it STALE, NO_ROLE or FULL. -/
  | messageDelivery (cyc : Nat)
  /-- BALLOC_RETRY (R398). A BALLOC stalled on the empty result asks again each block. -/
  | ballocRetry (core : Nat)
  /-- MEWS_CORE_FAULT (R400). A core check fails: the core stops, becomes FAULTED and discards the task's outputs. -/
  | mewsCoreFault (core : Nat) (unit : Nat) (array : Nat) (word : Nat)
  /-- ROLE_RESTART (R400). At the next tick boundary a role restarts from its checkpoint with a new epoch. -/
  | roleRestart (role : Nat)
  /-- ROUTER_FAULT (R399). A fault is detected in the Mews mailbox router. -/
  | routerFault (unit : Nat)
  /-- CORE_TEST_DONE (R404). A FAULTED core's test ends: it becomes IDLE or OFF. -/
  | coreTestDone (core : Nat) (pass : Bool)
  /-- CORE_CMD_TEST (R404). CORE_CMD TEST tests a core, refused while it holds a role. -/
  | coreCmdTest (core : Nat)
  /-- CORE_CMD_OFF (R407). CORE_CMD OFF switches a core off, refused while it holds a role. -/
  | coreCmdOff (core : Nat)
  /-- ROLE_READ (R408). Role TBL_CMD 1 reads a role record. -/
  | roleRead
  /-- ROLE_WRITE (R390). Role TBL_CMD 2 writes a role record to staging, refused for a Yunager role from the host. -/
  | roleWrite (byHost : Bool)
  /-- ROLE_START (R403). Role TBL_CMD 3 returns a HELD or STOPPED role to RUNNING. -/
  | roleStart (byHost : Bool)
  /-- ROLE_STOP (R408). Role TBL_CMD 4 stops a role. -/
  | roleStop (byHost : Bool)
  /-- ROLE_READ_CLEAR (R408). Role TBL_CMD 5 reads a role record and clears its counters. -/
  | roleReadClear
  /-- ROLE_CHANGED (R390). A committed role assignment takes effect at the first tick boundary with a new epoch. -/
  | roleChanged (role : Nat)
  /-- MEWS_LOAD_START (R406). LOAD_CTRL.START begins loading and checking a Mews image for a role. -/
  | mewsLoadStart (byHost : Bool)
  /-- MEWS_LOAD_DONE (R406). A Mews image load finishes with its RESULT. -/
  | mewsLoadDone (host : Option (List Byte)) (pub : List Byte)
  /-- MEW_CTRL_WRITE (R391). A write to MEW_CTRL starts or stops dispatch and customer roles. -/
  | mewCtrlWrite (value : Nat)
  /-- SEGMENT_TAKE (R423). The controller takes a staged segment into its write queue, checks SEG_CRC and writes it. -/
  | segmentTake (cyc : Nat)
  /-- SEGMENT_WRITE_DONE (R423). A NAND segment write ends and a completion item adds to VALID_SEGS. -/
  | segmentWriteDone (wear : List Nat)
  /-- FILL_TIMEOUT (R420). An open segment with no chunk for FILL_TIMEOUT ticks is abandoned. -/
  | fillTimeout (entry : Nat)
  /-- DIR_FLUSH (R416). Changed directory entries are written to both home copies. -/
  | dirFlush
  /-- DIR_READ (R443). Directory TBL_CMD 1 reads an entry. -/
  | dirRead
  /-- DIR_LOOKUP (R443). Directory TBL_CMD 2 finds an object's entry by ID. -/
  | dirLookup
  /-- DIR_CREATE (R413). Directory TBL_CMD 3 creates an object, allocating up to three extents. -/
  | dirCreate
  /-- DIR_DELETE (R440). Directory TBL_CMD 4 deletes an object, trimming its segments. -/
  | dirDelete
  /-- DIR_REPAIR (R427). Directory TBL_CMD 5 writes one segment from host memory. -/
  | dirRepair (bytes : List Byte)
  /-- DIR_SET_STATE (R417). Directory TBL_CMD 6 moves an object between FILLING and REPAIRING. -/
  | dirSetState
  /-- DIR_SCAN (R426). Directory TBL_CMD 7 checks which segments of an object are mapped. -/
  | dirScan
  /-- DIR_SYS_READ (R441). Directory TBL_CMD 8 reads 4 KiB of the system area to host memory. -/
  | dirSysRead
  /-- RING_TABLE_READ (R444). Ring TBL_CMD 1 reads a ring or reader record. -/
  | ringTableRead
  /-- RING_TABLE_WRITE (R429). Ring TBL_CMD 2 writes a ring length or reader record. -/
  | ringTableWrite
  /-- RING_TABLE_READ_CLEAR (R444). Ring TBL_CMD 3 reads a record and clears OVERRUN. -/
  | ringTableReadClear
  /-- PACKAGE_LOST (R437). A NAND package silent for 8 ticks is lost and the store stops. -/
  | packageLost (package : Nat)
  /-- GAP_REPAIR_TIMEOUT (R425). A gap still open REPAIR_TICKS after recording is passed on to host software. -/
  | gapRepairTimeout (index : Nat)
  /-- YUNAGER_STEP_END (R447). At the tick boundary after a step ends, its redo log applies and its outputs are released. -/
  | yunagerStepEnd (outputs : List YOut)
  /-- YUNAGER_STEP_TIMEOUT (R447). A step not ended 8 ticks after its start is a fault of the active pair. -/
  | yunagerStepTimeout
  /-- PAIR_MISCOMPARE (R448). The active pair miscompares and stops, discarding the step. -/
  | pairMiscompare
  /-- TAKEOVER (R448). At the next tick boundary the standby pair becomes ACTIVE and reruns the step. -/
  | takeover
  /-- PAIR_TEST_DONE (R449). A failed pair's test ends: it becomes STANDBY or FAILED. -/
  | pairTestDone (pair : Nat) (passed : Bool)
  /-- PAIR_CMD_TEST (R449). PAIR_CMD TEST tests a pair. -/
  | pairCmdTest (pair : Nat)
  /-- PAIR_CMD_OFF (R468). PAIR_CMD OFF switches a pair off. -/
  | pairCmdOff (pair : Nat)
  /-- PAIR_CMD_SWAP (R468). PAIR_CMD SWAP exchanges the active pair at the next tick boundary. -/
  | pairCmdSwap (pair : Nat)
  /-- YUNAGER_RESTART (R450). A fault with no standby pair restarts Yunager through the boot chain. -/
  | yunagerRestart
  /-- FUNC_MODE_EFFECT (R452). A committed FUNC_MODE change takes effect at the tick boundary 2 blocks later, discarding the leaving party's work. -/
  | funcModeEffect
  /-- RING_TAIL_WRITE (R458). A TAIL write hands descriptors to the terminal, or is refused beyond the length. -/
  | ringTailWrite (ring : Nat) (value : Nat)
  /-- RING_START (R459). RING_CTRL.START zeroes HEAD and TAIL and makes the ring RUNNING, or is refused. -/
  | ringStart (ring : Nat)
  /-- RING_STOP (R461). RING_CTRL.STOP makes the ring STOPPING at the boundary 2 blocks later. -/
  | ringStop (ring : Nat)
  /-- RING_STOPPED (R461). The last accepted frame or fetched descriptor is returned and the ring becomes STOPPED. -/
  | ringStopped (ring : Nat)
  /-- TX_DESCRIPTOR_FETCH (R465). The engine fetches a transmit descriptor and handles it as FRAME, SERVE, PLOAM or OMCI. -/
  | txDescriptorFetch (ring : Nat) (desc : List Nat) (bytes : List Byte) (cyc : Nat)
  /-- HOST_LINK_DOWN (R466). The host link goes down: rings stop and host-bound frames are contained. -/
  | hostLinkDown
  /-- HOST_LINK_UP (R454). The host link trains and BAR0 answers. -/
  | hostLinkUp (width : Nat) (speed : Nat)
  /-- FUNCTION_LEVEL_RESET (R467). A function-level reset acts as a link loss and resets the host pages. -/
  | functionLevelReset
  /-- D3HOT_ENTRY (R467). Entry into D3hot with a ring RUNNING acts as a link loss. -/
  | d3hotEntry
  /-- ROM_BOOT (R474). The ROM orders the image slots, verifies candidates and boots the first that passes. -/
  | romBoot (resumeOk : Bool)
  /-- HBOOT_GO (R476). HBOOT_GO makes the ROM read and check a recovery image from the host. -/
  | hbootGo (bytes : Option (List Byte))
  /-- IMG_WRITE (R474). IMG_CMD WRITE checks and writes a Yunager image into a slot. -/
  | imgWrite (bytes : Option (List Byte))
  /-- IMG_SET_PREF (R475). IMG_CMD SET_PREF sets the preferred slot, optionally under trial. -/
  | imgSetPref
  /-- IMG_CONFIRM (R475). IMG_CMD CONFIRM clears TRIAL and ATTEMPTS. -/
  | imgConfirm
  /-- FUSE_ENROLL (R483). FUSE_CMD ENROLL blows an owner slot's hash and ENROLLED bit. -/
  | fuseEnroll (slot : Nat)
  /-- FUSE_REVOKE (R483). FUSE_CMD REVOKE revokes an owner slot at the next tick boundary. -/
  | fuseRevoke (slot : Nat)
  /-- FUSE_LOCK (R484). FUSE_CMD LOCK blows OWNER_LOCK, closing every debug scope. -/
  | fuseLock
  /-- RB_RAISE (R478). RB_CMD raises an anti-rollback counter, or is refused. -/
  | rbRaise (counter : Nat) (value : Nat)
  /-- MEAS_EXT_GO (R479). MEAS_EXT_GO extends MEAS7 with the host's value. -/
  | measExtGo
  /-- QUOTE_REQUEST (R481). QUOTE_CMD requests a quote, or is refused while one is in progress. -/
  | quoteRequest
  /-- QUOTE_SNAPSHOT (R481). At the boundary 2 blocks after the request the quote's snapshot is taken. -/
  | quoteSnapshot
  /-- QUOTE_WRITTEN (R482). The signed quote is written to host memory and QUOTE_STATUS set. -/
  | quoteWritten
  /-- DBG_REQUEST (R485). DBG_CMD REQUEST draws a new challenge. -/
  | dbgRequest
  /-- DBG_SUBMIT (R485). DBG_CMD SUBMIT checks a signed response and grants or refuses scopes. -/
  | dbgSubmit
  /-- DBG_RELOCK (R485). DBG_CMD RELOCK ends a debug grant. -/
  | dbgRelock
  /-- DEBUG_GRANT (R485). The granted scopes open at the next block boundary and MEAS2 is extended. -/
  | debugGrant
  /-- DEBUG_EXPIRY (R485). A grant's DURATION runs out and its scopes close. -/
  | debugExpiry
  /-- DBG_CHALLENGE_EXPIRY (R485). A challenge expires 80 000 ticks after it was drawn. -/
  | dbgChallengeExpiry
  /-- RNG_TEST_FAIL (R487). An entropy test fails and every draw is refused. -/
  | rngTestFail
  /-- RNG_RECOVER (R487). After 1 024 passing tests the generator answers draws again. -/
  | rngRecover
  /-- KEY_DBE (R486). A double-bit error in a key-store word invalidates that key. -/
  | keyDbe (port : Nat) (key : Nat)
  /-- PWR_REQ_MODE (R498). PWR_REQ MODE requests a mode change, started, latched pending or refused. -/
  | pwrReqMode (target : Nat) (byHost : Bool)
  /-- PWR_REQ_DORMANT (R502). PWR_REQ DORMANT requests entry into a low power state. -/
  | pwrReqDormant (low : Nat) (byHost : Bool)
  /-- PWR_REQ_RESTART (R501). PWR_REQ RESTART drains and acts as WARM_N. -/
  | pwrReqRestart (byHost : Bool)
  /-- PWR_REQ_RESTART_RECOVERY (R501). PWR_REQ RESTART_RECOVERY restarts as if BOOT_SEL were asserted. -/
  | pwrReqRestartRecovery (byHost : Bool)
  /-- PWR_REQ_CANCEL (R498). PWR_REQ CANCEL discards the pending request. -/
  | pwrReqCancel (byHost : Bool)
  /-- DRAIN_COMPLETE (R44). The last accepted frame is delivered or its deadline passes, the transition completes and the pending request is examined. -/
  | drainComplete
  /-- SELFTEST_DONE (R495). SELFTEST ends: all pass to COMMISSION, or a failure to RECOVERY. -/
  | selftestDone (passed : Bool) (loc : Nat)
  /-- LEAN_ENTRY (R499). At boundary b LEAN takes effect: fallback map, C of 20 Gb/s, suspensions, serving paused, lanes narrowed. -/
  | leanEntry
  /-- LEAN_SLICE_OFF (R499). The leaving slice's last block commits and its domain is switched off. -/
  | leanSliceOff
  /-- LEAN_EXIT (R500). Once the slice and lanes are ready the home map applies and the mode returns. -/
  | leanExit (passed : Bool)
  /-- DORMANT_ENTRY_COMPLETE (R502). Entry into the requested low power state completes after its steps. -/
  | dormantEntryComplete (count : Nat) (phase : Nat) (refPpb : Int)
  /-- WAKE_PIN (R512). A filtered WAKE rising edge wakes the terminal, subject to the 100 ms limit. -/
  | wakePin (ms : Nat)
  /-- SLEEP_TIMER_WAKE (R504). SLEEP_TIMER seconds after the tick stopped the terminal wakes. -/
  | sleepTimerWake (count : Nat)
  /-- ALARM_CHANGE (R513). A debounced alarm input change updates ALM_STATE and may wake the terminal. -/
  | alarmChange (input : Nat) (level : Bool) (ms : Nat)
  /-- ALARM_RELEASE (R513). A frozen input steady for CHAT_WINDOW ticks is released. -/
  | alarmRelease (input : Nat) (level : Bool) (ticks : Nat)
  /-- WAKE_COMPLETE (R339). At W the tick number and local time are restored from the sleep counter and the clock becomes UNCERTAIN. -/
  | wakeComplete (count : Nat) (phase : Nat) (refPpb : Int)
  /-- PMBUS_POLL (R506). The PMBus master reads the feed converter, counting failures and waking on budget recovery. -/
  | pmbusPoll (budget : Option Nat)
  /-- FEED_WARN (R509). A change of filtered FEED_WARN_N raises FEED_WARN. -/
  | feedWarn (asserted : Bool)
  /-- FEED_FAIL (R510). FEED_FAIL_N is recognised: admission stops, dying gasp and Arcade flush begin, and requests are refused. -/
  | feedFail
  /-- HOLDUP_END (R510). At HOLDUP_US or 12 V below 8.5 V the core domains go off and abandoned frames are counted. -/
  | holdupEnd (low : Bool) (count : Nat) (phase : Nat) (refPpb : Int)
  /-- FEED_RETURN (R511). FEED_FAIL_N deasserted for 100 ms with VIN in range wakes the terminal. -/
  | feedReturn
  /-- WAKE_STUCK (R512). WAKE held active for over 10 s in RUN sets STUCK. -/
  | wakeStuck
  /-- DOMAIN_READY (R493). A switched-on domain is ready 50 µs after its boundary. -/
  | domainReady (domain : Nat)
  /-- PAGE_COMMIT_REQUEST (R521). PAGE_COMMIT.REQUEST asks for a commit at the next block boundary. -/
  | pageCommitRequest (page : Nat)
  /-- PAGE_COMMIT (R521). At the boundary the page's checks run and its staging copies apply or are refused. -/
  | pageCommit (page : Nat)
  /-- COMMIT_ALL (R522). GEN.COMMIT_ALL commits every staged page at one boundary. -/
  | commitAll
  /-- SOFT_RESET (R519). SOFT_RESET returns an instance's pages to reset values at the next boundary. -/
  | softReset (page : Nat)
  /-- PAGE_CTRL_WRITE (R519). A write to PAGE_CTRL sets ENABLE or VIEW_STAGED, or is ignored. -/
  | pageCtrlWrite (page : Nat) (value : Nat)
  /-- PAGE_LOCK (R528). A write to PAGE_LOCK locks or unlocks a page against host writes. -/
  | pageLock (page : Nat) (value : Nat)
  /-- PAGE_EVENT_SET (R532). PAGE_EVENT_SET raises a test event in the next block. -/
  | pageEventSet (page : Nat) (value : Nat)
  /-- EVENT_CLEAR (R530). Writing 1 to an event or W1C bit clears it unless hardware sets it in the same cycle. -/
  | eventClear (page : Nat) (off : Nat) (value : Nat) (same : Nat)
  /-- COUNTER_READ_CLEAR (R9). A read of an RC counter returns and clears it, keeping a simultaneous event. -/
  | counterReadClear (page : Nat) (off : Nat) (lo : Nat) (n : Nat)
  /-- LATCHING_READ (R325). A read of a latching word latches its companion words. -/
  | latchingRead (page : Nat) (off : Nat) (cyc : Nat)
  /-- REGISTER_WRITE (R9). A host write to a register without behaviour of its own acts by its access code. -/
  | registerWrite (page : Nat) (off : Nat) (value : Nat) (be : Nat)
  /-- EVT_START (R534). EVT_CTRL.START starts the event ring. -/
  | evtStart
  /-- EVT_STOP (R534). EVT_CTRL.STOP stops the event ring. -/
  | evtStop
  /-- EVT_TAIL_WRITE (R534). An EVT_TAIL write frees event-ring records. -/
  | evtTailWrite (value : Nat)
  /-- DEFERRED_EVENT (R533). An event raised while no blocks run is held in PD0 for the first block that runs. -/
  | deferredEvent (page : Nat) (evBit : Nat) (detail : List Nat)
  /-- FLOG_READ (R538). Fault-log TBL_CMD 1 loads a record by SEQ. -/
  | flogRead
  /-- MON_READ_SET (R542). Monitor TBL_CMD 1 copies a set into page 0x201. -/
  | monReadSet
  /-- MON_WRITE_CONFIG (R541). Monitor TBL_CMD 2 stages a channel configuration. -/
  | monWriteConfig
  /-- MON_READ_CONFIG (R541). Monitor TBL_CMD 3 reads a channel configuration. -/
  | monReadConfig
  /-- PORST_ASSERT (R561). PORST_N low holds every domain in reset. -/
  | porstAssert
  /-- PORST_DEASSERT (R561). PORST_N deasserts, BOOT_SEL is sampled and the ROM starts. -/
  | porstDeassert (bootSel : Bool)
  /-- WARM_RESET (R562). A WARM_N pulse resets every domain but PD0 at once without a drain. -/
  | warmReset (bootSel : Bool)
  /-- STANDBY_POWER_UP (R564). 3V3_SB enters range and PD0 leaves its internal reset. -/
  | standbyPowerUp
  /-- VIN_SWITCH_CLOSE (R565). VIN above 8.8 V for 10 ms closes the hot-swap switch and the rails start. -/
  | vinSwitchClose
  /-- VIN_SWITCH_OPEN (R565). VIN below 8.5 V opens the hot-swap switch. -/
  | vinSwitchOpen
  /-- MODULE_WITHDRAWN (R569). Withdrawal breaks the short contacts and the module resets at once. -/
  | moduleWithdrawn
  /-- OPT_READ (R571). The board reads optics identity or diagnostics over OPT_SCL and OPT_SDA. -/
  | optRead (addr : Nat) (off : Nat)
  /-- EXTEST_LOAD (R572). Loading an EXTEST-family instruction stops work as WARM_N and powers the I/O rings. -/
  | extestLoad
  /-- TAP_RESET (R572). A test-logic reset acts as the deassertion of WARM_N. -/
  | tapReset (bootSel : Bool)
  /-- FUSE_DONE (R471). A running fuse command, or an anti-rollback raise, finishes blowing and reading back its bits and settles FUSE_RESULT or RB_RESULT. -/
  | fuseDone (missing : Nat)
  /-- KREF_UNLOCK (R301). The KREF PLL loses or regains lock, changing KREF_STATUS.LOCKED and raising KREF_UNLOCK. -/
  | krefUnlock (locked : Bool)
  /-- HOST_LINK_ERROR (R39). A PCI Express link error is masked by replay, or is reported as uncorrectable under AER, and is counted in REPLAYS, CORRECTABLE or UNCORRECTABLE. -/
  | hostLinkError (kind : Nat)
  /-- WAKE_INACTIVE (R512). Filtered WAKE returns to inactive, clearing STUCK and raising WAKE_STUCK as released. -/
  | wakeInactive
  /-- WAKE_LIMIT_EXPIRY (R512). The 100 ms wake limit ends while WAKE is still active, and the wake is then accepted. -/
  | wakeLimitExpiry (ms : Nat)
  /-- MSIX_VECTOR_UNMASK (R456). Host software unmasks an MSI-X vector whose pending bit is set, and the terminal sends the withheld message. -/
  | msixVectorUnmask (vector : Nat)
  deriving DecidableEq, Repr

end Sys2Proof
end

