-- ==== Sys2Proof/Machine/Store.lean ====
section
/-! DEFINITION. Reading and writing the sparse maps, and what a register field is. -/

namespace Sys2Proof

/-- The value at a key; `d` where the map lists none. -/
def Map.get {α : Type} (d : α) : Map α → Nat → α
  | [], _ => d
  | (j, v) :: r, k => if j = k then v else Map.get d r k

/-- Insert a pair before the first larger key. -/
def Map.insertKey {α : Type} (k : Nat) (v : α) : Map α → Map α
  | [] => [(k, v)]
  | (j, w) :: r => if k < j then (k, v) :: (j, w) :: r else (j, w) :: Map.insertKey k v r

/-- Remove a key. -/
def Map.erase {α : Type} (m : Map α) (k : Nat) : Map α :=
  m.filter (fun p => decide (p.1 ≠ k))

/-- Write a key. Writing what an unlisted key reads as removes it, so that equal maps are equal data. -/
def Map.put {α : Type} [DecidableEq α] (d : α) (m : Map α) (k : Nat) (v : α) : Map α :=
  if v = d then Map.erase m k else Map.insertKey k v (Map.erase m k)

/-- The canonical form: keys strictly rising, and no value equal to `d`. -/
def Map.wf {α : Type} [DecidableEq α] (d : α) (m : Map α) : Bool :=
  decide (m.Pairwise (fun p q => p.1 < q.1)) && m.all (fun p => decide (p.2 ≠ d))

/-- The keys listed. -/
def Map.keys {α : Type} (m : Map α) : List Nat := m.map (·.1)

namespace Machine

/-- Register access codes (R9, Table 0.4). -/
inductive Acc where
  | ro | rw | rws | w1c | w1s | wo | rc
  deriving DecidableEq, Repr

/-- A register field: byte offset of its word in the page, lowest bit, width, access code, reset value (R8). -/
structure Field where
  off : Nat
  lo : Nat
  width : Nat
  acc : Acc
  rst : Nat
  deriving DecidableEq, Repr

/-- The field's key in the register store: its bit address. -/
def Field.key (pg : Nat) (f : Field) : Nat := (pg * 4096 + f.off) * 8 + f.lo

/-- Two's complement reading of a `w`-bit number. -/
def toSigned (w v : Nat) : Int := if v < 2 ^ (w - 1) then v else (v : Int) - 2 ^ w

/-- The `w`-bit two's complement encoding of an integer. -/
def ofSigned (w : Nat) (v : Int) : Nat := (v % (2 ^ w : Int)).toNat

/-- A signed value limited to `w` bits. -/
def satSigned (w : Nat) (v : Int) : Int := max (-(2 ^ (w - 1) : Int)) (min ((2 ^ (w - 1) : Int) - 1) v)

/-- Bits `lo` to `lo + w - 1` of a number. -/
def bitsOf (v lo w : Nat) : Nat := (v / 2 ^ lo) % 2 ^ w

/-- Whether bit `i` of a number is set. -/
def bit (v i : Nat) : Bool := (v / 2 ^ i) % 2 = 1

/-- A number with bit `i` set or cleared. -/
def setBit (v i : Nat) (b : Bool) : Nat :=
  if bit v i then (if b then v else v - 2 ^ i) else (if b then v + 2 ^ i else v)

/-- A Boolean as a bit. -/
def b2n (b : Bool) : Nat := if b then 1 else 0

/-- The number of a big-endian byte string. -/
def beNat (l : List Byte) : Nat := l.foldl (fun a b => a * 256 + b.toNat) 0

/-- The number of a little-endian byte string. -/
def leNat (l : List Byte) : Nat := l.foldr (fun b a => b.toNat + 256 * a) 0

/-- The `n` low bytes of a number, most significant first. -/
def toBe (n v : Nat) : List Byte := (List.range n).map (fun i => BitVec.ofNat 8 (v / 256 ^ (n - 1 - i)))

/-- The `n` low bytes of a number, least significant first. -/
def toLe (n v : Nat) : List Byte := (List.range n).map (fun i => BitVec.ofNat 8 (v / 256 ^ i))

end Machine
end Sys2Proof
end

