-- ==== Sys2Proof/Machine/Hidden.lean ====
section
/-! DEFINITION. State that the spec's rules speak of and give no register: counts of work in hand, instants at which something
falls due, values held between two commands. Each is a field of a page of its own, 0x3000 + the page whose block keeps it. -/

namespace Sys2Proof.Machine

/-- The page of the held values of page `p`'s block. -/
def held (p : Nat) : Nat := 0x3000 + p

/-! ## Event ring and host rings (R459, R461, R462) -/

/-- Block number + 1 at which the event ring's STOP takes effect (R534). -/
def HGEN.STOP_AT : Field := ⟨0, 0, 64, .ro, 0⟩

/-- Descriptors of ring n reserved by accepted frames (R462). -/
def HHST.RSVD (n : Nat) : Field := ⟨0x20 * n, 0, 32, .ro, 0⟩
/-- Block number + 1 at which ring n's STOP takes effect (R461). -/
def HHST.STOP_AT (n : Nat) : Field := ⟨0x20 * n + 4, 0, 64, .ro, 0⟩
/-- Ring n has returned descriptors since the last commit boundary (R456). -/
def HHST.RETURNED (n : Nat) : Field := ⟨0x20 * n + 12, 0, 1, .ro, 0⟩
/-- Descriptors of transmit ring n fetched and not yet returned (R461). -/
def HHST.FETCHED (n : Nat) : Field := ⟨0x20 * n + 16, 0, 32, .ro, 0⟩
/-- What transmit ring n's next descriptor was found waiting for (R432, R433, R435, R465): 0 nothing, 1 a FRAME, 2 a SERVE, 3 + g a SERVE of
store segment g. -/
def HHST.TX_WAIT (n : Nat) : Field := ⟨0x20 * n + 20, 0, 64, .ro, 0⟩
/-- The staging read that transmit ring n's SERVE waited for could not be corrected (R434, R436). -/
def HHST.TX_DAMAGED (n : Nat) : Field := ⟨0x20 * n + 28, 0, 1, .ro, 0⟩
/-- Descriptors fetched in this tick (R465). -/
def HHST.TX_TICK : Field := ⟨0x904, 0, 32, .ro, 0⟩

/-! ## Market Square (R193, R198, R201, R213, R215) -/

/-- First on-die buffer of pool p that has never been handed out since the pools were built. -/
def HSQR.NEXT_ONDIE (p : Nat) : Field := ⟨0x20 * p, 0, 32, .ro, 0⟩
/-- First spill buffer of pool p, counted from `ONDIE_p`, never handed out since the pools were built. -/
def HSQR.NEXT_SPILL (p : Nat) : Field := ⟨0x20 * p + 4, 0, 32, .ro, 0⟩
/-- POOL_LOW has been raised for pool p and its count has not risen above the level since (R215). -/
def HSQR.LOW (p : Nat) : Field := ⟨0x20 * p + 8, 0, 1, .ro, 0⟩
/-- On-die buffers of pool p in use. -/
def HSQR.ONDIE_USED (p : Nat) : Field := ⟨0x20 * p + 12, 0, 32, .ro, 0⟩
/-- A write of 0 to ENABLE waits for the block boundary (R213). -/
def HSQR.CLEAR_REQ : Field := ⟨0x100, 0, 1, .ro, 0⟩
/-- LOG_CLEAR waits for the block boundary (R217). -/
def HSQR.LOG_CLEAR_REQ : Field := ⟨0x104, 0, 1, .ro, 0⟩
/-- The pools are being built (R213). The pools are built at reset, since ENABLE resets to 1. -/
def HSQR.BUILDING : Field := ⟨0x108, 0, 1, .ro, 1⟩
/-- The core cycle last ranked and how many grants it gave (R201). -/
def HSQR.WIN_CYCLE : Field := ⟨0x10C, 0, 64, .ro, 0⟩
def HSQR.WIN_COUNT : Field := ⟨0x114, 0, 4, .ro, 0⟩
/-- First staging slot that has never been used since the pools were built. -/
def HSQR.NEXT_SLOT : Field := ⟨0x188, 0, 32, .ro, 0⟩
/-- The core cycle of the last reference operation, the place of its requester in that cycle's ranking, and how many the cycle has had
(R205). -/
def HSQR.REF_CYCLE : Field := ⟨0x18C, 0, 64, .ro, 0⟩
def HSQR.REF_RANK : Field := ⟨0x194, 0, 4, .ro, 0⟩
def HSQR.REF_COUNT : Field := ⟨0x194, 4, 4, .ro, 0⟩
/-- The handle last answered to requester r. -/
def HSQR.ANSWER (r : Nat) : Field := ⟨0x120 + 4 * r, 0, 32, .ro, 0xFFFFFFFF⟩
/-- Uses of staging slots so far, for the least recently used order (R212). -/
def HSQR.USES : Field := ⟨0x180, 0, 64, .ro, 0⟩

/-! ## Scheduling (R227, R229, R231, R233, R237, R246) -/

/-- Order number of the next frame admitted. -/
def HSCH.NEXT_ID : Field := ⟨0, 0, 64, .ro, 0⟩
/-- Admission is stopped, by a drain, by FEED_FAIL (R44, R49); and fill admission too (R45). -/
def HSCH.STOP : Field := ⟨8, 0, 1, .ro, 0⟩
def HSCH.STOP_FILL : Field := ⟨8, 1, 1, .ro, 0⟩
/-- The plan's C of every Kerb-X4 port is 20 Gb/s (R499, R500). -/
def HSCH.LEAN_C : Field := ⟨8, 2, 1, .ro, 0⟩
/-- Kerb port p's oper list has started (R227). -/
def HSCH.OPER (p : Nat) : Field := ⟨0x10 + 0x40 * p, 0, 1, .ro, 0⟩
/-- Entry of port p's oper list in effect. -/
def HSCH.ENTRY (p : Nat) : Field := ⟨0x10 + 0x40 * p, 8, 9, .ro, 0⟩
/-- LIST_LEN, CYCLE_TIME of the oper list, and the fraction of ns into the cycle at which its entry in effect began. -/
def HSCH.OPER_LEN (p : Nat) : Field := ⟨0x14 + 0x40 * p, 0, 9, .ro, 0⟩
def HSCH.OPER_CYCLE (p : Nat) : Field := ⟨0x18 + 0x40 * p, 0, 32, .ro, 0⟩
/-- Start instant of the pending list, in ns of the time of day, plus 1; 0 when none is scheduled (R231). -/
def HSCH.START_NS (p : Nat) : Field := ⟨0x20 + 0x40 * p, 0, 96, .ro, 0⟩
/-- Instant of the oper list's present cycle start, in ns of the time of day (R232). -/
def HSCH.CYCLE_START (p : Nat) : Field := ⟨0x30 + 0x40 * p, 0, 96, .ro, 0⟩
/-- Base instant of the oper list. -/
def HSCH.OPER_BASE (p : Nat) : Field := ⟨0x3C + 0x40 * p, 0, 96, .ro, 0⟩
/-- Open time of gate t of port p in a cycle, and its longest closed time Z_t, in ns (R229). -/
def HSCH.OPEN_NS (p t : Nat) : Field := ⟨0x220 + 0x40 * p + 8 * t, 0, 32, .ro, 0⟩
def HSCH.Z_NS (p t : Nat) : Field := ⟨0x224 + 0x40 * p + 8 * t, 0, 32, .ro, 0⟩
/-- LIST_LEN, CYCLE_TIME and base of a pending list, taken at its commit (R231). -/
def HSCH.NEW_LEN (p : Nat) : Field := ⟨0x420 + 0x40 * p, 0, 9, .ro, 0⟩
def HSCH.NEW_CYCLE (p : Nat) : Field := ⟨0x424 + 0x40 * p, 0, 32, .ro, 0⟩
def HSCH.NEW_BASE (p : Nat) : Field := ⟨0x428 + 0x40 * p, 0, 96, .ro, 0⟩
/-- After a step, port p's list waits for its next cycle start (R232). -/
def HSCH.WAIT (p : Nat) : Field := ⟨0x434 + 0x40 * p, 0, 1, .ro, 0⟩
/-- Deficit of a node among its siblings, and the child that its parent last visited plus 1 (R233, tier 4): in the node's record. -/
def HNODE.DEFICIT : Field := ⟨0x80, 0, 32, .ro, 0⟩
def HNODE.VISIT : Field := ⟨0x84, 0, 32, .ro, 0⟩

/-! ## Arcade (R416, R420, R429, R443) -/

/-- Number of the next detached slot (R430). -/
def HARC.NEXT_DET : Field := ⟨0, 0, 28, .ro, 0⟩
/-- The store has been started and its controller works (R437). -/
def HARC.STARTED : Field := ⟨4, 0, 1, .ro, 0⟩
/-- The clean-stop marker is present in the home copies (R439, R570). -/
def HARC.CLEAN : Field := ⟨4, 1, 1, .ro, 0⟩
/-- The tick of the last commit that touched OPEN_SEG of an entry (R420): in the entry's record. -/
def HDIR.CHUNK_TICK : Field := ⟨0x80, 0, 64, .ro, 0⟩
/-- The chunk after the last of OPEN_SEG, once a chunk names it; 0 until then (R422). -/
def HDIR.LAST_CHUNK : Field := ⟨0x88, 0, 8, .ro, 0⟩

/-! ## Kerb ports (R30, R313, R314), on the held page of the port's KRB page -/

/-- Core cycle + 1 since which transmit queue t is held; 0 when it is not. -/
def HKRB.HELD_SINCE (t : Nat) : Field := ⟨16 * t, 0, 64, .ro, 0⟩
/-- Core cycle + 1 at which the hold of transmit queue t ends; 0 when none runs. -/
def HKRB.HELD_UNTIL (t : Nat) : Field := ⟨16 * t + 8, 0, 64, .ro, 0⟩
/-- Core cycles + 1 of the hold that starts when the frame being serialised from transmit queue t ends (Table 10.6). -/
def HKRB.PEND (t : Nat) : Field := ⟨0x80 + 8 * t, 0, 64, .ro, 0⟩
/-- Core cycles held below 1 µs not yet counted in HELD_US_t, in 1/100 cycle. -/
def HKRB.US_REST (t : Nat) : Field := ⟨0xC0 + 4 * t, 0, 32, .ro, 0⟩
/-- RX_OK as the port sends it, and as its partner sends it (R292). -/
def HKRB.RX_OK : Field := ⟨0xE0, 0, 4, .ro, 0⟩
def HKRB.PART_OK : Field := ⟨0xE0, 4, 4, .ro, 0⟩
/-- The link went down and the block boundary has not come yet (R317). -/
def HKRB.DOWN : Field := ⟨0xE0, 8, 1, .ro, 0⟩
/-- The port is narrowed for LEAN (R306). -/
def HKRB.NARROW : Field := ⟨0xE0, 9, 1, .ro, 0⟩
/-- The last marker the port sent: KIND, RX_OK, and R of a request or a resume (Table 10.3). -/
def HKRB.MARK_KIND : Field := ⟨0xE4, 0, 2, .ro, 0⟩
def HKRB.MARK_OK : Field := ⟨0xE4, 4, 4, .ro, 0⟩
def HKRB.MARK_R : Field := ⟨0xE4, 8, 14, .ro, 0⟩
/-- The tick since which the link conditions can have held: the enable, the link's end, the last loss of a lane (R316). -/
def HKRB.UP_FROM : Field := ⟨0xE8, 0, 64, .ro, 0⟩
/-- The tick of lane l's loss, or of the last invalid code group on it since (R299). -/
def HKRB.BAD_TICK (l : Nat) : Field := ⟨0x100 + 8 * l, 0, 64, .ro, 0⟩
/-- Core cycle since which the transmitter has had no frame to send (R305). -/
def HKRB.IDLE_FROM : Field := ⟨0xF0, 0, 64, .ro, 0⟩

/-! ## Time (R324 to R351) -/

/-- The local clock at an anchor: the time of day in 2⁻⁴⁰ ns, and the core cycle of the anchor. -/
def HTIM.ANCHOR_T : Field := ⟨0, 0, 160, .ro, 0⟩
def HTIM.ANCHOR_C : Field := ⟨0x14, 0, 64, .ro, 0⟩
/-- The source is lost (R326), and ticks since the loss. No source is there at reset. -/
def HTIM.LOST : Field := ⟨0x1C, 0, 1, .ro, 1⟩
def HTIM.LOST_TICKS : Field := ⟨0x20, 0, 32, .ro, 0⟩
/-- Fraction of a ns gathered by the growth of `ERR_BOUND_NS`, in 1/8 000 of a ns. -/
def HTIM.BOUND_FRAC : Field := ⟨0x24, 0, 32, .ro, 0⟩
/-- Consecutive measurements within `LOCK_NS`, and beyond 4 × `LOCK_NS` (R332). -/
def HTIM.IN_LOCK : Field := ⟨0x28, 0, 8, .ro, 0⟩
def HTIM.OUT_LOCK : Field := ⟨0x28, 8, 8, .ro, 0⟩
/-- The fibre measurement in progress: sum of θ in 2⁻¹⁶ ns (signed), ticks in it, and the tick of the last PSBd plus 1 (R330). -/
def HTIM.SUM : Field := ⟨0x2C, 0, 128, .ro, 0⟩
def HTIM.COUNT : Field := ⟨0x3C, 0, 16, .ro, 0⟩
def HTIM.LAST_PSBD : Field := ⟨0x40, 0, 64, .ro, 0⟩
/-- The servo's integral I, in 1/65 536 ppb × 2⁻¹⁶ (signed), and a new `INCR` + 1 for the next block boundary (R333). -/
def HTIM.INTEGRAL : Field := ⟨0x48, 0, 128, .ro, 0⟩
def HTIM.NEW_INCR : Field := ⟨0x58, 0, 64, .ro, 0⟩
/-- Steps requested: 0 the accepted pending step, 1 servo, 2 software: value (signed ns), core cycle of the request + 1 (R334, R336). -/
def HTIM.STEP (i : Nat) : Field := ⟨0x60 + 0x20 * i, 0, 96, .ro, 0⟩
def HTIM.STEP_AT (i : Nat) : Field := ⟨0x70 + 0x20 * i, 0, 64, .ro, 0⟩
/-- First value of the pending step and the tick it dates from (R335). -/
def HTIM.FIRST : Field := ⟨0xC0, 0, 96, .ro, 0⟩
def HTIM.FIRST_TICK : Field := ⟨0xCC, 0, 64, .ro, 0⟩
/-- ToD reference of port p: N, T_N in ns, loaded (R328). -/
def HTIM.TOD_N (p : Nat) : Field := ⟨0x100 + 0x40 * p, 0, 51, .ro, 0⟩
def HTIM.TOD_T (p : Nat) : Field := ⟨0x108 + 0x40 * p, 0, 96, .ro, 0⟩
def HTIM.TOD_SET (p : Nat) : Field := ⟨0x114 + 0x40 * p, 0, 1, .ro, 0⟩
/-- A reference that comes into use at the next tick boundary. -/
def HTIM.NEXT_N (p : Nat) : Field := ⟨0x118 + 0x40 * p, 0, 51, .ro, 0⟩
def HTIM.NEXT_T (p : Nat) : Field := ⟨0x120 + 0x40 * p, 0, 96, .ro, 0⟩
def HTIM.NEXT_SET (p : Nat) : Field := ⟨0x12C + 0x40 * p, 0, 1, .ro, 0⟩
/-- Lamplighter output n: 0 not running, 1 one-shot, 2 periodic; START, PERIOD, WIDTH taken; instant of the next pulse; end of the
pulse in progress (its core cycle + 1) (R349). -/
def HTIM.L_RUN (n : Nat) : Field := ⟨0x200 + 0x40 * n, 0, 2, .ro, 0⟩
def HTIM.L_PERIOD (n : Nat) : Field := ⟨0x204 + 0x40 * n, 0, 32, .ro, 0⟩
def HTIM.L_WIDTH (n : Nat) : Field := ⟨0x208 + 0x40 * n, 0, 32, .ro, 0⟩
def HTIM.L_START (n : Nat) : Field := ⟨0x20C + 0x40 * n, 0, 96, .ro, 0⟩
def HTIM.L_NEXT (n : Nat) : Field := ⟨0x218 + 0x40 * n, 0, 96, .ro, 0⟩
def HTIM.L_END (n : Nat) : Field := ⟨0x224 + 0x40 * n, 0, 96, .ro, 0⟩
/-- ARM waits for the block boundary. -/
def HTIM.L_ARM (n : Nat) : Field := ⟨0x230 + 0x40 * n, 0, 1, .ro, 0⟩
/-- Core cycle + 1 of the last accepted edge of capture input i (R351). -/
def HTIM.LAST_EDGE (i : Nat) : Field := ⟨0x300 + 8 * i, 0, 64, .ro, 0⟩
/-- Recorded for sleep: the tick number, the local time, the sleep counter, and the bound (R337). -/
def HTIM.SLEEP_TICK : Field := ⟨0x320, 0, 64, .ro, 0⟩
def HTIM.SLEEP_T : Field := ⟨0x328, 0, 160, .ro, 0⟩
def HTIM.SLEEP_S : Field := ⟨0x340, 0, 48, .ro, 0⟩
def HTIM.SLEEP_PHASE : Field := ⟨0x348, 0, 32, .ro, 0⟩
def HTIM.SLEEP_PPB : Field := ⟨0x34C, 0, 32, .ro, 0⟩
def HTIM.SLEEP_SRC : Field := ⟨0x350, 0, 2, .ro, 0⟩

/-! ## Classifier and Cul-de-sac (R154, R155, R168), on the held page of 0x0C8 -/

/-- Bytes of bank b's image. -/
def HCLS.LEN (b : Nat) : Field := ⟨4 * b, 0, 32, .ro, 0⟩
/-- Block number + 1 at which a requested swap takes effect; and of the first block after the last swap (R155, R156). -/
def HCLS.SWAP_AT : Field := ⟨8, 0, 64, .ro, 0⟩
def HCLS.SWAPPED : Field := ⟨0x10, 0, 64, .ro, 0⟩
/-- A Cul-de-sac command that waits for the block boundary: operation, entry, ring (R168); the index of the next entry. -/
def HCLS.CUL_OP : Field := ⟨0x18, 0, 2, .ro, 0⟩
def HCLS.CUL_INDEX : Field := ⟨0x18, 4, 12, .ro, 0⟩
def HCLS.CUL_RING : Field := ⟨0x18, 16, 6, .ro, 0⟩
def HCLS.CUL_NEXT : Field := ⟨0x1C, 0, 12, .ro, 0⟩

/-! ## Flow table (R179, R187, R188, R578), on the held page of 0x0D0 -/

/-- The record buffer, 32 words (R187). -/
def HFLW.BUF (i : Nat) : Field := ⟨0x100 + 4 * i, 0, 32, .ro, 0⟩
/-- Base and seed in force when EN was last set, or at the clearing of R578; and the base before that (R188). -/
def HFLW.BASE : Field := ⟨0, 0, 23, .ro, 0x480000⟩
def HFLW.SEED : Field := ⟨4, 0, 32, .ro, 0xFFFFFFFF⟩
def HFLW.OLD_BASE : Field := ⟨8, 0, 23, .ro, 0x480000⟩
/-- The clearing of R578 is not done; it waits from reset on. The frees after a change run (R188). -/
def HFLW.CLEARING : Field := ⟨0xC, 0, 1, .ro, 1⟩
def HFLW.FREEING : Field := ⟨0xC, 1, 1, .ro, 0⟩
/-- A FLUSH has executed and its frees run. -/
def HFLW.FLUSHING : Field := ⟨0xC, 2, 1, .ro, 0⟩
/-- The block in which the FLUSH executed. -/
def HFLW.FLUSH_AT : Field := ⟨0x50, 0, 64, .ro, 0⟩
/-- Inserts of slice x committed in the tick of the last of them, and that tick. -/
def HFLW.INSERTS (x : Nat) : Field := ⟨0x10 + 0x10 * x, 0, 32, .ro, 0⟩
def HFLW.INSERT_TICK (x : Nat) : Field := ⟨0x14 + 0x10 * x, 0, 64, .ro, 0⟩

/-! ## Protected streams (R96, R97), in the stream's record -/

/-- Consecutive rogue copies from port f; and whether port f passed a copy while the other port was lost. -/
def HSTR.ROGUE (f : Nat) : Field := ⟨0x100 + 4 * f, 0, 8, .ro, 0⟩
def HSTR.PASSED (f : Nat) : Field := ⟨0x108 + 4 * f, 0, 1, .ro, 0⟩

/-! ## Fibre ports, downstream (R70 to R97), on the held page of the port's page 0x040 -/

/-- The port is lost for protected streams (R96). No port is in SYNC at reset. -/
def HFIB.LOST : Field := ⟨0, 0, 1, .ro, 1⟩

/-! ## Tramlines (R357), on the held page of 0x1A0 -/

/-- FALSE_ALIGN of tributary n: the spec counts it and gives it no register. -/
def HTRM.FALSE_ALIGN (n : Nat) : Field := ⟨0xC00 + 4 * n, 0, 32, .ro, 0⟩

/-! ## Rings and the store (R429, R436, R441) -/

/-- The length of a ring before it last grew, while segments from before that wrap are held: in the ring's record (R429). -/
def HRNG.OLD_LEN : Field := ⟨0x80, 0, 32, .ro, 0⟩
/-- OLDEST as the readers of a ring were last held against it: in the ring's record (R431). -/
def HRNG.SEEN : Field := ⟨0x84, 0, 32, .ro, 0xFFFFFFFF⟩
/-- The tick from which the oldest changed directory entry waits to be written to the home copies (R416). -/
def HARC.DIRTY_SINCE : Field := ⟨0x48, 0, 64, .ro, 0⟩

/-! ## Carriageways (R272 to R280), on the held page of 0x180 -/

/-- Ticks + 1 of slice s's last occurrences, the latest at 0 (R275). -/
def HCWY.OCC (s i : Nat) : Field := ⟨0x40 * s + 8 * i, 0, 64, .ro, 0⟩
/-- Block number + 1 of the faulty block after which slice s resets. -/
def HCWY.FAULT_AT (s : Nat) : Field := ⟨0x40 * s + 0x18, 0, 64, .ro, 0⟩
/-- The fault of `FAULT_AT` is masked. -/
def HCWY.FAULT_MASKED (s : Nat) : Field := ⟨0x40 * s + 0x20, 0, 1, .ro, 0⟩
/-- Tick + 1 of slice s's fence, and at which its test began. -/
def HCWY.FENCE_TICK (s : Nat) : Field := ⟨0x40 * s + 0x24, 0, 64, .ro, 0⟩
def HCWY.TEST_TICK (s : Nat) : Field := ⟨0x40 * s + 0x2C, 0, 64, .ro, 0⟩
/-- The slice is fenced from the next boundary on (R276): block number + 1 of its faulty block. -/
def HCWY.FENCE_AT (s : Nat) : Field := ⟨0x400 + 8 * s, 0, 64, .ro, 0⟩
/-- Block number + 1 of the faulty block whose replay is in progress. -/
def HCWY.REPLAY_AT : Field := ⟨0x100, 0, 64, .ro, 0⟩
/-- Block number + 1 at whose start GUARDED is entered (R276, R279). -/
def HCWY.GUARD_AT : Field := ⟨0x108, 0, 64, .ro, 0⟩
/-- A return (2) or a manual fence (3) decided and not yet in effect: its slice, and the block number + 1 of boundary b (R279). -/
def HCWY.RTS_OP : Field := ⟨0x110, 0, 2, .ro, 0⟩
def HCWY.RTS_SLICE : Field := ⟨0x110, 4, 2, .ro, 0⟩
def HCWY.RTS_AT : Field := ⟨0x114, 0, 64, .ro, 0⟩
/-- Ticks + 1 of slice s's last fifteen returns (R278). -/
def HCWY.RET (s i : Nat) : Field := ⟨0x200 + 0x80 * s + 8 * i, 0, 64, .ro, 0⟩

/-- A commit has put a frame in a leaf queue of this fibre port since the last boundary (R115), on the held page of 0x040 or 0x060. -/
def HFIB.LOCAL_WAKE : Field := ⟨0, 1, 1, .ro, 0⟩

/-! ## Fibre ports (R70 to R133), on the held pages of 0x040 and 0x060 -/

/-- SYNC: bit position of the PSBd, the SFC of the last frame (the flywheel counts on), bad frames in a row (R75). -/
def HFIB.POS : Field := ⟨0x40, 0, 23, .ro, 0⟩
def HFIB.SFC : Field := ⟨0x48, 0, 51, .ro, 0⟩
def HFIB.BAD_RUN : Field := ⟨0x44, 0, 4, .ro, 0⟩
/-- Downstream frames seen; the rest of the present one is discarded (R80, R84). -/
def HFIB.FRAME_NO : Field := ⟨0x50, 0, 64, .ro, 0⟩
def HFIB.DEAD : Field := ⟨0x58, 0, 1, .ro, 0⟩
/-- The reset set has been loaded in this hunt (R73); tick since which the port hunts. -/
def HFIB.HUNT_RESET : Field := ⟨0x58, 1, 1, .ro, 0⟩
def HFIB.HUNT_TICK : Field := ⟨0x60, 0, 64, .ro, 0⟩
/-- Core cycle + 1 of the swap request; tick + 1 of the last capture (R72, R73). -/
def HFIB.SWAP_AT : Field := ⟨0x68, 0, 64, .ro, 0⟩
def HFIB.CAP_TICK : Field := ⟨0x70, 0, 64, .ro, 0⟩
/-- Uncorrectable codewords of this tick; ticks in a row at or over `SF_THRESH`, and below it (R79). -/
def HFIB.UC_TICK : Field := ⟨0x78, 0, 32, .ro, 0⟩
/-- Bits corrected in the tick in progress (Table 18.6). -/
def HFIB.CB_TICK : Field := ⟨0xB0, 0, 32, .ro, 0⟩
def HFIB.SF_RUN : Field := ⟨0x7C, 0, 8, .ro, 0⟩
def HFIB.SF_OK : Field := ⟨0x7C, 8, 8, .ro, 0⟩
/-- Corrected bits of the window in progress, and the tick at which it began (R79). -/
def HFIB.SD_BITS : Field := ⟨0x80, 0, 64, .ro, 0⟩
def HFIB.SD_TICK : Field := ⟨0x88, 0, 64, .ro, 0⟩
/-- Tick + 1 since which the port has been in SYNC without LODS or SF; its first SYNC since PORST_N; measured frequency in ppb (R86, R87). -/
def HFIB.SYNC_TICK : Field := ⟨0x90, 0, 64, .ro, 0⟩
def HFIB.FIRST_SYNC : Field := ⟨0x98, 0, 64, .ro, 0⟩
def HFIB.PPB : Field := ⟨0xA0, 0, 32, .ro, 0⟩
/-- Tick at which the port last left the lost state; REJOIN_STALLED raised since (R97); the end of every rejoin waits for a boundary. -/
def HFIB.RET_TICK : Field := ⟨0xA8, 0, 64, .ro, 0⟩
def HFIB.STALLED : Field := ⟨0x58, 2, 1, .ro, 0⟩
def HFIB.RJ_END : Field := ⟨0x58, 3, 1, .ro, 0⟩

/-- On the page of 0x040 alone: tick + 1 since which the preferred port has qualified; a change to the other port requested (R88); a tick
to be lengthened (R52), and whether one was; the timing port has changed; the offset of R12. -/
def HTP.QUAL_TICK : Field := ⟨0x100, 0, 64, .ro, 0⟩
def HTP.FORCE : Field := ⟨0x108, 0, 1, .ro, 0⟩
def HTP.ALIGN : Field := ⟨0x108, 1, 1, .ro, 0⟩
def HTP.ALIGNED : Field := ⟨0x108, 2, 1, .ro, 0⟩
def HTP.MOVED : Field := ⟨0x108, 3, 1, .ro, 0⟩
def HTP.OFFSET : Field := ⟨0x10C, 0, 18, .ro, 0x3ffff⟩
/-- The reference PLL: its frequency is frozen (R53); its frequency against the TCXO in ppb, and its pull, both signed (R54). -/
def HTP.FROZEN : Field := ⟨0x108, 4, 1, .ro, 0⟩
def HTP.FREQ : Field := ⟨0x110, 0, 32, .ro, 0⟩
def HTP.PULL : Field := ⟨0x114, 0, 16, .ro, 0⟩

/-- TO1 and TO2: tick at which the timer that runs expires, plus 1 (R104). -/
def HACT.TO1 : Field := ⟨0x140, 0, 64, .ro, 0⟩
def HACT.TO2 : Field := ⟨0x148, 0, 64, .ro, 0⟩
/-- A new EqD, and the downstream frame at whose start it takes effect (R108). -/
def HACT.EQD_NEW : Field := ⟨0x150, 0, 32, .ro, 0⟩
def HACT.EQD_AT : Field := ⟨0x158, 0, 64, .ro, 0⟩
/-- The O7 record in retention SRAM and in Arcade's fault-log area (R109). -/
def HACT.O7_SRAM : Field := ⟨0x160, 0, 1, .ro, 0⟩
def HACT.O7_ARC : Field := ⟨0x160, 1, 1, .ro, 0⟩
/-- A burst profile is stored; its preamble in core cycles, its burst overhead in bytes (R104, R116, R119). -/
def HACT.PROFILE : Field := ⟨0x160, 2, 1, .ro, 0⟩
def HACT.PREAMBLE : Field := ⟨0x164, 0, 32, .ro, 0⟩
def HACT.OVERHEAD : Field := ⟨0x168, 0, 32, .ro, 0⟩
/-- The low-power interval that the head end has set, in ticks (R114). -/
def HACT.PM_INTERVAL : Field := ⟨0x16C, 0, 32, .ro, 0⟩
/-- The registration ID taken at the last entry into O1.1 (R107). -/
def HACT.REG_ID (i : Nat) : Field := ⟨0x170 + 4 * i, 0, 32, .ro, 0⟩
/-- Superframe of the pending key switch, and its key index (R112). -/
def HACT.SWITCH_SFC : Field := ⟨0x1B0, 0, 51, .ro, 0⟩
def HACT.SWITCH_KEY : Field := ⟨0x1B8, 0, 2, .ro, 0⟩
/-- The tick + 1 at which the Dying_Gasp of R130 is prepared at the latest; it has been sent; tick and block of FEED_FAIL_N. -/
def HACT.GASP_READY : Field := ⟨0x1C0, 0, 64, .ro, 0⟩
def HACT.GASP_SENT : Field := ⟨0x160, 3, 1, .ro, 0⟩
def HACT.GASP_AT : Field := ⟨0x1C8, 0, 64, .ro, 0⟩
/-- Core cycle of the PSBd start of the present downstream frame (R108). -/
def HUPS.PSBD : Field := ⟨0x1D0, 0, 64, .ro, 0⟩
/-- Granted bytes of slot n in the grant interval in progress, and the tick at which it began (R125). -/
def HUPS.GRANTED (n : Nat) : Field := ⟨0x200 + 16 * n, 0, 64, .ro, 0⟩
def HUPS.FROM (n : Nat) : Field := ⟨0x208 + 16 * n, 0, 64, .ro, 0⟩
/-- The slot has had an allocation since the port entered O5.1 (R121). -/
def HUPS.SEEN (n : Nat) : Field := ⟨0x600 + 4 * n, 0, 1, .ro, 0⟩
/-- PREDICT_FULL counted in this tick: tick + 1 (R126). -/
def HUPS.FULL_TICK : Field := ⟨0x700, 0, 64, .ro, 0⟩
/-- Core cycle + 1 at which burst-enable rose, 0 while it is low (R103); the dying-gasp indication of the last burst's header (R130). -/
def HUPS.ENABLE_AT : Field := ⟨0x708, 0, 64, .ro, 0⟩
def HUPS.IND : Field := ⟨0x710, 0, 1, .ro, 0⟩

/-! ## Mews (R388, R391, R392, R403, R404), on the held page of 0x1C0 -/

/-- Tick + 1 of the core's last dispatch list; its cycles in this tick; tick + 1 at which its test began. -/
def HMEW.DISP (c : Nat) : Field := ⟨0x20 * c, 0, 64, .ro, 0⟩
def HMEW.CYCLES (c : Nat) : Field := ⟨0x20 * c + 8, 0, 32, .ro, 0⟩
def HMEW.TEST (c : Nat) : Field := ⟨0x20 * c + 0x10, 0, 64, .ro, 0⟩
/-- The role for which an image is being loaded, and whether the host asked. -/
def HMEW.LOAD_ROLE : Field := ⟨0x200, 0, 8, .ro, 0⟩
def HMEW.LOAD_HOST : Field := ⟨0x200, 8, 1, .ro, 0⟩
/-- The router (R396): core cycle + 1 of its last delivery; the indices of that cycle's ranking it has been through; its deliveries in it. -/
def HMEW.ROUTE_AT : Field := ⟨0x208, 0, 64, .ro, 0⟩
def HMEW.ROUTE_GONE : Field := ⟨0x210, 0, 4, .ro, 0⟩
def HMEW.ROUTE_COUNT : Field := ⟨0x210, 8, 2, .ro, 0⟩
/-- In a role's record: ticks + 1 of its last two restarts (R403); the masking of a core fault waits for its first task (R404); a stop waits
for the end of a repetition (R388); its standby's copy of the code (R406); the restart was asked for by START. -/
def HROLE.REST1 : Field := ⟨0x80, 0, 64, .ro, 0⟩
def HROLE.REST2 : Field := ⟨0x88, 0, 64, .ro, 0⟩
def HROLE.MASKING : Field := ⟨0x90, 0, 1, .ro, 0⟩
def HROLE.STOP_REQ : Field := ⟨0x90, 1, 1, .ro, 0⟩
def HROLE.BY_START : Field := ⟨0x90, 2, 1, .ro, 0⟩
def HROLE.SB_CODE : Field := ⟨0x94, 0, 12, .ro, 0⟩
/-- Tick + 1 of the last release of FEED_FILTER, on the held page of 0x021 (R507). -/
def HPWR.FILTER_TICK : Field := ⟨0x100, 0, 64, .ro, 0⟩

/-- The host link was lost, or a function-level reset came, and the block boundary has not come yet (R466, R467). -/
def HHST.LINK_LOST : Field := ⟨0x908, 0, 1, .ro, 0⟩
def HHST.FLR_DUE : Field := ⟨0x908, 1, 1, .ro, 0⟩

/-! ## Town Hall (R447 to R452), on the held page of 0x008 -/

/-- Tick + 1 at which the step in progress began; inputs that it reads: PLOAM and OMCI messages, and messages to role 0. -/
def HTHL.STEP : Field := ⟨0, 0, 64, .ro, 0⟩
def HTHL.INPUTS : Field := ⟨8, 0, 32, .ro, 0⟩
def HTHL.MESSAGES : Field := ⟨0xC, 0, 8, .ro, 0⟩
/-- A takeover, and an exchange by SWAP, waits for the tick boundary; the pair that failed; Yunager is stopped (R450). -/
def HTHL.TAKE : Field := ⟨0x10, 0, 1, .ro, 0⟩
def HTHL.SWAP : Field := ⟨0x10, 1, 1, .ro, 0⟩
def HTHL.FAILED : Field := ⟨0x10, 2, 1, .ro, 0⟩
def HTHL.STOPPED : Field := ⟨0x10, 3, 1, .ro, 0⟩
/-- Tick + 1 at which a pair's test began. -/
def HTHL.TEST (p : Nat) : Field := ⟨0x18 + 8 * p, 0, 64, .ro, 0⟩
/-- Block number + 1 from which a committed change of FUNC_MODE takes effect at a tick boundary (R452). -/
def HTHL.FUNC_AT : Field := ⟨0x28, 0, 64, .ro, 0⟩

/-! ## Security (R471 to R487), on the held page of 0x010 -/

/-- The ROM runs, as it does right after reset; BOOT_SEL as sampled, or treated as asserted (R501, R563); this start follows a wake that may
resume (R480). -/
def HSEC.ROM : Field := ⟨0, 0, 1, .ro, 1⟩
def HSEC.BOOT_SEL : Field := ⟨0, 1, 1, .ro, 0⟩
def HSEC.WAKING : Field := ⟨0, 2, 1, .ro, 0⟩
/-- Events to be raised once Yunager runs (R475, R480). -/
def HSEC.TRIAL_FAILED : Field := ⟨0, 3, 1, .ro, 0⟩
def HSEC.RESUME_REFUSED : Field := ⟨0, 4, 1, .ro, 0⟩
/-- The preferred-slot record of retention SRAM (R475). -/
def HSEC.PREF_VALID : Field := ⟨4, 0, 1, .ro, 0⟩
def HSEC.PREF_SLOT : Field := ⟨4, 1, 1, .ro, 0⟩
def HSEC.TRIAL : Field := ⟨4, 2, 1, .ro, 0⟩
def HSEC.ATTEMPTS : Field := ⟨4, 3, 3, .ro, 0⟩
/-- SEC_VERSION, digest and resident digest of the booted image. -/
def HSEC.VERSION : Field := ⟨8, 0, 16, .ro, 0⟩
def HSEC.DIGEST : Field := ⟨0x10, 0, 512, .ro, 0⟩
def HSEC.RESIDENT : Field := ⟨0x50, 0, 512, .ro, 0⟩
/-- The fuse command in progress (4 an anti-rollback raise), its slot or counter, its hash or value, core cycle + 1 at which it is done. -/
def HSEC.FUSE_OP : Field := ⟨0x90, 0, 3, .ro, 0⟩
def HSEC.FUSE_ARG : Field := ⟨0x94, 0, 8, .ro, 0⟩
def HSEC.FUSE_HASH : Field := ⟨0xA0, 0, 512, .ro, 0⟩
def HSEC.FUSE_AT : Field := ⟨0xE0, 0, 64, .ro, 0⟩
/-- An authorisation for one fuse command, with the key slot that signed it (R485). -/
def HSEC.AUTH : Field := ⟨0xE8, 0, 1, .ro, 0⟩
def HSEC.AUTH_SLOT : Field := ⟨0xE8, 8, 2, .ro, 0⟩
/-- Owner slots whose revocation waits for the tick boundary (R483). -/
def HSEC.REVOKE_DUE : Field := ⟨0xEC, 0, 2, .ro, 0⟩
/-- Keys of the key store that a double-bit error invalidated: bit 8 × port + key (R486). -/
def HSEC.KEY_BAD : Field := ⟨0xEC, 16, 16, .ro, 0⟩
/-- The start is over and COMMISSION waits for the flow table's READY (R578). -/
def HSEC.COMMISSION_WAIT : Field := ⟨0, 7, 1, .ro, 0⟩
/-- The image that runs came from host memory; AUTO_CONFIRM has acted since the boot (R475, R476). -/
def HSEC.FROM_HOST : Field := ⟨0, 5, 1, .ro, 0⟩
def HSEC.CONFIRMED : Field := ⟨0, 6, 1, .ro, 0⟩
/-- The quote in progress: block number + 1 of its snapshot, nonce, address (R481). -/
def HSEC.QUOTE_AT : Field := ⟨0xF0, 0, 64, .ro, 0⟩
def HSEC.NONCE : Field := ⟨0x100, 0, 256, .ro, 0⟩
def HSEC.QUOTE_ADDR : Field := ⟨0x120, 0, 64, .ro, 0⟩
/-- Tick + 1 of the challenge; of the last failed response; the grant that waits for its boundary, and the one in force (R485). -/
def HSEC.CHAL_TICK : Field := ⟨0x128, 0, 64, .ro, 0⟩
def HSEC.FAIL_TICK : Field := ⟨0x130, 0, 64, .ro, 0⟩
def HSEC.GRANT_DUE : Field := ⟨0x138, 0, 64, .ro, 0⟩
def HSEC.GRANT_SCOPE : Field := ⟨0x140, 0, 5, .ro, 0⟩
def HSEC.GRANT_SLOT : Field := ⟨0x140, 8, 2, .ro, 0⟩
def HSEC.GRANTED : Field := ⟨0x140, 16, 1, .ro, 0⟩
def HSEC.GRANT_TICKS : Field := ⟨0x144, 0, 32, .ro, 0⟩
/-- Status lines the ROM has sent on UART_TX, and what the last one said: the slot booted and BOOT_STATUS.RESULT (R573). -/
def HSEC.UART_LINES : Field := ⟨0x148, 0, 64, .ro, 0⟩
def HSEC.UART_SLOT : Field := ⟨0x150, 0, 1, .ro, 0⟩
def HSEC.UART_RESULT : Field := ⟨0x150, 1, 4, .ro, 0⟩

/-! ## Power (R498 to R513), on the held page of 0x020; R514 keeps it with its page -/

/-- The transition in progress (Machine/Power.lean), the block number + 1 at which its next part acts, the mode or the low state that it
leads to, the block at which its drain began. -/
def HPWR.KIND : Field := ⟨0, 0, 4, .ro, 0⟩
def HPWR.LOW : Field := ⟨0, 4, 2, .ro, 0⟩
def HPWR.TARGET : Field := ⟨0, 8, 3, .ro, 0⟩
def HPWR.AT : Field := ⟨8, 0, 64, .ro, 0⟩
def HPWR.DRAIN_FROM : Field := ⟨0x10, 0, 64, .ro, 0⟩
/-- The slice that LEAN switched off; SELFTEST has passed since PORST_N; SELFTEST was requested (Table 17.4, R496). -/
def HPWR.SLICE : Field := ⟨0x18, 0, 2, .ro, 3⟩
def HPWR.TEST_PASSED : Field := ⟨0x18, 4, 1, .ro, 0⟩
def HPWR.TEST_ASKED : Field := ⟨0x18, 5, 1, .ro, 0⟩
/-- The feed-failure sequence runs or has ended in DEEP SLEEP; block number + 1 from which admission stops; its boundary work is done (R510). -/
def HPWR.FAILED : Field := ⟨0x18, 6, 1, .ro, 0⟩
def HPWR.FEED_ACTED : Field := ⟨0x18, 7, 1, .ro, 0⟩
def HPWR.FEED_AT : Field := ⟨0x20, 0, 64, .ro, 0⟩
/-- DORMANT was requested by the budget rule; a wake came during the entry, with its source; the wake in progress waits for W (R502 to R508). -/
def HPWR.BY_BUDGET : Field := ⟨0x28, 0, 1, .ro, 0⟩
def HPWR.WAKE_PEND : Field := ⟨0x28, 4, 3, .ro, 0⟩
def HPWR.WAKING : Field := ⟨0x28, 8, 1, .ro, 0⟩
/-- Standby time in ms of the last accepted wake, plus 1; a wake was ignored and may yet be accepted; tick + 1 since which WAKE is active in RUN. -/
def HPWR.WAKE_MS : Field := ⟨0x30, 0, 64, .ro, 0⟩
def HPWR.WAKE_HELD : Field := ⟨0x28, 9, 1, .ro, 0⟩
def HPWR.WAKE_TICK : Field := ⟨0x38, 0, 64, .ro, 0⟩
/-- Consecutive failed polls, the last budget read and the tick of it (R506). -/
def HPWR.POLL_FAILS : Field := ⟨0x40, 0, 2, .ro, 0⟩
def HPWR.BUDGET : Field := ⟨0x44, 0, 32, .ro, 0⟩
def HPWR.BUDGET_TICK : Field := ⟨0x48, 0, 64, .ro, 0⟩
/-- Ticks in a row with B below SERVICE_MIN_MW, at SERVICE_MIN_MW + HYST_MW or more, below LEAN_MIN_MW (R508); B as last compared. -/
def HPWR.LOW_TICKS : Field := ⟨0x50, 0, 32, .ro, 0⟩
def HPWR.OK_TICKS : Field := ⟨0x54, 0, 32, .ro, 0⟩
def HPWR.VLOW_TICKS : Field := ⟨0x58, 0, 32, .ro, 0⟩
def HPWR.BELOW : Field := ⟨0x5C, 0, 2, .ro, 0⟩
/-- Block number + 1 at which a domain switched on by PD_CTRL is ready (R493). -/
def HPWR.READY (d : Nat) : Field := ⟨0x60 + 8 * d, 0, 64, .ro, 0⟩
/-- PORST_N is low; VIN's hot-swap switch is closed; the module is withdrawn; the I/O rings are powered for boundary scan (R561 to R572). -/
def HPWR.PORST : Field := ⟨0x28, 16, 1, .ro, 0⟩
def HPWR.VIN : Field := ⟨0x28, 17, 1, .ro, 1⟩
def HPWR.SCAN : Field := ⟨0x28, 18, 1, .ro, 0⟩
def HPWR.STANDBY : Field := ⟨0x28, 19, 1, .ro, 1⟩
/-- BOOT_SEL as sampled at the last deassertion of PORST_N or WARM_N (R563). -/
def HPWR.BOOT_PIN : Field := ⟨0x28, 20, 1, .ro, 0⟩
/-- PORST_N was deasserted without VIN: the ROM waits for it (R564, R567). -/
def HPWR.POWER_ON : Field := ⟨0x28, 21, 1, .ro, 0⟩
/-- STATE of the slice that LEAN switched off, as it was before (R499). -/
def HPWR.OLD_STATE : Field := ⟨0x18, 8, 3, .ro, 0⟩

/-- On the held page of 0x180: SLICE_DEGRADED was raised and Yunager has not acted on it yet (R497). -/
def HCWY.DEGRADED : Field := ⟨0x11C, 0, 1, .ro, 0⟩

end Sys2Proof.Machine
end

