-- ==== Sys2Proof/Machine/Crc.lean ====
section
/-! DEFINITION. The cyclic redundancy codes that the rules name, and sorting by a key. -/

namespace Sys2Proof.Machine

/-- One bit of a reflected 32-bit CRC. -/
def crcBit (poly c : Nat) : Nat := if c % 2 = 1 then (c / 2) ^^^ poly else c / 2

/-- One byte of a reflected 32-bit CRC. -/
def crcByte (poly c : Nat) (b : Byte) : Nat := (List.range 8).foldl (fun c _ => crcBit poly c) (c ^^^ b.toNat)

/-- CRC-32C (Castagnoli, reflected, final inversion: PRESUMED from the standard) with an initial value (R174, R414, R423). -/
def crc32c (init : Nat) (l : List Byte) : Nat := l.foldl (crcByte 0x82F63B78) init ^^^ 0xFFFFFFFF

/-- The complemented CRC-32 of IEEE 802.3, in the order of transmission (R307). -/
def crc32 (l : List Byte) : Nat := l.foldl (crcByte 0xEDB88320) 0xFFFFFFFF ^^^ 0xFFFFFFFF

/-- Reverse the bits of a w-bit number. -/
def reverseBits (w v : Nat) : Nat := (List.range w).foldl (fun a i => a * 2 + (v / 2 ^ i) % 2) 0

/-- Insert by a key, after equal keys. -/
def insertBy {α : Type} (key : α → Nat) (x : α) : List α → List α
  | [] => [x]
  | y :: r => if key x < key y then x :: y :: r else y :: insertBy key x r

/-- Stable sort by a key, lowest first. -/
def sortBy {α : Type} (key : α → Nat) (l : List α) : List α := l.foldl (fun a x => insertBy key x a) []

/-- The first element with the lowest key. -/
def minBy {α : Type} (key : α → Nat) : List α → Option α
  | [] => none
  | x :: r =>
    match minBy key r with
    | none => some x
    | some y => if key y < key x then some y else some x

end Sys2Proof.Machine
end

