-- ==== Sys2Proof/Config.lean ====
section
/-! DEFINITION. What an implementation fixes and the spec does not, and the free values: constants with no body, so that
no proof can lean on a value. Each is named in the assumption log. -/

namespace Sys2Proof.Config

/-- The n-th free value drawn (`State.fresh` counts the draws): a value the spec leaves open. -/
opaque freeValue : Nat → Nat

/-- The n-th draw of the random generator (R487), `w` bits wide. -/
opaque randomDraw : Nat → Nat → Nat

/-- The 7 check bits of a 32-bit LPDDR6 word (R59, R66): the spec gives the code's size and no generator. -/
opaque checkBits : Nat → Nat

/-- The 13 check bits of a 51-bit header structure of a downstream frame (R80): the HEC of G.9804.2. -/
opaque hec : Nat → Nat

/-- A sensor reading that the terminal samples and no rule computes: source code of Table 18.6, parameter, tick. -/
opaque sensor : Nat → Nat → Nat → Int

/-- SHA-512 of a byte string (R470), as a 512-bit number. The standard is outside the spec. -/
opaque sha512 : List Byte → Nat

/-- Whether an Ed25519 signature verifies: public key, message, signature (R470). -/
opaque ed25519Verify : List Byte → List Byte → List Byte → Bool

/-- The Ed25519 public key of a 32-byte secret, and the signature of a message under it (R472). -/
opaque ed25519Public : List Byte → List Byte
opaque ed25519Sign : List Byte → List Byte → List Byte

/-- AES of the fibre standards, as one keyed function: purpose, key, message (R85, R107, R112, R113): 0 an integrity code, 1 the cipher
stream, 2 a wrapped key, 3 to 5 the derivation of the PLOAM integrity, key-encryption and OMCI integrity key. -/
opaque aes : Nat → Nat → List Byte → Nat

/-- A quantity that G.9804.2 sets and this spec does not state: 0 the payload alignment of a fragment in bytes (R123), 1 the range of the
serial-number delay in core cycles (R106), 2 + r and 6 + r the unit of a start time in bits and of a grant size in bytes at upstream
rate r (R116), 10 the length of a DBRu in bytes (R116), 11 its reporting unit in bytes and 12 the largest value it carries (R120). -/
opaque ponStandard : Nat → Nat

/-- The contents of a fuse field at manufacture (Table 16.1): 0 IDENTITY_SEED, 1 SERIAL, 2 ROOT_HASH, 3 and 4 OWNER_HASH0 and 1, 5 and 6
OWNER_STATE0 and 1, 7 OWNER_LOCK, 8 the signature of the identity certificate in the one-time area, 16 + n ROLLBACK_n. -/
opaque fused : Nat → Nat

/-- The Yunager image that manufacture left in a slot of Arcade's system area (R473). -/
opaque factoryImage : Nat → List Byte

/-- Identity bytes of the optics bus that the spec does not give: address, offset (Table 19.10). -/
opaque optIdentity : Nat → Nat → Nat

end Sys2Proof.Config
end

