-- ==== Sys2Proof/Machine/Events.lean ====
section
/-! DEFINITION. The event bits of each page (the events tables of the chapters, R531): the bit of `PAGE_EVENT` that an event sets. -/

namespace Sys2Proof.Machine

/-! Table 3.10. -/

def FB0.evLOS_CHANGE : Nat := 0
def FB0.evSYNC_GAINED : Nat := 1
def FB0.evLODS : Nat := 2
def FB0.evSD : Nat := 3
def FB0.evSF : Nat := 4
def FB0.evEQ_SWAPPED : Nat := 5
def FB0.evEQ_REFUSED : Nat := 6
def FB0.evTP_CHANGED : Nat := 7
def FB0.evTP_REFUSED : Nat := 8
def FB0.evHOLDOVER : Nat := 9
def FB1.evHEC_UNCORR : Nat := 0
def FB1.evKEY_ERR : Nat := 1
def FB1.evROGUE_RUN : Nat := 2
def FB1.evREJOIN_START : Nat := 3
def FB1.evREJOIN_END : Nat := 4
def FB1.evREJOIN_STALLED : Nat := 5
def FB1.evRECOV_RESET : Nat := 6
def FB1.evTAGLESS : Nat := 7
/-! Table 4.8. -/

def FB2.evSTATE_CHANGE : Nat := 0
def FB2.evACTIVATED : Nat := 1
def FB2.evEMERGENCY_STOP : Nat := 2
def FB2.evTO_EXPIRED : Nat := 3
def FB2.evKEY_SWITCHED : Nat := 4
def FB2.evMIC_ERR : Nat := 5
def FB2.evPM_CHANGE : Nat := 6
def FB3.evROGUE_SHUT : Nat := 0
def FB3.evBWMAP_LOST : Nat := 1
def FB3.evGRANT_OVERLAP : Nat := 2
def FB3.evPREDICT_FULL : Nat := 3
def FB3.evGASP : Nat := 4
def FB3.evUNBOUND_GRANT : Nat := 5
/-! Table 5.11. -/

def PRS.evDEPTH_EXCEEDED : Nat := 0
def PRS.evMALFORMED : Nat := 1
def PRS.evLEN_CONFLICT : Nat := 2
def CLS.evSWAPPED : Nat := 0
def CLS.evSWAP_REFUSED : Nat := 1
def CLS.evLOAD_DONE : Nat := 2
def CLS.evBANK_RETIRED : Nat := 3
def CLS.evTREE_FAULT : Nat := 4
def CLS.evRECIRC_FULL : Nat := 5
def CLS.evMISS_RING_FULL : Nat := 6
def CUL.evCUL_ENTRY : Nat := 0
def CUL.evCUL_FULL : Nat := 1
/-! Table 6.6. -/

def FLW.evTABLE_FULL : Nat := 0
def FLW.evBUCKET_FULL : Nat := 1
def FLW.evLEARN_RING_FULL : Nat := 2
def FLW.evEXPORT_LOST : Nat := 3
def FLW.evDBE_INVALIDATED : Nat := 4
def FLW.evREADY : Nat := 5
def FLP.evPROFILE_REFUSED : Nat := 0
/-! Table 7.11. -/

def SQR0.evPOOL_EMPTY : Nat := 0
def SQR0.evPOOL_LOW : Nat := 1
def SQR0.evCHANNEL_PARKED : Nat := 2
def SQR0.evDBE_PARKED : Nat := 3
def SQR1.evDOUBLE_FREE : Nat := 0
def SQR1.evREF_REFUSED : Nat := 1
def SQR2.evLOG_OVERRUN : Nat := 0
/-! Table 8.14. -/

def SCH0.evLATE : Nat := 0
def SCH0.evCFG_REFUSED : Nat := 1
def SCH0.evDEADLINE_OVERRIDE : Nat := 2
def SCH0.evLEAN_SUSPEND : Nat := 3
def SCH0.evCAPACITY_CHANGE : Nat := 4
def SCH0.evDUP_MISMATCH : Nat := 5
def SCH2.evGATE_BASE_MOVED : Nat := 0
def SCH2.evGATE_STARTED : Nat := 1
def SCH2.evGATE_REFUSED : Nat := 2
def BOL.evDUP_MISMATCH : Nat := 0
def BOL.evDOWNGRADE : Nat := 1
def UPA.evCFG_REFUSED : Nat := 0
/-! Table 9.10. -/

def CWY.evMASKED_FAULT : Nat := 0
def CWY.evCONTAINED_FAULT : Nat := 1
def CWY.evDOUBLE_FAULT : Nat := 2
def CWY.evSLICE_FENCED : Nat := 3
def CWY.evTEST_DONE : Nat := 4
def CWY.evSLICE_RETURNED : Nat := 5
def CWY.evRTS_REFUSED : Nat := 6
def CWY.evLEDGER_FULL : Nat := 7
def CWY.evSLICE_DEGRADED : Nat := 8
def XNG.evVOTE_MASKED : Nat := 0
def XNG.evVOTE_FAILED : Nat := 1
/-! Table 10.12. -/

def KRB.evLINK_UP : Nat := 0
def KRB.evLINK_DOWN : Nat := 1
def KRB.evFALLBACK : Nat := 2
def KRB.evRESTORED : Nat := 3
def KRB.evCFG_IGNORED : Nat := 4
def LAN.evLANE_LOST : Nat := 0
def LAN.evPRBS_LOCK : Nat := 1
def KREF.evSPREAD_REFUSED : Nat := 0
def KREF.evKREF_UNLOCK : Nat := 1
/-! Table 11.7. -/

def TIM0.evSTATE_CHANGE : Nat := 0
def TIM0.evSTEP_APPLIED : Nat := 1
def TIM0.evJUMP_REFUSED : Nat := 2
def TIM0.evTOD_LOADED : Nat := 3
def TIM0.evINCR_RECOMPUTED : Nat := 4
def TIM1.evLAMP_MOVED : Nat := 0
def TIM1.evLAMP_REFUSED : Nat := 1
def TIM1.evLAMP_LATE : Nat := 2
def TIM1.evPPS_REJECT : Nat := 3
def TIM1.evINPUT_STUCK : Nat := 4
def TIM1.evPPS_LOST : Nat := 5
def TIM1.evCAP_OVF : Nat := 6
def TIM2.evTXTS_OVERFLOW : Nat := 0
def TIM2.evONESTEP_STALE : Nat := 1
/-! Table 12.11. -/

def TRM0.evDEFECT : Nat := 0
def TRM0.evSLIP : Nat := 1
def TRM0.evCRC4_INTERWORK : Nat := 2
def TRM0.evCLOCK_LOST : Nat := 3
def TRM0.evFRAMER_FAULT : Nat := 4
def TRM1.evJB_EVENT : Nat := 0
def TRM1.evLOSS_STATE : Nat := 1
def TRM1.evREMOTE : Nat := 2
def TRM1.evRECORD_REFUSED : Nat := 3
def TRM2.evBIN_CLOSED : Nat := 0
/-! Table 13.14. -/

def MEW0.evMEWS_FAULT : Nat := 0
def MEW0.evROLE_RESTARTED : Nat := 1
def MEW0.evROLE_HELD : Nat := 2
def MEW0.evROLE_STOPPED : Nat := 3
def MEW0.evTRAP : Nat := 4
def MEW0.evCORE_TESTED : Nat := 5
def MEW0.evROUTER_FAULT : Nat := 6
def MEW0.evGUARD_OVF : Nat := 7
def MEW1.evROLE_CHANGED : Nat := 0
def MEW1.evROLE_REFUSED : Nat := 1
def MEW2.evLOAD_DONE : Nat := 0
/-! Table 14.9. -/

def ARC0.evSEG_UNCORR : Nat := 0
def ARC0.evPACKAGE_LOST : Nat := 1
def ARC0.evWEAR_WARN : Nat := 2
def ARC0.evREAD_ONLY : Nat := 3
def ARC0.evGAP : Nat := 4
def ARC0.evGAP_LOST : Nat := 5
def ARC1.evOBJECT_COMPLETE : Nat := 0
def ARC1.evCOMMAND_DONE : Nat := 1
def ARC2.evRING_RESIZED : Nat := 0
def ARC2.evREADER_OVERRUN : Nat := 1
/-! Table 15.9. -/

def THL.evTAKEOVER : Nat := 0
def THL.evPAIR_TESTED : Nat := 1
def THL.evFUNC_CHANGED : Nat := 2
def THL.evFUNC_REFUSED : Nat := 3
def THL.evYUNAGER_RESTART : Nat := 4
def HST0.evLINK_CHANGE : Nat := 0
def HST0.evFLR : Nat := 1
def HST0.evUNCORRECTABLE : Nat := 2
def HST1.evRING_STOPPED : Nat := 0
def HST1.evRING_REFUSED : Nat := 1
def HST1.evTAIL_ERR : Nat := 2
def HST2.evNO_ROOM : Nat := 0
/-! Table 16.9. -/

def SEC0.evBOOT_FALLBACK : Nat := 0
def SEC0.evTRIAL_FAILED : Nat := 1
def SEC0.evRESUME_REFUSED : Nat := 2
def SEC0.evFUSE_DONE : Nat := 3
def SEC1.evQUOTE_DONE : Nat := 0
def SEC1.evLOG_OVERFLOW : Nat := 1
def SEC2.evDEBUG_GRANTED : Nat := 0
def SEC2.evDEBUG_REFUSED : Nat := 1
def SEC2.evDEBUG_ENDED : Nat := 2
def SEC2.evRB_RAISED : Nat := 3
def SEC2.evRNG_FAIL : Nat := 4
def SEC2.evKEY_DBE : Nat := 5
/-! Table 17.13. -/

def PWR0.evMODE_CHANGE : Nat := 0
def PWR0.evSTATE_CHANGE : Nat := 1
def PWR0.evREQ_REFUSED : Nat := 2
def PWR0.evPD_CHANGE : Nat := 3
def PWR1.evFEED_WARN : Nat := 0
def PWR1.evFEED_FAIL : Nat := 1
def PWR1.evBUDGET_LOW : Nat := 2
def PWR1.evPMBUS_LOST : Nat := 3
def PWR1.evWAKE_STUCK : Nat := 4
def PWR1.evALM_CHANGE : Nat := 5
def PWR1.evALM_CHATTER : Nat := 6
/-! Table 18.12. -/

def GEN.evEVT_LOST : Nat := 0
def GEN.evLOCK_VIOLATION : Nat := 1
def GEN.evBAD_ACCESS : Nat := 2
def GEN.evREG_DBE : Nat := 3
def GEN.evCHANNEL_OUT : Nat := 4
def GEN.evCHANNEL_BACK : Nat := 5
def GEN.evREBUILD_DONE : Nat := 6
def GEN.evCLOCK_FAULT : Nat := 7
def GEN.evDEFERRED_LOST : Nat := 8
def FLOG.evFLOG_WRAP : Nat := 0
def MON0.evTHRESHOLD : Nat := 0
def MON0.evCONFIG_REFUSED : Nat := 1

end Sys2Proof.Machine
end

