-- ==== Sys2Proof/Machine/Regs.lean ====
section
/-! DEFINITION. The register map: one `Field` per register field of the spec's register tables (BAR0 pages, R516),
named as the table names it, with its offset in the page, its bits, its access code (Table 0.4) and its reset value.
An array of registers is a function of its index. -/

namespace Sys2Proof.Machine

/-- Word `i` of `SLICE_MAP` at reset: entry r is r mod 3, sixteen two-bit entries to a word (Table 6.4, R261). -/
def homeMapWord (i : Nat) : Nat :=
  (List.range 16).foldl (fun a j => a + ((16 * i + j) % 3) * 4 ^ j) 0

/-- `TOTAL` of each pool at the reset configuration (Table 7.1); for P4, its staging slots. -/
def poolTotalReset (p : Nat) : Nat :=
  [1081344, 811008, 480480, 1048576, 157696].getD p 0

/-- Reset configuration of monitor channel `c` (Table 18.7): 0 SOURCE, 1 PARAM, 2 KIND, 3 LO, 4 the word of W or of E and S. -/
def monReset (c w : Nat) : Nat :=
  let e (k s : Nat) := k + s * 256
  let neg (v : Nat) := 2 ^ 32 - v
  let row : List Nat :=
    if c < 36 then [1, (c / 3) + (c % 3) * 16, 1, 0, e 8 1]
    else if c < 38 then [2, c - 36, 0, 0, 2000]
    else if c = 38 then [3, 0, 0, neg 31, 1]
    else if c < 44 then [4, c - 39, 1, 0, e 6 1]
    else if c = 44 then [6, 0, 0, 0, 1000]
    else if c < 47 then [7, c - 45, 0, neg 4000, 250]
    else [8, 0, 0, 0, 2500]
  row.getD w 0

/-! Table 3.7. Page 0x040: receiver, synchronisation, equaliser, timing port. -/

def FB0.DS_CTRL_RX_EN : Field := ⟨0x40, 0, 1, .rws, 0⟩
def FB0.DS_CTRL_LOSS_M : Field := ⟨0x40, 1, 3, .rws, 4⟩
def FB0.DS_STATUS_SYNC_STATE : Field := ⟨0x44, 0, 2, .ro, 0⟩
def FB0.DS_STATUS_LOS : Field := ⟨0x44, 2, 1, .ro, 1⟩
def FB0.DS_STATUS_LODS : Field := ⟨0x44, 3, 1, .ro, 1⟩
def FB0.DS_STATUS_SD : Field := ⟨0x44, 4, 1, .ro, 0⟩
def FB0.DS_STATUS_SF : Field := ⟨0x44, 5, 1, .ro, 0⟩
def FB0.DS_STATUS_TIMING : Field := ⟨0x44, 6, 1, .ro, 0⟩
def FB0.DS_STATUS_REJOIN : Field := ⟨0x44, 7, 1, .ro, 0⟩
def FB0.RX_POWER : Field := ⟨0x48, 0, 16, .ro, 0x8000⟩
def FB0.SFC_LO : Field := ⟨0x4c, 0, 32, .ro, 0⟩
def FB0.SFC_HI : Field := ⟨0x50, 0, 19, .ro, 0⟩
def FB0.FRAME_OFFSET : Field := ⟨0x54, 0, 18, .ro, 0x3ffff⟩
def FB0.SYNC_COUNTS_BAD_FRAMES : Field := ⟨0x58, 0, 16, .rc, 0⟩
def FB0.SYNC_COUNTS_LODS_COUNT : Field := ⟨0x58, 16, 16, .rc, 0⟩
def FB0.HUNT_COUNTS_CAND_REJECTED : Field := ⟨0x5c, 0, 16, .rc, 0⟩
def FB0.HUNT_COUNTS_CAND_OVERFLOW : Field := ⟨0x5c, 16, 16, .rc, 0⟩
def FB0.EQ_CTRL_SWAP : Field := ⟨0x80, 0, 1, .w1s, 0⟩
def FB0.EQ_CTRL_ACTIVE_SET : Field := ⟨0x80, 1, 1, .ro, 0⟩
def FB0.EQ_CTRL_FREEZE : Field := ⟨0x80, 2, 1, .rw, 0⟩
def FB0.EQ_CTRL_CAPTURE_EN : Field := ⟨0x80, 3, 1, .rw, 1⟩
def FB0.EQ_CTRL_CAPTURE_OFFSET : Field := ⟨0x80, 16, 12, .rw, 0x10⟩
def FB0.EQ_SHADOW (i : Nat) : Field := ⟨0xc0 + 4 * i, 0, 16, .rw, if i = 7 then 0x4000 else 0⟩
def FB0.EQ_ACTIVE (i : Nat) : Field := ⟨0x140 + 4 * i, 0, 16, .ro, if i = 7 then 0x4000 else 0⟩
def FB0.TP_CTRL_PREFERRED : Field := ⟨0x200, 0, 1, .rws, 0⟩
def FB0.TP_CTRL_POLICY : Field := ⟨0x200, 1, 2, .rws, 1⟩
def FB0.TP_FORCE_FORCE : Field := ⟨0x204, 0, 1, .wo, 0⟩
def FB0.TP_WTR : Field := ⟨0x208, 0, 32, .rws, 0x249f00⟩
def FB0.TP_STATUS_CURRENT : Field := ⟨0x20c, 0, 1, .ro, 0⟩
def FB0.TP_STATUS_QUAL : Field := ⟨0x20c, 1, 2, .ro, 0⟩
def FB0.TP_STATUS_PLL_STATE : Field := ⟨0x20c, 3, 2, .ro, 0⟩
def FB0.TP_STATUS_FORCE_RESULT : Field := ⟨0x20c, 5, 2, .ro, 0⟩
def FB0.TP_FREQ_DIFF : Field := ⟨0x210, 0, 32, .ro, 0⟩
def FB0.TP_CHANGES : Field := ⟨0x214, 0, 16, .rc, 0⟩

/-- Every field of the table above. -/
def FB0.fields : List Field :=
  [FB0.DS_CTRL_RX_EN, FB0.DS_CTRL_LOSS_M, FB0.DS_STATUS_SYNC_STATE, FB0.DS_STATUS_LOS, FB0.DS_STATUS_LODS, FB0.DS_STATUS_SD, FB0.DS_STATUS_SF, FB0.DS_STATUS_TIMING, FB0.DS_STATUS_REJOIN, FB0.RX_POWER, FB0.SFC_LO, FB0.SFC_HI]
  ++ [FB0.FRAME_OFFSET, FB0.SYNC_COUNTS_BAD_FRAMES, FB0.SYNC_COUNTS_LODS_COUNT, FB0.HUNT_COUNTS_CAND_REJECTED, FB0.HUNT_COUNTS_CAND_OVERFLOW, FB0.EQ_CTRL_SWAP, FB0.EQ_CTRL_ACTIVE_SET, FB0.EQ_CTRL_FREEZE, FB0.EQ_CTRL_CAPTURE_EN, FB0.EQ_CTRL_CAPTURE_OFFSET]
  ++ (List.range 18).map FB0.EQ_SHADOW
  ++ (List.range 18).map FB0.EQ_ACTIVE
  ++ [FB0.TP_CTRL_PREFERRED, FB0.TP_CTRL_POLICY, FB0.TP_FORCE_FORCE, FB0.TP_WTR, FB0.TP_STATUS_CURRENT, FB0.TP_STATUS_QUAL, FB0.TP_STATUS_PLL_STATE, FB0.TP_STATUS_FORCE_RESULT, FB0.TP_FREQ_DIFF, FB0.TP_CHANGES]

/-! Table 3.8. Page 0x041: FEC, XGEM and recovery. -/

def FB1.FEC_CTRL_MAX_ITER : Field := ⟨0x40, 0, 4, .rws, 0xc⟩
def FB1.FEC_CTRL_SF_THRESH : Field := ⟨0x40, 8, 8, .rws, 8⟩
def FB1.SD_THRESH : Field := ⟨0x44, 0, 32, .rws, 0x989680⟩
def FB1.FEC_CW : Field := ⟨0x48, 0, 32, .rc, 0⟩
def FB1.FEC_CORR_CW : Field := ⟨0x4c, 0, 32, .rc, 0⟩
def FB1.FEC_UNCORR_CW : Field := ⟨0x50, 0, 32, .rc, 0⟩
def FB1.FEC_CORR_BITS : Field := ⟨0x54, 0, 32, .rc, 0⟩
def FB1.HEC_UNCORR : Field := ⟨0x58, 0, 16, .rc, 0⟩
def FB1.KEY_ERR : Field := ⟨0x58, 16, 16, .rc, 0⟩
def FB1.FILTER_MISS : Field := ⟨0x5c, 0, 16, .rc, 0⟩
def FB1.OVERSIZE : Field := ⟨0x5c, 16, 16, .rc, 0⟩
def FB1.REASM_ABORT : Field := ⟨0x60, 0, 16, .rc, 0⟩
def FB1.ENC_REQ_VIOL : Field := ⟨0x60, 16, 16, .rc, 0⟩
def FB1.INGRESS_OVERFLOW : Field := ⟨0x64, 0, 32, .rc, 0⟩
def FB1.FR_PASS : Field := ⟨0x80, 0, 32, .rc, 0⟩
def FB1.FR_DUP : Field := ⟨0x84, 0, 32, .rc, 0⟩
def FB1.FR_OOO : Field := ⟨0x88, 0, 32, .rc, 0⟩
def FB1.FR_ROGUE : Field := ⟨0x8c, 0, 32, .rc, 0⟩
def FB1.FR_RJ_DISCARD : Field := ⟨0x90, 0, 32, .rc, 0⟩
def FB1.FR_TAGLESS : Field := ⟨0x94, 0, 32, .rc, 0⟩
def FB1.RJ_CTRL_END : Field := ⟨0xa0, 0, 1, .w1s, 0⟩
def FB1.RJ_WARN : Field := ⟨0xa4, 0, 32, .rws, 0x13880⟩
def FB1.RJ_STREAMS : Field := ⟨0xa8, 0, 16, .ro, 0⟩
def FB1.TBL_ADDR : Field := ⟨0x100, 0, 10, .rw, 0⟩

/-- Every field of the table above. -/
def FB1.fields : List Field :=
  [FB1.FEC_CTRL_MAX_ITER, FB1.FEC_CTRL_SF_THRESH, FB1.SD_THRESH, FB1.FEC_CW, FB1.FEC_CORR_CW, FB1.FEC_UNCORR_CW, FB1.FEC_CORR_BITS, FB1.HEC_UNCORR, FB1.KEY_ERR, FB1.FILTER_MISS, FB1.OVERSIZE, FB1.REASM_ABORT]
  ++ [FB1.ENC_REQ_VIOL, FB1.INGRESS_OVERFLOW, FB1.FR_PASS, FB1.FR_DUP, FB1.FR_OOO, FB1.FR_ROGUE, FB1.FR_RJ_DISCARD, FB1.FR_TAGLESS, FB1.RJ_CTRL_END, FB1.RJ_WARN, FB1.RJ_STREAMS, FB1.TBL_ADDR]

/-! Table 4.5. Page 0x042: activation, keys and power management. -/

def FB2.ACT_CTRL_ACT_EN : Field := ⟨0x40, 0, 1, .rws, 0⟩
def FB2.ACT_STATUS_STATE : Field := ⟨0x44, 0, 4, .ro, 0⟩
def FB2.ACT_STATUS_HOST_ASSIST : Field := ⟨0x44, 4, 1, .ro, 0⟩
def FB2.ACT_STATUS_MODE_PENDING : Field := ⟨0x44, 5, 1, .ro, 0⟩
def FB2.ACT_CMD : Field := ⟨0x48, 0, 3, .wo, 0⟩
def FB2.ACT_CMD_APPLY_EQD : Field := ⟨0x48, 3, 1, .wo, 0⟩
def FB2.ACT_CMD_RESULT : Field := ⟨0x48, 8, 2, .ro, 0⟩
def FB2.ONU_ID : Field := ⟨0x4c, 0, 10, .ro, 0x3ff⟩
def FB2.EQD : Field := ⟨0x50, 0, 32, .ro, 0⟩
def FB2.SN_VENDOR : Field := ⟨0x54, 0, 32, .ro, 0x52534e47⟩
def FB2.SN_VSSN : Field := ⟨0x58, 0, 32, .ro, 0⟩
def FB2.TO1_TICKS : Field := ⟨0x5c, 0, 32, .rws, 0x13880⟩
def FB2.TO2_TICKS : Field := ⟨0x60, 0, 16, .rws, 0x320⟩
def FB2.RESP_TIME : Field := ⟨0x64, 0, 16, .ro, 0x88b8⟩
def FB2.PLOAM_RX : Field := ⟨0x68, 0, 16, .rc, 0⟩
def FB2.PLOAM_MIC_ERR : Field := ⟨0x68, 16, 16, .rc, 0⟩
def FB2.PLOAM_TX : Field := ⟨0x6c, 0, 16, .rc, 0⟩
def FB2.SN_RESPONSES : Field := ⟨0x6c, 16, 16, .rc, 0⟩
def FB2.ACT_DATA_ONU_ID : Field := ⟨0x70, 0, 10, .rw, 0x3ff⟩
def FB2.ACT_EQD : Field := ⟨0x74, 0, 32, .rw, 0⟩
def FB2.REG_ID (i : Nat) : Field := ⟨0x80 + 4 * i, 0, 32, .rws, 0⟩
def FB2.KEY_STATUS_VALID : Field := ⟨0xc0, 0, 2, .ro, 0⟩
def FB2.KEY_STATUS_ACTIVE : Field := ⟨0xc0, 2, 2, .ro, 0⟩
def FB2.KEY_STATUS_SWITCH_PENDING : Field := ⟨0xc0, 4, 1, .ro, 0⟩
def FB2.KEY_SWITCH_SFC : Field := ⟨0xc4, 0, 32, .ro, 0⟩
def FB2.PM_CTRL_WSL_ALLOW : Field := ⟨0xe0, 0, 1, .rws, 0⟩
def FB2.PM_CTRL_ILOWPOWER_MAX : Field := ⟨0xe0, 8, 7, .rws, 0x50⟩
def FB2.PM_STATUS_STATE : Field := ⟨0xe4, 0, 2, .ro, 0⟩
def FB2.PM_LOWPOWER_TICKS : Field := ⟨0xe8, 0, 32, .rc, 0⟩

/-- Every field of the table above. -/
def FB2.fields : List Field :=
  [FB2.ACT_CTRL_ACT_EN, FB2.ACT_STATUS_STATE, FB2.ACT_STATUS_HOST_ASSIST, FB2.ACT_STATUS_MODE_PENDING, FB2.ACT_CMD, FB2.ACT_CMD_APPLY_EQD, FB2.ACT_CMD_RESULT, FB2.ONU_ID, FB2.EQD, FB2.SN_VENDOR, FB2.SN_VSSN, FB2.TO1_TICKS]
  ++ [FB2.TO2_TICKS, FB2.RESP_TIME, FB2.PLOAM_RX, FB2.PLOAM_MIC_ERR, FB2.PLOAM_TX, FB2.SN_RESPONSES, FB2.ACT_DATA_ONU_ID, FB2.ACT_EQD]
  ++ (List.range 9).map FB2.REG_ID
  ++ [FB2.KEY_STATUS_VALID, FB2.KEY_STATUS_ACTIVE, FB2.KEY_STATUS_SWITCH_PENDING, FB2.KEY_SWITCH_SFC, FB2.PM_CTRL_WSL_ALLOW, FB2.PM_CTRL_ILOWPOWER_MAX, FB2.PM_STATUS_STATE, FB2.PM_LOWPOWER_TICKS]

/-! Table 4.6. Page 0x043: bursts, prediction, replication and the Alloc-ID table. -/

def FB3.US_CTRL_TX_EN : Field := ⟨0x40, 0, 1, .rws, 0⟩
def FB3.US_CTRL_ROGUE_CLEAR : Field := ⟨0x40, 1, 1, .w1s, 0⟩
def FB3.US_STATUS_RATE : Field := ⟨0x44, 0, 2, .ro, 3⟩
def FB3.US_STATUS_LASER_ON : Field := ⟨0x44, 2, 1, .ro, 0⟩
def FB3.US_STATUS_ROGUE_SHUT : Field := ⟨0x44, 3, 1, .ro, 0⟩
def FB3.US_STATUS_GASP : Field := ⟨0x44, 4, 1, .ro, 0⟩
def FB3.TX_POWER : Field := ⟨0x48, 0, 16, .ro, 0x8000⟩
def FB3.BUILD_ENTRIES : Field := ⟨0x4c, 0, 16, .ro, 0⟩
def FB3.BURSTS : Field := ⟨0x50, 0, 32, .rc, 0⟩
def FB3.GRANT_MATCH : Field := ⟨0x54, 0, 32, .rc, 0⟩
def FB3.GRANT_TRIM : Field := ⟨0x58, 0, 32, .rc, 0⟩
def FB3.GRANT_EXTEND : Field := ⟨0x5c, 0, 32, .rc, 0⟩
def FB3.RETURNED : Field := ⟨0x60, 0, 32, .rc, 0⟩
def FB3.FRAGMENTS : Field := ⟨0x64, 0, 32, .rc, 0⟩
def FB3.IDLE_BYTES : Field := ⟨0x68, 0, 32, .rc, 0⟩
def FB3.BWMAP_LOST : Field := ⟨0x6c, 0, 16, .rc, 0⟩
def FB3.GRANT_OVERLAP : Field := ⟨0x6c, 16, 16, .rc, 0⟩
def FB3.UNBOUND_FILL : Field := ⟨0x70, 0, 16, .rc, 0⟩
def FB3.PREDICT_FULL : Field := ⟨0x70, 16, 16, .rc, 0⟩
def FB3.REPL_COPIES : Field := ⟨0x74, 0, 32, .rc, 0⟩
def FB3.SINGLE_HOMED : Field := ⟨0x78, 0, 32, .rc, 0⟩
def FB3.GASP_SENT : Field := ⟨0x7c, 0, 8, .rc, 0⟩
def FB3.TBL_ADDR : Field := ⟨0x100, 0, 6, .rw, 0⟩

/-- Every field of the table above. -/
def FB3.fields : List Field :=
  [FB3.US_CTRL_TX_EN, FB3.US_CTRL_ROGUE_CLEAR, FB3.US_STATUS_RATE, FB3.US_STATUS_LASER_ON, FB3.US_STATUS_ROGUE_SHUT, FB3.US_STATUS_GASP, FB3.TX_POWER, FB3.BUILD_ENTRIES, FB3.BURSTS, FB3.GRANT_MATCH, FB3.GRANT_TRIM, FB3.GRANT_EXTEND]
  ++ [FB3.RETURNED, FB3.FRAGMENTS, FB3.IDLE_BYTES, FB3.BWMAP_LOST, FB3.GRANT_OVERLAP, FB3.UNBOUND_FILL, FB3.PREDICT_FULL, FB3.REPL_COPIES, FB3.SINGLE_HOMED, FB3.GASP_SENT, FB3.TBL_ADDR]

/-! Table 5.8. Page 0x0C0: parser. -/

def PRS.PROFILE_MAX_HEADERS (p : Nat) : Field := ⟨0x40 + 4 * p, 0, 4, .rws, 0xc⟩
def PRS.PROFILE_WINDOW (p : Nat) : Field := ⟨0x40 + 4 * p, 4, 4, .rws, 8⟩
def PRS.TPID_EXTRA : Field := ⟨0x70, 0, 16, .rws, 0x9100⟩
def PRS.TPID_EXTRA_EN : Field := ⟨0x70, 16, 1, .rws, 0⟩
def PRS.VXLAN_PORT : Field := ⟨0x74, 0, 16, .rws, 0x12b5⟩
def PRS.GTPU_PORT : Field := ⟨0x74, 16, 16, .rws, 0x868⟩
def PRS.ITEMS (p : Nat) : Field := ⟨0x200 + 0x20 * p, 0, 32, .rc, 0⟩
def PRS.FCS_SQUASH (p : Nat) : Field := ⟨0x204 + 0x20 * p, 0, 32, .rc, 0⟩
def PRS.DEPTH_EXCEEDED (p : Nat) : Field := ⟨0x208 + 0x20 * p, 0, 32, .rc, 0⟩
def PRS.MALFORMED (p : Nat) : Field := ⟨0x20c + 0x20 * p, 0, 32, .rc, 0⟩
def PRS.LEN_CONFLICT (p : Nat) : Field := ⟨0x210 + 0x20 * p, 0, 32, .rc, 0⟩
def PRS.IP_CSUM_BAD (p : Nat) : Field := ⟨0x214 + 0x20 * p, 0, 32, .rc, 0⟩

/-- Every field of the table above. -/
def PRS.fields : List Field :=
  (List.range 11).map PRS.PROFILE_MAX_HEADERS
  ++ (List.range 11).map PRS.PROFILE_WINDOW
  ++ [PRS.TPID_EXTRA, PRS.TPID_EXTRA_EN, PRS.VXLAN_PORT, PRS.GTPU_PORT]
  ++ (List.range 11).map PRS.ITEMS
  ++ (List.range 11).map PRS.FCS_SQUASH
  ++ (List.range 11).map PRS.DEPTH_EXCEEDED
  ++ (List.range 11).map PRS.MALFORMED
  ++ (List.range 11).map PRS.LEN_CONFLICT
  ++ (List.range 11).map PRS.IP_CSUM_BAD

/-! Table 5.9. Page 0x0C8: banks, defaults and recirculation. -/

def CLS.CLS_CTRL_MAX_PASSES : Field := ⟨0x40, 0, 2, .rws, 2⟩
def CLS.BANK_CTRL_SWAP : Field := ⟨0x44, 0, 1, .wo, 0⟩
def CLS.BANK_STATUS_ACTIVE : Field := ⟨0x48, 0, 1, .ro, 0⟩
def CLS.BANK_STATUS_SWAP_PENDING : Field := ⟨0x48, 1, 1, .ro, 0⟩
def CLS.BANK_STATUS_A_STATE : Field := ⟨0x48, 2, 2, .ro, 0⟩
def CLS.BANK_STATUS_B_STATE : Field := ⟨0x48, 4, 2, .ro, 0⟩
def CLS.BANK_STATUS_SWAP_RESULT : Field := ⟨0x48, 6, 2, .ro, 0⟩
def CLS.EPOCH : Field := ⟨0x4c, 0, 32, .ro, 0⟩
def CLS.DRAIN_A : Field := ⟨0x50, 0, 16, .ro, 0⟩
def CLS.DRAIN_B : Field := ⟨0x50, 16, 16, .ro, 0⟩
def CLS.LOAD_SRC_LO : Field := ⟨0x54, 0, 32, .rw, 0⟩
def CLS.LOAD_SRC_HI : Field := ⟨0x58, 0, 32, .rw, 0⟩
def CLS.LOAD_LEN : Field := ⟨0x5c, 0, 30, .rw, 0⟩
def CLS.LOAD_CTRL_START : Field := ⟨0x60, 0, 1, .w1s, 0⟩
def CLS.LOAD_CTRL_FROM_ARCADE : Field := ⟨0x60, 1, 1, .rw, 0⟩
def CLS.LOAD_STATUS_BUSY : Field := ⟨0x64, 0, 1, .ro, 0⟩
def CLS.LOAD_STATUS_RESULT : Field := ⟨0x64, 1, 3, .ro, 0⟩
def CLS.IMAGE_ID_A (i : Nat) : Field := ⟨0x68 + 4 * i, 0, 32, .ro, 0⟩
def CLS.IMAGE_ID_B (i : Nat) : Field := ⟨0x70 + 4 * i, 0, 32, .ro, 0⟩
def CLS.MISS_MODE : Field := ⟨0x78, 0, 11, .rws, 0⟩
def CLS.MISS_RING : Field := ⟨0x7c, 0, 6, .rws, 0⟩
def CLS.DEFAULT_NOMATCH (p : Nat) : Field := ⟨0x80 + 4 * p, 0, 4, .rws, 0⟩
def CLS.DEFAULT_PARSEFAIL (p : Nat) : Field := ⟨0x80 + 4 * p, 4, 4, .rws, 0⟩
def CLS.LOOKUPS : Field := ⟨0xc0, 0, 32, .rc, 0⟩
def CLS.NO_MATCH : Field := ⟨0xc4, 0, 32, .rc, 0⟩
def CLS.PARSE_FAIL_DEFAULT : Field := ⟨0xc8, 0, 32, .rc, 0⟩
def CLS.EPOCH_REDO : Field := ⟨0xcc, 0, 32, .rc, 0⟩
def CLS.DUAL_WALKS : Field := ⟨0xd0, 0, 32, .rc, 0⟩
def CLS.RECIRC_PASSES : Field := ⟨0xd4, 0, 32, .rc, 0⟩
def CLS.RECIRC_FULL : Field := ⟨0xd8, 0, 16, .rc, 0⟩
def CLS.RECIRC_LIMIT : Field := ⟨0xd8, 16, 16, .rc, 0⟩
def CLS.TREE_FAULT : Field := ⟨0xdc, 0, 16, .rc, 0⟩
def CLS.MISS_RING_FULL : Field := ⟨0xdc, 16, 16, .rc, 0⟩
def CLS.RECIRC_LEVEL : Field := ⟨0xe0, 0, 15, .ro, 0⟩
def CLS.TBL_ADDR : Field := ⟨0x100, 0, 4, .rw, 0⟩

/-- Every field of the table above. -/
def CLS.fields : List Field :=
  [CLS.CLS_CTRL_MAX_PASSES, CLS.BANK_CTRL_SWAP, CLS.BANK_STATUS_ACTIVE, CLS.BANK_STATUS_SWAP_PENDING, CLS.BANK_STATUS_A_STATE, CLS.BANK_STATUS_B_STATE, CLS.BANK_STATUS_SWAP_RESULT, CLS.EPOCH, CLS.DRAIN_A, CLS.DRAIN_B, CLS.LOAD_SRC_LO, CLS.LOAD_SRC_HI]
  ++ [CLS.LOAD_LEN, CLS.LOAD_CTRL_START, CLS.LOAD_CTRL_FROM_ARCADE, CLS.LOAD_STATUS_BUSY, CLS.LOAD_STATUS_RESULT]
  ++ (List.range 2).map CLS.IMAGE_ID_A
  ++ (List.range 2).map CLS.IMAGE_ID_B
  ++ [CLS.MISS_MODE, CLS.MISS_RING]
  ++ (List.range 11).map CLS.DEFAULT_NOMATCH
  ++ (List.range 11).map CLS.DEFAULT_PARSEFAIL
  ++ [CLS.LOOKUPS, CLS.NO_MATCH, CLS.PARSE_FAIL_DEFAULT, CLS.EPOCH_REDO, CLS.DUAL_WALKS, CLS.RECIRC_PASSES, CLS.RECIRC_FULL, CLS.RECIRC_LIMIT, CLS.TREE_FAULT, CLS.MISS_RING_FULL, CLS.RECIRC_LEVEL, CLS.TBL_ADDR]

/-! Table 5.10. Page 0x0C9: the Cul-de-sac. -/

def CUL.CUL_CTRL_FULL_MODE : Field := ⟨0x40, 0, 1, .rws, 0⟩
def CUL.CUL_CTRL_CUL_LIMIT : Field := ⟨0x40, 16, 13, .rws, 0x400⟩
def CUL.CUL_STATUS_COUNT : Field := ⟨0x44, 0, 13, .ro, 0⟩
def CUL.CUL_STATUS_OLDEST : Field := ⟨0x44, 16, 12, .ro, 0⟩
def CUL.CUL_IN : Field := ⟨0x48, 0, 32, .rc, 0⟩
def CUL.CUL_DISCARDED : Field := ⟨0x4c, 0, 32, .rc, 0⟩
def CUL.CUL_REPLACED : Field := ⟨0x50, 0, 32, .rc, 0⟩
def CUL.CUL_CMD_OP : Field := ⟨0x54, 0, 2, .wo, 0⟩
def CUL.CUL_CMD_INDEX : Field := ⟨0x54, 4, 12, .wo, 0⟩
def CUL.CUL_CMD_RING : Field := ⟨0x54, 16, 6, .wo, 0⟩
def CUL.CUL_CMD_RESULT : Field := ⟨0x58, 0, 2, .ro, 0⟩
def CUL.TBL_ADDR : Field := ⟨0x100, 0, 12, .rw, 0⟩

/-- Every field of the table above. -/
def CUL.fields : List Field :=
  [CUL.CUL_CTRL_FULL_MODE, CUL.CUL_CTRL_CUL_LIMIT, CUL.CUL_STATUS_COUNT, CUL.CUL_STATUS_OLDEST, CUL.CUL_IN, CUL.CUL_DISCARDED, CUL.CUL_REPLACED, CUL.CUL_CMD_OP, CUL.CUL_CMD_INDEX, CUL.CUL_CMD_RING, CUL.CUL_CMD_RESULT, CUL.TBL_ADDR]

/-! Table 6.4. Page 0x0D0: control, status and table access. -/

def FLW.FLW_CTRL_EN : Field := ⟨0x40, 0, 1, .rw, 0⟩
def FLW.FLW_CTRL_EVICT_MODE : Field := ⟨0x40, 1, 1, .rws, 0⟩
def FLW.FLW_CTRL_EXPORT_EN : Field := ⟨0x40, 2, 1, .rws, 0⟩
def FLW.FLW_STATUS_READY : Field := ⟨0x44, 0, 1, .ro, 0⟩
def FLW.FLW_STATUS_CFG_IGNORED : Field := ⟨0x44, 1, 1, .w1c, 0⟩
def FLW.DIRECT_BASE : Field := ⟨0x48, 0, 23, .rw, 0x480000⟩
def FLW.HASH_SEED : Field := ⟨0x4c, 0, 32, .rw, 0xffffffff⟩
def FLW.HASH_LIMIT : Field := ⟨0x50, 0, 23, .rws, 0x400000⟩
def FLW.HASHED_COUNT : Field := ⟨0x54, 0, 23, .ro, 0⟩
def FLW.LEARN_RATE : Field := ⟨0x58, 0, 24, .rws, 0⟩
def FLW.LEARN_RING : Field := ⟨0x5c, 0, 6, .rws, 0⟩
def FLW.EXPORT_RING : Field := ⟨0x5c, 8, 6, .rws, 0⟩
def FLW.MISS_HOLD : Field := ⟨0x60, 0, 16, .rws, 0x50⟩
def FLW.COUNT_INVALID : Field := ⟨0x64, 0, 32, .rc, 0⟩
def FLW.SLICE_MAP (i : Nat) : Field := ⟨0x80 + 4 * i, 0, 32, .ro, homeMapWord i⟩
def FLW.LOOKUPS : Field := ⟨0xc0, 0, 32, .rc, 0⟩
def FLW.HITS : Field := ⟨0xc4, 0, 32, .rc, 0⟩
def FLW.CACHE_MISSES : Field := ⟨0xc8, 0, 32, .rc, 0⟩
def FLW.LEARNED : Field := ⟨0xcc, 0, 32, .rc, 0⟩
def FLW.HOST_INSERTS : Field := ⟨0xd0, 0, 32, .rc, 0⟩
def FLW.AGED : Field := ⟨0xd4, 0, 32, .rc, 0⟩
def FLW.EVICTED : Field := ⟨0xd8, 0, 32, .rc, 0⟩
def FLW.BUCKET_FULL : Field := ⟨0xdc, 0, 32, .rc, 0⟩
def FLW.TABLE_FULL : Field := ⟨0xe0, 0, 32, .rc, 0⟩
def FLW.LEARN_THROTTLED : Field := ⟨0xe4, 0, 32, .rc, 0⟩
def FLW.MISS_SUPPRESSED : Field := ⟨0xe8, 0, 32, .rc, 0⟩
def FLW.LEARN_RING_FULL : Field := ⟨0xec, 0, 32, .rc, 0⟩
def FLW.EXPORT_LOST : Field := ⟨0xf0, 0, 32, .rc, 0⟩
def FLW.FW_DENIED : Field := ⟨0xf4, 0, 32, .rc, 0⟩
def FLW.DBE_INVALIDATED : Field := ⟨0xf8, 0, 32, .rc, 0⟩
def FLW.DIRECT_FREED : Field := ⟨0xfc, 0, 32, .rc, 0⟩
def FLW.TBL_ADDR_INDEX : Field := ⟨0x100, 0, 23, .rw, 0⟩
def FLW.TBL_ADDR_HALF : Field := ⟨0x100, 24, 1, .rw, 0⟩
def FLW.TBL_ADDR_ALL : Field := ⟨0x100, 25, 1, .rw, 0⟩

/-- Every field of the table above. -/
def FLW.fields : List Field :=
  [FLW.FLW_CTRL_EN, FLW.FLW_CTRL_EVICT_MODE, FLW.FLW_CTRL_EXPORT_EN, FLW.FLW_STATUS_READY, FLW.FLW_STATUS_CFG_IGNORED, FLW.DIRECT_BASE, FLW.HASH_SEED, FLW.HASH_LIMIT, FLW.HASHED_COUNT, FLW.LEARN_RATE, FLW.LEARN_RING, FLW.EXPORT_RING]
  ++ [FLW.MISS_HOLD, FLW.COUNT_INVALID]
  ++ (List.range 12).map FLW.SLICE_MAP
  ++ [FLW.LOOKUPS, FLW.HITS, FLW.CACHE_MISSES, FLW.LEARNED, FLW.HOST_INSERTS, FLW.AGED, FLW.EVICTED, FLW.BUCKET_FULL, FLW.TABLE_FULL, FLW.LEARN_THROTTLED, FLW.MISS_SUPPRESSED, FLW.LEARN_RING_FULL]
  ++ [FLW.EXPORT_LOST, FLW.FW_DENIED, FLW.DBE_INVALIDATED, FLW.DIRECT_FREED, FLW.TBL_ADDR_INDEX, FLW.TBL_ADDR_HALF, FLW.TBL_ADDR_ALL]

/-! Table 6.5. Learn profile n. -/

def FLP.FIELD_MASK (n : Nat) : Field := ⟨0x40 + 0x10 * n, 0, 32, .rws, if n = 0 then 0x070C0001 else 0⟩
def FLP.IDLE_TICKS (n : Nat) : Field := ⟨0x44 + 0x10 * n, 0, 32, .rws, 0x3a980⟩
def FLP.MODE (n : Nat) : Field := ⟨0x48 + 0x10 * n, 0, 1, .rws, 0⟩
def FLP.FW_EN (n : Nat) : Field := ⟨0x48 + 0x10 * n, 1, 1, .rws, 0⟩
def FLP.FW_ORIGIN_REQ (n : Nat) : Field := ⟨0x48 + 0x10 * n, 2, 1, .rws, 0⟩
def FLP.FW_DENY (n : Nat) : Field := ⟨0x48 + 0x10 * n, 3, 1, .rws, 0⟩
def FLP.KEY_LEN (n : Nat) : Field := ⟨0x48 + 0x10 * n, 8, 6, .ro, if n = 0 then 0x0E else 0⟩

/-- Every field of the table above. -/
def FLP.fields : List Field :=
  (List.range 64).map FLP.FIELD_MASK
  ++ (List.range 64).map FLP.IDLE_TICKS
  ++ (List.range 64).map FLP.MODE
  ++ (List.range 64).map FLP.FW_EN
  ++ (List.range 64).map FLP.FW_ORIGIN_REQ
  ++ (List.range 64).map FLP.FW_DENY
  ++ (List.range 64).map FLP.KEY_LEN

/-! Table 7.8. Page 0x0E0: control and pools. -/

def SQR0.SQR_CTRL_HEADROOM : Field := ⟨0x40, 0, 7, .rw, 0x20⟩
def SQR0.SQR_STATUS_READY : Field := ⟨0x44, 0, 1, .ro, 0⟩
def SQR0.SQR_STATUS_CFG_IGNORED : Field := ⟨0x44, 1, 1, .w1c, 0⟩
def SQR0.SQR_STATUS_CHAN_PARKED : Field := ⟨0x44, 8, 8, .ro, 0⟩
def SQR0.POOL_ONDIE_MIB (p : Nat) : Field := ⟨0x80 + 0x20 * p, 0, 5, .rw, [2, 6, 8, 0, 0].getD p 0⟩
def SQR0.POOL_SPILL_MIB (p : Nat) : Field := ⟨0x80 + 0x20 * p, 16, 9, .rw, [0x20, 0x60, 0x80, 0, 0].getD p 0⟩
def SQR0.POOL_NO_BORROW (p : Nat) : Field := ⟨0x80 + 0x20 * p, 31, 1, .rws, 0⟩
def SQR0.EXPRESS_RESV (p : Nat) : Field := ⟨0x84 + 0x20 * p, 0, 21, .rws, if p = 2 then 0x140 else 0⟩
def SQR0.CTRL_RESV (p : Nat) : Field := ⟨0x88 + 0x20 * p, 0, 21, .rws, if p < 2 then 0x400 else 0⟩
def SQR0.TOTAL (p : Nat) : Field := ⟨0x8c + 0x20 * p, 0, 26, .ro, poolTotalReset p⟩
def SQR0.INUSE_EXPRESS (p : Nat) : Field := ⟨0x90 + 0x20 * p, 0, 26, .ro, 0⟩
def SQR0.INUSE_CTRL (p : Nat) : Field := ⟨0x94 + 0x20 * p, 0, 26, .ro, 0⟩
def SQR0.INUSE_SHARED (p : Nat) : Field := ⟨0x98 + 0x20 * p, 0, 26, .ro, 0⟩
def SQR0.LOW_WATER (p : Nat) : Field := ⟨0x9c + 0x20 * p, 0, 21, .rws, 0⟩

/-- Every field of the table above. -/
def SQR0.fields : List Field :=
  [SQR0.SQR_CTRL_HEADROOM, SQR0.SQR_STATUS_READY, SQR0.SQR_STATUS_CFG_IGNORED, SQR0.SQR_STATUS_CHAN_PARKED]
  ++ (List.range 3).map SQR0.POOL_ONDIE_MIB
  ++ (List.range 3).map SQR0.POOL_SPILL_MIB
  ++ (List.range 5).map SQR0.POOL_NO_BORROW
  ++ (List.range 5).map SQR0.EXPRESS_RESV
  ++ (List.range 5).map SQR0.CTRL_RESV
  ++ (List.range 5).map SQR0.TOTAL
  ++ (List.range 5).map SQR0.INUSE_EXPRESS
  ++ (List.range 5).map SQR0.INUSE_CTRL
  ++ (List.range 5).map SQR0.INUSE_SHARED
  ++ (List.range 5).map SQR0.LOW_WATER

/-! Table 7.9. Page 0x0E1: requesters and counters. -/

def SQR1.XPID_A_XPID_LO : Field := ⟨0x40, 0, 16, .rws, 0xffff⟩
def SQR1.XPID_A_XPID_HI : Field := ⟨0x40, 16, 16, .rws, 0⟩
def SQR1.XPID_B_XPID_LO : Field := ⟨0x44, 0, 16, .rws, 0xffff⟩
def SQR1.XPID_B_XPID_HI : Field := ⟨0x44, 16, 16, .rws, 0⟩
def SQR1.GRANTS (r : Nat) : Field := ⟨0x80 + 0x10 * r, 0, 32, .rc, 0⟩
def SQR1.EMPTY (r : Nat) : Field := ⟨0x84 + 0x10 * r, 0, 32, .rc, 0⟩
def SQR1.BORROWED (r : Nat) : Field := ⟨0x88 + 0x10 * r, 0, 32, .rc, 0⟩
def SQR1.REFUSALS (r : Nat) : Field := ⟨0x8c + 0x10 * r, 0, 32, .rc, 0⟩
def SQR1.DOUBLE_FREE : Field := ⟨0x140, 0, 32, .rc, 0⟩
def SQR1.HOLDER_REFUSED : Field := ⟨0x144, 0, 32, .rc, 0⟩
def SQR1.REF_SATURATED : Field := ⟨0x148, 0, 32, .rc, 0⟩
def SQR1.BAD_HANDLE : Field := ⟨0x14c, 0, 32, .rc, 0⟩
def SQR1.DISCARD_FREES : Field := ⟨0x150, 0, 32, .rc, 0⟩
def SQR1.PARKED_DBE : Field := ⟨0x154, 0, 32, .rc, 0⟩
def SQR1.OVERSIZE : Field := ⟨0x158, 0, 32, .rc, 0⟩
def SQR1.COMMIT_REFUSALS : Field := ⟨0x15c, 0, 32, .rc, 0⟩
def SQR1.NOT_ALLOCATED : Field := ⟨0x160, 0, 32, .rc, 0⟩

/-- Every field of the table above. -/
def SQR1.fields : List Field :=
  [SQR1.XPID_A_XPID_LO, SQR1.XPID_A_XPID_HI, SQR1.XPID_B_XPID_LO, SQR1.XPID_B_XPID_HI]
  ++ (List.range 12).map SQR1.GRANTS
  ++ (List.range 12).map SQR1.EMPTY
  ++ (List.range 12).map SQR1.BORROWED
  ++ (List.range 12).map SQR1.REFUSALS
  ++ [SQR1.DOUBLE_FREE, SQR1.HOLDER_REFUSED, SQR1.REF_SATURATED, SQR1.BAD_HANDLE, SQR1.DISCARD_FREES, SQR1.PARKED_DBE, SQR1.OVERSIZE, SQR1.COMMIT_REFUSALS, SQR1.NOT_ALLOCATED]

/-! Table 7.10. Page 0x0E2: table access and refusal log. -/

def SQR2.LOG_STATUS_COUNT : Field := ⟨0x40, 0, 5, .ro, 0⟩
def SQR2.LOG_STATUS_NEWEST : Field := ⟨0x40, 8, 4, .ro, 0⟩
def SQR2.LOG_STATUS_LOG_OVERRUN : Field := ⟨0x40, 16, 1, .w1c, 0⟩
def SQR2.LOG_CLEAR : Field := ⟨0x44, 0, 1, .w1s, 0⟩
def SQR2.TBL_ADDR : Field := ⟨0x100, 0, 32, .rw, 0xffffffff⟩
def SQR2.TBL_DATA1 : Field := ⟨0x114, 0, 32, .ro, 0xffffffff⟩
def SQR2.LOG_TICK (n : Nat) : Field := ⟨0x200 + 0x10 * n, 0, 32, .ro, 0⟩
def SQR2.LOG_INFO (n : Nat) : Field := ⟨0x204 + 0x10 * n, 0, 32, .ro, 0⟩
def SQR2.LOG_HANDLE (n : Nat) : Field := ⟨0x208 + 0x10 * n, 0, 32, .ro, 0⟩
def SQR2.LOG_META (n : Nat) : Field := ⟨0x20c + 0x10 * n, 0, 32, .ro, 0⟩

/-- Every field of the table above. -/
def SQR2.fields : List Field :=
  [SQR2.LOG_STATUS_COUNT, SQR2.LOG_STATUS_NEWEST, SQR2.LOG_STATUS_LOG_OVERRUN, SQR2.LOG_CLEAR, SQR2.TBL_ADDR]
  ++ (List.range 16).map SQR2.LOG_TICK
  ++ (List.range 16).map SQR2.LOG_INFO
  ++ (List.range 16).map SQR2.LOG_HANDLE
  ++ (List.range 16).map SQR2.LOG_META

/-! Table 8.7. Page 0x100: plan and counters. -/

def SCH0.SCH_STATUS_CFG_RESULT : Field := ⟨0x40, 0, 4, .ro, 0⟩
def SCH0.PORT_C_KBPS (n : Nat) : Field := ⟨0x80 + 0x10 * n, 0, 32, .ro, 0⟩
def SCH0.PORT_E_RES (n : Nat) : Field := ⟨0x84 + 0x10 * n, 0, 32, .ro, 0⟩
def SCH0.PORT_CAPACITY (n : Nat) : Field := ⟨0x88 + 0x10 * n, 0, 32, .ro, 0⟩
def SCH0.PORT_DEADLINE_OVERRIDE (n : Nat) : Field := ⟨0x8c + 0x10 * n, 0, 32, .rc, 0⟩
def SCH0.LEAN_SUSPENDED : Field := ⟨0x140, 0, 17, .ro, 0⟩
def SCH0.LEAN_SUSPENSIONS : Field := ⟨0x144, 0, 32, .rc, 0⟩
def SCH0.DROPPED_UNQUEUED (p : Nat) : Field := ⟨0x150 + 4 * p, 0, 32, .rc, 0⟩
def SCH0.REFUSED_UNQUEUED (p : Nat) : Field := ⟨0x180 + 4 * p, 0, 32, .rc, 0⟩
def SCH0.CONTAINED_UNQUEUED (p : Nat) : Field := ⟨0x1b0 + 4 * p, 0, 32, .rc, 0⟩
def SCH0.PROMISE (n : Nat) (c : Nat) (m : Nat) : Field := ⟨0x200 + 0x60 * n + 0x20 * c + 4 * m, 0, 32, .rc, 0⟩

/-- Every field of the table above. -/
def SCH0.fields : List Field :=
  [SCH0.SCH_STATUS_CFG_RESULT]
  ++ (List.range 12).map SCH0.PORT_C_KBPS
  ++ (List.range 12).map SCH0.PORT_E_RES
  ++ (List.range 12).map SCH0.PORT_CAPACITY
  ++ (List.range 12).map SCH0.PORT_DEADLINE_OVERRIDE
  ++ [SCH0.LEAN_SUSPENDED, SCH0.LEAN_SUSPENSIONS]
  ++ (List.range 11).map SCH0.DROPPED_UNQUEUED
  ++ (List.range 11).map SCH0.REFUSED_UNQUEUED
  ++ (List.range 11).map SCH0.CONTAINED_UNQUEUED
  ++ (List.range 12).flatMap (fun a => (List.range 3).flatMap (fun b => (List.range 8).map (SCH0.PROMISE a b)))

/-! Table 8.8. Page 0x101: node table access. -/

def SCH1.TBL_ADDR_INDEX : Field := ⟨0x100, 0, 17, .rw, 0⟩
def SCH1.TBL_ADDR_LEVEL : Field := ⟨0x100, 17, 2, .rw, 0⟩

/-- Every field of the table above. -/
def SCH1.fields : List Field :=
  [SCH1.TBL_ADDR_INDEX, SCH1.TBL_ADDR_LEVEL]

/-! Table 8.11. Page 0x102: gates. -/

def SCH2.TBL_ADDR_ENTRY : Field := ⟨0x100, 0, 8, .rw, 0⟩
def SCH2.TBL_ADDR_PORT : Field := ⟨0x100, 8, 3, .rw, 0⟩
def SCH2.GATE_CTRL_EN (p : Nat) : Field := ⟨0x200 + 0x20 * p, 0, 1, .rws, 0⟩
def SCH2.GATE_CTRL_LIST_LEN (p : Nat) : Field := ⟨0x200 + 0x20 * p, 16, 9, .rw, 1⟩
def SCH2.CYCLE_TIME (p : Nat) : Field := ⟨0x204 + 0x20 * p, 0, 32, .rw, 0xf4240⟩
def SCH2.BASE_NS (p : Nat) : Field := ⟨0x208 + 0x20 * p, 0, 32, .rw, 0⟩
def SCH2.BASE_SEC_LO (p : Nat) : Field := ⟨0x20c + 0x20 * p, 0, 32, .rw, 0⟩
def SCH2.BASE_SEC_HI (p : Nat) : Field := ⟨0x210 + 0x20 * p, 0, 16, .rw, 0⟩
def SCH2.CONFIG_CHANGE (p : Nat) : Field := ⟨0x214 + 0x20 * p, 0, 1, .w1s, 0⟩
def SCH2.GATE_STATUS_RESULT (p : Nat) : Field := ⟨0x218 + 0x20 * p, 0, 3, .ro, 0⟩
def SCH2.GATE_STATUS_MOVED_N (p : Nat) : Field := ⟨0x218 + 0x20 * p, 16, 16, .ro, 0⟩
def SCH2.OPEN_NOW (p : Nat) : Field := ⟨0x21c + 0x20 * p, 0, 8, .ro, 0xff⟩

/-- Every field of the table above. -/
def SCH2.fields : List Field :=
  [SCH2.TBL_ADDR_ENTRY, SCH2.TBL_ADDR_PORT]
  ++ (List.range 8).map SCH2.GATE_CTRL_EN
  ++ (List.range 8).map SCH2.GATE_CTRL_LIST_LEN
  ++ (List.range 8).map SCH2.CYCLE_TIME
  ++ (List.range 8).map SCH2.BASE_NS
  ++ (List.range 8).map SCH2.BASE_SEC_LO
  ++ (List.range 8).map SCH2.BASE_SEC_HI
  ++ (List.range 8).map SCH2.CONFIG_CHANGE
  ++ (List.range 8).map SCH2.GATE_STATUS_RESULT
  ++ (List.range 8).map SCH2.GATE_STATUS_MOVED_N
  ++ (List.range 8).map SCH2.OPEN_NOW

/-! Table 8.12. Page 0x140: Bollard. -/

def BOL.PCP_MAP (m : Nat) : Field := ⟨0x80 + 4 * m, 0, 32, .rws, 0⟩
def BOL.DSCP_MAP (m : Nat) (w : Nat) : Field := ⟨0x90 + 0x10 * m + 4 * w, 0, 32, .rws, 0⟩
def BOL.DOWNGRADES : Field := ⟨0xd0, 0, 32, .rc, 0⟩
def BOL.DOWNGRADES_RED : Field := ⟨0xd4, 0, 32, .rc, 0⟩
def BOL.TBL_ADDR_INDEX : Field := ⟨0x100, 0, 17, .rw, 0⟩
def BOL.TBL_ADDR_TABLE : Field := ⟨0x100, 17, 1, .rw, 0⟩

/-- Every field of the table above. -/
def BOL.fields : List Field :=
  (List.range 4).map BOL.PCP_MAP
  ++ (List.range 4).flatMap (fun a => (List.range 4).map (BOL.DSCP_MAP a))
  ++ [BOL.DOWNGRADES, BOL.DOWNGRADES_RED, BOL.TBL_ADDR_INDEX, BOL.TBL_ADDR_TABLE]

/-! Table 8.13. Page 0x150: upstream slots. -/

def UPA.UPA_STATUS_CFG_RESULT : Field := ⟨0x40, 0, 4, .ro, 0⟩
def UPA.SLOT_A_SERVICE (n : Nat) : Field := ⟨0x100 + 8 * n, 0, 10, .rws, 0⟩
def UPA.SLOT_A_G_TICKS (n : Nat) : Field := ⟨0x100 + 8 * n, 16, 7, .rws, 1⟩
def UPA.SLOT_A_VALID (n : Nat) : Field := ⟨0x100 + 8 * n, 31, 1, .rws, 0⟩
def UPA.SLOT_A_ASSURED_RATE (n : Nat) : Field := ⟨0x104 + 8 * n, 0, 32, .rws, 0⟩
def UPA.SLOT_B_SERVICE (n : Nat) : Field := ⟨0x300 + 8 * n, 0, 10, .rws, 0⟩
def UPA.SLOT_B_G_TICKS (n : Nat) : Field := ⟨0x300 + 8 * n, 16, 7, .rws, 1⟩
def UPA.SLOT_B_VALID (n : Nat) : Field := ⟨0x300 + 8 * n, 31, 1, .rws, 0⟩
def UPA.SLOT_B_ASSURED_RATE (n : Nat) : Field := ⟨0x304 + 8 * n, 0, 32, .rws, 0⟩
def UPA.WINDOW_A (n : Nat) : Field := ⟨0x500 + 4 * n, 0, 32, .ro, 0⟩
def UPA.WINDOW_B (n : Nat) : Field := ⟨0x600 + 4 * n, 0, 32, .ro, 0⟩

/-- Every field of the table above. -/
def UPA.fields : List Field :=
  [UPA.UPA_STATUS_CFG_RESULT]
  ++ (List.range 64).map UPA.SLOT_A_SERVICE
  ++ (List.range 64).map UPA.SLOT_A_G_TICKS
  ++ (List.range 64).map UPA.SLOT_A_VALID
  ++ (List.range 64).map UPA.SLOT_A_ASSURED_RATE
  ++ (List.range 64).map UPA.SLOT_B_SERVICE
  ++ (List.range 64).map UPA.SLOT_B_G_TICKS
  ++ (List.range 64).map UPA.SLOT_B_VALID
  ++ (List.range 64).map UPA.SLOT_B_ASSURED_RATE
  ++ (List.range 64).map UPA.WINDOW_A
  ++ (List.range 64).map UPA.WINDOW_B

/-! Table 9.8. Page 0x180: Carriageways. -/

def CWY.CWY_CTRL_INJ_ALLOW : Field := ⟨0x40, 0, 1, .rw, 0⟩
def CWY.CWY_STATUS_FENCED : Field := ⟨0x44, 0, 2, .ro, 3⟩
def CWY.CWY_STATUS_RTS_HOST : Field := ⟨0x44, 2, 1, .ro, 0⟩
def CWY.RTS_HOLD : Field := ⟨0x48, 0, 32, .rws, 0x13880⟩
def CWY.RTS_MAX : Field := ⟨0x4c, 0, 4, .rws, 1⟩
def CWY.RTS_CMD_SLICE : Field := ⟨0x50, 0, 2, .wo, 0⟩
def CWY.RTS_CMD_OP : Field := ⟨0x50, 4, 2, .wo, 0⟩
def CWY.RTS_RESULT : Field := ⟨0x54, 0, 3, .ro, 0⟩
def CWY.FAULT_INJ_SLICE : Field := ⟨0x58, 0, 2, .rw, 0⟩
def CWY.FAULT_INJ_CHECK : Field := ⟨0x58, 4, 2, .rw, 0⟩
def CWY.FAULT_INJ_ARM : Field := ⟨0x58, 31, 1, .w1s, 0⟩
def CWY.SLICE_STATE (s : Nat) : Field := ⟨0x80 + 0x40 * s, 0, 3, .ro, 0⟩
def CWY.SLICE_OCCURRENCES (s : Nat) : Field := ⟨0x80 + 0x40 * s, 4, 2, .ro, 0⟩
def CWY.SLICE_TEST_PASSED (s : Nat) : Field := ⟨0x80 + 0x40 * s, 8, 1, .ro, 0⟩
def CWY.ITEMS (s : Nat) : Field := ⟨0x84 + 0x40 * s, 0, 32, .rc, 0⟩
def CWY.LIMIT_WAITS (s : Nat) : Field := ⟨0x88 + 0x40 * s, 0, 32, .rc, 0⟩
def CWY.LEDGER_FULL (s : Nat) : Field := ⟨0x8c + 0x40 * s, 0, 32, .rc, 0⟩
def CWY.MASKED (s : Nat) : Field := ⟨0x90 + 0x40 * s, 0, 32, .rc, 0⟩
def CWY.REPLAY_ITEMS (s : Nat) : Field := ⟨0x94 + 0x40 * s, 0, 32, .rc, 0⟩
def CWY.FAIL_CRC (s : Nat) : Field := ⟨0x98 + 0x40 * s, 0, 16, .rc, 0⟩
def CWY.FAIL_RESIDUE (s : Nat) : Field := ⟨0x98 + 0x40 * s, 16, 16, .rc, 0⟩
def CWY.FAIL_PARITY (s : Nat) : Field := ⟨0x9c + 0x40 * s, 0, 16, .rc, 0⟩
def CWY.FAIL_DUP (s : Nat) : Field := ⟨0x9c + 0x40 * s, 16, 16, .rc, 0⟩
def CWY.FAIL_COUNT (s : Nat) : Field := ⟨0xa0 + 0x40 * s, 0, 16, .rc, 0⟩
def CWY.FAIL_WATCHDOG (s : Nat) : Field := ⟨0xa0 + 0x40 * s, 16, 16, .rc, 0⟩
def CWY.CONTAINED_BLOCKS (s : Nat) : Field := ⟨0xa4 + 0x40 * s, 0, 32, .rc, 0⟩
def CWY.FENCES (s : Nat) : Field := ⟨0xa8 + 0x40 * s, 0, 16, .rc, 0⟩
def CWY.RETURNS (s : Nat) : Field := ⟨0xa8 + 0x40 * s, 16, 16, .rc, 0⟩
def CWY.LAST_LOC (s : Nat) : Field := ⟨0xac + 0x40 * s, 0, 32, .ro, 0⟩
def CWY.LAST_TICK (s : Nat) : Field := ⟨0xb0 + 0x40 * s, 0, 32, .ro, 0⟩
def CWY.LAST_BLOCK (s : Nat) : Field := ⟨0xb4 + 0x40 * s, 0, 6, .ro, 0⟩

/-- Every field of the table above. -/
def CWY.fields : List Field :=
  [CWY.CWY_CTRL_INJ_ALLOW, CWY.CWY_STATUS_FENCED, CWY.CWY_STATUS_RTS_HOST, CWY.RTS_HOLD, CWY.RTS_MAX, CWY.RTS_CMD_SLICE, CWY.RTS_CMD_OP, CWY.RTS_RESULT, CWY.FAULT_INJ_SLICE, CWY.FAULT_INJ_CHECK, CWY.FAULT_INJ_ARM]
  ++ (List.range 3).map CWY.SLICE_STATE
  ++ (List.range 3).map CWY.SLICE_OCCURRENCES
  ++ (List.range 3).map CWY.SLICE_TEST_PASSED
  ++ (List.range 3).map CWY.ITEMS
  ++ (List.range 3).map CWY.LIMIT_WAITS
  ++ (List.range 3).map CWY.LEDGER_FULL
  ++ (List.range 3).map CWY.MASKED
  ++ (List.range 3).map CWY.REPLAY_ITEMS
  ++ (List.range 3).map CWY.FAIL_CRC
  ++ (List.range 3).map CWY.FAIL_RESIDUE
  ++ (List.range 3).map CWY.FAIL_PARITY
  ++ (List.range 3).map CWY.FAIL_DUP
  ++ (List.range 3).map CWY.FAIL_COUNT
  ++ (List.range 3).map CWY.FAIL_WATCHDOG
  ++ (List.range 3).map CWY.CONTAINED_BLOCKS
  ++ (List.range 3).map CWY.FENCES
  ++ (List.range 3).map CWY.RETURNS
  ++ (List.range 3).map CWY.LAST_LOC
  ++ (List.range 3).map CWY.LAST_TICK
  ++ (List.range 3).map CWY.LAST_BLOCK

/-! Table 9.9. Page 0x190: the Crossing. -/

def XNG.XNG_STATUS_LAST_TICK : Field := ⟨0x40, 0, 32, .ro, 0⟩
def XNG.XNG_STATUS_LAST_BLOCK : Field := ⟨0x44, 0, 6, .ro, 0⟩
def XNG.XNG_STATUS_REPLAY : Field := ⟨0x44, 8, 1, .ro, 0⟩
def XNG.XNG_STATUS_REPLAY_SLICE : Field := ⟨0x44, 9, 2, .ro, 0⟩
def XNG.XNG_STATUS_REPLAY_BLOCK : Field := ⟨0x44, 16, 6, .ro, 0⟩
def XNG.COMMITS : Field := ⟨0x48, 0, 32, .rc, 0⟩
def XNG.REPLAYED_COMMITS : Field := ⟨0x4c, 0, 32, .rc, 0⟩
def XNG.DISCARDED_BLOCKS : Field := ⟨0x50, 0, 32, .rc, 0⟩
def XNG.VOTE_MASKED_0 : Field := ⟨0x54, 0, 16, .rc, 0⟩
def XNG.VOTE_MASKED_1 : Field := ⟨0x54, 16, 16, .rc, 0⟩
def XNG.VOTE_MASKED_2 : Field := ⟨0x58, 0, 16, .rc, 0⟩
def XNG.VOTE_FAILED : Field := ⟨0x58, 16, 16, .rc, 0⟩
def XNG.DOUBLE_FAULTS : Field := ⟨0x5c, 0, 16, .rc, 0⟩
def XNG.DISCARD_DEPENDENT : Field := ⟨0x5c, 16, 16, .rc, 0⟩
def XNG.COMMIT_CYCLES_MAX : Field := ⟨0x60, 0, 10, .rc, 0⟩

/-- Every field of the table above. -/
def XNG.fields : List Field :=
  [XNG.XNG_STATUS_LAST_TICK, XNG.XNG_STATUS_LAST_BLOCK, XNG.XNG_STATUS_REPLAY, XNG.XNG_STATUS_REPLAY_SLICE, XNG.XNG_STATUS_REPLAY_BLOCK, XNG.COMMITS, XNG.REPLAYED_COMMITS, XNG.DISCARDED_BLOCKS, XNG.VOTE_MASKED_0, XNG.VOTE_MASKED_1, XNG.VOTE_MASKED_2, XNG.VOTE_FAILED]
  ++ [XNG.DOUBLE_FAULTS, XNG.DISCARD_DEPENDENT, XNG.COMMIT_CYCLES_MAX]

/-! Table 10.8. KRB page of port p. -/

def KRB.PORT_CTRL_EN : Field := ⟨0x40, 0, 1, .rw, 0⟩
def KRB.PORT_CTRL_MODE : Field := ⟨0x40, 1, 2, .rw, 0⟩
def KRB.PORT_CTRL_FALLBACK_EN : Field := ⟨0x40, 3, 1, .rws, 1⟩
def KRB.PORT_CTRL_LPI_EN : Field := ⟨0x40, 4, 1, .rws, 0⟩
def KRB.PORT_CTRL_AN_EN : Field := ⟨0x40, 5, 1, .rw, 1⟩
def KRB.PORT_CTRL_PAUSE_MODE : Field := ⟨0x40, 6, 2, .rws, 0⟩
def KRB.PORT_STATUS_LINK : Field := ⟨0x44, 0, 3, .ro, 0⟩
def KRB.PORT_STATUS_TX_LANES : Field := ⟨0x44, 4, 4, .ro, 0⟩
def KRB.PORT_STATUS_RX_LANES : Field := ⟨0x44, 8, 4, .ro, 0⟩
def KRB.PORT_STATUS_LPI : Field := ⟨0x44, 12, 1, .ro, 0⟩
def KRB.PORT_STATUS_CFG_IGNORED : Field := ⟨0x44, 13, 1, .w1c, 0⟩
def KRB.PORT_STATUS_LPI_REFUSED : Field := ⟨0x44, 14, 1, .w1c, 0⟩
def KRB.PORT_STATUS_HELD : Field := ⟨0x44, 16, 8, .ro, 0⟩
def KRB.MAX_FRAME : Field := ⟨0x48, 0, 14, .rws, 0x7d0⟩
def KRB.LPI_ENTRY : Field := ⟨0x4c, 0, 20, .rws, 0x2710⟩
def KRB.UP_HOLD : Field := ⟨0x50, 0, 16, .rws, 8⟩
def KRB.RESTORE_TICKS : Field := ⟨0x54, 0, 32, .rws, 0x1f40⟩
def KRB.RX_PUSH_TCI : Field := ⟨0x58, 0, 16, .rws, 0⟩
def KRB.RX_PUSH_EN : Field := ⟨0x58, 16, 1, .rws, 0⟩
def KRB.TX_UNTAG_VID : Field := ⟨0x5c, 0, 12, .rws, 0⟩
def KRB.TX_UNTAG_EN : Field := ⟨0x5c, 16, 1, .rws, 0⟩
def KRB.RXQ_CTRL_EXPRESS : Field := ⟨0x60, 0, 8, .rws, 0x80⟩
def KRB.RXQ_CTRL_DEFAULT_RXQ : Field := ⟨0x60, 8, 3, .rws, 0⟩
def KRB.RXQ_CTRL_BCAST_DROP : Field := ⟨0x60, 16, 1, .rws, 0⟩
def KRB.PCP_RXQ : Field := ⟨0x64, 0, 24, .rws, 0xfac688⟩
def KRB.RX_FRAMES : Field := ⟨0x80, 0, 32, .rc, 0⟩
def KRB.RX_FCS_ERR : Field := ⟨0x84, 0, 32, .rc, 0⟩
def KRB.RX_RUNT : Field := ⟨0x88, 0, 32, .rc, 0⟩
def KRB.RX_OVERSIZE : Field := ⟨0x8c, 0, 32, .rc, 0⟩
def KRB.GROUP_FILTERED : Field := ⟨0x90, 0, 32, .rc, 0⟩
def KRB.RXQ_OVERFLOW : Field := ⟨0x94, 0, 32, .rc, 0⟩
def KRB.TX_FRAMES : Field := ⟨0x98, 0, 32, .rc, 0⟩
def KRB.TX_RESENT : Field := ⟨0x9c, 0, 32, .rc, 0⟩
def KRB.PAUSE_RX : Field := ⟨0xa0, 0, 32, .rc, 0⟩
def KRB.CTRL_IGNORED : Field := ⟨0xa4, 0, 32, .rc, 0⟩
def KRB.FALLBACKS : Field := ⟨0xa8, 0, 32, .rc, 0⟩
def KRB.RESUMES : Field := ⟨0xac, 0, 32, .rc, 0⟩
def KRB.RESTORES : Field := ⟨0xb0, 0, 32, .rc, 0⟩
def KRB.LINK_DOWNS : Field := ⟨0xb4, 0, 32, .rc, 0⟩
def KRB.HELD_US (t : Nat) : Field := ⟨0xc0 + 4 * t, 0, 32, .rc, 0⟩
def KRB.TBL_ADDR_INDEX : Field := ⟨0x100, 0, 7, .rw, 0⟩
def KRB.TBL_ADDR_TABLE : Field := ⟨0x100, 8, 1, .rw, 0⟩

/-- Every field of the table above. -/
def KRB.fields : List Field :=
  [KRB.PORT_CTRL_EN, KRB.PORT_CTRL_MODE, KRB.PORT_CTRL_FALLBACK_EN, KRB.PORT_CTRL_LPI_EN, KRB.PORT_CTRL_AN_EN, KRB.PORT_CTRL_PAUSE_MODE, KRB.PORT_STATUS_LINK, KRB.PORT_STATUS_TX_LANES, KRB.PORT_STATUS_RX_LANES, KRB.PORT_STATUS_LPI, KRB.PORT_STATUS_CFG_IGNORED, KRB.PORT_STATUS_LPI_REFUSED]
  ++ [KRB.PORT_STATUS_HELD, KRB.MAX_FRAME, KRB.LPI_ENTRY, KRB.UP_HOLD, KRB.RESTORE_TICKS, KRB.RX_PUSH_TCI, KRB.RX_PUSH_EN, KRB.TX_UNTAG_VID, KRB.TX_UNTAG_EN, KRB.RXQ_CTRL_EXPRESS, KRB.RXQ_CTRL_DEFAULT_RXQ, KRB.RXQ_CTRL_BCAST_DROP]
  ++ [KRB.PCP_RXQ, KRB.RX_FRAMES, KRB.RX_FCS_ERR, KRB.RX_RUNT, KRB.RX_OVERSIZE, KRB.GROUP_FILTERED, KRB.RXQ_OVERFLOW, KRB.TX_FRAMES, KRB.TX_RESENT, KRB.PAUSE_RX, KRB.CTRL_IGNORED, KRB.FALLBACKS]
  ++ [KRB.RESUMES, KRB.RESTORES, KRB.LINK_DOWNS]
  ++ (List.range 8).map KRB.HELD_US
  ++ [KRB.TBL_ADDR_INDEX, KRB.TBL_ADDR_TABLE]

/-! Table 10.10. LAN page: lane l at 0x040 + 0x20l. -/

def LAN.LANE_CTRL_TX_INVERT (l : Nat) : Field := ⟨0x40 + 0x20 * l, 0, 1, .rw, 0⟩
def LAN.LANE_CTRL_RX_INVERT (l : Nat) : Field := ⟨0x40 + 0x20 * l, 1, 1, .rw, 0⟩
def LAN.LANE_CTRL_LOOPBACK (l : Nat) : Field := ⟨0x40 + 0x20 * l, 2, 2, .rw, 0⟩
def LAN.LANE_CTRL_TEST (l : Nat) : Field := ⟨0x40 + 0x20 * l, 4, 1, .rw, 0⟩
def LAN.LANE_CTRL_PATTERN (l : Nat) : Field := ⟨0x40 + 0x20 * l, 5, 3, .rw, 3⟩
def LAN.LANE_CTRL_CHECK_EN (l : Nat) : Field := ⟨0x40 + 0x20 * l, 8, 1, .rw, 0⟩
def LAN.LANE_CTRL_TX_SWING (l : Nat) : Field := ⟨0x40 + 0x20 * l, 9, 3, .rw, 4⟩
def LAN.LANE_CTRL_TX_DEEMPH (l : Nat) : Field := ⟨0x40 + 0x20 * l, 12, 4, .rw, 4⟩
def LAN.LANE_INJ_INJ_SINGLE (l : Nat) : Field := ⟨0x44 + 0x20 * l, 0, 1, .w1s, 0⟩
def LAN.LANE_INJ_INJ_BURST (l : Nat) : Field := ⟨0x44 + 0x20 * l, 1, 1, .w1s, 0⟩
def LAN.LANE_INJ_BURST_LEN (l : Nat) : Field := ⟨0x44 + 0x20 * l, 8, 8, .rw, 1⟩
def LAN.LANE_STATUS_SIGNAL (l : Nat) : Field := ⟨0x48 + 0x20 * l, 0, 1, .ro, 0⟩
def LAN.LANE_STATUS_SYNC (l : Nat) : Field := ⟨0x48 + 0x20 * l, 1, 1, .ro, 0⟩
def LAN.LANE_STATUS_ALIGNED (l : Nat) : Field := ⟨0x48 + 0x20 * l, 2, 1, .ro, 0⟩
def LAN.LANE_STATUS_LOST (l : Nat) : Field := ⟨0x48 + 0x20 * l, 3, 1, .ro, 0⟩
def LAN.LANE_STATUS_PRBS_LOCK (l : Nat) : Field := ⟨0x48 + 0x20 * l, 4, 1, .ro, 0⟩
def LAN.LANE_STATUS_EI (l : Nat) : Field := ⟨0x48 + 0x20 * l, 5, 1, .ro, 0⟩
def LAN.LANE_STATUS_LANE_ID (l : Nat) : Field := ⟨0x48 + 0x20 * l, 8, 2, .ro, 0⟩
def LAN.LANE_STATUS_SKEW (l : Nat) : Field := ⟨0x48 + 0x20 * l, 16, 8, .ro, 0⟩
def LAN.PRBS_ERR (l : Nat) : Field := ⟨0x4c + 0x20 * l, 0, 32, .rc, 0⟩
def LAN.CODE_VIOL (l : Nat) : Field := ⟨0x50 + 0x20 * l, 0, 16, .rc, 0⟩
def LAN.DISP_ERR (l : Nat) : Field := ⟨0x50 + 0x20 * l, 16, 16, .rc, 0⟩
def LAN.LOCK_LOSS (l : Nat) : Field := ⟨0x54 + 0x20 * l, 0, 16, .rc, 0⟩
def LAN.LOSSES (l : Nat) : Field := ⟨0x54 + 0x20 * l, 16, 16, .rc, 0⟩

/-- Every field of the table above. -/
def LAN.fields : List Field :=
  (List.range 4).map LAN.LANE_CTRL_TX_INVERT
  ++ (List.range 4).map LAN.LANE_CTRL_RX_INVERT
  ++ (List.range 4).map LAN.LANE_CTRL_LOOPBACK
  ++ (List.range 4).map LAN.LANE_CTRL_TEST
  ++ (List.range 4).map LAN.LANE_CTRL_PATTERN
  ++ (List.range 4).map LAN.LANE_CTRL_CHECK_EN
  ++ (List.range 4).map LAN.LANE_CTRL_TX_SWING
  ++ (List.range 4).map LAN.LANE_CTRL_TX_DEEMPH
  ++ (List.range 4).map LAN.LANE_INJ_INJ_SINGLE
  ++ (List.range 4).map LAN.LANE_INJ_INJ_BURST
  ++ (List.range 4).map LAN.LANE_INJ_BURST_LEN
  ++ (List.range 4).map LAN.LANE_STATUS_SIGNAL
  ++ (List.range 4).map LAN.LANE_STATUS_SYNC
  ++ (List.range 4).map LAN.LANE_STATUS_ALIGNED
  ++ (List.range 4).map LAN.LANE_STATUS_LOST
  ++ (List.range 4).map LAN.LANE_STATUS_PRBS_LOCK
  ++ (List.range 4).map LAN.LANE_STATUS_EI
  ++ (List.range 4).map LAN.LANE_STATUS_LANE_ID
  ++ (List.range 4).map LAN.LANE_STATUS_SKEW
  ++ (List.range 4).map LAN.PRBS_ERR
  ++ (List.range 4).map LAN.CODE_VIOL
  ++ (List.range 4).map LAN.DISP_ERR
  ++ (List.range 4).map LAN.LOCK_LOSS
  ++ (List.range 4).map LAN.LOSSES

/-! Table 10.11. LAN page 0x0A9: KREF. -/

def KREF.KREF_CTRL_EN : Field := ⟨0x40, 0, 1, .rw, 1⟩
def KREF.KREF_CTRL_SPREAD : Field := ⟨0x40, 1, 1, .rw, 0⟩
def KREF.KREF_STATUS_SPREAD_ON : Field := ⟨0x44, 0, 1, .ro, 0⟩
def KREF.KREF_STATUS_REFUSED : Field := ⟨0x44, 1, 1, .w1c, 0⟩
def KREF.KREF_STATUS_LOCKED : Field := ⟨0x44, 2, 1, .ro, 0⟩

/-- Every field of the table above. -/
def KREF.fields : List Field :=
  [KREF.KREF_CTRL_EN, KREF.KREF_CTRL_SPREAD, KREF.KREF_STATUS_SPREAD_ON, KREF.KREF_STATUS_REFUSED, KREF.KREF_STATUS_LOCKED]

/-! Table 11.4. Page 0x030: clock, correction, sources and sleep. -/

def TIM0.CLK_CTRL_SERVO_MODE : Field := ⟨0x40, 0, 1, .rws, 0⟩
def TIM0.CLK_CTRL_SOURCE : Field := ⟨0x40, 1, 1, .rws, 0⟩
def TIM0.CLK_CTRL_AUTO_ACCEPT : Field := ⟨0x40, 2, 1, .rws, 0⟩
def TIM0.CLK_STATUS_STATE : Field := ⟨0x44, 0, 3, .ro, 0⟩
def TIM0.CLK_STATUS_STEP_PENDING : Field := ⟨0x44, 3, 1, .ro, 0⟩
def TIM0.CLK_STATUS_CFG_IGNORED : Field := ⟨0x44, 4, 1, .w1c, 0⟩
def TIM0.CLK_STATUS_TOD_VALID : Field := ⟨0x44, 5, 1, .ro, 0⟩
def TIM0.CLK_STATUS_CLOCK_CLASS : Field := ⟨0x44, 8, 8, .ro, 0xf8⟩
def TIM0.NOW_NS : Field := ⟨0x48, 0, 32, .ro, 0⟩
def TIM0.NOW_SEC_LO : Field := ⟨0x4c, 0, 32, .ro, 0⟩
def TIM0.NOW_SEC_HI : Field := ⟨0x50, 0, 16, .ro, 0⟩
def TIM0.NOW_FRAC : Field := ⟨0x54, 0, 32, .ro, 0⟩
def TIM0.TICK_NS : Field := ⟨0x58, 0, 32, .ro, 0⟩
def TIM0.TICK_SEC_LO : Field := ⟨0x5c, 0, 32, .ro, 0⟩
def TIM0.TICK_SEC_HI : Field := ⟨0x60, 0, 16, .ro, 0⟩
def TIM0.TICK_NUM_LO : Field := ⟨0x64, 0, 32, .ro, 0⟩
def TIM0.TICK_NUM_HI : Field := ⟨0x68, 0, 32, .ro, 0⟩
def TIM0.INCR_LO : Field := ⟨0x80, 0, 32, .rws, 0xb96a674⟩
def TIM0.INCR_HI : Field := ⟨0x84, 0, 16, .rws, 0x337⟩
def TIM0.SERVO_KP : Field := ⟨0x88, 0, 16, .rws, 0x4000⟩
def TIM0.SERVO_KI : Field := ⟨0x88, 16, 16, .rws, 4⟩
def TIM0.MAX_ADJ_PPB : Field := ⟨0x8c, 0, 16, .rws, 0x3e8⟩
def TIM0.SERVO_TICKS : Field := ⟨0x8c, 16, 8, .rws, 8⟩
def TIM0.LOCK_NS : Field := ⟨0x90, 0, 16, .rws, 0x32⟩
def TIM0.STEP_THRESH_NS : Field := ⟨0x90, 16, 16, .rws, 0x1f4⟩
def TIM0.OFFSET_NS : Field := ⟨0x94, 0, 32, .ro, 0⟩
def TIM0.ADJ_PPB : Field := ⟨0x98, 0, 32, .ro, 0⟩
def TIM0.ERR_BOUND_NS : Field := ⟨0x9c, 0, 32, .ro, 0xffffffff⟩
def TIM0.TIME_JUMP_LIMIT : Field := ⟨0xa0, 0, 32, .rws, 0x3e8⟩
def TIM0.ACCEPT_HOLD : Field := ⟨0xa4, 0, 32, .rws, 0x13880⟩
def TIM0.PENDING_STEP_LO : Field := ⟨0xa8, 0, 32, .ro, 0⟩
def TIM0.PENDING_STEP_HI : Field := ⟨0xac, 0, 32, .ro, 0⟩
def TIM0.STEP_CMD_OP : Field := ⟨0xb0, 0, 3, .wo, 0⟩
def TIM0.STEP_CMD_STEP_RESULT : Field := ⟨0xb0, 8, 3, .ro, 0⟩
def TIM0.SET_NS : Field := ⟨0xb4, 0, 32, .rw, 0⟩
def TIM0.SET_SEC_LO : Field := ⟨0xb8, 0, 32, .rw, 0⟩
def TIM0.SET_SEC_HI : Field := ⟨0xbc, 0, 16, .rw, 0⟩
def TIM0.ADJ_NS_LO : Field := ⟨0xc0, 0, 32, .rw, 0⟩
def TIM0.ADJ_NS_HI : Field := ⟨0xc4, 0, 32, .rw, 0⟩
def TIM0.STEPS : Field := ⟨0xc8, 0, 16, .rc, 0⟩
def TIM0.JUMPS_REFUSED : Field := ⟨0xc8, 16, 16, .rc, 0⟩
def TIM0.TOD_SFC_LO : Field := ⟨0x100, 0, 32, .rw, 0⟩
def TIM0.TOD_SFC_HI : Field := ⟨0x104, 0, 19, .rw, 0⟩
def TIM0.TOD_NS : Field := ⟨0x108, 0, 32, .rw, 0⟩
def TIM0.TOD_SEC_LO : Field := ⟨0x10c, 0, 32, .rw, 0⟩
def TIM0.TOD_SEC_HI : Field := ⟨0x110, 0, 16, .rw, 0⟩
def TIM0.TOD_CMD_LOAD : Field := ⟨0x114, 0, 1, .w1s, 0⟩
def TIM0.TOD_CMD_PORT : Field := ⟨0x114, 1, 1, .rw, 0⟩
def TIM0.TOD_CMD_TOD_RESULT : Field := ⟨0x114, 4, 2, .ro, 0⟩
def TIM0.TEQD_A : Field := ⟨0x118, 0, 32, .rw, 0⟩
def TIM0.TEQD_B : Field := ⟨0x11c, 0, 32, .rw, 0⟩
def TIM0.TOD_ASYM : Field := ⟨0x120, 0, 16, .rw, 0x8000⟩
def TIM0.PPS_DELAY_NS : Field := ⟨0x140, 0, 32, .rw, 0⟩
def TIM0.PPS_NEXT_SEC_LO : Field := ⟨0x144, 0, 32, .rw, 0⟩
def TIM0.PPS_NEXT_SEC_HI : Field := ⟨0x148, 0, 16, .rw, 0⟩
def TIM0.PPS_NEXT_SEC_HI_ARM : Field := ⟨0x148, 31, 1, .w1s, 0⟩
def TIM0.SLEEP_FREQ : Field := ⟨0x180, 0, 32, .ro, 0x80000000⟩
def TIM0.SLEEP_ERR_PPB : Field := ⟨0x184, 0, 32, .rws, 0x7d0⟩
def TIM0.HOLD_PPB : Field := ⟨0x188, 0, 32, .rws, 0x3e8⟩
def TIM0.HOLD_SPEC_NS : Field := ⟨0x18c, 0, 32, .rws, 0x44c⟩
def TIM0.REF_PPB : Field := ⟨0x190, 0, 32, .ro, 0⟩
def TIM0.CLASS_MAP : Field := ⟨0x194, 0, 32, .rws, 0xf8a58706⟩
def TIM0.SLEEP_US : Field := ⟨0x198, 0, 32, .ro, 0⟩

/-- Every field of the table above. -/
def TIM0.fields : List Field :=
  [TIM0.CLK_CTRL_SERVO_MODE, TIM0.CLK_CTRL_SOURCE, TIM0.CLK_CTRL_AUTO_ACCEPT, TIM0.CLK_STATUS_STATE, TIM0.CLK_STATUS_STEP_PENDING, TIM0.CLK_STATUS_CFG_IGNORED, TIM0.CLK_STATUS_TOD_VALID, TIM0.CLK_STATUS_CLOCK_CLASS, TIM0.NOW_NS, TIM0.NOW_SEC_LO, TIM0.NOW_SEC_HI, TIM0.NOW_FRAC]
  ++ [TIM0.TICK_NS, TIM0.TICK_SEC_LO, TIM0.TICK_SEC_HI, TIM0.TICK_NUM_LO, TIM0.TICK_NUM_HI, TIM0.INCR_LO, TIM0.INCR_HI, TIM0.SERVO_KP, TIM0.SERVO_KI, TIM0.MAX_ADJ_PPB, TIM0.SERVO_TICKS, TIM0.LOCK_NS]
  ++ [TIM0.STEP_THRESH_NS, TIM0.OFFSET_NS, TIM0.ADJ_PPB, TIM0.ERR_BOUND_NS, TIM0.TIME_JUMP_LIMIT, TIM0.ACCEPT_HOLD, TIM0.PENDING_STEP_LO, TIM0.PENDING_STEP_HI, TIM0.STEP_CMD_OP, TIM0.STEP_CMD_STEP_RESULT, TIM0.SET_NS, TIM0.SET_SEC_LO]
  ++ [TIM0.SET_SEC_HI, TIM0.ADJ_NS_LO, TIM0.ADJ_NS_HI, TIM0.STEPS, TIM0.JUMPS_REFUSED, TIM0.TOD_SFC_LO, TIM0.TOD_SFC_HI, TIM0.TOD_NS, TIM0.TOD_SEC_LO, TIM0.TOD_SEC_HI, TIM0.TOD_CMD_LOAD, TIM0.TOD_CMD_PORT]
  ++ [TIM0.TOD_CMD_TOD_RESULT, TIM0.TEQD_A, TIM0.TEQD_B, TIM0.TOD_ASYM, TIM0.PPS_DELAY_NS, TIM0.PPS_NEXT_SEC_LO, TIM0.PPS_NEXT_SEC_HI, TIM0.PPS_NEXT_SEC_HI_ARM, TIM0.SLEEP_FREQ, TIM0.SLEEP_ERR_PPB, TIM0.HOLD_PPB, TIM0.HOLD_SPEC_NS]
  ++ [TIM0.REF_PPB, TIM0.CLASS_MAP, TIM0.SLEEP_US]

/-! Table 11.5. Page 0x031: Lamplighter output n at 0x040 + 0x20n, capture input i at 0x100 + 0x40i. -/

def TIM1.LAMP_CTRL_MODE (n : Nat) : Field := ⟨0x40 + 0x20 * n, 0, 2, .rw, 0⟩
def TIM1.LAMP_CTRL_POLARITY (n : Nat) : Field := ⟨0x40 + 0x20 * n, 2, 1, .rw, 0⟩
def TIM1.LAMP_CTRL_REQUIRE_VALID (n : Nat) : Field := ⟨0x40 + 0x20 * n, 3, 1, .rw, 0⟩
def TIM1.LAMP_CTRL_ARM (n : Nat) : Field := ⟨0x40 + 0x20 * n, 4, 1, .w1s, 0⟩
def TIM1.LAMP_CTRL_RESULT (n : Nat) : Field := ⟨0x40 + 0x20 * n, 5, 2, .ro, 0⟩
def TIM1.START_NS (n : Nat) : Field := ⟨0x44 + 0x20 * n, 0, 32, .rw, 0⟩
def TIM1.START_SEC_LO (n : Nat) : Field := ⟨0x48 + 0x20 * n, 0, 32, .rw, 0⟩
def TIM1.START_SEC_HI (n : Nat) : Field := ⟨0x4c + 0x20 * n, 0, 16, .rw, 0⟩
def TIM1.PERIOD_NS (n : Nat) : Field := ⟨0x50 + 0x20 * n, 0, 32, .rw, 0x3b9aca00⟩
def TIM1.WIDTH_NS (n : Nat) : Field := ⟨0x54 + 0x20 * n, 0, 32, .rw, 0x5f5e100⟩
def TIM1.MOVED_N (n : Nat) : Field := ⟨0x58 + 0x20 * n, 0, 16, .ro, 0⟩
def TIM1.SUPPRESSED (n : Nat) : Field := ⟨0x58 + 0x20 * n, 16, 16, .rc, 0⟩
def TIM1.PULSES (n : Nat) : Field := ⟨0x5c + 0x20 * n, 0, 32, .rc, 0⟩
def TIM1.CAP_CTRL_EN (i : Nat) : Field := ⟨0x100 + 0x40 * i, 0, 1, .rw, 0⟩
def TIM1.CAP_CTRL_EDGE (i : Nat) : Field := ⟨0x100 + 0x40 * i, 1, 1, .rw, 0⟩
def TIM1.CAP_CTRL_MIN_TICKS (i : Nat) : Field := ⟨0x100 + 0x40 * i, 16, 16, if i = 0 then .ro else .rws, if i = 0 then 0x0FA0 else 0⟩
def TIM1.CAP_STATUS_COUNT (i : Nat) : Field := ⟨0x104 + 0x40 * i, 0, 4, .ro, 0⟩
def TIM1.CAP_STATUS_STUCK (i : Nat) : Field := ⟨0x104 + 0x40 * i, 4, 1, .ro, 0⟩
def TIM1.CAP_STATUS_OVF (i : Nat) : Field := ⟨0x104 + 0x40 * i, 5, 1, .w1c, 0⟩
def TIM1.CAP_STATUS_LOST (i : Nat) : Field := ⟨0x104 + 0x40 * i, 6, 1, .ro, 0⟩
def TIM1.CAP_NS (i : Nat) : Field := ⟨0x108 + 0x40 * i, 0, 32, .ro, 0⟩
def TIM1.CAP_SEC_LO (i : Nat) : Field := ⟨0x10c + 0x40 * i, 0, 32, .ro, 0⟩
def TIM1.CAP_SEC_HI (i : Nat) : Field := ⟨0x110 + 0x40 * i, 0, 16, .ro, 0⟩
def TIM1.CAP_POP (i : Nat) : Field := ⟨0x114 + 0x40 * i, 0, 1, .wo, 0⟩
def TIM1.STUCK_TICKS (i : Nat) : Field := ⟨0x118 + 0x40 * i, 0, 16, .rws, 0x1f40⟩
def TIM1.ACCEPTED (i : Nat) : Field := ⟨0x11c + 0x40 * i, 0, 32, .rc, 0⟩
def TIM1.REJECTED (i : Nat) : Field := ⟨0x120 + 0x40 * i, 0, 32, .rc, 0⟩
def TIM1.DROPPED (i : Nat) : Field := ⟨0x124 + 0x40 * i, 0, 32, .rc, 0⟩

/-- Every field of the table above. -/
def TIM1.fields : List Field :=
  (List.range 4).map TIM1.LAMP_CTRL_MODE
  ++ (List.range 4).map TIM1.LAMP_CTRL_POLARITY
  ++ (List.range 4).map TIM1.LAMP_CTRL_REQUIRE_VALID
  ++ (List.range 4).map TIM1.LAMP_CTRL_ARM
  ++ (List.range 4).map TIM1.LAMP_CTRL_RESULT
  ++ (List.range 4).map TIM1.START_NS
  ++ (List.range 4).map TIM1.START_SEC_LO
  ++ (List.range 4).map TIM1.START_SEC_HI
  ++ (List.range 4).map TIM1.PERIOD_NS
  ++ (List.range 4).map TIM1.WIDTH_NS
  ++ (List.range 4).map TIM1.MOVED_N
  ++ (List.range 4).map TIM1.SUPPRESSED
  ++ (List.range 4).map TIM1.PULSES
  ++ (List.range 2).map TIM1.CAP_CTRL_EN
  ++ (List.range 2).map TIM1.CAP_CTRL_EDGE
  ++ (List.range 2).map TIM1.CAP_CTRL_MIN_TICKS
  ++ (List.range 2).map TIM1.CAP_STATUS_COUNT
  ++ (List.range 2).map TIM1.CAP_STATUS_STUCK
  ++ (List.range 2).map TIM1.CAP_STATUS_OVF
  ++ (List.range 2).map TIM1.CAP_STATUS_LOST
  ++ (List.range 2).map TIM1.CAP_NS
  ++ (List.range 2).map TIM1.CAP_SEC_LO
  ++ (List.range 2).map TIM1.CAP_SEC_HI
  ++ (List.range 2).map TIM1.CAP_POP
  ++ (List.range 2).map TIM1.STUCK_TICKS
  ++ (List.range 2).map TIM1.ACCEPTED
  ++ (List.range 2).map TIM1.REJECTED
  ++ (List.range 2).map TIM1.DROPPED

/-! Table 11.6. Page 0x032: Kerb port p at 0x040 + 0x40p. -/

def TIM2.TS_CTRL_EN (p : Nat) : Field := ⟨0x40 + 0x40 * p, 0, 1, .rws, 0⟩
def TIM2.TS_CTRL_ONESTEP_EN (p : Nat) : Field := ⟨0x40 + 0x40 * p, 1, 1, .rws, 0⟩
def TIM2.TX_ADJ_PS (p : Nat) : Field := ⟨0x44 + 0x40 * p, 0, 16, .rws, 0⟩
def TIM2.RX_ADJ_PS (p : Nat) : Field := ⟨0x44 + 0x40 * p, 16, 16, .rws, 0⟩
def TIM2.TXTS_STATUS_COUNT (p : Nat) : Field := ⟨0x48 + 0x40 * p, 0, 6, .ro, 0⟩
def TIM2.TXTS_STATUS_HEAD_VALID (p : Nat) : Field := ⟨0x48 + 0x40 * p, 8, 1, .ro, 0⟩
def TIM2.TXTS_STATUS_RESUMED (p : Nat) : Field := ⟨0x48 + 0x40 * p, 9, 1, .ro, 0⟩
def TIM2.TXTS_STATUS_TXTS_OVF (p : Nat) : Field := ⟨0x48 + 0x40 * p, 16, 1, .w1c, 0⟩
def TIM2.TXTS_ID (p : Nat) : Field := ⟨0x4c + 0x40 * p, 0, 16, .ro, 0xffff⟩
def TIM2.TXTS_NS (p : Nat) : Field := ⟨0x50 + 0x40 * p, 0, 32, .ro, 0⟩
def TIM2.TXTS_SEC_LO (p : Nat) : Field := ⟨0x54 + 0x40 * p, 0, 32, .ro, 0⟩
def TIM2.TXTS_SEC_HI (p : Nat) : Field := ⟨0x58 + 0x40 * p, 0, 16, .ro, 0⟩
def TIM2.TXTS_POP (p : Nat) : Field := ⟨0x5c + 0x40 * p, 0, 1, .wo, 0⟩
def TIM2.TXTS_DROPPED (p : Nat) : Field := ⟨0x60 + 0x40 * p, 0, 32, .rc, 0⟩
def TIM2.RX_STAMPED (p : Nat) : Field := ⟨0x64 + 0x40 * p, 0, 32, .rc, 0⟩
def TIM2.TX_STAMPED (p : Nat) : Field := ⟨0x68 + 0x40 * p, 0, 32, .rc, 0⟩
def TIM2.ONESTEP_STALE (p : Nat) : Field := ⟨0x6c + 0x40 * p, 0, 16, .rc, 0⟩
def TIM2.RX_RESUMED (p : Nat) : Field := ⟨0x6c + 0x40 * p, 16, 16, .rc, 0⟩

/-- Every field of the table above. -/
def TIM2.fields : List Field :=
  (List.range 8).map TIM2.TS_CTRL_EN
  ++ (List.range 8).map TIM2.TS_CTRL_ONESTEP_EN
  ++ (List.range 8).map TIM2.TX_ADJ_PS
  ++ (List.range 8).map TIM2.RX_ADJ_PS
  ++ (List.range 8).map TIM2.TXTS_STATUS_COUNT
  ++ (List.range 8).map TIM2.TXTS_STATUS_HEAD_VALID
  ++ (List.range 8).map TIM2.TXTS_STATUS_RESUMED
  ++ (List.range 8).map TIM2.TXTS_STATUS_TXTS_OVF
  ++ (List.range 8).map TIM2.TXTS_ID
  ++ (List.range 8).map TIM2.TXTS_NS
  ++ (List.range 8).map TIM2.TXTS_SEC_LO
  ++ (List.range 8).map TIM2.TXTS_SEC_HI
  ++ (List.range 8).map TIM2.TXTS_POP
  ++ (List.range 8).map TIM2.TXTS_DROPPED
  ++ (List.range 8).map TIM2.RX_STAMPED
  ++ (List.range 8).map TIM2.TX_STAMPED
  ++ (List.range 8).map TIM2.ONESTEP_STALE
  ++ (List.range 8).map TIM2.RX_RESUMED

/-! Table 12.7. Page 0x1A0: highways and recovery. -/

def TRM0.HWY_CTRL_EN (h : Nat) : Field := ⟨0x40 + 0x10 * h, 0, 1, .rws, 0⟩
def TRM0.HWY_CTRL_TIMING (h : Nat) : Field := ⟨0x40 + 0x10 * h, 1, 2, .rws, 0⟩
def TRM0.HWY_CTRL_REF_TRIB (h : Nat) : Field := ⟨0x40 + 0x10 * h, 4, 4, .rws, 0⟩
def TRM0.HWY_CTRL_FS_OFFSET (h : Nat) : Field := ⟨0x40 + 0x10 * h, 16, 12, .rws, 0⟩
def TRM0.HWY_FREQ_PPB (h : Nat) : Field := ⟨0x44 + 0x10 * h, 0, 32, .ro, 0⟩
def TRM0.HWY_STATUS_CLK_OK (h : Nat) : Field := ⟨0x48 + 0x10 * h, 0, 1, .ro, 0⟩
def TRM0.HWY_STATUS_CLAMPED (h : Nat) : Field := ⟨0x48 + 0x10 * h, 1, 1, .ro, 0⟩
def TRM0.HWY_STATUS_REF_INVALID (h : Nat) : Field := ⟨0x48 + 0x10 * h, 2, 1, .ro, 0⟩
def TRM0.FS_ERR (h : Nat) : Field := ⟨0x4c + 0x10 * h, 0, 16, .rc, 0⟩
def TRM0.CR_BW : Field := ⟨0x80, 0, 16, .rws, 0x64⟩
def TRM0.MAX_SLEW : Field := ⟨0x84, 0, 16, .rws, 2⟩
def TRM0.LOF_M : Field := ⟨0x88, 0, 2, .rws, 3⟩
def TRM0.RTP_PT : Field := ⟨0x8c, 0, 7, .rws, 0x60⟩

/-- Every field of the table above. -/
def TRM0.fields : List Field :=
  (List.range 4).map TRM0.HWY_CTRL_EN
  ++ (List.range 4).map TRM0.HWY_CTRL_TIMING
  ++ (List.range 4).map TRM0.HWY_CTRL_REF_TRIB
  ++ (List.range 4).map TRM0.HWY_CTRL_FS_OFFSET
  ++ (List.range 4).map TRM0.HWY_FREQ_PPB
  ++ (List.range 4).map TRM0.HWY_STATUS_CLK_OK
  ++ (List.range 4).map TRM0.HWY_STATUS_CLAMPED
  ++ (List.range 4).map TRM0.HWY_STATUS_REF_INVALID
  ++ (List.range 4).map TRM0.FS_ERR
  ++ [TRM0.CR_BW, TRM0.MAX_SLEW, TRM0.LOF_M, TRM0.RTP_PT]

/-! Table 12.8. Page 0x1A1: table access. -/

def TRM1.TBL_ADDR : Field := ⟨0x100, 0, 6, .rw, 0⟩

/-- Every field of the table above. -/
def TRM1.fields : List Field :=
  [TRM1.TBL_ADDR]

/-! Table 12.10. Page 0x1A2: performance bins. -/

def TRM2.TBL_ADDR_TRIB : Field := ⟨0x100, 0, 6, .rw, 0⟩
def TRM2.TBL_ADDR_BIN : Field := ⟨0x100, 8, 2, .rw, 0⟩

/-- Every field of the table above. -/
def TRM2.fields : List Field :=
  [TRM2.TBL_ADDR_TRIB, TRM2.TBL_ADDR_BIN]

/-! Table 13.11. Page 0x1C0: cluster and cores. -/

def MEW0.MEW_CTRL_EN : Field := ⟨0x40, 0, 1, .rw, 0⟩
def MEW0.MEW_CTRL_CUSTOMER_EN : Field := ⟨0x40, 1, 1, .rws, 0⟩
def MEW0.MEW_STATUS_CORES_AVAILABLE : Field := ⟨0x44, 0, 8, .ro, 0xff⟩
def MEW0.MEW_STATUS_CORES_FAULTED : Field := ⟨0x44, 8, 8, .ro, 0⟩
def MEW0.CORE_STATE (c : Nat) : Field := ⟨0x80 + 0x20 * c, 0, 3, .ro, 0⟩
def MEW0.CORE_ROLES (c : Nat) : Field := ⟨0x80 + 0x20 * c, 8, 4, .ro, 0⟩
def MEW0.CORE_STANDBY_FOR (c : Nat) : Field := ⟨0x80 + 0x20 * c, 12, 2, .ro, 0⟩
def MEW0.CYCLES_MAX (c : Nat) : Field := ⟨0x84 + 0x20 * c, 0, 18, .rc, 0⟩
def MEW0.BUNDLES (c : Nat) : Field := ⟨0x88 + 0x20 * c, 0, 32, .rc, 0⟩
def MEW0.FAULTS (c : Nat) : Field := ⟨0x8c + 0x20 * c, 0, 16, .rc, 0⟩
def MEW0.TESTS (c : Nat) : Field := ⟨0x8c + 0x20 * c, 16, 16, .rc, 0⟩
def MEW0.LAST_LOC (c : Nat) : Field := ⟨0x90 + 0x20 * c, 0, 32, .ro, 0⟩
def MEW0.LAST_TICK (c : Nat) : Field := ⟨0x94 + 0x20 * c, 0, 32, .ro, 0⟩
def MEW0.CORE_CMD (c : Nat) : Field := ⟨0x98 + 0x20 * c, 0, 2, .wo, 0⟩
def MEW0.CORE_CMD_RESULT (c : Nat) : Field := ⟨0x9c + 0x20 * c, 0, 2, .ro, 0⟩
def MEW0.MSG_DELIVERED : Field := ⟨0x180, 0, 32, .rc, 0⟩
def MEW0.MSG_STALE : Field := ⟨0x184, 0, 32, .rc, 0⟩
def MEW0.MSG_FULL : Field := ⟨0x188, 0, 32, .rc, 0⟩
def MEW0.MSG_NO_ROLE : Field := ⟨0x18c, 0, 32, .rc, 0⟩
def MEW0.RETURN_LOST : Field := ⟨0x190, 0, 32, .rc, 0⟩
def MEW0.STALE_HW : Field := ⟨0x194, 0, 32, .rc, 0⟩
def MEW0.PORT_REFUSED : Field := ⟨0x198, 0, 32, .rc, 0⟩
def MEW0.STEER_DROPPED : Field := ⟨0x19c, 0, 32, .rc, 0⟩
def MEW0.CAPTURE_DROPPED : Field := ⟨0x1a0, 0, 32, .rc, 0⟩

/-- Every field of the table above. -/
def MEW0.fields : List Field :=
  [MEW0.MEW_CTRL_EN, MEW0.MEW_CTRL_CUSTOMER_EN, MEW0.MEW_STATUS_CORES_AVAILABLE, MEW0.MEW_STATUS_CORES_FAULTED]
  ++ (List.range 8).map MEW0.CORE_STATE
  ++ (List.range 8).map MEW0.CORE_ROLES
  ++ (List.range 8).map MEW0.CORE_STANDBY_FOR
  ++ (List.range 8).map MEW0.CYCLES_MAX
  ++ (List.range 8).map MEW0.BUNDLES
  ++ (List.range 8).map MEW0.FAULTS
  ++ (List.range 8).map MEW0.TESTS
  ++ (List.range 8).map MEW0.LAST_LOC
  ++ (List.range 8).map MEW0.LAST_TICK
  ++ (List.range 8).map MEW0.CORE_CMD
  ++ (List.range 8).map MEW0.CORE_CMD_RESULT
  ++ [MEW0.MSG_DELIVERED, MEW0.MSG_STALE, MEW0.MSG_FULL, MEW0.MSG_NO_ROLE, MEW0.RETURN_LOST, MEW0.STALE_HW, MEW0.PORT_REFUSED, MEW0.STEER_DROPPED, MEW0.CAPTURE_DROPPED]

/-! Table 13.13. Page 0x1C2: image loading. -/

def MEW2.LOAD_SRC_LO : Field := ⟨0x40, 0, 32, .rw, 0⟩
def MEW2.LOAD_SRC_HI : Field := ⟨0x44, 0, 32, .rw, 0⟩
def MEW2.LOAD_LEN : Field := ⟨0x48, 0, 19, .rw, 0⟩
def MEW2.LOAD_ROLE : Field := ⟨0x4c, 0, 8, .rw, 0⟩
def MEW2.LOAD_CTRL_START : Field := ⟨0x50, 0, 1, .w1s, 0⟩
def MEW2.LOAD_CTRL_FROM_ARCADE : Field := ⟨0x50, 1, 1, .rw, 0⟩
def MEW2.LOAD_STATUS_BUSY : Field := ⟨0x54, 0, 1, .ro, 0⟩
def MEW2.LOAD_STATUS_RESULT : Field := ⟨0x54, 1, 3, .ro, 0⟩

/-- Every field of the table above. -/
def MEW2.fields : List Field :=
  [MEW2.LOAD_SRC_LO, MEW2.LOAD_SRC_HI, MEW2.LOAD_LEN, MEW2.LOAD_ROLE, MEW2.LOAD_CTRL_START, MEW2.LOAD_CTRL_FROM_ARCADE, MEW2.LOAD_STATUS_BUSY, MEW2.LOAD_STATUS_RESULT]

/-! Table 14.6. Page 0x1E0: control, status and counters. -/

def ARC0.ARC_CTRL_EN : Field := ⟨0x40, 0, 1, .rw, 0⟩
def ARC0.ARC_CTRL_SERVE_EN : Field := ⟨0x40, 1, 1, .rws, 0⟩
def ARC0.ARC_CTRL_GAP_DEST : Field := ⟨0x40, 2, 1, .rws, 0⟩
def ARC0.FILL_ETYPE : Field := ⟨0x44, 0, 16, .rws, 0x88b5⟩
def ARC0.GAP_RING : Field := ⟨0x48, 0, 6, .rws, 0⟩
def ARC0.FILL_LEAF : Field := ⟨0x4c, 0, 17, .rws, 0⟩
def ARC0.FILL_TIMEOUT : Field := ⟨0x50, 0, 16, .rws, 0x50⟩
def ARC0.REPAIR_TICKS : Field := ⟨0x54, 0, 32, .rws, 0x249f00⟩
def ARC0.ARC_STATUS_READY : Field := ⟨0x58, 0, 1, .ro, 0⟩
def ARC0.ARC_STATUS_READ_ONLY : Field := ⟨0x58, 1, 1, .ro, 0⟩
def ARC0.ARC_STATUS_FLUSHING : Field := ⟨0x58, 2, 1, .ro, 0⟩
def ARC0.ARC_STATUS_PACKAGES_OK : Field := ⟨0x58, 8, 8, .ro, 0⟩
def ARC0.FREE_SEGS : Field := ⟨0x5c, 0, 26, .ro, 0⟩
def ARC0.OBJECTS : Field := ⟨0x60, 0, 23, .ro, 0⟩
def ARC0.WEAR_PCT (i : Nat) : Field := ⟨0x64 + 4 * i, 0, 32, .ro, 0⟩
def ARC0.FILL_CHUNKS : Field := ⟨0x80, 0, 32, .rc, 0⟩
def ARC0.FILL_BAD : Field := ⟨0x84, 0, 32, .rc, 0⟩
def ARC0.FILL_UNKNOWN : Field := ⟨0x88, 0, 32, .rc, 0⟩
def ARC0.FILL_DUP : Field := ⟨0x8c, 0, 32, .rc, 0⟩
def ARC0.FILL_BEHIND : Field := ⟨0x90, 0, 32, .rc, 0⟩
def ARC0.GAPS : Field := ⟨0x94, 0, 32, .rc, 0⟩
def ARC0.GAP_LOST : Field := ⟨0x98, 0, 32, .rc, 0⟩
def ARC0.SEG_CRC_ERR : Field := ⟨0x9c, 0, 32, .rc, 0⟩
def ARC0.SEG_UNCORR : Field := ⟨0xa0, 0, 32, .rc, 0⟩
def ARC0.WRITE_DUP : Field := ⟨0xa4, 0, 32, .rc, 0⟩
def ARC0.SEGMENTS_WRITTEN : Field := ⟨0xa8, 0, 32, .rc, 0⟩
def ARC0.SEGMENTS_READ : Field := ⟨0xac, 0, 32, .rc, 0⟩
def ARC0.SERVES : Field := ⟨0xb0, 0, 32, .rc, 0⟩
def ARC0.SERVE_WAITS : Field := ⟨0xb4, 0, 32, .rc, 0⟩
def ARC0.OVERRUNS : Field := ⟨0xb8, 0, 32, .rc, 0⟩
def ARC0.DIR_FLUSHES : Field := ⟨0xbc, 0, 32, .rc, 0⟩

/-- Every field of the table above. -/
def ARC0.fields : List Field :=
  [ARC0.ARC_CTRL_EN, ARC0.ARC_CTRL_SERVE_EN, ARC0.ARC_CTRL_GAP_DEST, ARC0.FILL_ETYPE, ARC0.GAP_RING, ARC0.FILL_LEAF, ARC0.FILL_TIMEOUT, ARC0.REPAIR_TICKS, ARC0.ARC_STATUS_READY, ARC0.ARC_STATUS_READ_ONLY, ARC0.ARC_STATUS_FLUSHING, ARC0.ARC_STATUS_PACKAGES_OK]
  ++ [ARC0.FREE_SEGS, ARC0.OBJECTS]
  ++ (List.range 2).map ARC0.WEAR_PCT
  ++ [ARC0.FILL_CHUNKS, ARC0.FILL_BAD, ARC0.FILL_UNKNOWN, ARC0.FILL_DUP, ARC0.FILL_BEHIND, ARC0.GAPS, ARC0.GAP_LOST, ARC0.SEG_CRC_ERR, ARC0.SEG_UNCORR, ARC0.WRITE_DUP, ARC0.SEGMENTS_WRITTEN, ARC0.SEGMENTS_READ]
  ++ [ARC0.SERVES, ARC0.SERVE_WAITS, ARC0.OVERRUNS, ARC0.DIR_FLUSHES]

/-! Table 14.7. Page 0x1E1: directory access. -/

def ARC1.OP_SEG : Field := ⟨0x40, 0, 32, .rw, 0⟩
def ARC1.OP_CRC : Field := ⟨0x44, 0, 32, .rw, 0⟩
def ARC1.OP_ADDR_LO : Field := ⟨0x48, 0, 32, .rw, 0⟩
def ARC1.OP_ADDR_HI : Field := ⟨0x4c, 0, 32, .rw, 0⟩
def ARC1.OP_SYS_ITEM : Field := ⟨0x50, 0, 2, .rw, 0⟩
def ARC1.OP_SYS_OFFSET : Field := ⟨0x50, 2, 30, .rw, 0⟩
def ARC1.TBL_ADDR : Field := ⟨0x100, 0, 22, .rw, 0⟩

/-- Every field of the table above. -/
def ARC1.fields : List Field :=
  [ARC1.OP_SEG, ARC1.OP_CRC, ARC1.OP_ADDR_LO, ARC1.OP_ADDR_HI, ARC1.OP_SYS_ITEM, ARC1.OP_SYS_OFFSET, ARC1.TBL_ADDR]

/-! Table 14.8. Page 0x1E2: rings and readers. -/

def ARC2.TBL_ADDR_INDEX : Field := ⟨0x100, 0, 14, .rw, 0⟩
def ARC2.TBL_ADDR_TABLE : Field := ⟨0x100, 16, 1, .rw, 0⟩

/-- Every field of the table above. -/
def ARC2.fields : List Field :=
  [ARC2.TBL_ADDR_INDEX, ARC2.TBL_ADDR_TABLE]

/-! Table 15.6. Page 0x008: Town Hall. -/

def THL.FUNC_MODE : Field := ⟨0x40, 0, 11, .rws, 0⟩
def THL.FUNC_EFFECTIVE : Field := ⟨0x44, 0, 11, .ro, 0⟩
def THL.FUNC_RESULT : Field := ⟨0x48, 0, 2, .ro, 0⟩
def THL.PLOAM_RING : Field := ⟨0x4c, 0, 6, .rws, 0⟩
def THL.OMCI_RING : Field := ⟨0x4c, 8, 6, .rws, 0⟩
def THL.EQ_RING : Field := ⟨0x4c, 16, 6, .rws, 0⟩
def THL.THL_STATUS_ACTIVE_PAIR : Field := ⟨0x50, 0, 1, .ro, 0⟩
def THL.THL_STATUS_PAIR0 : Field := ⟨0x50, 1, 3, .ro, 0⟩
def THL.THL_STATUS_PAIR1 : Field := ⟨0x50, 4, 3, .ro, 1⟩
def THL.STEP_TICK : Field := ⟨0x54, 0, 32, .ro, 0⟩
def THL.STEP_TICKS_MAX : Field := ⟨0x58, 0, 16, .rc, 0⟩
def THL.TAKEOVERS : Field := ⟨0x5c, 0, 16, .rc, 0⟩
def THL.MISCOMPARES : Field := ⟨0x5c, 16, 16, .rc, 0⟩
def THL.HANDOFF_DISCARDS : Field := ⟨0x60, 0, 32, .rc, 0⟩
def THL.PAIR_CMD_PAIR : Field := ⟨0x64, 0, 1, .wo, 0⟩
def THL.PAIR_CMD_OP : Field := ⟨0x64, 4, 2, .wo, 0⟩
def THL.PAIR_RESULT : Field := ⟨0x68, 0, 2, .ro, 0⟩

/-- Every field of the table above. -/
def THL.fields : List Field :=
  [THL.FUNC_MODE, THL.FUNC_EFFECTIVE, THL.FUNC_RESULT, THL.PLOAM_RING, THL.OMCI_RING, THL.EQ_RING, THL.THL_STATUS_ACTIVE_PAIR, THL.THL_STATUS_PAIR0, THL.THL_STATUS_PAIR1, THL.STEP_TICK, THL.STEP_TICKS_MAX, THL.TAKEOVERS]
  ++ [THL.MISCOMPARES, THL.HANDOFF_DISCARDS, THL.PAIR_CMD_PAIR, THL.PAIR_CMD_OP, THL.PAIR_RESULT]

/-! Table 15.7. Page 0x0B0: host port. -/

def HST0.HST_CTRL_EN : Field := ⟨0x40, 0, 1, .rw, 1⟩
def HST0.HST_CTRL_LINK_HOLD : Field := ⟨0x40, 1, 1, .rw, 0⟩
def HST0.HST_STATUS_LINK_UP : Field := ⟨0x44, 0, 1, .ro, 0⟩
def HST0.HST_STATUS_WIDTH : Field := ⟨0x44, 4, 3, .ro, 0⟩
def HST0.HST_STATUS_SPEED : Field := ⟨0x44, 8, 2, .ro, 0⟩
def HST0.HST_STATUS_ASPM : Field := ⟨0x44, 10, 2, .ro, 0⟩
def HST0.HST_STATUS_DSTATE : Field := ⟨0x44, 12, 2, .ro, 0⟩
def HST0.REPLAYS : Field := ⟨0x48, 0, 32, .rc, 0⟩
def HST0.CORRECTABLE : Field := ⟨0x4c, 0, 32, .rc, 0⟩
def HST0.UNCORRECTABLE : Field := ⟨0x50, 0, 32, .rc, 0⟩
def HST0.LINK_DOWNS : Field := ⟨0x54, 0, 32, .rc, 0⟩
def HST0.FLRS : Field := ⟨0x58, 0, 32, .rc, 0⟩
def HST0.TX_FETCHED : Field := ⟨0x5c, 0, 32, .rc, 0⟩
def HST0.INGRESS_OVERFLOW : Field := ⟨0x60, 0, 32, .rc, 0⟩

/-- Every field of the table above. -/
def HST0.fields : List Field :=
  [HST0.HST_CTRL_EN, HST0.HST_CTRL_LINK_HOLD, HST0.HST_STATUS_LINK_UP, HST0.HST_STATUS_WIDTH, HST0.HST_STATUS_SPEED, HST0.HST_STATUS_ASPM, HST0.HST_STATUS_DSTATE, HST0.REPLAYS, HST0.CORRECTABLE, HST0.UNCORRECTABLE, HST0.LINK_DOWNS, HST0.FLRS]
  ++ [HST0.TX_FETCHED, HST0.INGRESS_OVERFLOW]

/-! Table 15.8. Page 0x0B1: ring n at 0x100 + 0x20n. -/

def HST1.BASE_LO (n : Nat) : Field := ⟨0x100 + 0x20 * n, 0, 32, .rw, 0⟩
def HST1.BASE_HI (n : Nat) : Field := ⟨0x104 + 0x20 * n, 0, 32, .rw, 0⟩
def HST1.RING_CFG_LOG2_LEN (n : Nat) : Field := ⟨0x108 + 0x20 * n, 0, 4, .rw, 6⟩
def HST1.RING_CFG_KIND (n : Nat) : Field := ⟨0x108 + 0x20 * n, 4, 1, .rw, 0⟩
def HST1.RING_CFG_BUF_SIZE (n : Nat) : Field := ⟨0x108 + 0x20 * n, 8, 2, .rw, 1⟩
def HST1.RING_CFG_VECTOR (n : Nat) : Field := ⟨0x108 + 0x20 * n, 16, 6, .rw, 0⟩
def HST1.RING_CFG_ITR (n : Nat) : Field := ⟨0x108 + 0x20 * n, 24, 8, .rw, 0⟩
def HST1.LEAF (n : Nat) : Field := ⟨0x10c + 0x20 * n, 0, 17, .rw, 0⟩
def HST1.LEAF_EN (n : Nat) : Field := ⟨0x10c + 0x20 * n, 31, 1, .rw, 0⟩
def HST1.WB_LO (n : Nat) : Field := ⟨0x110 + 0x20 * n, 0, 32, .rw, 0⟩
def HST1.WB_HI (n : Nat) : Field := ⟨0x114 + 0x20 * n, 0, 32, .rw, 0⟩
def HST1.TAIL (n : Nat) : Field := ⟨0x118 + 0x20 * n, 0, 16, .rw, 0⟩
def HST1.HEAD (n : Nat) : Field := ⟨0x118 + 0x20 * n, 16, 16, .ro, 0⟩
def HST1.RING_CTRL_START (n : Nat) : Field := ⟨0x11c + 0x20 * n, 0, 1, .w1s, 0⟩
def HST1.RING_CTRL_STOP (n : Nat) : Field := ⟨0x11c + 0x20 * n, 1, 1, .w1s, 0⟩
def HST1.RING_CTRL_STATE (n : Nat) : Field := ⟨0x11c + 0x20 * n, 2, 2, .ro, 0⟩
def HST1.RING_CTRL_RING_RESULT (n : Nat) : Field := ⟨0x11c + 0x20 * n, 4, 4, .ro, 0⟩

/-- Every field of the table above. -/
def HST1.fields : List Field :=
  (List.range 64).map HST1.BASE_LO
  ++ (List.range 64).map HST1.BASE_HI
  ++ (List.range 64).map HST1.RING_CFG_LOG2_LEN
  ++ (List.range 64).map HST1.RING_CFG_KIND
  ++ (List.range 64).map HST1.RING_CFG_BUF_SIZE
  ++ (List.range 64).map HST1.RING_CFG_VECTOR
  ++ (List.range 64).map HST1.RING_CFG_ITR
  ++ (List.range 64).map HST1.LEAF
  ++ (List.range 64).map HST1.LEAF_EN
  ++ (List.range 64).map HST1.WB_LO
  ++ (List.range 64).map HST1.WB_HI
  ++ (List.range 64).map HST1.TAIL
  ++ (List.range 64).map HST1.HEAD
  ++ (List.range 64).map HST1.RING_CTRL_START
  ++ (List.range 64).map HST1.RING_CTRL_STOP
  ++ (List.range 64).map HST1.RING_CTRL_STATE
  ++ (List.range 64).map HST1.RING_CTRL_RING_RESULT

/-! Table 16.6. Page 0x010: identity, fuses and boot. -/

def SEC0.ID_PUB (i : Nat) : Field := ⟨0x40 + 4 * i, 0, 32, .ro, 0⟩
def SEC0.ID_CERT (i : Nat) : Field := ⟨0x80 + 4 * i, 0, 32, .ro, 0⟩
def SEC0.ROOT_HASH (i : Nat) : Field := ⟨0x100 + 4 * i, 0, 32, .ro, 0⟩
def SEC0.OWNER_HASH0 (i : Nat) : Field := ⟨0x140 + 4 * i, 0, 32, .ro, 0⟩
def SEC0.OWNER_HASH1 (i : Nat) : Field := ⟨0x180 + 4 * i, 0, 32, .ro, 0⟩
def SEC0.FUSE_STATE_OWNER0 : Field := ⟨0x1c0, 0, 2, .ro, 0⟩
def SEC0.FUSE_STATE_OWNER1 : Field := ⟨0x1c0, 2, 2, .ro, 0⟩
def SEC0.FUSE_STATE_LOCK : Field := ⟨0x1c0, 4, 1, .ro, 0⟩
def SEC0.FUSE_CMD_OP : Field := ⟨0x1c4, 0, 3, .wo, 0⟩
def SEC0.FUSE_CMD_SLOT : Field := ⟨0x1c4, 4, 1, .wo, 0⟩
def SEC0.FUSE_RESULT : Field := ⟨0x1c8, 0, 3, .ro, 0⟩
def SEC0.FUSE_DATA (i : Nat) : Field := ⟨0x1d0 + 4 * i, 0, 32, .rw, 0⟩
def SEC0.BOOT_STATUS_STAGE : Field := ⟨0x240, 0, 2, .ro, 0⟩
def SEC0.BOOT_STATUS_SLOT : Field := ⟨0x240, 2, 1, .ro, 0⟩
def SEC0.BOOT_STATUS_FALLBACK : Field := ⟨0x240, 3, 1, .ro, 0⟩
def SEC0.BOOT_STATUS_TRIAL : Field := ⟨0x240, 4, 1, .ro, 0⟩
def SEC0.BOOT_STATUS_ATTEMPTS : Field := ⟨0x240, 5, 3, .ro, 0⟩
def SEC0.BOOT_STATUS_RESULT : Field := ⟨0x240, 8, 4, .ro, 0⟩
def SEC0.BOOT_IMAGE_ID_LO : Field := ⟨0x244, 0, 32, .ro, 0⟩
def SEC0.BOOT_IMAGE_ID_HI : Field := ⟨0x248, 0, 32, .ro, 0⟩
def SEC0.HBOOT_SRC_LO : Field := ⟨0x24c, 0, 32, .rw, 0⟩
def SEC0.HBOOT_SRC_HI : Field := ⟨0x250, 0, 32, .rw, 0⟩
def SEC0.HBOOT_LEN : Field := ⟨0x254, 0, 32, .rw, 0⟩
def SEC0.HBOOT_GO : Field := ⟨0x258, 0, 1, .w1s, 0⟩
def SEC0.IMG_CMD_OP : Field := ⟨0x260, 0, 2, .wo, 0⟩
def SEC0.IMG_SLOT : Field := ⟨0x260, 4, 1, .rw, 0⟩
def SEC0.IMG_TRIAL : Field := ⟨0x260, 5, 1, .rw, 0⟩
def SEC0.IMG_SRC_LO : Field := ⟨0x264, 0, 32, .rw, 0⟩
def SEC0.IMG_SRC_HI : Field := ⟨0x268, 0, 32, .rw, 0⟩
def SEC0.IMG_LEN : Field := ⟨0x26c, 0, 32, .rw, 0⟩
def SEC0.IMG_RESULT : Field := ⟨0x270, 0, 3, .ro, 0⟩
def SEC0.AUTO_CONFIRM : Field := ⟨0x274, 0, 1, .rw, 1⟩

/-- Every field of the table above. -/
def SEC0.fields : List Field :=
  (List.range 8).map SEC0.ID_PUB
  ++ (List.range 32).map SEC0.ID_CERT
  ++ (List.range 16).map SEC0.ROOT_HASH
  ++ (List.range 16).map SEC0.OWNER_HASH0
  ++ (List.range 16).map SEC0.OWNER_HASH1
  ++ [SEC0.FUSE_STATE_OWNER0, SEC0.FUSE_STATE_OWNER1, SEC0.FUSE_STATE_LOCK, SEC0.FUSE_CMD_OP, SEC0.FUSE_CMD_SLOT, SEC0.FUSE_RESULT]
  ++ (List.range 16).map SEC0.FUSE_DATA
  ++ [SEC0.BOOT_STATUS_STAGE, SEC0.BOOT_STATUS_SLOT, SEC0.BOOT_STATUS_FALLBACK, SEC0.BOOT_STATUS_TRIAL, SEC0.BOOT_STATUS_ATTEMPTS, SEC0.BOOT_STATUS_RESULT, SEC0.BOOT_IMAGE_ID_LO, SEC0.BOOT_IMAGE_ID_HI, SEC0.HBOOT_SRC_LO, SEC0.HBOOT_SRC_HI, SEC0.HBOOT_LEN, SEC0.HBOOT_GO]
  ++ [SEC0.IMG_CMD_OP, SEC0.IMG_SLOT, SEC0.IMG_TRIAL, SEC0.IMG_SRC_LO, SEC0.IMG_SRC_HI, SEC0.IMG_LEN, SEC0.IMG_RESULT, SEC0.AUTO_CONFIRM]

/-! Table 16.7. Page 0x011: measurement and quotes. -/

def SEC1.MEAS (m : Nat) (i : Nat) : Field := ⟨0x40 + 0x40 * m + 4 * i, 0, 32, .ro, 0⟩
def SEC1.MEAS_EXT (i : Nat) : Field := ⟨0x240 + 4 * i, 0, 32, .rw, 0⟩
def SEC1.MEAS_EXT_GO : Field := ⟨0x280, 0, 1, .w1s, 0⟩
def SEC1.LOG_COUNT : Field := ⟨0x284, 0, 13, .ro, 0⟩
def SEC1.LOG_OVERFLOW : Field := ⟨0x284, 16, 1, .ro, 0⟩
def SEC1.QUOTE_NONCE (i : Nat) : Field := ⟨0x2c0 + 4 * i, 0, 32, .rw, 0⟩
def SEC1.QUOTE_ADDR_LO : Field := ⟨0x2e0, 0, 32, .rw, 0⟩
def SEC1.QUOTE_ADDR_HI : Field := ⟨0x2e4, 0, 32, .rw, 0⟩
def SEC1.QUOTE_CMD : Field := ⟨0x2e8, 0, 1, .w1s, 0⟩
def SEC1.QUOTE_STATUS : Field := ⟨0x2ec, 0, 2, .ro, 0⟩
def SEC1.TBL_ADDR : Field := ⟨0x300, 0, 12, .rw, 0⟩
def SEC1.TBL_CMD : Field := ⟨0x304, 0, 1, .wo, 0⟩
def SEC1.TBL_BUSY : Field := ⟨0x308, 0, 1, .ro, 0⟩
def SEC1.TBL_RESULT : Field := ⟨0x308, 1, 4, .ro, 0⟩
def SEC1.TBL_CMD_LOST : Field := ⟨0x308, 31, 1, .w1c, 0⟩
def SEC1.TBL_RESULT_INDEX : Field := ⟨0x30c, 0, 32, .ro, 0⟩
def SEC1.TBL_DATA (i : Nat) : Field := ⟨0x310 + 4 * i, 0, 32, .ro, 0⟩

/-- Every field of the table above. -/
def SEC1.fields : List Field :=
  (List.range 8).flatMap (fun a => (List.range 16).map (SEC1.MEAS a))
  ++ (List.range 16).map SEC1.MEAS_EXT
  ++ [SEC1.MEAS_EXT_GO, SEC1.LOG_COUNT, SEC1.LOG_OVERFLOW]
  ++ (List.range 8).map SEC1.QUOTE_NONCE
  ++ [SEC1.QUOTE_ADDR_LO, SEC1.QUOTE_ADDR_HI, SEC1.QUOTE_CMD, SEC1.QUOTE_STATUS, SEC1.TBL_ADDR, SEC1.TBL_CMD, SEC1.TBL_BUSY, SEC1.TBL_RESULT,
    SEC1.TBL_CMD_LOST, SEC1.TBL_RESULT_INDEX]
  ++ (List.range 20).map SEC1.TBL_DATA

/-! Table 16.8. Page 0x012: rollback, debug and keys. -/

def SEC2.RB_VALUE (i : Nat) : Field := ⟨0x40 + 4 * i, 0, 32, .ro, 0⟩
def SEC2.RB_CMD_COUNTER : Field := ⟨0x80, 0, 6, .wo, 0⟩
def SEC2.RB_CMD_VALUE : Field := ⟨0x80, 8, 7, .wo, 0⟩
def SEC2.RB_RESULT : Field := ⟨0x84, 0, 2, .ro, 0⟩
def SEC2.DBG_CMD : Field := ⟨0xc0, 0, 3, .wo, 0⟩
/-- Holds the scopes granted; shown as 0x1F before OWNER_LOCK (R484). -/
def SEC2.DBG_STATUS_SCOPE : Field := ⟨0xc4, 0, 5, .ro, 0⟩
def SEC2.DBG_STATUS_CHAL_VALID : Field := ⟨0xc4, 8, 1, .ro, 0⟩
def SEC2.DBG_STATUS_THROTTLED : Field := ⟨0xc4, 9, 1, .ro, 0⟩
def SEC2.DBG_REMAIN : Field := ⟨0xc8, 0, 32, .ro, 0⟩
def SEC2.DBG_FAILS : Field := ⟨0xcc, 0, 16, .rc, 0⟩
def SEC2.DBG_CHAL (i : Nat) : Field := ⟨0x100 + 4 * i, 0, 32, .ro, 0⟩
def SEC2.DBG_RESP (i : Nat) : Field := ⟨0x140 + 4 * i, 0, 32, .wo, 0⟩
def SEC2.RNG_STATUS_RNG_FAIL : Field := ⟨0x1c0, 0, 1, .ro, 0⟩
def SEC2.KEYSTORE_DBE : Field := ⟨0x1c4, 0, 16, .rc, 0⟩

/-- Every field of the table above. -/
def SEC2.fields : List Field :=
  (List.range 16).map SEC2.RB_VALUE
  ++ [SEC2.RB_CMD_COUNTER, SEC2.RB_CMD_VALUE, SEC2.RB_RESULT, SEC2.DBG_CMD, SEC2.DBG_STATUS_SCOPE, SEC2.DBG_STATUS_CHAL_VALID, SEC2.DBG_STATUS_THROTTLED, SEC2.DBG_REMAIN, SEC2.DBG_FAILS]
  ++ (List.range 8).map SEC2.DBG_CHAL
  ++ (List.range 32).map SEC2.DBG_RESP
  ++ [SEC2.RNG_STATUS_RNG_FAIL, SEC2.KEYSTORE_DBE]

/-! Table 17.11. Page 0x020: modes, requests and domains. -/

def PWR0.PWR_STATUS_MODE : Field := ⟨0x40, 0, 3, .ro, 1⟩
def PWR0.PWR_STATUS_STATE : Field := ⟨0x40, 4, 3, .ro, 0⟩
def PWR0.PWR_STATUS_IN_PROGRESS : Field := ⟨0x40, 8, 1, .ro, 0⟩
def PWR0.PWR_STATUS_PENDING : Field := ⟨0x40, 9, 1, .ro, 0⟩
def PWR0.PWR_PENDING_OP : Field := ⟨0x44, 0, 3, .ro, 0⟩
def PWR0.PWR_PENDING_TARGET : Field := ⟨0x44, 4, 3, .ro, 0⟩
def PWR0.PWR_PENDING_LOW_STATE : Field := ⟨0x44, 8, 2, .ro, 0⟩
def PWR0.PWR_PENDING_SOURCE : Field := ⟨0x44, 12, 1, .ro, 0⟩
def PWR0.PWR_REQ_OP : Field := ⟨0x48, 0, 3, .wo, 0⟩
def PWR0.PWR_REQ_TARGET : Field := ⟨0x48, 4, 3, .wo, 0⟩
def PWR0.PWR_REQ_LOW_STATE : Field := ⟨0x48, 8, 2, .wo, 0⟩
def PWR0.REQ_RESULT : Field := ⟨0x4c, 0, 4, .ro, 0⟩
def PWR0.MODE_SINCE_TICK : Field := ⟨0x50, 0, 32, .ro, 0⟩
def PWR0.PD_STATUS : Field := ⟨0x54, 0, 20, .ro, 0xfffff⟩
def PWR0.PD_CTRL : Field := ⟨0x58, 0, 20, .rws, 0xfffff⟩
def PWR0.PD_RESULT : Field := ⟨0x5c, 0, 2, .ro, 0⟩
def PWR0.RET_MASK : Field := ⟨0x60, 0, 6, .rws, 0x1f⟩
def PWR0.AUTO_SERVICE : Field := ⟨0x64, 0, 1, .rw, 1⟩
def PWR0.SELFTEST_ON_WAKE : Field := ⟨0x64, 1, 1, .rw, 0⟩
def PWR0.LOW_STATE_BUDGET : Field := ⟨0x68, 0, 2, .rws, 1⟩
def PWR0.SLEEP_TIMER : Field := ⟨0x6c, 0, 32, .rws, 0⟩
def PWR0.LAST_WAKE_SRC : Field := ⟨0x70, 0, 3, .ro, 0⟩
def PWR0.MODE_CHANGES : Field := ⟨0x80, 0, 32, .rc, 0⟩
def PWR0.REQUESTS : Field := ⟨0x84, 0, 32, .rc, 0⟩
def PWR0.REQ_REFUSED : Field := ⟨0x88, 0, 32, .rc, 0⟩
def PWR0.DRAIN_TICKS_MAX : Field := ⟨0x8c, 0, 16, .rc, 0⟩
def PWR0.FEED_DROPPED : Field := ⟨0x90, 0, 32, .rc, 0⟩
def PWR0.ABANDONED_LAST : Field := ⟨0x94, 0, 32, .ro, 0⟩

/-- Every field of the table above. -/
def PWR0.fields : List Field :=
  [PWR0.PWR_STATUS_MODE, PWR0.PWR_STATUS_STATE, PWR0.PWR_STATUS_IN_PROGRESS, PWR0.PWR_STATUS_PENDING, PWR0.PWR_PENDING_OP, PWR0.PWR_PENDING_TARGET, PWR0.PWR_PENDING_LOW_STATE, PWR0.PWR_PENDING_SOURCE, PWR0.PWR_REQ_OP, PWR0.PWR_REQ_TARGET, PWR0.PWR_REQ_LOW_STATE, PWR0.REQ_RESULT]
  ++ [PWR0.MODE_SINCE_TICK, PWR0.PD_STATUS, PWR0.PD_CTRL, PWR0.PD_RESULT, PWR0.RET_MASK, PWR0.AUTO_SERVICE, PWR0.SELFTEST_ON_WAKE, PWR0.LOW_STATE_BUDGET, PWR0.SLEEP_TIMER, PWR0.LAST_WAKE_SRC, PWR0.MODE_CHANGES, PWR0.REQUESTS]
  ++ [PWR0.REQ_REFUSED, PWR0.DRAIN_TICKS_MAX, PWR0.FEED_DROPPED, PWR0.ABANDONED_LAST]

/-! Table 17.12. Page 0x021: feed, WAKE and alarms. -/

def PWR1.FEED_STATUS_WARN : Field := ⟨0x40, 0, 1, .ro, 0⟩
def PWR1.FEED_STATUS_FAIL : Field := ⟨0x40, 1, 1, .ro, 0⟩
def PWR1.FEED_STATUS_BUDGET_KNOWN : Field := ⟨0x40, 2, 1, .ro, 0⟩
def PWR1.FEED_STATUS_FILTER_STALE : Field := ⟨0x40, 3, 1, .ro, 1⟩
def PWR1.FEED_P_MW : Field := ⟨0x44, 0, 32, .ro, 0⟩
def PWR1.FEED_BUDGET_MW : Field := ⟨0x48, 0, 32, .ro, 0⟩
def PWR1.FEED_V_MV : Field := ⟨0x4c, 0, 32, .ro, 0⟩
def PWR1.HEADROOM_MW : Field := ⟨0x50, 0, 32, .ro, 0⟩
def PWR1.PMB_CTRL_ADDR : Field := ⟨0x54, 0, 7, .rw, 0x40⟩
def PWR1.PMB_CTRL_SPEED : Field := ⟨0x54, 8, 1, .rw, 1⟩
def PWR1.PMB_CTRL_PEC : Field := ⟨0x54, 9, 1, .rw, 1⟩
def PWR1.SERVICE_MIN_MW : Field := ⟨0x58, 0, 32, .rws, 0xea60⟩
def PWR1.LEAN_MIN_MW : Field := ⟨0x5c, 0, 32, .rws, 0x6590⟩
def PWR1.HYST_MW : Field := ⟨0x60, 0, 32, .rws, 0xfa0⟩
def PWR1.BUDGET_HOLD : Field := ⟨0x64, 0, 16, .rws, 0x320⟩
def PWR1.HOLDUP_US : Field := ⟨0x68, 0, 16, .rws, 0x1194⟩
def PWR1.PMBUS_ERRORS : Field := ⟨0x6c, 0, 16, .rc, 0⟩
def PWR1.WAKE_STATUS_LEVEL : Field := ⟨0x80, 0, 1, .ro, 0⟩
def PWR1.WAKE_STATUS_STUCK : Field := ⟨0x80, 1, 1, .ro, 0⟩
def PWR1.WAKES_LIMITED : Field := ⟨0x84, 0, 16, .rc, 0⟩
def PWR1.ALM_CTRL_EN : Field := ⟨0xc0, 0, 8, .rw, 0⟩
def PWR1.ALM_CTRL_WAKE_EN : Field := ⟨0xc0, 8, 8, .rw, 0⟩
def PWR1.ALM_CTRL_POLARITY : Field := ⟨0xc0, 16, 8, .rw, 0⟩
def PWR1.ALM_STATE : Field := ⟨0xc4, 0, 8, .ro, 0⟩
def PWR1.FROZEN : Field := ⟨0xc4, 8, 8, .ro, 0⟩
def PWR1.ALM_DEB (i : Nat) : Field := ⟨0xD0 + 4 * (i / 4), 8 * (i % 4), 8, .rws, 0xa⟩
def PWR1.CHAT_COUNT : Field := ⟨0xd8, 0, 8, .rws, 8⟩
def PWR1.CHAT_WINDOW : Field := ⟨0xd8, 16, 16, .rws, 0x1f40⟩
def PWR1.ALM_CHANGES (i : Nat) : Field := ⟨0xe0 + 4 * i, 0, 16, .rc, 0⟩

/-- Every field of the table above. -/
def PWR1.fields : List Field :=
  [PWR1.FEED_STATUS_WARN, PWR1.FEED_STATUS_FAIL, PWR1.FEED_STATUS_BUDGET_KNOWN, PWR1.FEED_STATUS_FILTER_STALE, PWR1.FEED_P_MW, PWR1.FEED_BUDGET_MW, PWR1.FEED_V_MV, PWR1.HEADROOM_MW, PWR1.PMB_CTRL_ADDR, PWR1.PMB_CTRL_SPEED, PWR1.PMB_CTRL_PEC, PWR1.SERVICE_MIN_MW]
  ++ [PWR1.LEAN_MIN_MW, PWR1.HYST_MW, PWR1.BUDGET_HOLD, PWR1.HOLDUP_US, PWR1.PMBUS_ERRORS, PWR1.WAKE_STATUS_LEVEL, PWR1.WAKE_STATUS_STUCK, PWR1.WAKES_LIMITED, PWR1.ALM_CTRL_EN, PWR1.ALM_CTRL_WAKE_EN, PWR1.ALM_CTRL_POLARITY, PWR1.ALM_STATE]
  ++ [PWR1.FROZEN]
  ++ (List.range 8).map PWR1.ALM_DEB
  ++ [PWR1.CHAT_COUNT, PWR1.CHAT_WINDOW]
  ++ (List.range 8).map PWR1.ALM_CHANGES

/-! Table 18.2. Common page registers. -/

def COM.PAGE_IDENT_BLOCK : Field := ⟨0, 0, 8, .ro, 0⟩
def COM.PAGE_IDENT_INSTANCE : Field := ⟨0, 8, 8, .ro, 0⟩
def COM.PAGE_IDENT_PAGE : Field := ⟨0, 16, 4, .ro, 0⟩
def COM.PAGE_IDENT_REVISION : Field := ⟨0, 24, 8, .ro, 0x10⟩
def COM.PAGE_CAPS_TABLE : Field := ⟨4, 0, 1, .ro, 0⟩
def COM.PAGE_CAPS_STAGED : Field := ⟨4, 1, 1, .ro, 0⟩
def COM.PAGE_CAPS_ENABLE_CTL : Field := ⟨4, 2, 1, .ro, 0⟩
def COM.PAGE_CAPS_EVENT_BITS : Field := ⟨4, 8, 8, .ro, 0⟩
def COM.PAGE_CAPS_TBL_WORDS : Field := ⟨4, 16, 8, .ro, 0⟩
def COM.PAGE_CTRL_ENABLE : Field := ⟨8, 0, 1, .rw, 1⟩
def COM.PAGE_CTRL_SOFT_RESET : Field := ⟨8, 1, 1, .w1s, 0⟩
def COM.PAGE_CTRL_VIEW_STAGED : Field := ⟨8, 2, 1, .rw, 0⟩
def COM.PAGE_STATUS_STAGED : Field := ⟨0xc, 0, 1, .ro, 0⟩
def COM.PAGE_STATUS_LOCKED : Field := ⟨0xc, 1, 1, .ro, 0⟩
def COM.PAGE_STATUS_FAULT : Field := ⟨0xc, 2, 1, .ro, 0⟩
def COM.PAGE_STATUS_EVENT : Field := ⟨0xc, 3, 1, .ro, 0⟩
def COM.PAGE_STATUS_CFG_IGNORED : Field := ⟨0xc, 4, 1, .w1c, 0⟩
def COM.PAGE_EVENT : Field := ⟨0x10, 0, 32, .w1c, 0⟩
def COM.PAGE_EVENT_EN : Field := ⟨0x14, 0, 32, .rw, 0xffffffff⟩
def COM.PAGE_EVENT_SET : Field := ⟨0x18, 0, 32, .wo, 0⟩
def COM.PAGE_FAULT_CORRECTED : Field := ⟨0x1c, 0, 16, .rc, 0⟩
def COM.PAGE_FAULT_UNCORRECTED : Field := ⟨0x1c, 16, 1, .w1c, 0⟩
def COM.PAGE_FAULT_REG_DBE : Field := ⟨0x1c, 17, 1, .w1c, 0⟩
def COM.PAGE_FAULT_MASKED : Field := ⟨0x1c, 18, 1, .w1c, 0⟩
def COM.PAGE_FAULT_CONTAINED : Field := ⟨0x1c, 19, 1, .w1c, 0⟩
def COM.PAGE_COMMIT_REQUEST : Field := ⟨0x20, 0, 1, .w1s, 0⟩
def COM.PAGE_COMMIT_RESULT : Field := ⟨0x20, 1, 2, .ro, 0⟩
def COM.PAGE_COMMIT_EPOCH : Field := ⟨0x20, 8, 24, .ro, 0⟩
def COM.PAGE_LOCK_LOCK : Field := ⟨0x24, 0, 1, .rw, 0⟩
def COM.PAGE_LOCK_STICKY : Field := ⟨0x24, 1, 1, .w1s, 0⟩
def COM.PAGE_FAULT_LOC : Field := ⟨0x28, 0, 32, .ro, 0⟩
def COM.PAGE_FAULT_TICK : Field := ⟨0x2c, 0, 32, .ro, 0⟩
def COM.PAGE_FAULT_BLOCK : Field := ⟨0x30, 0, 6, .ro, 0⟩

/-- Every field of the table above. -/
def COM.fields : List Field :=
  [COM.PAGE_IDENT_BLOCK, COM.PAGE_IDENT_INSTANCE, COM.PAGE_IDENT_PAGE, COM.PAGE_IDENT_REVISION, COM.PAGE_CAPS_TABLE, COM.PAGE_CAPS_STAGED, COM.PAGE_CAPS_ENABLE_CTL, COM.PAGE_CAPS_EVENT_BITS, COM.PAGE_CAPS_TBL_WORDS, COM.PAGE_CTRL_ENABLE, COM.PAGE_CTRL_SOFT_RESET, COM.PAGE_CTRL_VIEW_STAGED]
  ++ [COM.PAGE_STATUS_STAGED, COM.PAGE_STATUS_LOCKED, COM.PAGE_STATUS_FAULT, COM.PAGE_STATUS_EVENT, COM.PAGE_STATUS_CFG_IGNORED, COM.PAGE_EVENT, COM.PAGE_EVENT_EN, COM.PAGE_EVENT_SET, COM.PAGE_FAULT_CORRECTED, COM.PAGE_FAULT_UNCORRECTED, COM.PAGE_FAULT_REG_DBE, COM.PAGE_FAULT_MASKED]
  ++ [COM.PAGE_FAULT_CONTAINED, COM.PAGE_COMMIT_REQUEST, COM.PAGE_COMMIT_RESULT, COM.PAGE_COMMIT_EPOCH, COM.PAGE_LOCK_LOCK, COM.PAGE_LOCK_STICKY, COM.PAGE_FAULT_LOC, COM.PAGE_FAULT_TICK, COM.PAGE_FAULT_BLOCK]

/-! Table 18.4. Table registers. -/

def TBL.ADDR : Field := ⟨0x100, 0, 32, .rw, 0⟩
def TBL.CMD : Field := ⟨0x104, 0, 4, .wo, 0⟩
def TBL.BUSY : Field := ⟨0x108, 0, 1, .ro, 0⟩
def TBL.RESULT : Field := ⟨0x108, 1, 4, .ro, 0⟩
def TBL.CMD_LOST : Field := ⟨0x108, 31, 1, .w1c, 0⟩
def TBL.RESULT_INDEX : Field := ⟨0x10c, 0, 32, .ro, 0⟩
def TBL.DATA (i : Nat) : Field := ⟨0x110 + 4 * i, 0, 32, .rw, 0⟩

/-- Every field of the table above. -/
def TBL.fields : List Field :=
  [TBL.ADDR, TBL.CMD, TBL.BUSY, TBL.RESULT, TBL.CMD_LOST, TBL.RESULT_INDEX]
  ++ (List.range 16).map TBL.DATA

/-! Table 18.8. Page 0x000: general, event ring and memory. -/

def GEN.GEN_STATUS_CHAN_IN_SERVICE : Field := ⟨0x40, 0, 8, .ro, 0xff⟩
def GEN.GEN_STATUS_CHAN_REBUILDING : Field := ⟨0x40, 8, 8, .ro, 0⟩
def GEN.COMMIT_ALL : Field := ⟨0x44, 0, 1, .w1s, 0⟩
def GEN.BAD_ACCESS : Field := ⟨0x48, 0, 32, .rc, 0⟩
def GEN.LOCKED_WRITES : Field := ⟨0x4c, 0, 32, .rc, 0⟩
def GEN.EVT_LOST : Field := ⟨0x50, 0, 32, .rc, 0⟩
def GEN.DEFERRED_LOST : Field := ⟨0x54, 0, 16, .rc, 0⟩
def GEN.SCRUB_SRAM_PASSES : Field := ⟨0x58, 0, 32, .rc, 0⟩
def GEN.SCRUB_DDR_PASSES : Field := ⟨0x5c, 0, 32, .rc, 0⟩
def GEN.EVT_BASE_LO : Field := ⟨0x80, 0, 32, .rw, 0⟩
def GEN.EVT_BASE_HI : Field := ⟨0x84, 0, 32, .rw, 0⟩
def GEN.EVT_CFG_EVT_LOG2_LEN : Field := ⟨0x88, 0, 4, .rw, 6⟩
def GEN.EVT_CFG_EVT_VECTOR : Field := ⟨0x88, 16, 6, .rw, 0⟩
def GEN.EVT_CFG_EVT_ITR : Field := ⟨0x88, 24, 8, .rw, 0⟩
def GEN.EVT_WB_LO : Field := ⟨0x8c, 0, 32, .rw, 0⟩
def GEN.EVT_WB_HI : Field := ⟨0x90, 0, 32, .rw, 0⟩
def GEN.EVT_TAIL : Field := ⟨0x94, 0, 16, .rw, 0⟩
def GEN.EVT_HEAD : Field := ⟨0x94, 16, 16, .ro, 0⟩
def GEN.EVT_CTRL_START : Field := ⟨0x98, 0, 1, .w1s, 0⟩
def GEN.EVT_CTRL_STOP : Field := ⟨0x98, 1, 1, .w1s, 0⟩
def GEN.EVT_CTRL_STATE : Field := ⟨0x98, 2, 2, .ro, 0⟩
def GEN.EVT_CTRL_RESULT : Field := ⟨0x98, 4, 4, .ro, 0⟩
def GEN.PAGE_VECTOR : Field := ⟨0xa0, 0, 6, .rw, 0⟩
def GEN.PAGE_IRQ_EN : Field := ⟨0xa0, 8, 1, .rw, 0⟩
def GEN.PAGE_PENDING_ (i : Nat) : Field := ⟨0x200 + 4 * i, 0, 32, .ro, 0⟩

/-- Every field of the table above. -/
def GEN.fields : List Field :=
  [GEN.GEN_STATUS_CHAN_IN_SERVICE, GEN.GEN_STATUS_CHAN_REBUILDING, GEN.COMMIT_ALL, GEN.BAD_ACCESS, GEN.LOCKED_WRITES, GEN.EVT_LOST, GEN.DEFERRED_LOST, GEN.SCRUB_SRAM_PASSES, GEN.SCRUB_DDR_PASSES, GEN.EVT_BASE_LO, GEN.EVT_BASE_HI, GEN.EVT_CFG_EVT_LOG2_LEN]
  ++ [GEN.EVT_CFG_EVT_VECTOR, GEN.EVT_CFG_EVT_ITR, GEN.EVT_WB_LO, GEN.EVT_WB_HI, GEN.EVT_TAIL, GEN.EVT_HEAD, GEN.EVT_CTRL_START, GEN.EVT_CTRL_STOP, GEN.EVT_CTRL_STATE, GEN.EVT_CTRL_RESULT, GEN.PAGE_VECTOR, GEN.PAGE_IRQ_EN]
  ++ (List.range 24).map GEN.PAGE_PENDING_

/-! Table 18.9. Page 0x001: fault-log window. -/

def FLOG.FLOG_FIRST : Field := ⟨0x40, 0, 32, .ro, 1⟩
def FLOG.FLOG_LAST : Field := ⟨0x44, 0, 32, .ro, 0⟩
def FLOG.FLOG_COUNT : Field := ⟨0x48, 0, 15, .ro, 0⟩
def FLOG.TBL_ADDR : Field := ⟨0x100, 0, 32, .rw, 0⟩

/-- Every field of the table above. -/
def FLOG.fields : List Field :=
  [FLOG.FLOG_FIRST, FLOG.FLOG_LAST, FLOG.FLOG_COUNT, FLOG.TBL_ADDR]

/-! Table 18.10. Page 0x200: monitor configuration. -/

def MON0.TBL_ADDR_CHANNEL : Field := ⟨0x100, 0, 6, .rw, 0⟩
def MON0.TBL_ADDR_WINDOW : Field := ⟨0x100, 8, 2, .rw, 0⟩
def MON0.TBL_ADDR_PREVIOUS : Field := ⟨0x100, 12, 1, .rw, 0⟩

/-- Every field of the table above. -/
def MON0.fields : List Field :=
  [MON0.TBL_ADDR_CHANNEL, MON0.TBL_ADDR_WINDOW, MON0.TBL_ADDR_PREVIOUS]

/-! Table 18.11. Page 0x201: monitor readout. -/

def MON1.MIN : Field := ⟨0x40, 0, 32, .ro, 0x7fffffff⟩
def MON1.MAX : Field := ⟨0x44, 0, 32, .ro, 0x80000000⟩
def MON1.COUNT : Field := ⟨0x48, 0, 32, .ro, 0⟩
def MON1.SUM_LO : Field := ⟨0x4c, 0, 32, .ro, 0⟩
def MON1.SUM_HI : Field := ⟨0x50, 0, 32, .ro, 0⟩
def MON1.START_TICK : Field := ⟨0x54, 0, 32, .ro, 0⟩
def MON1.FLAGS_EMPTY : Field := ⟨0x58, 0, 1, .ro, 1⟩
def MON1.FLAGS_PARTIAL : Field := ⟨0x58, 1, 1, .ro, 0⟩
def MON1.FLAGS_CHANNEL : Field := ⟨0x58, 8, 6, .ro, 0⟩
def MON1.FLAGS_WINDOW : Field := ⟨0x58, 16, 2, .ro, 0⟩
def MON1.FLAGS_PREVIOUS : Field := ⟨0x58, 20, 1, .ro, 0⟩
def MON1.BIN (i : Nat) : Field := ⟨0x100 + 4 * i, 0, 32, .ro, 0⟩

/-- Every field of the table above. -/
def MON1.fields : List Field :=
  [MON1.MIN, MON1.MAX, MON1.COUNT, MON1.SUM_LO, MON1.SUM_HI, MON1.START_TICK, MON1.FLAGS_EMPTY, MON1.FLAGS_PARTIAL, MON1.FLAGS_CHANNEL, MON1.FLAGS_WINDOW, MON1.FLAGS_PREVIOUS]
  ++ (List.range 64).map MON1.BIN

/-! Table 15.8b. Page 0x0B2: ring counters. -/

def HST2.DONE (n : Nat) : Field := ⟨0x100 + 8 * n, 0, 32, .rc, 0⟩
def HST2.NO_ROOM (n : Nat) : Field := ⟨0x104 + 8 * n, 0, 32, .rc, 0⟩

/-- Every field of the table above. -/
def HST2.fields : List Field :=
  (List.range 64).map HST2.DONE
  ++ (List.range 64).map HST2.NO_ROOM

end Sys2Proof.Machine
end

