-- ==== Sys2Proof/Machine/Records.lean ====
section
/-! DEFINITION. The records behind the table registers: one `Field` per field of the spec's record tables. A record lies on
a page of its own above the BAR0 pages (`Tab`), word w at offset 4w, so that a record is read, staged and committed as a
register page is (R521, R527). -/

namespace Sys2Proof.Machine

/-! Table 3.9, XGEM port-filter entry (R83). -/

def XGF.PORT_ID : Field := ⟨0, 0, 16, .rws, 0⟩
def XGF.KIND : Field := ⟨0, 16, 2, .rws, 0⟩
def XGF.ENC_REQ : Field := ⟨0, 18, 1, .rws, 0⟩
def XGF.PROTECTED : Field := ⟨0, 19, 1, .rws, 0⟩
def XGF.VALID : Field := ⟨0, 31, 1, .rws, 0⟩
def XGF.STREAM : Field := ⟨4, 0, 23, .rws, 0⟩

/-- Every field of the record. -/
def XGF.fields : List Field :=
  [XGF.PORT_ID, XGF.KIND, XGF.ENC_REQ, XGF.PROTECTED, XGF.VALID, XGF.STREAM]

/-! Table 4.7, Alloc-ID slot (R132). -/

def ASL.ALLOC_ID : Field := ⟨0, 0, 14, .rws, 0⟩
def ASL.ASSIGNED : Field := ⟨0, 14, 1, .ro, 0⟩
def ASL.PREDICT : Field := ⟨0, 15, 1, .rws, 1⟩
def ASL.NO_FRAG : Field := ⟨0, 16, 1, .rws, 0⟩
def ASL.BOUND : Field := ⟨0, 31, 1, .rws, 0⟩
def ASL.PREDICTED_ROOM : Field := ⟨4, 0, 32, .ro, 0⟩
def ASL.SHORTFALL_BYTES : Field := ⟨8, 0, 32, .rc, 0⟩

/-- Every field of the record. -/
def ASL.fields : List Field :=
  [ASL.ALLOC_ID, ASL.ASSIGNED, ASL.PREDICT, ASL.NO_FRAG, ASL.BOUND, ASL.PREDICTED_ROOM, ASL.SHORTFALL_BYTES]

/-! Table 5.6, action entry; the default-action table holds 16 (R161). -/

def DACT.FORWARD : Field := ⟨0, 0, 1, .rws, 0⟩
def DACT.STEER_HOST : Field := ⟨0, 1, 1, .rws, 0⟩
def DACT.STEER_MEWS : Field := ⟨0, 2, 1, .rws, 0⟩
def DACT.ARCADE_WRITE : Field := ⟨0, 3, 1, .rws, 0⟩
def DACT.DROP : Field := ⟨0, 4, 1, .rws, 1⟩
def DACT.QUARANTINE : Field := ⟨0, 5, 1, .rws, 0⟩
def DACT.RECIRC : Field := ⟨0, 6, 1, .rws, 0⟩
def DACT.POLICE : Field := ⟨0, 7, 1, .rws, 0⟩
def DACT.COUNT : Field := ⟨0, 8, 1, .rws, 0⟩
def DACT.MIRROR : Field := ⟨0, 9, 1, .rws, 0⟩
def DACT.EDIT_TAGS : Field := ⟨0, 10, 1, .rws, 0⟩
def DACT.LEARN : Field := ⟨0, 11, 1, .rws, 0⟩
def DACT.SET_CLASS : Field := ⟨0, 12, 1, .rws, 0⟩
def DACT.SET_COLOUR : Field := ⟨0, 13, 1, .rws, 0⟩
def DACT.LEAF_QUEUE : Field := ⟨4, 0, 17, .rws, 0⟩
def DACT.POLICER : Field := ⟨8, 0, 17, .rws, 0⟩
def DACT.COUNTER : Field := ⟨0xc, 0, 23, .rws, 0⟩
def DACT.MIRROR_QUEUE : Field := ⟨0x10, 0, 17, .rws, 0⟩
def DACT.HOST_RING : Field := ⟨0x14, 0, 6, .rws, 0⟩
def DACT.MEWS_ROLE : Field := ⟨0x14, 8, 8, .rws, 0⟩
def DACT.ARCADE_OBJECT : Field := ⟨0x18, 0, 64, .rws, 0⟩
def DACT.STRIP : Field := ⟨0x20, 0, 3, .rws, 0⟩
def DACT.PUSH : Field := ⟨0x20, 3, 2, .rws, 0⟩
def DACT.PUSH_TAG0 : Field := ⟨0x24, 0, 32, .rws, 0⟩
def DACT.PUSH_TAG1 : Field := ⟨0x28, 0, 32, .rws, 0⟩
def DACT.INNER_TYPE : Field := ⟨0x2c, 0, 3, .rws, 0⟩
def DACT.DECAP : Field := ⟨0x2c, 3, 1, .rws, 0⟩
def DACT.KEEP_TUNNEL_ID : Field := ⟨0x2c, 4, 1, .rws, 0⟩
def DACT.QUEUE : Field := ⟨0x30, 0, 3, .rws, 0⟩
def DACT.COLOUR : Field := ⟨0x30, 4, 2, .rws, 0⟩
def DACT.LEARN_PROFILE : Field := ⟨0x34, 0, 8, .rws, 0⟩

/-- Every field of the record. -/
def DACT.fields : List Field :=
  [DACT.FORWARD, DACT.STEER_HOST, DACT.STEER_MEWS, DACT.ARCADE_WRITE, DACT.DROP, DACT.QUARANTINE, DACT.RECIRC, DACT.POLICE,
   DACT.COUNT, DACT.MIRROR, DACT.EDIT_TAGS, DACT.LEARN, DACT.SET_CLASS, DACT.SET_COLOUR, DACT.LEAF_QUEUE, DACT.POLICER,
   DACT.COUNTER, DACT.MIRROR_QUEUE, DACT.HOST_RING, DACT.MEWS_ROLE, DACT.ARCADE_OBJECT, DACT.STRIP, DACT.PUSH, DACT.PUSH_TAG0,
   DACT.PUSH_TAG1, DACT.INNER_TYPE, DACT.DECAP, DACT.KEEP_TUNNEL_ID, DACT.QUEUE, DACT.COLOUR, DACT.LEARN_PROFILE]

/-! Table 8.9, leaf-queue record. -/

def LEAF.ENABLE : Field := ⟨0, 0, 1, .rws, 0⟩
def LEAF.CLASS : Field := ⟨0, 1, 2, .rws, 0⟩
def LEAF.LEAN_KEEP : Field := ⟨0, 3, 1, .rws, 0⟩
def LEAF.SUSPENDED : Field := ⟨0, 4, 1, .ro, 0⟩
def LEAF.TXQ : Field := ⟨0, 5, 3, .rws, 0⟩
def LEAF.WEIGHT : Field := ⟨0, 8, 8, .rws, 0⟩
def LEAF.REFUSED : Field := ⟨0, 24, 8, .ro, 0⟩
def LEAF.CIR : Field := ⟨4, 0, 32, .rws, 0⟩
def LEAF.PIR : Field := ⟨8, 0, 32, .rws, 0⟩
def LEAF.CBS : Field := ⟨0xc, 0, 20, .rws, 0⟩
def LEAF.C_RESIDUE : Field := ⟨0xc, 20, 12, .ro, 0⟩
def LEAF.PBS : Field := ⟨0x10, 0, 20, .rws, 0⟩
def LEAF.P_RESIDUE : Field := ⟨0x10, 20, 12, .ro, 0⟩
def LEAF.C_BUCKET : Field := ⟨0x14, 0, 32, .ro, 0⟩
def LEAF.P_BUCKET : Field := ⟨0x18, 0, 32, .ro, 0⟩
def LEAF.QUEUED_BYTES : Field := ⟨0x1c, 0, 24, .ro, 0⟩

/-- Every field of the record. -/
def LEAF.fields : List Field :=
  [LEAF.ENABLE, LEAF.CLASS, LEAF.LEAN_KEEP, LEAF.SUSPENDED, LEAF.TXQ, LEAF.WEIGHT, LEAF.REFUSED, LEAF.CIR,
   LEAF.PIR, LEAF.CBS, LEAF.C_RESIDUE, LEAF.PBS, LEAF.P_RESIDUE, LEAF.C_BUCKET, LEAF.P_BUCKET, LEAF.QUEUED_BYTES]

/-! Table 8.10, subscriber, service and port record. -/

def NODE.ENABLE : Field := ⟨0, 0, 1, .rws, 0⟩
def NODE.WEIGHT : Field := ⟨0, 8, 8, .rws, 0⟩
def NODE.PARENT : Field := ⟨0, 16, 10, .rws, 0⟩
def NODE.CIR : Field := ⟨4, 0, 32, .rws, 0⟩
def NODE.PIR : Field := ⟨8, 0, 32, .rws, 0⟩
def NODE.CBS : Field := ⟨0xc, 0, 20, .rws, 0⟩
def NODE.C_RESIDUE : Field := ⟨0xc, 20, 12, .ro, 0⟩
def NODE.PBS : Field := ⟨0x10, 0, 20, .rws, 0⟩
def NODE.P_RESIDUE : Field := ⟨0x10, 20, 12, .ro, 0⟩
def NODE.C_BUCKET : Field := ⟨0x14, 0, 32, .ro, 0⟩
def NODE.P_BUCKET : Field := ⟨0x18, 0, 32, .ro, 0⟩
def NODE.Q_EXPRESS : Field := ⟨0x1c, 0, 32, .ro, 0⟩
def NODE.Q_ASSURED : Field := ⟨0x20, 0, 32, .ro, 0⟩
def NODE.Q_STANDARD : Field := ⟨0x24, 0, 32, .ro, 0⟩

/-- Every field of the record. -/
def NODE.fields : List Field :=
  [NODE.ENABLE, NODE.WEIGHT, NODE.PARENT, NODE.CIR, NODE.PIR, NODE.CBS, NODE.C_RESIDUE, NODE.PBS,
   NODE.P_RESIDUE, NODE.C_BUCKET, NODE.P_BUCKET, NODE.Q_EXPRESS, NODE.Q_ASSURED, NODE.Q_STANDARD]

/-! Table 8.10, the words a port record adds. -/

def PNODE.OVERHEAD (n : Nat) : Field := ⟨0x28, 0, 6, .rws, if n < 8 then 0x14 else 0⟩
def PNODE.YELLOW_SHARE : Field := ⟨0x28, 8, 4, .rws, 4⟩
def PNODE.RATE (n : Nat) : Field := ⟨0x2c, 0, 32, .rws, if n = 10 then 0x00B71B00 else if n = 11 then 0x01E84800 else 0⟩

/-- Every field of the record with index `n`. -/
def PNODE.fields (n : Nat) : List Field :=
  [PNODE.OVERHEAD n, PNODE.YELLOW_SHARE, PNODE.RATE n]

/-! Table 8.11, gate-list entry (R227). -/

def GENT.GATES : Field := ⟨0, 0, 8, .rw, 0xff⟩
def GENT.INTERVAL : Field := ⟨4, 0, 32, .rw, 0⟩

/-- Every field of the record. -/
def GENT.fields : List Field :=
  [GENT.GATES, GENT.INTERVAL]

/-! Table 8.12, policer record (R247, R249). -/

def POL.PROFILE : Field := ⟨0, 0, 12, .rws, 0⟩
def POL.TC : Field := ⟨4, 0, 32, .ro, 0⟩
def POL.TE_TP : Field := ⟨8, 0, 32, .ro, 0⟩
def POL.LAST_BLOCK : Field := ⟨0xc, 0, 32, .ro, 0⟩
def POL.TC_RESIDUE : Field := ⟨0x10, 0, 9, .ro, 0⟩
def POL.TE_TP_RESIDUE : Field := ⟨0x10, 16, 9, .ro, 0⟩

/-- Every field of the record. -/
def POL.fields : List Field :=
  [POL.PROFILE, POL.TC, POL.TE_TP, POL.LAST_BLOCK, POL.TC_RESIDUE, POL.TE_TP_RESIDUE]

/-! Table 8.12, policer profile record (R247, R248, R252). -/

def BPF.MODE : Field := ⟨0, 0, 2, .rws, 0⟩
def BPF.AWARE : Field := ⟨0, 2, 1, .rws, 0⟩
def BPF.COLOUR_SRC : Field := ⟨0, 3, 1, .rws, 0⟩
def BPF.MAP : Field := ⟨0, 4, 2, .rws, 0⟩
def BPF.REMARK : Field := ⟨0, 6, 2, .rws, 0⟩
def BPF.YELLOW_DSCP : Field := ⟨0, 8, 6, .rws, 0⟩
def BPF.CIR : Field := ⟨4, 0, 32, .rws, 0⟩
def BPF.PIR : Field := ⟨8, 0, 32, .rws, 0⟩
def BPF.CBS : Field := ⟨0xc, 0, 28, .rws, 0⟩
def BPF.EBS_PBS : Field := ⟨0x10, 0, 28, .rws, 0⟩
def BPF.GREEN : Field := ⟨0x14, 0, 32, .ro, 0⟩
def BPF.YELLOW : Field := ⟨0x18, 0, 32, .ro, 0⟩
def BPF.RED : Field := ⟨0x1c, 0, 32, .ro, 0⟩

/-- Every field of the record. -/
def BPF.fields : List Field :=
  [BPF.MODE, BPF.AWARE, BPF.COLOUR_SRC, BPF.MAP, BPF.REMARK, BPF.YELLOW_DSCP, BPF.CIR, BPF.PIR,
   BPF.CBS, BPF.EBS_PBS, BPF.GREEN, BPF.YELLOW, BPF.RED]

/-! Table 10.9, steering filter. -/

def FILT.VID : Field := ⟨0, 0, 12, .rws, 0⟩
def FILT.VID_MASK : Field := ⟨0, 12, 12, .rws, 0⟩
def FILT.PCP : Field := ⟨0, 24, 3, .rws, 0⟩
def FILT.PCP_EN : Field := ⟨0, 27, 1, .rws, 0⟩
def FILT.RXQ : Field := ⟨0, 28, 3, .rws, 0⟩
def FILT.VALID : Field := ⟨0, 31, 1, .rws, 0⟩
def FILT.ETHERTYPE : Field := ⟨4, 0, 16, .rws, 0⟩
def FILT.ETYPE_MASK : Field := ⟨4, 16, 16, .rws, 0⟩

/-- Every field of the record. -/
def FILT.fields : List Field :=
  [FILT.VID, FILT.VID_MASK, FILT.PCP, FILT.PCP_EN, FILT.RXQ, FILT.VALID, FILT.ETHERTYPE, FILT.ETYPE_MASK]

/-! Group hash word (R307, R308). -/

def HASHW.WORD : Field := ⟨0, 0, 32, .rws, 0xFFFFFFFF⟩

/-- Every field of the record. -/
def HASHW.fields : List Field :=
  [HASHW.WORD]

/-! Table 12.9, tributary record. -/

def TRIB.ENABLE : Field := ⟨0, 0, 1, .rws, 0⟩
def TRIB.FRAMING : Field := ⟨0, 1, 3, .rws, 0⟩
def TRIB.CE_MODE : Field := ⟨0, 4, 2, .rws, 0⟩
def TRIB.CR_MODE : Field := ⟨0, 6, 2, .rws, 0⟩
def TRIB.RTP_EN : Field := ⟨0, 8, 1, .rws, 0⟩
def TRIB.FRAMES : Field := ⟨0, 9, 7, .rws, 1⟩
def TRIB.IDLE_CODE : Field := ⟨0, 16, 8, .rws, 0xff⟩
def TRIB.HDR_LEN : Field := ⟨0, 24, 6, .rws, 0xe⟩
def TRIB.HDR_KIND : Field := ⟨0, 30, 2, .rws, 0⟩
def TRIB.TS_MAP : Field := ⟨4, 0, 32, .rws, 0⟩
def TRIB.TX_FLOW : Field := ⟨8, 0, 23, .rws, 0⟩
def TRIB.RX_FLOW : Field := ⟨0xc, 0, 23, .rws, 0⟩
def TRIB.JB_DEPTH : Field := ⟨0x10, 0, 10, .rws, 0x40⟩
def TRIB.JB_WINDOW : Field := ⟨0x10, 16, 8, .rws, 0x10⟩
def TRIB.LOSS_SET : Field := ⟨0x14, 0, 8, .rws, 8⟩
def TRIB.LOSS_CLEAR : Field := ⟨0x14, 8, 8, .rws, 8⟩
def TRIB.FREQ_PPB : Field := ⟨0x18, 0, 32, .rws, 0⟩
def TRIB.TX_SEQ : Field := ⟨0x1c, 0, 16, .ro, 1⟩
def TRIB.RX_NEXT : Field := ⟨0x1c, 16, 16, .ro, 0⟩
def TRIB.ALIGN_STATE : Field := ⟨0x20, 0, 2, .ro, 0⟩
def TRIB.LOS : Field := ⟨0x20, 2, 1, .ro, 1⟩
def TRIB.AIS : Field := ⟨0x20, 3, 1, .ro, 0⟩
def TRIB.LOF : Field := ⟨0x20, 4, 1, .ro, 1⟩
def TRIB.LOMF : Field := ⟨0x20, 5, 1, .ro, 0⟩
def TRIB.RAI : Field := ⟨0x20, 6, 1, .ro, 0⟩
def TRIB.CRC4_INTERWORK : Field := ⟨0x20, 7, 1, .ro, 0⟩
def TRIB.LOSS_STATE : Field := ⟨0x20, 8, 1, .ro, 0⟩
def TRIB.REMOTE_RAI : Field := ⟨0x20, 9, 1, .ro, 0⟩
def TRIB.REMOTE_LOSS : Field := ⟨0x20, 10, 1, .ro, 0⟩
def TRIB.FREQ_VALID : Field := ⟨0x20, 11, 1, .ro, 0⟩
def TRIB.JB_FILL : Field := ⟨0x24, 0, 11, .ro, 0⟩
def TRIB.TX_PACKETS : Field := ⟨0x28, 0, 32, .ro, 0⟩
def TRIB.RX_PACKETS : Field := ⟨0x2c, 0, 32, .ro, 0⟩
def TRIB.RX_LOST : Field := ⟨0x30, 0, 16, .ro, 0⟩
def TRIB.RX_LATE : Field := ⟨0x30, 16, 16, .ro, 0⟩
def TRIB.RX_DUP : Field := ⟨0x34, 0, 16, .ro, 0⟩
def TRIB.RX_MALFORMED : Field := ⟨0x34, 16, 16, .ro, 0⟩
def TRIB.RX_DROP : Field := ⟨0x38, 0, 8, .ro, 0⟩
def TRIB.RX_REPEAT : Field := ⟨0x38, 8, 8, .ro, 0⟩
def TRIB.TX_DROP : Field := ⟨0x38, 16, 8, .ro, 0⟩
def TRIB.TX_REPEAT : Field := ⟨0x38, 24, 8, .ro, 0⟩
def TRIB.UNDERRUN : Field := ⟨0x3c, 0, 8, .ro, 0⟩
def TRIB.RESYNC : Field := ⟨0x3c, 8, 8, .ro, 0⟩
def TRIB.RX_L : Field := ⟨0x3c, 16, 8, .ro, 0⟩
def TRIB.TX_LOST : Field := ⟨0x3c, 24, 8, .ro, 0⟩

/-- Every field of the record. -/
def TRIB.fields : List Field :=
  [TRIB.ENABLE, TRIB.FRAMING, TRIB.CE_MODE, TRIB.CR_MODE, TRIB.RTP_EN, TRIB.FRAMES, TRIB.IDLE_CODE, TRIB.HDR_LEN,
   TRIB.HDR_KIND, TRIB.TS_MAP, TRIB.TX_FLOW, TRIB.RX_FLOW, TRIB.JB_DEPTH, TRIB.JB_WINDOW, TRIB.LOSS_SET, TRIB.LOSS_CLEAR,
   TRIB.FREQ_PPB, TRIB.TX_SEQ, TRIB.RX_NEXT, TRIB.ALIGN_STATE, TRIB.LOS, TRIB.AIS, TRIB.LOF, TRIB.LOMF,
   TRIB.RAI, TRIB.CRC4_INTERWORK, TRIB.LOSS_STATE, TRIB.REMOTE_RAI, TRIB.REMOTE_LOSS, TRIB.FREQ_VALID, TRIB.JB_FILL, TRIB.TX_PACKETS,
   TRIB.RX_PACKETS, TRIB.RX_LOST, TRIB.RX_LATE, TRIB.RX_DUP, TRIB.RX_MALFORMED, TRIB.RX_DROP, TRIB.RX_REPEAT, TRIB.TX_DROP,
   TRIB.TX_REPEAT, TRIB.UNDERRUN, TRIB.RESYNC, TRIB.RX_L, TRIB.TX_LOST]

/-! Table 12.10, performance bin (R362). -/

def PBIN.ES : Field := ⟨0, 0, 32, .ro, 0⟩
def PBIN.SES : Field := ⟨4, 0, 32, .ro, 0⟩
def PBIN.UAS : Field := ⟨8, 0, 32, .ro, 0⟩
def PBIN.BBE : Field := ⟨0xc, 0, 32, .ro, 0⟩
def PBIN.START_TICK : Field := ⟨0x10, 0, 32, .ro, 0⟩
def PBIN.VALID : Field := ⟨0x14, 0, 1, .ro, 0⟩
def PBIN.SUSPECT : Field := ⟨0x14, 1, 1, .ro, 0⟩

/-- Every field of the record. -/
def PBIN.fields : List Field :=
  [PBIN.ES, PBIN.SES, PBIN.UAS, PBIN.BBE, PBIN.START_TICK, PBIN.VALID, PBIN.SUSPECT]

/-! Table 13.12, role record. -/

def ROLE.CORE : Field := ⟨0, 0, 3, .rws, 0⟩
def ROLE.STANDBY : Field := ⟨0, 4, 3, .rws, 0⟩
def ROLE.STANDBY_EN : Field := ⟨0, 7, 1, .rws, 0⟩
def ROLE.PRIORITY : Field := ⟨0, 8, 8, .rws, 0x80⟩
def ROLE.STATE : Field := ⟨0, 16, 3, .ro, 0⟩
def ROLE.ENABLE : Field := ⟨0, 31, 1, .rws, 0⟩
def ROLE.EPOCH : Field := ⟨4, 0, 16, .ro, 0⟩
def ROLE.BUDGET : Field := ⟨8, 0, 18, .ro, 0⟩
def ROLE.DATA_BASE : Field := ⟨0xc, 0, 18, .rws, 0⟩
def ROLE.DATA_SIZE : Field := ⟨0x10, 0, 18, .ro, 0⟩
def ROLE.BULK_BASE : Field := ⟨0x14, 0, 8, .rws, 0⟩
def ROLE.BULK_LEN : Field := ⟨0x14, 8, 8, .rws, 0⟩
def ROLE.IMAGE_ID : Field := ⟨0x18, 0, 64, .ro, 0⟩
def ROLE.CODE_BASE : Field := ⟨0x20, 0, 12, .ro, 0⟩
def ROLE.CODE_BUNDLES : Field := ⟨0x20, 12, 13, .ro, 0⟩
def ROLE.GUARD_OVF : Field := ⟨0x24, 0, 16, .ro, 0⟩
def ROLE.SATURATIONS : Field := ⟨0x24, 16, 16, .ro, 0⟩
def ROLE.TRAPS : Field := ⟨0x28, 0, 16, .ro, 0⟩
def ROLE.RESTARTS : Field := ⟨0x28, 16, 16, .ro, 0⟩
def ROLE.LAST_TRAP : Field := ⟨0x2c, 0, 8, .ro, 0⟩
def ROLE.LAST_PC : Field := ⟨0x2c, 8, 12, .ro, 0⟩
def ROLE.CYCLES_LAST : Field := ⟨0x30, 0, 18, .ro, 0⟩
def ROLE.HANDLES : Field := ⟨0x34, 0, 7, .ro, 0⟩

/-- Every field of the record. -/
def ROLE.fields : List Field :=
  [ROLE.CORE, ROLE.STANDBY, ROLE.STANDBY_EN, ROLE.PRIORITY, ROLE.STATE, ROLE.ENABLE, ROLE.EPOCH, ROLE.BUDGET,
   ROLE.DATA_BASE, ROLE.DATA_SIZE, ROLE.BULK_BASE, ROLE.BULK_LEN, ROLE.IMAGE_ID, ROLE.CODE_BASE, ROLE.CODE_BUNDLES, ROLE.GUARD_OVF,
   ROLE.SATURATIONS, ROLE.TRAPS, ROLE.RESTARTS, ROLE.LAST_TRAP, ROLE.LAST_PC, ROLE.CYCLES_LAST, ROLE.HANDLES]

/-! Table 14.8, time-shift ring record. -/

def RING.ENTRY : Field := ⟨0, 0, 22, .ro, 0⟩
def RING.VALID : Field := ⟨0, 31, 1, .ro, 0⟩
def RING.LEN : Field := ⟨4, 0, 32, .ro, 0⟩
def RING.PENDING_LEN : Field := ⟨8, 0, 32, .rw, 0⟩
def RING.BASE : Field := ⟨0xc, 0, 32, .ro, 0xffffffff⟩
def RING.HEAD : Field := ⟨0x10, 0, 32, .ro, 0xffffffff⟩
def RING.OLDEST : Field := ⟨0x14, 0, 32, .ro, 0xffffffff⟩
def RING.WRAPS : Field := ⟨0x18, 0, 32, .ro, 0⟩
def RING.READERS : Field := ⟨0x1c, 0, 32, .ro, 0⟩

/-- Every field of the record. -/
def RING.fields : List Field :=
  [RING.ENTRY, RING.VALID, RING.LEN, RING.PENDING_LEN, RING.BASE, RING.HEAD, RING.OLDEST, RING.WRAPS,
   RING.READERS]

/-! Table 14.8, reader record. -/

def READER.RING : Field := ⟨0, 0, 9, .rw, 0⟩
def READER.VALID : Field := ⟨0, 31, 1, .rw, 0⟩
def READER.POS : Field := ⟨4, 0, 32, .rw, 0⟩
def READER.OVERRUN : Field := ⟨8, 0, 1, .ro, 0⟩
def READER.OVERRUNS : Field := ⟨8, 16, 16, .ro, 0⟩

/-- Every field of the record. -/
def READER.fields : List Field :=
  [READER.RING, READER.VALID, READER.POS, READER.OVERRUN, READER.OVERRUNS]

/-! Table 18.10, monitor channel configuration (R541). -/

def MCFG.SOURCE (c : Nat) : Field := ⟨0, 0, 8, .rws, monReset c 0⟩
def MCFG.PARAM (c : Nat) : Field := ⟨0, 8, 16, .rws, monReset c 1⟩
def MCFG.KIND (c : Nat) : Field := ⟨0, 24, 1, .rws, monReset c 2⟩
def MCFG.THRESH_EN : Field := ⟨0, 30, 1, .rws, 0⟩
def MCFG.LO (c : Nat) : Field := ⟨4, 0, 32, .rws, monReset c 3⟩
def MCFG.W (c : Nat) : Field := ⟨8, 0, 32, .rws, monReset c 4⟩
def MCFG.THRESHOLD : Field := ⟨0xc, 0, 32, .rws, 0x7fffffff⟩

/-- Every field of the record with index `n`. -/
def MCFG.fields (n : Nat) : List Field :=
  [MCFG.SOURCE n, MCFG.PARAM n, MCFG.KIND n, MCFG.THRESH_EN, MCFG.LO n, MCFG.W n, MCFG.THRESHOLD]

/-! Table 6.1, flow record: the fields every TYPE has, and those of FLOW. -/

def FREC.TYPE : Field := ⟨0, 0, 2, .rw, 0⟩
def FREC.PROFILE : Field := ⟨0, 2, 6, .rw, 0⟩
def FREC.KEY_LEN : Field := ⟨0, 8, 6, .rw, 0⟩
def FREC.ORIGIN : Field := ⟨0, 14, 2, .rw, 0⟩
def FREC.PIN : Field := ⟨0, 16, 1, .rw, 0⟩
def FREC.FW_EN : Field := ⟨0, 17, 1, .rw, 0⟩
def FREC.REPLICATE : Field := ⟨0, 18, 1, .rw, 0⟩
def FREC.FLOW_ACTION : Field := ⟨0, 19, 3, .rw, 0⟩
def FREC.KEY_HASH : Field := ⟨4, 0, 32, .rw, 0⟩
def FREC.KEY : Field := ⟨8, 0, 384, .rw, 0⟩
def FREC.LEAF_QUEUE : Field := ⟨0x38, 0, 17, .rw, 0⟩
def FREC.USE_QUEUE : Field := ⟨0x38, 31, 1, .rw, 0⟩
def FREC.POLICER : Field := ⟨0x3c, 0, 17, .rw, 0⟩
def FREC.USE_POLICER : Field := ⟨0x3c, 31, 1, .rw, 0⟩
def FREC.FW_STATE : Field := ⟨0x40, 0, 3, .rw, 0⟩
def FREC.FW_ROLE : Field := ⟨0x40, 3, 1, .rw, 0⟩
def FREC.PEER_INDEX : Field := ⟨0x44, 0, 23, .rw, 0⟩
def FREC.GTPU_TEID_OUT : Field := ⟨0x48, 0, 32, .rw, 0⟩
def FREC.GTPU_QFI : Field := ⟨0x4c, 0, 6, .rw, 0⟩
def FREC.GTPU_OP : Field := ⟨0x4c, 6, 2, .rw, 0⟩
def FREC.GEN_SEQ : Field := ⟨0x50, 0, 16, .rw, 0⟩
def FREC.RTAG_POS : Field := ⟨0x50, 16, 2, .rw, 0⟩
def FREC.XGEM_PORT_A : Field := ⟨0x54, 0, 16, .rw, 0⟩
def FREC.XGEM_PORT_B : Field := ⟨0x54, 16, 16, .rw, 0⟩
def FREC.SLOT_A : Field := ⟨0x58, 0, 6, .rw, 0⟩
def FREC.SLOT_B : Field := ⟨0x58, 8, 6, .rw, 0⟩
def FREC.PKTS : Field := ⟨0x60, 0, 64, .rw, 0⟩
def FREC.BYTES : Field := ⟨0x68, 0, 64, .rw, 0⟩
def FREC.LAST_SEEN : Field := ⟨0x70, 0, 32, .rw, 0⟩
def FREC.IDLE_OVERRIDE : Field := ⟨0x74, 0, 32, .rw, 0⟩
def FREC.COOKIE : Field := ⟨0x78, 0, 64, .rw, 0⟩

/-- Every field of the record. -/
def FREC.fields : List Field :=
  [FREC.TYPE, FREC.PROFILE, FREC.KEY_LEN, FREC.ORIGIN, FREC.PIN, FREC.FW_EN, FREC.REPLICATE, FREC.FLOW_ACTION,
   FREC.KEY_HASH, FREC.KEY, FREC.LEAF_QUEUE, FREC.USE_QUEUE, FREC.POLICER, FREC.USE_POLICER, FREC.FW_STATE, FREC.FW_ROLE,
   FREC.PEER_INDEX, FREC.GTPU_TEID_OUT, FREC.GTPU_QFI, FREC.GTPU_OP, FREC.GEN_SEQ, FREC.RTAG_POS, FREC.XGEM_PORT_A, FREC.XGEM_PORT_B,
   FREC.SLOT_A, FREC.SLOT_B, FREC.PKTS, FREC.BYTES, FREC.LAST_SEEN, FREC.IDLE_OVERRIDE, FREC.COOKIE]

/-! Table 6.1, flow record: the fields of STREAM (bytes 0x40 to 0x5F; held here from offset 0xC0, since FLOW fields share those bytes). -/

def SREC.TAKE_ANY : Field := ⟨0xc0, 0, 1, .rw, 0⟩
def SREC.REJOIN_MODE : Field := ⟨0xc0, 1, 1, .rw, 0⟩
def SREC.REJOIN_A : Field := ⟨0xc0, 2, 1, .rw, 0⟩
def SREC.REJOIN_B : Field := ⟨0xc0, 3, 1, .rw, 0⟩
def SREC.STRIP : Field := ⟨0xc0, 4, 1, .rw, 0⟩
def SREC.HIST_LEN : Field := ⟨0xc0, 8, 8, .rw, 0⟩
def SREC.RECOV_SEQ : Field := ⟨0xc0, 16, 16, .rw, 0⟩
def SREC.RESET_TICKS : Field := ⟨0xc4, 0, 16, .rw, 0⟩
def SREC.RESETS : Field := ⟨0xc4, 16, 16, .rw, 0⟩
def SREC.LAST_PASS : Field := ⟨0xc8, 0, 32, .rw, 0⟩
def SREC.LOST : Field := ⟨0xcc, 0, 32, .rw, 0⟩
def SREC.HISTORY : Field := ⟨0xd0, 0, 128, .rw, 0⟩

/-- Every field of the record. -/
def SREC.fields : List Field :=
  [SREC.TAKE_ANY, SREC.REJOIN_MODE, SREC.REJOIN_A, SREC.REJOIN_B, SREC.STRIP, SREC.HIST_LEN, SREC.RECOV_SEQ, SREC.RESET_TICKS,
   SREC.RESETS, SREC.LAST_PASS, SREC.LOST, SREC.HISTORY]

/-! Table 14.1, Arcade directory entry. -/

def DIRE.OBJECT_ID : Field := ⟨0, 0, 64, .rw, 0⟩
def DIRE.STATE : Field := ⟨8, 0, 3, .ro, 0⟩
def DIRE.FILL_OK : Field := ⟨8, 3, 1, .rw, 0⟩
def DIRE.RING_KIND : Field := ⟨8, 4, 1, .rw, 0⟩
def DIRE.RING : Field := ⟨8, 16, 16, .rw, 0xffff⟩
def DIRE.SEGMENTS : Field := ⟨0xc, 0, 32, .rw, 0⟩
def DIRE.VALID_SEGS : Field := ⟨0x10, 0, 32, .ro, 0⟩
def DIRE.OPEN_SEG : Field := ⟨0x14, 0, 32, .ro, 0xffffffff⟩
def DIRE.OPEN_CHUNKS : Field := ⟨0x18, 0, 64, .ro, 0⟩
def DIRE.START0 : Field := ⟨0x20, 0, 32, .ro, 0⟩
def DIRE.COUNT0 : Field := ⟨0x24, 0, 32, .ro, 0⟩
def DIRE.START1 : Field := ⟨0x28, 0, 32, .ro, 0⟩
def DIRE.COUNT1 : Field := ⟨0x2c, 0, 32, .ro, 0⟩
def DIRE.START2 : Field := ⟨0x30, 0, 32, .ro, 0⟩
def DIRE.COUNT2 : Field := ⟨0x34, 0, 32, .ro, 0⟩
def DIRE.LAST_TICK : Field := ⟨0x38, 0, 32, .ro, 0⟩
def DIRE.CHUNK_LOG2 : Field := ⟨0x3c, 0, 4, .ro, 0⟩
def DIRE.ABANDONED : Field := ⟨0x3c, 4, 1, .ro, 0⟩
def DIRE.COMPLETE_SEG : Field := ⟨0x3c, 5, 1, .ro, 0⟩

/-- Every field of the record. -/
def DIRE.fields : List Field :=
  [DIRE.OBJECT_ID, DIRE.STATE, DIRE.FILL_OK, DIRE.RING_KIND, DIRE.RING, DIRE.SEGMENTS, DIRE.VALID_SEGS, DIRE.OPEN_SEG,
   DIRE.OPEN_CHUNKS, DIRE.START0, DIRE.COUNT0, DIRE.START1, DIRE.COUNT1, DIRE.START2, DIRE.COUNT2, DIRE.LAST_TICK,
   DIRE.CHUNK_LOG2, DIRE.ABANDONED, DIRE.COMPLETE_SEG]

end Sys2Proof.Machine
end

