-- ==== Sys2Proof/Machine/State.lean ====
section
/-! DEFINITION. The state of the terminal: plain data. Registers and table records lie in `regs` by bit address
(Machine/Regs.lean, Machine/Records.lean name them); what the spec keeps in queues, buffers, logs and memories has a field
of its own. -/

namespace Sys2Proof.Machine

/-- What stops the machine. No meaning raises it: the spec gives every command an effect. -/
inductive Fault where
  /-- Raised by no meaning: no fault of Table 1.7 stops the terminal (safe). -/
  | neverRaised
  deriving DecidableEq, Repr

/-- Why a command is refused. -/
inductive Refusal where
  /-- Raised by an arm of `exec` whose command has no meaning yet; the mnemonic says which (safe). -/
  | notModelled (mnemonic : String)
  deriving DecidableEq, Repr

/-- The tick and the block in progress (R1 to R4, R12). -/
structure Clock where
  /-- Blocks run. -/
  running : Bool
  /-- The 64-bit tick number. -/
  tick : Nat
  /-- The block in progress, 0 to 63. -/
  block : Nat
  /-- A tick has begun and its block 0 has not yet. -/
  tickOpen : Bool
  /-- Core cycles by which the tick in progress is lengthened (R52). -/
  stretch : Nat
  deriving DecidableEq, Repr

/-- An event raised and not yet committed (R529), or a correction to be counted (R524). -/
structure EvRec where
  /-- Block number (tick × 64 + block) the event belongs to. -/
  abs : Nat
  page : Nat
  bit : Nat
  masked : Bool
  test : Bool
  deferred : Bool
  loc : Nat
  d0 : Nat
  d1 : Nat
  d2 : Nat
  d3 : Nat
  /-- Order class in step 4 of R284: 0 raised by an item, 1 other, 2 MASKED_FAULT or CONTAINED_FAULT. -/
  cls : Nat
  /-- A corrected single-bit error: counted at the commit, no record (R39). -/
  corrected : Bool
  deriving DecidableEq, Repr

/-- A record written to the event ring or the fault log: an event with the number it took there. -/
structure LogRec where
  ev : EvRec
  /-- PHASE in the ring (R534), SEQ in the fault log (R537). -/
  num : Nat
  deriving DecidableEq, Repr

/-- One MSI-X vector (R456). -/
structure Vec where
  masked : Bool
  pendingBit : Bool
  /-- A message withheld by ITR, to go when the interval has passed. -/
  owed : Bool
  itr : Nat
  /-- Block number + 1 of the last message, 0 for none. -/
  last : Nat
  /-- Messages sent. -/
  sent : Nat
  deriving DecidableEq, Repr

/-- One set of a monitor channel (R539). -/
structure MonSet where
  lo : Int
  hi : Int
  count : Nat
  sum : Int
  bins : Map Nat
  start : Nat
  isPartial : Bool
  deriving DecidableEq, Repr

/-- An update a block's work makes to committed state: a field set, or an amount added (R185, R266). -/
structure LEntry where
  page : Nat
  key : Nat
  rst : Nat
  width : Nat
  /-- Added, saturating or wrapping, instead of set. -/
  add : Bool
  saturate : Bool
  value : Nat
  deriving DecidableEq, Repr

/-- A work item: the journal record (Table 9.2) with the frame's parse (Table 5.3). -/
structure Item where
  handle : Nat
  source : Nat
  /-- Core cycle of entry relative to the block start, from −486 to 1 943. -/
  entry : Int
  pass : Nat
  length : Nat
  status : Nat
  flags : Nat
  epoch : Nat
  bank : Nat
  /-- 0 rule, 1 no-match default, 2 parse-failure default, 3 fixed action. -/
  kind : Nat
  /-- ACTION_INDEX of a rule (Table 9.2), and the sixteen words of the action entry the classification selected (Table 5.6). -/
  actionIndex : Nat
  action : List Nat
  ruleId : Nat
  h : Nat
  /-- Bucket or direct index, and whether it is a direct index. -/
  flow : Nat
  direct : Bool
  /-- A flow lookup is made (the profile's FIELD_MASK is not zero). -/
  lookup : Bool
  region : Nat
  key : Nat
  keyLen : Nat
  profile : Nat
  /-- Catalogue field values, IDs 0 to 31, and the mask of those extracted. -/
  fields : List Nat
  present : Nat
  innerStart : Nat
  innerType : Nat
  tunnelId : Nat
  port : Nat
  /-- QUEUE of an earlier SET_CLASS, plus 1 (0: none). -/
  queueSet : Nat
  /-- Dual-homed copy: stream record index + 1 (0: none), fibre port, XGEM port-ID. -/
  stream : Nat
  fibre : Nat
  xgemPort : Nat
  /-- The buffer was taken by a Carriageway (R209). -/
  cwyBuf : Bool
  /-- Bytes of the buffer's headroom that edits have used; negative when the frame's start has moved on (R196, R209). -/
  headUsed : Int
  twoStep : Bool
  tsId : Nat
  /-- Receive time-stamp: valid, resumed, ns, seconds (R344). -/
  tsValid : Bool
  tsResumed : Bool
  tsNs : Nat
  tsSec : Nat
  /-- What the front end counts and raises for the item: it commits with the item's block (R17, R157). -/
  counts : List LEntry
  raises : List (Nat × Nat × List Nat)
  /-- Operands of a host table command, a fill, a completion, an ageing proposal. -/
  aux : List Nat
  deriving DecidableEq, Repr

/-- The egress edits a frame carries to the MAC (R252, R312). -/
structure Remark where
  dei : Bool
  dscp : Bool
  dscpValue : Nat
  deriving DecidableEq, Repr

/-- A frame enqueued in a leaf queue: accepted and not yet delivered. -/
structure QEnt where
  /-- Order of admission, unique. -/
  id : Nat
  handle : Nat
  bytes : List Byte
  length : Nat
  leaf : Nat
  cls : Nat
  node : Nat
  port : Nat
  colour : Nat
  remark : Remark
  /-- Acceptance block number (R18), deadline in core cycles, extension under R30. -/
  acc : Nat
  deadline : Nat
  ext : Nat
  /-- A lane was out, or another contained cause touched it (R244). -/
  contained : Bool
  /-- Egress client class that holds its reference (Table 7.5). -/
  holder : Nat
  /-- In flight in a burst of slot + 1 (R121); 0 when not. -/
  inFlight : Nat
  /-- Bytes already sent in earlier fragments (R123). -/
  sentBytes : Nat
  /-- A head-end shortfall occurred on its T-CONT since acceptance (R31). -/
  shortfall : Bool
  xgemPort : Nat
  seqTag : Nat
  twoStep : Bool
  tsId : Nat
  resumed : Bool
  /-- Host ring + 1, entry type, prefix bytes, descriptors reserved (R462). -/
  ring : Nat
  entType : Nat
  prefixBytes : List Byte
  ndesc : Nat
  ruleId : Nat
  tsValid : Bool
  tsResumed : Bool
  tsNs : Nat
  tsSec : Nat
  /-- Second handle (an Arcade serve's segment, R432), offset and length of its payload. -/
  handle2 : Nat
  payOffset : Nat
  payLen : Nat
  /-- Directory entry and segment of an Arcade write. -/
  arcEntry : Nat
  arcSeg : Nat
  deriving DecidableEq, Repr

/-- Where a committed item's terminal action sends it. -/
inductive Verdict where
  | none
  | enqueue (leaf : Nat)
  | host (ring : Nat) (miss : Bool)
  | mews (role : Nat)
  | arcade (object : Nat)
  | drop
  | quarantine
  | recirc
  | tramlines (trib : Nat)
  | contained
  | discardCopy
  deriving DecidableEq, Repr

/-- A slice's result for an item (R267), with the item's ledger entries (R266). -/
structure Result where
  item : Item
  /-- The slice that did the work. -/
  by_ : Nat
  verdict : Verdict
  /-- The frame after the action's edits; the buffer that carries it from commit on, and whether a Carriageway took it (R209). -/
  bytes : List Byte
  handle : Nat
  cwyBuf : Bool
  /-- Provisional colour; policer + 1 and incoming colour when POLICE acts. -/
  colour : Nat
  policer : Nat
  incoming : Nat
  /-- Leaf queue + 1 that a FORWARD names, also when a red result replaced it (R253). -/
  target : Nat
  /-- Mirror leaf queue + 1. -/
  mirror : Nat
  /-- R-TAG of the replicated copies: 1 + sequence number + 65 536 × RTAG_POS; 0 without REPLICATE (R127). -/
  seqTag : Nat
  /-- XGEM port-ID and Alloc-ID slot per fibre port, from the flow record. -/
  xgems : List Nat
  slots : List Nat
  /-- REASON of a Cul-de-sac entry (Table 5.10). -/
  reason : Nat
  /-- Events the item raises: page, bit, detail. -/
  evs : List (Nat × Nat × List Nat)
  ledger : List LEntry
  /-- How many of those ledger entries and events stay when Bollard's confirmation makes the frame red: those before LEARN (R251). -/
  firm : Nat
  firmEvs : Nat
  /-- The confirmation made the frame red. -/
  red : Bool
  /-- The item as the journal holds it: its length is FRAME_LENGTH of the pass. -/
  orig : Item
  /-- Fibre ports that took a replicated copy when the frame was processed (R129). -/
  open_ : List Nat
  /-- Flow records inserted, and images of records removed: reason, index, words. -/
  inserted : List Nat
  exports : List (List Nat)
  /-- A learn descriptor is to be sent (R178). -/
  learn : Bool
  /-- The edit buffer was the empty result (R209). -/
  overflow : Bool
  /-- The RECIRC result's INNER_TYPE, DECAP and KEEP_TUNNEL_ID. -/
  inner : Nat
  decap : Bool
  keepTunnel : Bool
  /-- Record + 1 whose removal is proposed (R183). -/
  proposal : Nat
  /-- Of a fill chunk, a completion item or a table command: what the commit does. -/
  fill : List Nat
  deriving DecidableEq, Repr

/-- One slice's work of one block. -/
structure BlockWork where
  slice : Nat
  abs : Nat
  results : List Result
  /-- Items of its own regions in half H0 and H1, and of regions taken over (R262). -/
  n0 : Nat
  n1 : Nat
  taken : Nat
  /-- Taken over from this slice's faulty block: the results are the survivors' (R272). -/
  replayed : Bool
  /-- The block is discarded: its results never commit (R281). -/
  discarded : Bool
  /-- Blocks (slice, number) whose ledgers its view read (R264). -/
  readFrom : List (Nat × Nat)
  deriving DecidableEq, Repr

/-- A buffer metadata word (Table 7.4). -/
structure Meta where
  count : Nat
  holders : Nat
  owner : Nat
  carve : Nat
  allocated : Bool
  parked : Bool
  deriving DecidableEq, Repr

/-- A waiting allocation request (R202). -/
structure BufReq where
  requester : Nat
  size : Nat
  carve : Nat
  cls : Nat
  cycle : Nat
  deriving DecidableEq, Repr

/-- A request that won in a core cycle, with the handle or the empty result that its answer carries (R202). -/
structure WonReq where
  req : BufReq
  cycle : Nat
  handle : Nat
  deriving DecidableEq, Repr

/-- A P4 staging slot: the segment, the slot's index (R65, R212). -/
structure StageSlot where
  segment : Nat
  index : Nat
  ready : Bool
  writtenBack : Bool
  used : Nat
  deriving DecidableEq, Repr

/-- A staging slot detached from its segment: the handle that stands for it, the directory entry it belonged to, the slot's index (R430). -/
structure Detached where
  handle : Nat
  entry : Nat
  index : Nat
  deriving DecidableEq, Repr

/-- A receive descriptor as the terminal last wrote it (Table 15.3), with the bytes it wrote to the buffer. -/
structure RxOut where
  typ : Nat
  port : Nat
  length : Nat
  more : Bool
  status : Nat
  info : Nat
  tsNs : Nat
  tsSec : Nat
  tsValid : Bool
  resumed : Bool
  abs : Nat
  bytes : List Byte
  deriving DecidableEq, Repr

/-- An entry of the measurement log (R479): register, kind, tick, block, IMAGE_ID or 0, digest; `abs` is the block whose commit it waits for. -/
structure MeasEntry where
  reg : Nat
  kind : Nat
  abs : Nat
  imageId : Nat
  digest : Nat
  deriving DecidableEq, Repr

/-- A reference operation that waits: requester, class, operation (Table 7.6 in order, from 0), handle; `table` when it is the table command
of page 0x0E2 (R207, R212, R217). -/
structure RefOp where
  requester : Nat
  cls : Nat
  op : Nat
  handle : Nat
  table : Bool
  deriving DecidableEq, Repr

/-- A frame in a MAC or a host engine: handed off by the scheduler, waiting or being sent (R234). -/
structure MacEnt where
  port : Nat
  txq : Nat
  ent : QEnt
  started : Bool
  /-- Core cycle of the start of serialisation. -/
  at_ : Nat
  deriving DecidableEq, Repr

/-- The result of a walk in one bank (R148): kind 0 a rule's action entry with its ACTION_INDEX, 1 no match, 2 a tree fault at an offset. -/
structure Walk where
  bank : Nat
  kind : Nat
  index : Nat
  action : List Nat
  ruleId : Nat
  offset : Nat
  deriving DecidableEq, Repr

/-- A frame being reassembled on a fibre port (R84): port, XGEM port-ID, its buffer, KIND of its filter entry, its stream + 1, the number of the
downstream frame that carried its last fragment. -/
structure Reasm where
  fibre : Nat
  portId : Nat
  handle : Nat
  kind : Nat
  stream : Nat
  frame : Nat
  bytes : List Byte
  /-- Walks made from the fragments decrypted so far (R81, R577). -/
  walks : List Walk
  deriving DecidableEq, Repr

/-- An upstream PLOAM or OMCI message that waits for its burst; `kind` is the message's kind (Machine/Activate.lean). -/
structure UpMsg where
  fibre : Nat
  kind : Nat
  bytes : List Byte
  deriving DecidableEq, Repr

/-- A build-list entry (R126): the frame's admission number, the part of its payload, whether it carries the last byte, and whether the
round robin was charged for it (R235). -/
structure BuildEnt where
  id : Nat
  off : Nat
  len : Nat
  last : Bool
  charged : Bool
  /-- Its frame was urgent when it was placed (Table 8.4). -/
  urgent : Bool
  deriving DecidableEq, Repr

/-- An allocation converted into core cycles and bytes (R116). -/
structure Grant where
  alloc : Nat
  /-- Start instant from the upstream frame's start and length, in core cycles; room in bytes. -/
  start : Nat
  dur : Nat
  room : Nat
  ploamu : Bool
  dbru : Bool
  deriving DecidableEq, Repr

/-- A serial-number delay that a port has drawn: in which of its downstream frames, and by which core cycle (R106). -/
structure SnDraw where
  fibre : Nat
  delay : Nat
  frame : Nat
  at_ : Nat
  deriving DecidableEq, Repr

/-- A reconciled burst (R119, R122). -/
structure Burst where
  fibre : Nat
  /-- Alloc-ID slot + 1; 0 for an Alloc-ID that is bound to none. -/
  slot : Nat
  alloc : Nat
  /-- Core cycle of the start instant, length in core cycles, room in bytes. -/
  start : Nat
  dur : Nat
  room : Nat
  ploamu : Bool
  /-- DBRu asked for, and the units reported (R120). -/
  dbru : Bool
  report : Nat
  /-- Superframe count of its upstream frame (R113). -/
  sfc : Nat
  /-- Frames are still appended (R124). -/
  extend : Bool
  /-- 0 reconciled, 1 build list fixed, 2 being serialised, 3 on the fibre. -/
  stage : Nat
  entries : List BuildEnt
  /-- Frames whose last byte it carries, with their buffers, from the burst's start on. -/
  sent : List QEnt
  /-- OMCI messages that it carries ahead of the frames (R465). -/
  omci : List (List Byte)
  deriving DecidableEq, Repr

/-- A transmitted XGEM frame: port-ID, key index, last fragment, payload as sent. -/
structure XgemOut where
  portId : Nat
  keyIdx : Nat
  lf : Bool
  bytes : List Byte
  deriving DecidableEq, Repr

/-- An input that a Yunager function has not consumed yet (R446): kind, port, bytes. -/
structure ThIn where
  kind : Nat
  port : Nat
  bytes : List Byte
  deriving DecidableEq, Repr
/-- A segment in the controller's write queue (R411, R423). -/
structure ArcWrite where
  segment : Nat
  entry : Nat
  /-- The object's segment number. -/
  number : Nat
  data : List Byte
  /-- Written by REPAIR, whose command waits for it (R427). -/
  repair : Bool
  /-- The handle of its staging slot: the segment's, or the one it was detached to (R430, R440). -/
  handle : Nat
  deriving DecidableEq, Repr

/-- A gap record (R425), and the tick at which it was recorded. -/
structure Gap where
  entry : Nat
  object : Nat
  first : Nat
  count : Nat
  reason : Nat
  tick : Nat
  /-- Yunager has passed it on to host software. -/
  passed : Bool
  deriving DecidableEq, Repr

/-- A directory command with its operands as they stood when it was written (R443): TBL_CMD, entry, data words, OP_SEG, OP_CRC; for
REPAIR the bytes that host memory holds, for SYS_READ those that go there, with the host address in place of the entry; and whether the owning
slice has executed it. -/
structure DirCmd where
  op : Nat
  addr : Nat
  data : Nat
  seg : Nat
  crc : Nat
  bytes : List Byte
  ran : Bool
  deriving DecidableEq, Repr

/-- A time-stamp in a queue (R346, R351): the Kerb port or capture input, the frame's ID, the time of day. -/
structure Stamp where
  port : Nat
  id : Nat
  ns : Nat
  sec : Nat
  resumed : Bool
  deriving DecidableEq, Repr

/-- A frame on its way to a journal: being received, or waiting in an ingress buffer (R307, R308, R576). -/
structure InFrame where
  /-- SOURCE of Table 9.2, and the receive queue of a Kerb port. -/
  src : Nat
  queue : Nat
  /-- It finds no room or no buffer: it ends as an ingress overflow once its FCS is good (R308). -/
  overflow : Bool
  /-- Core cycle at which its last byte was received. -/
  at_ : Nat
  bytes : List Byte
  /-- Rule-tree results obtained so far, by bank (R157, R158). -/
  walks : List Walk
  /-- The work item to be, with what its source knows of it. -/
  item : Item
  /-- Block number + 1 of the journal in which its wait has been counted (R262, R266). -/
  waits : Nat
  deriving DecidableEq, Repr

/-- An entry of the Cul-de-sac (Table 5.10). -/
structure CulEnt where
  index : Nat
  handle : Nat
  length : Nat
  port : Nat
  pass : Nat
  reason : Nat
  status : Nat
  ruleId : Nat
  epoch : Nat
  abs : Nat
  flags : Nat
  deriving DecidableEq, Repr

/-- A flow-table command with its operands as they stood when it was written: TBL_CMD, INDEX, ALL, the record buffer (R187, R527). -/
structure FlowCmd where
  op : Nat
  index : Nat
  all : Bool
  buf : Nat
  deriving DecidableEq, Repr

/-- A message of the Mews (R394): the header word and its payload words. -/
structure Msg where
  header : Nat
  words : List Nat
  deriving DecidableEq, Repr

/-- A verified image of a role (Table 13.10). -/
structure MewImage where
  code : List Nat
  data : List Byte
  dataSize : Nat
  ckptLen : Nat
  entry : Nat
  budget : Nat
  imageId : Nat
  keySlot : Nat
  counter : Nat
  version : Nat
  deriving DecidableEq, Repr

/-- A result of a bundle that is not visible yet (R382): bundles to go, physical register, value. -/
structure PendRes where
  left : Nat
  reg : Nat
  value : Int
  deriving DecidableEq, Repr

/-- A core of the Mews (R373, R377 to R388). -/
structure MCore where
  /-- Role + 1 of the task that runs; 0 between tasks. -/
  role : Nat
  pc : Nat
  w : Map Int
  acc : List Int
  /-- The accumulators as the last three bundles left them, the latest first (R382). -/
  accOld : List (List Int)
  x : List Nat
  lc0 : Nat
  lc1 : Nat
  rp : Nat
  ringStep : Nat
  stack : List Nat
  flags : Nat
  /-- The search unit: minimum search, by magnitude, elements presented, held element and index. -/
  sMin : Bool
  sMag : Bool
  sCount : Nat
  sHeld : Int
  sIndex : Nat
  pend : List PendRes
  /-- Issues left of the repeated bundle (R388). -/
  rep : Nat
  cycles : Nat
  /-- Port writes held until WAIT, in issue order. -/
  outs : List (Nat × Int)
  /-- XFERs in progress: local address, offset or handle, the length, direction and buffer word. -/
  xfers : List (Nat × Nat × Nat)
  /-- A checkpoint being copied, and one complete: address and length; offset in the partition and bytes. -/
  ckptRun : Option (Nat × Nat)
  ckptDone : Option (Nat × List Byte)
  /-- The task has reached WAIT and waits for its checkpoint. -/
  waiting : Bool
  /-- A BALLOC stalled on the empty result: destination register, bytes (R398). -/
  stalled : Option (Nat × Nat)
  /-- Roles still to run in this tick. -/
  todo : List Nat
  deriving DecidableEq, Repr

/-- The parts of a tributary that its record does not show (R357 to R367). Frames are numbers, first bit most significant. -/
structure TribSt where
  /-- Slot frames received, newest first, at most 49. -/
  hist : List Nat
  /-- Alignment offset; number of the last aligned frame in its multiframe; candidates: offset, state, frames since the last test. -/
  offset : Nat
  phase : Nat
  cands : List (Nat × Nat × Nat)
  /-- Consecutive FAS errors; the last four FPS bits in error. -/
  fasErr : Nat
  fpsBad : List Bool
  /-- CRC-4 multiframe: found, frames since the search began, frames of restarts, verdicts of the last 1 000 submultiframes. -/
  mf : Bool
  mfWait : Nat
  mfRestart : Nat
  smf : List Bool
  /-- Aligned frames, newest first, at most 48. -/
  frames : List Nat
  /-- Zero bits in a row; bits and zeros of the 512-bit period in progress, low periods and high periods in a row. -/
  zeroRun : Nat
  aisBits : Nat
  aisZeros : Nat
  aisLow : Nat
  aisHigh : Nat
  /-- NFAS words with the A bit the same as the last, in a row, and that bit; data-link bits and bits since the codeword. -/
  aRun : Nat
  aBit : Bool
  dl : Nat
  dlGap : Nat
  /-- The slip buffer: unread frames, oldest first; the last one read. -/
  slip : List Nat
  last : Nat
  /-- Frames of the packet being formed. -/
  gather : List Nat
  /-- The jitter buffer: position to frame + 1; read position; a packet's number and position; playing; a slip at the last read. -/
  jb : Map Nat
  rdPos : Nat
  refSeq : Nat
  refPos : Nat
  hasRef : Bool
  playing : Bool
  slipped : Bool
  missRun : Nat
  payRun : Nat
  rtpLast : Nat
  rtpStep : Nat
  rtpSent : Nat
  /-- Frames read from the jitter buffer, newest first, at most 24; those of a repeat slip still to be given again. -/
  played : List Nat
  again : List Nat
  /-- The transmit direction: number of the next frame in its multiframe, frames sent, newest first; E bits to send. -/
  txNo : Nat
  txOld : List Nat
  eBits : Nat
  /-- The second in progress: errored blocks, an errored FAS word, a defect, a severe one, uncounted. -/
  errBlocks : Nat
  fasSeen : Bool
  defect : Bool
  severe : Bool
  suspect : Bool
  /-- The last seconds, newest first: the tick each began at, ES, SES, BBE; seconds in a row that were severe or not; unavailable. -/
  secs : List (Nat × Nat × Nat × Nat)
  sesRun : Nat
  okRun : Nat
  unavail : Bool
  deriving DecidableEq, Repr

/-- The whole machine. -/
structure State where
  /-- Commands waiting, first in, first out. -/
  pending : List Instr
  clock : Clock
  /-- The one-time fuse array (Table 16.1): fuse field number to its value; unlisted fields are blank. -/
  otp : Map Nat
  /-- Register fields and table-record fields, by bit address; an unlisted field holds its reset value. -/
  regs : Map Nat
  /-- Staging copies: fields with a staged write (R520), the value with the field's reset value. -/
  staged : Map (Option (Nat × Nat))
  /-- Block number + 1 of the pending PAGE_COMMIT request of a page (R521). -/
  commitReq : Map Nat
  /-- Register words to take their reset value at the next boundary (R525): page, offset. -/
  wordResets : List (Nat × Nat)
  /-- Pages whose SOFT_RESET waits for the next boundary (R519). -/
  softResets : List Nat
  /-- Latched companion words (R325, R517): bit address of the word to its latched value. -/
  latches : Map (Option Nat)
  /-- Value returned by the last host read. -/
  hostRead : Nat
  /-- Page, bit and detail keys of the events already raised in this tick (R530). -/
  firsts : List Nat
  /-- Events raised and not yet committed, in the order raised. -/
  evq : List EvRec
  /-- Events raised while no blocks run (R533). -/
  deferred : List EvRec
  /-- Location codes of faults whose masking is in progress, with a tag for each (R36). -/
  openFaults : List (Nat × Nat)
  /-- Location code of the first fault of the block in progress; 0 for none (R36). -/
  blockFault : Nat
  /-- Additions to counters that show at the commit of their block (R285): block number, addition. -/
  lateCounts : List (Nat × LEntry)
  /-- Next block number the Crossing commits (R284). -/
  nextCommit : Nat
  /-- Event ring in host memory: slot to the record last written there. -/
  evtSlots : Map (Option LogRec)
  /-- Records lost since the last one written (R535). -/
  evtLostNow : Nat
  /-- Retention fault log: SEQ mod 16 384 to its record (R537). -/
  flog : Map (Option LogRec)
  /-- SEQ of the last record Yunager copied to Arcade (R537). -/
  flogCopied : Nat
  /-- PAGE_PENDING as it stood at the last commit boundary (R536): page to bit. -/
  pagePend : Map Nat
  /-- MSI-X vectors (R456); an unlisted one is masked. -/
  vecs : Map (Option Vec)
  /-- Write-backs made to host memory (R460, R534): the address to the value plus 1. -/
  writeBacks : Map Nat
  /-- Monitor sets: (channel × 3 + window) × 2 + previous; and as they stood at the last boundary (R542). -/
  mons : Map (Option MonSet)
  monSnap : Map (Option MonSet)
  /-- Draws of free values so far. -/
  fresh : Nat
  /-- Receive descriptors in host memory as last written, by address (R458, R460, R463, R464). -/
  rxSlots : Map (Option RxOut)
  /-- Transmit descriptors in host memory as last written, by address: 16 + STATUS (Table 15.4). -/
  txSlots : Map Nat
  /-- The measurement log in retention SRAM, and the extensions that wait for their boundary (R479). -/
  measLog : List MeasEntry
  measDue : List MeasEntry
  /-- Yunager images written to the slots of Arcade's system area; a slot never written holds what manufacture put there (R473). -/
  imgSlots : Map (Option (List Byte))
  /-- The snapshot of a quote in progress, and the last quote written to host memory with its address (R481, R482). -/
  quoteSnap : Option (List Byte)
  quoteOut : Option (Nat × List Byte)
  /-- The last 4 KiB of Arcade's system area that SYS_READ wrote to host memory, with its address (R441). -/
  sysOut : Option (Nat × List Byte)
  /-- The resume record in retention SRAM: the eight registers, the log count, the digest of the resident part, the slot (R480). -/
  resumeRec : List Nat
  /-- Buffer metadata words by handle (Table 7.4); an unlisted buffer was never allocated since the pools were built. -/
  buffers : Map (Option Meta)
  /-- Freed handles in the order in which they joined the tails of the free lists (R205). -/
  freed : List Nat
  /-- Free buffers of parked channels, out of the free lists (R210). -/
  parkedFree : List Nat
  /-- Handles parked after a double-bit error, until the pools are next built (R211). -/
  dbeParked : List Nat
  /-- Staging slots parked after a double-bit error, by index, until the pools are next built (R211). -/
  dbeSlots : List Nat
  /-- Allocation requests waiting (R202). -/
  requests : List BufReq
  /-- Allocation requests that have won and are not yet answered (R202). -/
  won : List WonReq
  /-- Staged P4 segments (R212). -/
  slots : List StageSlot
  /-- Indices of staging slots that were used and are free again, in the order in which they became free (R212). -/
  slotFree : List Nat
  /-- Operations waiting for a segment to be staged (R212). -/
  p4Waits : List RefOp
  /-- Operations waiting for a pending commit operation on the same buffer (R207). -/
  refWaits : List RefOp
  /-- Accepted frames in the leaf queues, oldest first (R219, R243); those in flight in a build list included. -/
  leafq : List QEnt
  /-- Frames handed to the Kerb MACs and to the host engine. -/
  macs : List MacEnt
  /-- PRE-SYNC candidates (R76): fibre port, bit position, SFC. -/
  cands : List (Nat × Nat × Nat)
  /-- Frames being reassembled on the fibre ports (R84). -/
  reasm : List Reasm
  /-- The reference PLL's frequency in each of the last 8 000 ticks, oldest first (R53). -/
  pllHist : List Int
  /-- Alloc-IDs that the head end has assigned to fibre port f (R132), as 16 384 × f + Alloc-ID; those found granted while unbound. -/
  allocs : List Nat
  unboundSeen : List Nat
  /-- Serial-number delays drawn in the ports' present downstream frames (R106). -/
  snDraws : List SnDraw
  /-- The Dying_Gasp message prepared for a port, with its integrity code (R130). -/
  gaspMsg : Map (List Byte)
  /-- The key store: 8 × port + key to key + 1, 0 key-encryption key, 1 and 2 data keys, 3 PLOAM and 4 OMCI integrity key (R112, R486); a
  data key that waits for its superframe. -/
  dataKeys : Map Nat
  nextKeys : Map Nat
  /-- Upstream PLOAMs and OMCI messages waiting (R110, R465); the last PLOAM each port put on its fibre. -/
  upPloam : List UpMsg
  upOmci : List UpMsg
  lastPloam : Map (List Byte)
  /-- Predicted bursts: 64 × port + slot (R121). -/
  predicted : Map (List BuildEnt)
  /-- Reconciled bursts, in start order. -/
  bursts : List Burst
  /-- What the port's last burst put on the fibre. -/
  upWire : Map (List XgemOut)
  /-- Inputs of Yunager's functions, oldest first (R446). -/
  thIn : List ThIn
  /-- Mapped segments of the store and their 65 536 bytes (R410, R412). -/
  nand : Map (Option (List Byte))
  /-- Bytes staged for a segment being filled: segment × 64 + chunk (R419). -/
  chunkData : Map (Option (List Byte))
  /-- SEG_CRC named by the open segment's chunks: by store segment, plus 1 (R423). -/
  segCrc : Map Nat
  /-- The controller's write queue, oldest first (R411). -/
  arcWrites : List ArcWrite
  /-- Detached staged slots (R430, R440). -/
  detached : List Detached
  /-- Old slots of shrunk rings still to be released: entry, and the extents from the new length upward (R429). -/
  shrinks : List (Nat × List (Nat × Nat))
  /-- Gap records that Yunager holds in hardware mode (R425). -/
  gaps : List Gap
  /-- Directory entries changed since they were last written to the home copies; the home copies of packages 0 and 4 (R416). -/
  dirDirty : List Nat
  dirHome : Map Nat
  dirHome4 : Map Nat
  /-- The directory command in hand (R443). -/
  dirCmd : Option DirCmd
  /-- The length written to a ring record, until its owning slice's block commits: ring, length, executed (R429, R444). -/
  ringCmd : Option (Nat × Nat × Bool)
  /-- Transmit time-stamp queues of the Kerb ports (R346), and the capture queues (R351), oldest first. -/
  txts : List Stamp
  caps : List Stamp
  /-- Frame bytes in the buffers, by handle, without the FCS. -/
  bufBytes : Map (Option (List Byte))
  /-- Frames being received at the ports. -/
  front : List InFrame
  /-- Frames in the ingress buffers, in order of arrival; the recirculation queue is source 11 (R163, R576). -/
  ingress : List InFrame
  /-- The rule-tree images of banks A and B, as 32-bit words by word index (R145). -/
  imgA : Map Nat
  imgB : Map Nat
  /-- Lines of 64 bytes that walks have brought into the shared region of the tree cache, as bank and line number, the last used first (R150). -/
  treeLines : List (Nat × Nat)
  /-- The Cul-de-sac, oldest first (R167). -/
  cul : List CulEnt
  /-- The last frame that each port node put on its wire, as sent, with its FCS. -/
  wire : Map (Option (List Byte))
  /-- Buckets in the flow cache, by set, most recently used first (R176). -/
  flowCache : Map (List Nat)
  /-- Records still to be freed by a FLUSH (R187). -/
  flushList : List Nat
  /-- Host table command that waits for the first block to begin: (R187). -/
  flowCmd : Option FlowCmd
  /-- Miss filter: slice, H, block of the last descriptor (R180); the newest first. -/
  missFilter : List (Nat × Nat × Nat)
  /-- The slices' work on blocks not yet committed, oldest first. -/
  work : List BlockWork
  /-- Items that entered the next block's journal and are not yet worked on (R15), in order of entry. -/
  early : List Item
  /-- Map changes: first block number, map code (0 to 2 the fallback map of that slice, 3 home), and whether that block takes the limits of
  the block after a fault (R261, R262). -/
  maps : List (Nat × Nat × Bool)
  /-- Receive and return queues of the roles, and their handle tables (R395, R398). -/
  roleRx : Map (List Msg)
  roleRet : Map (List Msg)
  roleHandles : Map (List Nat)
  /-- Messages that wait for the router, each with the index of its requester (Table 13.8), in the order sent. -/
  msgQueue : List (Nat × Msg)
  /-- Images loaded for the roles (R406). -/
  images : Map (Option MewImage)
  /-- The cores; instruction memories (core × 4 096 + bundle), data memories (core × 2¹⁸ + address) and bulk windows (core × 2²⁴ + byte). -/
  mcores : Map (Option MCore)
  imem : Map Nat
  dmem : Map Nat
  bulk : Map Nat
  /-- Valid checkpoints by role, with their offset in the partition (R402). -/
  ckpts : Map (Option (Nat × List Byte))
  /-- Port writes released and not yet in effect (R393): role, port, value. -/
  portWrites : List (Nat × Nat × Int)
  /-- Roles whose restart, and roles + 256 whose assignment, waits for the next tick boundary (R390, R400). -/
  roleDue : List Nat
  /-- Tributaries. -/
  tribs : Map (Option TribSt)
  /-- The performance history in Arcade: a tributary's bin as its number, ES, SES, UAS, BBE, first tick, SUSPECT (R362); a closed monitor set as
  256 plus its key, then its content (R542). -/
  perfLog : List (List Nat)
  /-- Highways whose framer is in fault (R369). -/
  framerBad : List Nat
  /-- The debounced changes of the alarm inputs still within CHAT_WINDOW: input and tick (R513). -/
  almTimes : List (Nat × Nat)
  /-- Events lost beyond the 256 that PD0 holds (R533). -/
  deferredLost : Nat
  /-- The byte last given to the board on the optics bus: address, offset, value (R571). -/
  optOut : Option (Nat × Nat × Nat)
  deriving DecidableEq, Repr

/-- The machine right after reset: every register at the spec's reset value, nothing listed. -/
def State.reset : State :=
  { pending := [], clock := ⟨false, 0, 0, false, 0⟩, otp := [], regs := [], staged := [], commitReq := [],
    wordResets := [], softResets := [], latches := [], hostRead := 0, firsts := [], evq := [], deferred := [],
    openFaults := [], blockFault := 0, lateCounts := [], nextCommit := 0, evtSlots := [], evtLostNow := 0, flog := [], flogCopied := 0,
    pagePend := [], vecs := [], writeBacks := [], mons := [], monSnap := [], fresh := 0,
    rxSlots := [], txSlots := [],
    measLog := [], measDue := [], imgSlots := [], quoteSnap := none, quoteOut := none, sysOut := none, resumeRec := [],
    buffers := [], freed := [], parkedFree := [], dbeParked := [], dbeSlots := [], requests := [], won := [], slots := [],
    slotFree := [], p4Waits := [], refWaits := [],
    leafq := [], macs := [],
    cands := [], reasm := [], pllHist := [], allocs := [], unboundSeen := [], snDraws := [], gaspMsg := [], dataKeys := [], nextKeys := [], upPloam := [], upOmci := [], lastPloam := [],
    predicted := [], bursts := [], upWire := [], thIn := [],
    nand := [], chunkData := [], segCrc := [], arcWrites := [], detached := [], shrinks := [], gaps := [], dirDirty := [], dirHome := [], dirHome4 := [], dirCmd := none, ringCmd := none,
    txts := [], caps := [],
    bufBytes := [], front := [], ingress := [], imgA := [], imgB := [], treeLines := [], cul := [],
    wire := [],
    flowCache := [], flushList := [], flowCmd := none, missFilter := [], work := [], early := [], maps := [],
    roleRx := [], roleRet := [], roleHandles := [], msgQueue := [], images := [], mcores := [], imem := [], dmem := [], bulk := [], ckpts := [], portWrites := [], roleDue := [],
    tribs := [], perfLog := [], framerBad := [],
    almTimes := [], deferredLost := 0, optOut := none
  }

end Sys2Proof.Machine
end

