-- ==== Sys2Proof/Machine/Ops.lean ====
section
/-! DEFINITION. The named operations over the state: reading and writing register fields, staging, events, faults, time. -/

namespace Sys2Proof.Machine

/-- The outcome of a command that moves neither the clock nor the queue nor the fuses: those stay as before it. -/
def settle (s t : State) : Host.Outcome State Fault Refusal :=
  .next { t with clock := s.clock, pending := s.pending, otp := s.otp }

/-- Apply `f` only when the command can occur in this state; a command that cannot occur changes nothing. -/
def onlyIf (b : Bool) (f : State → State) (s : State) : State := if b then f s else s

/-! ## Register fields -/

/-- The value in effect of field `f` of page `pg`. -/
def rd (s : State) (pg : Nat) (f : Field) : Nat := Map.get f.rst s.regs (f.key pg)

/-- Set a field, cut to its width. -/
def wr (pg : Nat) (f : Field) (v : Nat) (s : State) : State :=
  { s with regs := Map.put f.rst s.regs (f.key pg) (v % 2 ^ f.width) }

/-- Whether a one-bit field is set. -/
def rdb (s : State) (pg : Nat) (f : Field) : Bool := rd s pg f ≠ 0

/-- Set a one-bit field from a Boolean. -/
def wrb (pg : Nat) (f : Field) (b : Bool) (s : State) : State := wr pg f (b2n b) s

/-- A field read as a two's complement number. -/
def rdS (s : State) (pg : Nat) (f : Field) : Int := toSigned f.width (rd s pg f)

/-- Set a field to a two's complement number, limited to its range. -/
def wrS (pg : Nat) (f : Field) (v : Int) (s : State) : State := wr pg f (ofSigned f.width (satSigned f.width v)) s

/-- Add to a counter, which saturates at its all-ones value. -/
def addc (pg : Nat) (f : Field) (n : Nat) (s : State) : State := wr pg f (min (2 ^ f.width - 1) (rd s pg f + n)) s

/-- Count one. -/
def inc (pg : Nat) (f : Field) (s : State) : State := addc pg f 1 s

/-- Keep the larger of a field and a value. -/
def wrMax (pg : Nat) (f : Field) (v : Nat) (s : State) : State :=
  wr pg f (min (2 ^ f.width - 1) (max (rd s pg f) v)) s

/-- A 64-bit value held in a low and a high word. -/
def rd64 (s : State) (pg : Nat) (lo hi : Field) : Nat := rd s pg lo + rd s pg hi * 2 ^ lo.width

/-- Set a value held in a low and a high word. -/
def wr64 (pg : Nat) (lo hi : Field) (v : Nat) (s : State) : State := wr pg hi (v / 2 ^ lo.width) (wr pg lo v s)

/-- The staging copy of a field: the staged write, or the value in effect (R520). -/
def rdStaged (s : State) (pg : Nat) (f : Field) : Nat :=
  match Map.get none s.staged (f.key pg) with
  | some (v, _) => v
  | none => rd s pg f

/-- Stage a write to a field of `pg`, whose commits are those of page `owner` (R520). -/
def wrStaged (owner pg : Nat) (f : Field) (v : Nat) (s : State) : State :=
  let s := { s with staged := Map.put none s.staged (f.key pg) (some (v % 2 ^ f.width, f.rst)) }
  wr owner COM.PAGE_STATUS_STAGED 1 s

/-- Forget everything written to a page: its fields hold their reset values again. -/
def resetPage (pg : Nat) (s : State) : State :=
  { s with regs := s.regs.filter (fun p => decide (p.1 / 32768 ≠ pg)),
           staged := s.staged.filter (fun p => decide (p.1 / 32768 ≠ pg)) }

/-- The record pages of the tables (Machine/Records.lean): record `i` of a table lies on its page base + i. -/
def Tab.xgf (port i : Nat) : Nat := 0x10000 + 0x400 * port + i
def Tab.asl (port i : Nat) : Nat := 0x11000 + 64 * port + i
def Tab.dact (i : Nat) : Nat := 0x12000 + i
def Tab.filt (port i : Nat) : Nat := 0x13000 + 16 * port + i
def Tab.hashw (port i : Nat) : Nat := 0x14000 + 128 * port + i
def Tab.trib (i : Nat) : Nat := 0x15000 + i
def Tab.pbin (i b : Nat) : Nat := 0x15100 + 4 * i + b
def Tab.role (i : Nat) : Nat := 0x15400 + i
def Tab.ring (i : Nat) : Nat := 0x15600 + i
def Tab.mcfg (i : Nat) : Nat := 0x15900 + i
def Tab.gateAdmin (port i : Nat) : Nat := 0x16000 + 256 * port + i
def Tab.gateOper (port i : Nat) : Nat := 0x17000 + 256 * port + i
def Tab.svc (i : Nat) : Nat := 0x18000 + i
def Tab.pnode (i : Nat) : Nat := 0x18800 + i
def Tab.bpf (i : Nat) : Nat := 0x19000 + i
def Tab.reader (i : Nat) : Nat := 0x1C000 + i
def Tab.sub (i : Nat) : Nat := 0x20000 + i
def Tab.leaf (i : Nat) : Nat := 0x40000 + i
def Tab.pol (i : Nat) : Nat := 0x60000 + i
def Tab.flow (i : Nat) : Nat := 0x1000000 + i
def Tab.dir (i : Nat) : Nat := 0x2000000 + i

/-! ## Time -/

/-- Core cycles in a block and in a tick (R1). -/
def blockCycles : Nat := 2430
def tickCycles : Nat := 155520

/-- The number of the block in progress: tick × 64 + block (R2, R3). -/
def now (s : State) : Nat := s.clock.tick * 64 + s.clock.block

/-- The core cycle at which block `n` starts. -/
def startOf (n : Nat) : Nat := n * blockCycles

/-- Core cycles of a number of nanoseconds, fraction dropped (Table 0.2: 1 244.16 cycles a microsecond). -/
def nsCycles (ns : Nat) : Nat := ns * 124416 / 100000

/-- The block in progress of the low 32 bits of tick × 64 + block. -/
def low32 (v : Nat) : Nat := v % 2 ^ 32

/-- Remove the first element that satisfies p. -/
def dropFirst {α : Type} (p : α → Bool) : List α → List α
  | [] => []
  | x :: r => if p x then r else x :: dropFirst p r

/-! ## Location codes -/

/-- A location code of Table 1.6 from its fields. -/
def locCode (level die sub unit array bitPos : Nat) : Nat :=
  level * 2 ^ 29 + die * 2 ^ 25 + sub * 2 ^ 19 + unit * 2 ^ 13 + array * 2 ^ 8 + bitPos

/-- Location codes per level: every field below the level is all ones (R37). -/
def locCell (sub unit array bitPos : Nat) : Nat := locCode 1 0 sub unit array bitPos
def locWord (sub unit array : Nat) : Nat := locCode 2 0 sub unit array 0xFF
def locUnit (sub unit : Nat) : Nat := locCode 4 0 sub unit 0x1F 0xFF
def locSub (sub : Nat) : Nat := locCode 5 0 sub 0x3F 0x1F 0xFF
def locDie (die : Nat) : Nat := locCode 6 die 0x3F 0x3F 0x1F 0xFF
def locModule : Nat := locCode 7 0xF 0x3F 0x3F 0x1F 0xFF

/-- LEVEL of a location code. -/
def locLevel (loc : Nat) : Nat := loc / 2 ^ 29

/-- SUBSYSTEM of a location code. -/
def locSubsystem (loc : Nat) : Nat := (loc / 2 ^ 19) % 64

/-! ## Events -/

/-- The event record of the block in progress. -/
def mkEv (s : State) (pg b loc : Nat) (masked : Bool) (d : List Nat) : EvRec :=
  { abs := now s, page := pg, bit := b, masked := masked, test := false, deferred := false, loc := loc,
    d0 := d.getD 0 0 % 2 ^ 32, d1 := d.getD 1 0 % 2 ^ 32, d2 := d.getD 2 0 % 2 ^ 32, d3 := d.getD 3 0 % 2 ^ 32,
    cls := 1, corrected := false }

/-- Blocks of work run: the clock ticks, and the power state is RUN (R491, R533). -/
def blocksRun (s : State) : Bool := s.clock.running && decide (rd s 0x20 PWR0.PWR_STATUS_STATE = 0)

/-- Queue an event for the commit of its block; while no blocks run it is deferred, up to 256 of them; an
unused detail word 3 then takes the sleep counter's value, which is a free value (R533). -/
def pushEv (e : EvRec) (s : State) : State :=
  if blocksRun s then { s with evq := s.evq ++ [e] }
  else if s.deferred.length < 256 then
    { s with deferred := s.deferred ++ [{ e with deferred := true, d3 := if e.d3 = 0 then Config.freeValue s.fresh % 2 ^ 32 else e.d3 }],
             fresh := s.fresh + 1 }
  else { s with deferredLost := s.deferredLost + 1 }

/-- Count n of the work of the block in progress: it shows at the block's commit, at once while no blocks run (R285). -/
def countLate (pg : Nat) (f : Field) (n : Nat) (s : State) : State :=
  if blocksRun s then { s with lateCounts := s.lateCounts ++ [(now s, ⟨pg, f.key pg, f.rst, f.width, true, true, n⟩)] } else addc pg f n s

/-- Raise event `b` of page `pg` in the block in progress (R529). -/
def raise (pg b : Nat) (d : List Nat) (s : State) : State := pushEv (mkEv s pg b 0 false d) s

/-- Raise an event that belongs to block `n` rather than to the block in progress (R529), caused by an item. -/
def raiseItem (n pg b : Nat) (d : List Nat) (s : State) : State :=
  pushEv { mkEv s pg b 0 false d with abs := n, cls := 0 } s

/-- Key of an event bit in the first-in-a-tick list, with a sub-key (a channel, say). -/
def firstKey (pg b sub : Nat) : Nat := (sub * 4096 + pg) * 32 + b

/-- Raise an event as first in a tick (R530). -/
def raiseFirst (pg b : Nat) (d : List Nat) (s : State) : State :=
  if (firstKey pg b 0) ∈ s.firsts then s
  else raise pg b d { s with firsts := firstKey pg b 0 :: s.firsts }

/-- First in a tick, belonging to block `n`, caused by an item. -/
def raiseFirstItem (n pg b : Nat) (d : List Nat) (s : State) : State :=
  if (firstKey pg b 0) ∈ s.firsts then s
  else raiseItem n pg b d { s with firsts := firstKey pg b 0 :: s.firsts }

/-- First in a tick per sub-key. -/
def raiseFirstOf (sub pg b : Nat) (d : List Nat) (s : State) : State :=
  if (firstKey pg b (sub + 1)) ∈ s.firsts then s
  else raise pg b d { s with firsts := firstKey pg b (sub + 1) :: s.firsts }

/-! ## Faults -/

/-- The location code of a fault in whose masking, or in whose block, a further fault would fall (R36); 0 for none. -/
def earlierFault (s : State) : Nat :=
  match s.openFaults with
  | (_, l) :: _ => l
  | [] => s.blockFault

/-- A fault at `loc` is detected with `first` the location of an earlier one, 0 for none: DOUBLE_FAULT with both (R36, R282). -/
def noteDouble (first loc : Nat) (s : State) : State :=
  let s := if first = 0 then s
    else countLate 0x190 XNG.DOUBLE_FAULTS 1 (pushEv (mkEv s 0x180 CWY.evDOUBLE_FAULT loc false [first]) s)
  { s with blockFault := if s.blockFault = 0 then loc else s.blockFault }

/-- Record a fault: its event, and DOUBLE_FAULT when an earlier fault's masking is in progress or the same block holds one
(R36, R282). -/
def raiseFault (pg b loc : Nat) (masked : Bool) (d : List Nat) (s : State) : State :=
  noteDouble (earlierFault s) loc (pushEv (mkEv s pg b loc masked d) s)

/-- A fault whose masking lasts until `closeFault` of the same tag (R36). -/
def openFault (tag loc : Nat) (s : State) : State :=
  { s with openFaults := s.openFaults ++ [(tag, loc)] }

/-- The masking of the fault with this tag has ended. -/
def closeFault (tag : Nat) (s : State) : State :=
  { s with openFaults := s.openFaults.filter (fun p => decide (p.1 ≠ tag)) }

/-- Tags of faults that stay open: a replay, a fibre port, a Kerb lane, a channel, a Town Hall pair, the reference, a fence. -/
def Tag.replay : Nat := 1
def Tag.fibre (p : Nat) : Nat := 2 + p
def Tag.pair : Nat := 4
def Tag.reference : Nat := 5
def Tag.fence : Nat := 6
def Tag.mews : Nat := 7
def Tag.channel (c : Nat) : Nat := 16 + c
def Tag.lane (p l : Nat) : Nat := 32 + 4 * p + l

/-- Count a corrected single-bit error at the commit of the block in progress (R39, R524). -/
def corrected (pg loc : Nat) (s : State) : State :=
  pushEv { mkEv s pg 0 loc true [] with corrected := true } s

/-- Change a result's item, as worked and as journalled. -/
def Result.mapItem (f : Item → Item) (r : Result) : Result := { r with item := f r.item, orig := f r.orig }

/-! ## Free values -/

/-- A fresh value below 2 ^ w that the spec leaves open. -/
def freeBits (w : Nat) (s : State) : Nat × State :=
  (Config.freeValue s.fresh % 2 ^ w, { s with fresh := s.fresh + 1 })

/-- A fresh random draw of w bits (R487). -/
def draw (w : Nat) (s : State) : Nat × State :=
  (Config.randomDraw s.fresh w % 2 ^ w, { s with fresh := s.fresh + 1 })

/-- A fuse field: what manufacture fused, and the bits blown since (R470). -/
def fuse (s : State) (k : Nat) : Nat := Config.fused k ||| Map.get 0 s.otp k

/-- The vendor-specific serial number of port f: SERIAL, and the port in bit 0 (R105). -/
def vssn (s : State) (f : Nat) : Nat := fuse s 1 % 2 ^ 31 * 2 + f

/-- The position of the highest of 64 bits that is set, plus 1; 0 when none is. -/
def topBit (v : Nat) : Nat :=
  match (List.range 64).reverse.find? (bit v) with
  | some i => i + 1
  | none => 0

/-- The value of anti-rollback counter n: the position of its highest blown bit plus 1 (R477). -/
def rollback (s : State) (n : Nat) : Nat := topBit (fuse s (16 + n))

/-- The identity secret and public key (R472). -/
def identitySecret : List Byte :=
  (toLe 64 (Config.sha512 ([85, 72, 76, 65, 82, 73, 83, 45, 73, 68, 69, 78, 84, 73, 84, 89] ++ toLe 32 (Config.fused 0)))).take 32
def identityPub : List Byte := Config.ed25519Public identitySecret

/-- An extension of a measurement register is to take effect when block `abs` commits (R479). -/
def measure (reg kind abs imageId digest : Nat) (s : State) : State :=
  { s with measDue := s.measDue ++ [⟨reg, kind, abs, imageId, digest⟩] }

/-- Do `f` for each of a list, in order. -/
def forEach {α : Type} (l : List α) (f : α → State → State) (s : State) : State := l.foldl (fun s a => f a s) s

end Sys2Proof.Machine
end

