-- ==== Sys2Proof/Machine/PageMap.lean ====
section
/-! DEFINITION. The register pages: what each assigned page is and holds (R516, Table 18.1), and reading and writing its words by
the access codes of Table 0.4. -/

namespace Sys2Proof.Machine

/-- An assigned page: BLOCK code, INSTANCE, PAGE within the instance, SUBSYSTEM (R525), its own fields, whether it has table
registers at 0x100, whether their data words are read-only, whether it has staged fields, how many event bits. -/
structure PageInfo where
  blk : Nat
  inst : Nat
  idx : Nat
  sub : Nat
  fields : List Field
  table : Bool
  tblRO : Bool
  staged : Bool
  evBits : Nat

def pageTable0 : List (Nat × PageInfo) :=
  [(0x000, ⟨1, 0, 0, 0x00, GEN.fields, false, false, false, 9⟩),
   (0x001, ⟨1, 0, 1, 0x00, FLOG.fields, true, true, false, 1⟩),
   (0x008, ⟨2, 0, 0, 0x01, THL.fields, false, false, true, 5⟩),
   (0x010, ⟨3, 0, 0, 0x03, SEC0.fields, false, false, false, 4⟩),
   (0x011, ⟨3, 0, 1, 0x03, SEC1.fields, false, false, false, 2⟩),
   (0x012, ⟨3, 0, 2, 0x03, SEC2.fields, false, false, false, 6⟩),
   (0x020, ⟨4, 0, 0, 0x04, PWR0.fields, false, false, true, 4⟩),
   (0x021, ⟨4, 0, 1, 0x04, PWR1.fields, false, false, true, 7⟩),
   (0x030, ⟨5, 0, 0, 0x05, TIM0.fields, false, false, true, 5⟩),
   (0x031, ⟨5, 0, 1, 0x05, TIM1.fields, false, false, true, 7⟩),
   (0x032, ⟨5, 0, 2, 0x05, TIM2.fields, false, false, true, 2⟩)]

def pageTable1 : List (Nat × PageInfo) :=
  [(0x040, ⟨6, 0, 0, 0x06, FB0.fields, false, false, true, 10⟩),
   (0x041, ⟨6, 0, 1, 0x06, FB1.fields, true, false, true, 8⟩),
   (0x042, ⟨6, 0, 2, 0x06, FB2.fields, false, false, true, 7⟩),
   (0x043, ⟨6, 0, 3, 0x06, FB3.fields, true, false, true, 6⟩),
   (0x060, ⟨7, 0, 0, 0x07, FB0.fields, false, false, true, 10⟩),
   (0x061, ⟨7, 0, 1, 0x07, FB1.fields, true, false, true, 8⟩),
   (0x062, ⟨7, 0, 2, 0x07, FB2.fields, false, false, true, 7⟩),
   (0x063, ⟨7, 0, 3, 0x07, FB3.fields, true, false, true, 6⟩),
   (0x080, ⟨8, 0, 0, 0x08, KRB.fields, true, false, true, 5⟩),
   (0x081, ⟨8, 1, 0, 0x09, KRB.fields, true, false, true, 5⟩),
   (0x082, ⟨8, 2, 0, 0x0A, KRB.fields, true, false, true, 5⟩)]

def pageTable2 : List (Nat × PageInfo) :=
  [(0x083, ⟨8, 3, 0, 0x0B, KRB.fields, true, false, true, 5⟩),
   (0x084, ⟨8, 4, 0, 0x0C, KRB.fields, true, false, true, 5⟩),
   (0x085, ⟨8, 5, 0, 0x0D, KRB.fields, true, false, true, 5⟩),
   (0x086, ⟨8, 6, 0, 0x0E, KRB.fields, true, false, true, 5⟩),
   (0x087, ⟨8, 7, 0, 0x0F, KRB.fields, true, false, true, 5⟩),
   (0x0A0, ⟨9, 0, 0, 0x08, LAN.fields, false, false, false, 2⟩),
   (0x0A1, ⟨9, 1, 0, 0x09, LAN.fields, false, false, false, 2⟩),
   (0x0A2, ⟨9, 2, 0, 0x0A, LAN.fields, false, false, false, 2⟩),
   (0x0A3, ⟨9, 3, 0, 0x0B, LAN.fields, false, false, false, 2⟩),
   (0x0A4, ⟨9, 4, 0, 0x0C, LAN.fields, false, false, false, 2⟩),
   (0x0A5, ⟨9, 5, 0, 0x0D, LAN.fields, false, false, false, 2⟩)]

def pageTable3 : List (Nat × PageInfo) :=
  [(0x0A6, ⟨9, 6, 0, 0x0E, LAN.fields, false, false, false, 2⟩),
   (0x0A7, ⟨9, 7, 0, 0x0F, LAN.fields, false, false, false, 2⟩),
   (0x0A8, ⟨9, 8, 0, 0x10, LAN.fields, false, false, false, 2⟩),
   (0x0A9, ⟨9, 9, 0, 0x00, KREF.fields, false, false, false, 2⟩),
   (0x0B0, ⟨10, 0, 0, 0x10, HST0.fields, false, false, false, 3⟩),
   (0x0B1, ⟨10, 0, 1, 0x10, HST1.fields, false, false, false, 3⟩),
   (0x0B2, ⟨10, 0, 2, 0x10, HST2.fields, false, false, false, 1⟩),
   (0x0C0, ⟨11, 0, 0, 0x11, PRS.fields, false, false, true, 3⟩),
   (0x0C8, ⟨12, 0, 0, 0x12, CLS.fields, true, false, true, 7⟩),
   (0x0C9, ⟨12, 0, 1, 0x12, CUL.fields, true, true, true, 2⟩),
   (0x0D0, ⟨13, 0, 0, 0x13, FLW.fields, true, false, true, 6⟩)]

def pageTable4 : List (Nat × PageInfo) :=
  [(0x0D1, ⟨13, 0, 1, 0x13, FLP.fields, false, false, true, 1⟩),
   (0x0E0, ⟨14, 0, 0, 0x14, SQR0.fields, false, false, true, 4⟩),
   (0x0E1, ⟨14, 0, 1, 0x14, SQR1.fields, false, false, true, 2⟩),
   (0x0E2, ⟨14, 0, 2, 0x14, SQR2.fields, true, true, false, 1⟩),
   (0x100, ⟨15, 0, 0, 0x15, SCH0.fields, false, false, false, 6⟩),
   (0x101, ⟨15, 0, 1, 0x15, SCH1.fields, true, false, true, 0⟩),
   (0x102, ⟨15, 0, 2, 0x15, SCH2.fields, true, false, true, 3⟩),
   (0x140, ⟨16, 0, 0, 0x16, BOL.fields, true, false, true, 2⟩),
   (0x150, ⟨17, 0, 0, 0x17, UPA.fields, false, false, true, 1⟩),
   (0x180, ⟨18, 0, 0, 0x18, CWY.fields, false, false, true, 9⟩),
   (0x190, ⟨19, 0, 0, 0x1B, XNG.fields, false, false, false, 2⟩)]

def pageTable5 : List (Nat × PageInfo) :=
  [(0x1A0, ⟨20, 0, 0, 0x1C, TRM0.fields, false, false, true, 5⟩),
   (0x1A1, ⟨20, 0, 1, 0x1C, TRM1.fields, true, false, true, 4⟩),
   (0x1A2, ⟨20, 0, 2, 0x1C, TRM2.fields, true, true, false, 1⟩),
   (0x1C0, ⟨21, 0, 0, 0x20, MEW0.fields, false, false, true, 8⟩),
   (0x1C1, ⟨21, 0, 1, 0x20, [TBL.ADDR], true, false, true, 2⟩),
   (0x1C2, ⟨21, 0, 2, 0x20, MEW2.fields, false, false, false, 1⟩),
   (0x1E0, ⟨22, 0, 0, 0x1D, ARC0.fields, false, false, true, 6⟩),
   (0x1E1, ⟨22, 0, 1, 0x1D, ARC1.fields, true, false, false, 2⟩),
   (0x1E2, ⟨22, 0, 2, 0x1D, ARC2.fields, true, false, false, 2⟩),
   (0x200, ⟨23, 0, 0, 0x00, MON0.fields, true, false, true, 2⟩),
   (0x201, ⟨23, 0, 1, 0x00, MON1.fields, false, false, false, 0⟩)]

/-- The assigned pages (Table 18.1). -/
def pageTable : List (Nat × PageInfo) :=
  pageTable0 ++ pageTable1 ++ pageTable2 ++ pageTable3 ++ pageTable4 ++ pageTable5

/-- The page's row, when it is assigned. -/
def pageInfo (p : Nat) : Option PageInfo := (pageTable.find? (fun r => r.1 = p)).map (·.2)

/-- PAGE_CAPS.ENABLE_CTL: pages 0x0E0 and 0x200 (Table 18.2). -/
def enableCtl (p : Nat) : Bool := p = 0x0E0 || p = 0x200

/-- Table data words of a page (Table 18.2). -/
def tblWords (p : Nat) (i : PageInfo) : Nat := if p = 0x011 then 20 else if p = 0x001 then 12 else if i.table then 16 else 0

/-- The first page of a page's instance: it holds the `PAGE_FAULT` fields, which are the same in every page of one instance. -/
def instBase (p : Nat) : Nat :=
  match pageInfo p with
  | some i => p - i.idx
  | none => p

/-- Pages of a page's instance. -/
def instPages (p : Nat) : List Nat :=
  match pageInfo p with
  | some i => (pageTable.filter (fun r => r.2.blk = i.blk ∧ r.2.inst = i.inst)).map (·.1)
  | none => []

/-- First pages of the blocks that a SUBSYSTEM code names (R525, R526). -/
def subPages (sub : Nat) : List Nat :=
  let code := if sub = 2 then 1 else if 0x18 ≤ sub ∧ sub ≤ 0x1A then 0x18 else if 0x20 ≤ sub ∧ sub ≤ 0x28 then 0x20
    else if 0x30 ≤ sub ∧ sub ≤ 0x37 then 0 else sub
  (pageTable.filter (fun r => r.2.sub = code ∧ r.2.idx = 0)).map (·.1)

/-- Data words that a table page has at 0x110; those it calls reserved, or does not name, read zero and take no write (R7, Tables 3.8, 4.6,
5.10, 7.10, 8.11, 12.10, 18.9, 18.10). -/
def dataWords (p : Nat) : Nat :=
  if p = 0x41 ∨ p = 0x61 ∨ p = 0x102 ∨ p = 0xE2 then 2 else if p = 0x43 ∨ p = 0x63 then 3 else if p = 0x200 then 4
  else if p = 0xC9 ∨ p = 0x1A2 then 6 else if p = 1 then 12 else 16

/-- The bits of a data word that the page defines. -/
def dataMask (p i : Nat) : Nat := if p = 0x102 ∧ i = 0 then 0xFF else if p = 0x200 ∧ i = 0 then 0x41FFFFFF else 2 ^ 32 - 1

/-- What a data word holds at reset: TBL_DATA0 of the gates, TBL_DATA1 of Market Square, and on page 0x200 channel 0's configuration (Table 18.7). -/
def dataRst (p i : Nat) : Nat :=
  if p = 0x102 ∧ i = 0 then 0xFF
  else if p = 0xE2 ∧ i = 1 then 0xFFFFFFFF
  else if p = 0x200 then [monReset 0 0 + monReset 0 1 * 2 ^ 8 + monReset 0 2 * 2 ^ 24, monReset 0 3, monReset 0 4, 0x7FFFFFFF].getD i 0
  else 0

/-- Data word i of table page p. -/
def dataAt (p i : Nat) : Field := ⟨0x110 + 4 * i, 0, 32, .rw, dataRst p i⟩

/-- All fields of a page, in its words. The timing-port registers stand on fibre A's page alone (R99, Table 3.7). -/
def pageFields (p : Nat) : List Field :=
  match pageInfo p with
  | none => []
  | some i =>
    COM.fields ++ (if p = 0x60 then i.fields.filter (fun f => f.off < 0x200) else i.fields) ++
      (if i.table then [TBL.CMD, TBL.BUSY, TBL.RESULT, TBL.CMD_LOST, TBL.RESULT_INDEX] ++ (List.range (dataWords p)).map (dataAt p) else [])

/-- The page that holds a field of page `p`: the instance's first page for the last-fault fields, else `p`. -/
def homePage (p : Nat) (f : Field) : Nat :=
  if f.off = 0x1C ∨ (0x28 ≤ f.off ∧ f.off ≤ 0x30) then instBase p else p

/-- The bits of PAGE_PENDING and of `PAGE_STATUS.EVENT`: an enabled event bit is set. -/
def pageEventOn (s : State) (p : Nat) : Bool := (rd s p COM.PAGE_EVENT &&& rd s p COM.PAGE_EVENT_EN) ≠ 0

/-- The debug scopes open: every one before OWNER_LOCK, then those granted (R484, R485). -/
def openScopes (s : State) : Nat := if bit (fuse s 7) 0 then rd s 0x12 SEC2.DBG_STATUS_SCOPE else 0x1F

/-- The 128-byte identity certificate of the one-time area: SERIAL, 28 zero bytes, the identity public key, and the root key's signature, which
manufacture wrote (R105, R472). -/
def idCert : List Byte :=
  toLe 4 (Config.fused 1 % 2 ^ 31) ++ List.replicate 28 0 ++ (identityPub ++ List.replicate 32 0).take 32 ++ toLe 64 (Config.fused 8)

/-- Fields that show fuses or what is derived from them (Table 16.1, R105, R472, R477). -/
def fusedField (s : State) (p : Nat) (f : Field) : Option Nat :=
  if p = 0x10 ∧ f.off < 0x60 ∧ 0x40 ≤ f.off then some (leNat ((identityPub.drop (f.off - 0x40)).take 4))
  else if p = 0x10 ∧ 0x80 ≤ f.off ∧ f.off < 0x100 then some (leNat ((idCert.drop (f.off - 0x80)).take 4))
  else if p = 0x10 ∧ 0x100 ≤ f.off ∧ f.off < 0x1C0 then
    some (bitsOf (fuse s (2 + (f.off - 0x100) / 0x40)) (8 * ((f.off - 0x100) % 0x40)) 32)
  else if p = 0x10 ∧ f.off = 0x1C0 then some (bitsOf (fuse s (5 + f.lo / 2)) 0 f.width)
  else if p = 0x12 ∧ 0x40 ≤ f.off ∧ f.off < 0x80 then
    some ((List.range 4).foldl (fun a i => a + rollback s (f.off - 0x40 + i) * 256 ^ i) 0)
  else if p = 0x12 ∧ f.off = 0xC4 ∧ f.lo = 0 then some (openScopes s)
  else if (p = 0x42 ∨ p = 0x62) ∧ f.off = 0x58 then some (vssn s (p / 0x20 - 2))
  else none

/-! ## Maps and owners of the slice regions (R175, R260, R261) -/

/-- The slice that owns region r under a map: 3 is the home map, 0 to 2 the fallback map of that slice. -/
def regionOwner (map r : Nat) : Nat :=
  if map < 3 ∧ r % 3 = map then (if r / 3 % 2 = 0 then (if map = 0 then 1 else 0) else (if map = 2 then 1 else 2)) else r % 3

/-- The map in force for block j's journal, with its post-fault mark. -/
def mapFor (s : State) (j : Nat) : Nat × Bool :=
  s.maps.foldl (fun a m => if m.1 ≤ j then (m.2.1, m.2.2 && decide (m.1 = j)) else a) (3, false)

/-- Word i of SLICE_MAP: the owners of regions 16 i to 16 i + 15 under the map of the block in progress, two bits each (R175, R260). -/
def sliceMapWord (s : State) (i : Nat) : Nat :=
  (List.range 16).foldl (fun a k => a + regionOwner (mapFor s (now s)).1 (16 * i + k) * 4 ^ k) 0

/-- Return to service is host-assisted: the function's mode in force, which RTS_HOST shows (R278, R452, Table 15.1). -/
def rtsHost (s : State) : Bool := bit (rd s 8 THL.FUNC_EFFECTIVE) 8

/-- The value a field shows: computed for the fields that describe the page, held for all others. -/
def showField (s : State) (p : Nat) (f : Field) : Nat :=
  match pageInfo p with
  | none => 0
  | some i =>
    if f = COM.PAGE_IDENT_BLOCK then i.blk
    else if f = COM.PAGE_IDENT_INSTANCE then i.inst
    else if f = COM.PAGE_IDENT_PAGE then i.idx
    else if f = COM.PAGE_CAPS_TABLE then b2n (decide (tblWords p i ≠ 0))
    else if f = COM.PAGE_CAPS_STAGED then b2n i.staged
    else if f = COM.PAGE_CAPS_ENABLE_CTL then b2n (enableCtl p)
    else if f = COM.PAGE_CAPS_EVENT_BITS then i.evBits
    else if f = COM.PAGE_CAPS_TBL_WORDS then tblWords p i
    else if f = COM.PAGE_STATUS_LOCKED then rd s p COM.PAGE_LOCK_LOCK
    else if f = COM.PAGE_STATUS_EVENT then b2n (pageEventOn s p)
    else if f = COM.PAGE_STATUS_FAULT then
      let b := instBase p
      b2n (rdb s b COM.PAGE_FAULT_UNCORRECTED || rdb s b COM.PAGE_FAULT_REG_DBE || rdb s b COM.PAGE_FAULT_MASKED
        || rdb s b COM.PAGE_FAULT_CONTAINED)
    else if p = 0 ∧ 0x200 ≤ f.off ∧ f.off ≤ 0x25C then
      (List.range 32).foldl (fun a b => a + b2n (pageEventOn s (8 * (f.off - 0x200) + b)) * 2 ^ b) 0
    else if p = 0xD0 ∧ 0x80 ≤ f.off ∧ f.off ≤ 0xAC then sliceMapWord s ((f.off - 0x80) / 4)
    else if p = 0x180 ∧ f = CWY.CWY_STATUS_RTS_HOST then b2n (rtsHost s)
    else if f.acc = .wo then 0
    else match fusedField s p f with
      | some v => v
      | none => rd s (homePage p f) f

/-- The fields of the word at an offset. -/
def wordFields (p off : Nat) : List Field := (pageFields p).filter (fun f => f.off = off)

/-- A word as the host reads it: unassigned pages and reserved bits read zero (R7, R455); with `VIEW_STAGED` set, an RWS field
reads its staging copy (R520). -/
def showWord (s : State) (p off : Nat) : Nat :=
  let view := rdb s p COM.PAGE_CTRL_VIEW_STAGED
  (wordFields p off).foldl
    (fun a f => a + (if view ∧ f.acc = .rws then rdStaged s p f else showField s p f) * 2 ^ f.lo) 0

/-- Write one field as its access code says (Table 0.4). Fields that act (W1S, WO) act through their own commands. -/
def writeField (p : Nat) (f : Field) (v : Nat) (s : State) : State :=
  match f.acc with
  | .rw => wr p f v s
  | .rws => wrStaged p p f v s
  | .w1c => wr (homePage p f) f (rd s (homePage p f) f &&& (2 ^ f.width - 1 - v % 2 ^ f.width)) s
  | _ => s

/-- Clear the RC fields of a word after a read; `same` is a count arriving in the same cycle for the field at bit `lo`, which is
kept (Table 0.4). -/
def clearRC (p off : Nat) (same : Option (Nat × Nat)) (s : State) : State :=
  forEach ((wordFields p off).filter (fun f => f.acc = .rc))
    (fun f s => wr (homePage p f) f (match same with | some (lo, n) => if lo = f.lo then n else 0 | none => 0) s) s

/-- The BAR0 page whose commits a page belongs to: itself, or the page of the table whose record it is. -/
def ownerOf (vp : Nat) : Nat :=
  if vp < 0x1000 then vp
  else if vp < 0x11000 then 0x41 + 0x20 * ((vp - 0x10000) / 0x400)
  else if vp < 0x12000 then 0x43 + 0x20 * ((vp - 0x11000) / 64)
  else if vp < 0x13000 then 0xC8
  else if vp < 0x14000 then 0x80 + (vp - 0x13000) / 16
  else if vp < 0x15000 then 0x80 + (vp - 0x14000) / 128
  else if vp < 0x15100 then 0x1A1
  else if vp < 0x15400 then 0x1A2
  else if vp < 0x15600 then 0x1C1
  else if vp < 0x15900 then 0x1E2
  else if vp < 0x16000 then 0x200
  else if vp < 0x18000 then 0x102
  else if vp < 0x19000 then 0x101
  else if vp < 0x1C000 then 0x140
  else if vp < 0x20000 then 0x1E2
  else if vp < 0x60000 then 0x101
  else if vp < 0x80000 then 0x140
  else if vp < 0x2000000 then 0xD0
  else 0x1E1

/-- The staged fields whose commits are those of page `p`. -/
def stagedOf (s : State) (p : Nat) : Map (Option (Nat × Nat)) := s.staged.filter (fun e => ownerOf (e.1 / 32768) = p)

/-- Apply every staging copy of page `p` at once (R521). -/
def applyStaged (p : Nat) (s : State) : State :=
  let regs := (stagedOf s p).foldl
    (fun r e => match e.2 with | some (v, rst) => Map.put rst r e.1 v | none => r) s.regs
  let s := { s with regs := regs, staged := s.staged.filter (fun e => ownerOf (e.1 / 32768) ≠ p) }
  wr p COM.PAGE_STATUS_STAGED 0 s

/-! ## Table records -/

/-- Word `w` of the record at page `pg`: every field's bits that fall in it. -/
def recWord (s : State) (view : Bool) (pg : Nat) (fs : List Field) (w : Nat) : Nat :=
  fs.foldl (fun a f =>
    let v := if view then rdStaged s pg f else rd s pg f
    a + (v * 2 ^ (8 * f.off + f.lo) / 2 ^ (32 * w)) % 2 ^ 32) 0

/-- Load the data words of page `p` (R527). -/
def loadData (p : Nat) (ws : List Nat) (s : State) : State :=
  forEach (List.range 16) (fun i s => wr p (dataAt p i) (ws.getD i 0) s) s

/-- A read command: the record in effect, or the staged one under `VIEW_STAGED`, goes to the data words (R527). -/
def readRecord (p pg : Nat) (fs : List Field) (s : State) : State :=
  let view := rdb s p COM.PAGE_CTRL_VIEW_STAGED
  loadData p ((List.range 16).map (recWord s view pg fs)) s

/-- The data words of a page as one number, word 0 lowest. -/
def dataNat (s : State) (p : Nat) : Nat := (List.range 16).foldl (fun a i => a + rd s p (dataAt p i) * 2 ^ (32 * i)) 0

/-- The value that the data words of page `p` give a record field. -/
def dataField (s : State) (p : Nat) (f : Field) : Nat := bitsOf (dataNat s p) (8 * f.off + f.lo) f.width

/-- Stage a record write from the data words: the writable fields only. -/
def stageRecord (p pg : Nat) (fs : List Field) (s : State) : State :=
  forEach (fs.filter (fun f => f.acc = .rws ∨ f.acc = .rw)) (fun f t => wrStaged p pg f (dataField s p f) t) s

/-- A page locked against host writes (R528). -/
def locked (s : State) (p : Nat) : Bool := rdb s p COM.PAGE_LOCK_LOCK

/-- A host write that a lock turns away: ignored, counted, reported (R528). -/
def lockViolation (p off : Nat) (s : State) : State :=
  raiseFirst 0 GEN.evLOCK_VIOLATION [p, off] (inc 0 GEN.LOCKED_WRITES s)

/-- A host write to a register that acts: turned away while the page is locked. -/
def hostCmd (p off : Nat) (f : State → State) (s : State) : State :=
  if locked s p then lockViolation p off s else f s

/-- A command that host software or Yunager may give: a lock turns away the host's alone (R528). -/
def hostCmdOf (byHost : Bool) (p off : Nat) (f : State → State) (s : State) : State := if byHost then hostCmd p off f s else f s

/-- A table command: turned away while the page is locked; while BUSY, ignored with CMD_LOST (R527). -/
def tblCmd (p : Nat) (f : State → State) (s : State) : State :=
  hostCmd p 0x104 (fun s => if rdb s p TBL.BUSY then wr p TBL.CMD_LOST 1 s else f s) s

/-- A table command that host software or Yunager may give: a lock turns away the host's alone (R528). -/
def tblCmdOf (byHost : Bool) (p : Nat) (f : State → State) (s : State) : State :=
  if byHost then tblCmd p f s else if rdb s p TBL.BUSY then wr p TBL.CMD_LOST 1 s else f s

/-- Settle a table command with its result code. -/
def tblResult (p r : Nat) (s : State) : State := wr p TBL.RESULT r (wr p TBL.BUSY 0 s)

end Sys2Proof.Machine
end

