-- ==== Sys2Proof/Machine/Pages.lean ====
section
/-! DEFINITION. What leaves the terminal at a commit: event bits and records, the event ring, the fault log, MSI-X messages, page
interrupts; and the monitors (chapter 18). -/

namespace Sys2Proof.Machine

/-! ## MSI-X (R456) -/

/-- A vector as host software has set it; PRESUMED: masked until unmasked, as PCI Express has it. -/
def vec (s : State) (v : Nat) : Vec := (Map.get none s.vecs v).getD ⟨true, false, false, 0, 0, 0⟩

def setVec (v : Nat) (x : Vec) (s : State) : State := { s with vecs := Map.put none s.vecs v (some x) }

/-- The interval of the vector's ITR has passed since its last message. -/
def itrPassed (s : State) (x : Vec) : Bool := x.last = 0 || decide (x.itr ≤ now s - (x.last - 1))

/-- Send a vector's message, or withhold it: masked, its pending bit is set; within ITR blocks of the last, it is owed. -/
def sendVec (v itr : Nat) (s : State) : State :=
  let x := { vec s v with itr := itr }
  if x.masked then setVec v { x with pendingBit := true } s
  else if itrPassed s x then setVec v { x with owed := false, last := now s + 1, sent := x.sent + 1 } s
  else setVec v { x with owed := true } s

/-- At a block boundary the withheld messages go whose interval has passed. -/
def sendOwed (s : State) : State :=
  forEach (Map.keys s.vecs) (fun v s => if (vec s v).owed then sendVec v (vec s v).itr s else s) s

/-! ## Event records -/

/-- A fault event: its location code has a LEVEL other than 0 (R531). -/
def isFault (e : EvRec) : Bool := decide (locLevel e.loc ≠ 0)

/-- Events that the fault log took when they were raised, and that are committed after the restart (Tables 17.13, 18.12). -/
def loggedBefore (e : EvRec) : Bool :=
  e.deferred && ((decide (e.page = 0x021) && decide (e.bit = PWR1.evFEED_FAIL)) || (decide (e.page = 0) && decide (e.bit = GEN.evCLOCK_FAULT)))

/-- The events that the fault log keeps (R537). -/
def toFlog (e : EvRec) : Bool :=
  !e.test && !loggedBefore e && (isFault e || decide (e.page ≤ 0x001) || decide (e.page = 0x010)
    || (decide (e.page = 0x020) && (decide (e.bit = PWR0.evMODE_CHANGE) || decide (e.bit = PWR0.evSTATE_CHANGE)))
    || (decide (e.page = 0x021) && decide (e.bit = PWR1.evFEED_FAIL)))

/-- The last-fault registers take a location code and its block (R526). -/
def lastFault (p loc abs : Nat) (s : State) : State :=
  wr p COM.PAGE_FAULT_BLOCK (abs % 64) (wr p COM.PAGE_FAULT_TICK (abs / 64) (wr p COM.PAGE_FAULT_LOC loc s))

/-- A committed fault record marks the block of its SUBSYSTEM (R526). -/
def markFault (e : EvRec) (s : State) : State :=
  forEach (subPages (locSubsystem e.loc)) (fun p s =>
    lastFault p e.loc e.abs (wr p (if e.masked then COM.PAGE_FAULT_MASKED else COM.PAGE_FAULT_CONTAINED) 1 s)) s

/-- A corrected single-bit error is counted, with its location in the last-fault registers (R524, R526). -/
def countCorrected (e : EvRec) (s : State) : State :=
  lastFault (instBase e.page) e.loc e.abs (inc (instBase e.page) COM.PAGE_FAULT_CORRECTED s)

/-- Append an event to the fault log; the newest record overwrites the oldest of 16 384 (R537). -/
def appendFlog (e : EvRec) (s : State) : State :=
  let seq := (rd s 1 FLOG.FLOG_LAST + 1) % 2 ^ 32
  let full := rd s 1 FLOG.FLOG_COUNT = 16384
  let first := rd s 1 FLOG.FLOG_FIRST
  let s := { s with flog := Map.put none s.flog (seq % 16384) (some ⟨e, seq⟩) }
  let s := wr 1 FLOG.FLOG_LAST seq s
  if full then
    let s := wr 1 FLOG.FLOG_FIRST (first + 1) s
    if firstKey 1 FLOG.evFLOG_WRAP 0 ∈ s.firsts then s
    else { s with firsts := firstKey 1 FLOG.evFLOG_WRAP 0 :: s.firsts,
                  evq := s.evq ++ [{ mkEv s 1 FLOG.evFLOG_WRAP 0 false [first] with abs := e.abs }] }
  else wr 1 FLOG.FLOG_COUNT (rd s 1 FLOG.FLOG_COUNT + 1) s

/-- The event ring's length and free places (R534). -/
def evtLen (s : State) : Nat := 2 ^ rd s 0 GEN.EVT_CFG_EVT_LOG2_LEN
def evtFree (s : State) : Nat := evtLen s - (rd s 0 GEN.EVT_HEAD + 65536 - rd s 0 GEN.EVT_TAIL) % 65536

/-- Address of the event ring's record h in host memory (R534). -/
def evtAddr (s : State) (h : Nat) : Nat := rd64 s 0 GEN.EVT_BASE_LO GEN.EVT_BASE_HI / 4096 * 4096 + 32 * (h % evtLen s)

/-- The event ring takes records: RUNNING or STOPPING. -/
def evtOn (s : State) : Bool := rd s 0 GEN.EVT_CTRL_STATE ≠ 0

/-- Write one record at `EVT_HEAD` (R534). -/
def evtPut (e : EvRec) (s : State) : State :=
  let h := rd s 0 GEN.EVT_HEAD
  let phase := if (h / evtLen s) % 2 = 0 then 1 else 0
  wr 0 GEN.EVT_HEAD (h + 1) { s with evtSlots := Map.put none s.evtSlots (evtAddr s h) (some ⟨e, phase⟩) }

/-- A record was lost (R535). -/
def evtLose (s : State) : State := inc 0 GEN.EVT_LOST { s with evtLostNow := s.evtLostNow + 1 }

/-- The EVT_LOST record of block `k`: its bit is set, it is logged, and it is the first written once there is room. -/
def evtLostRecord (k : Nat) (s : State) : State :=
  let e := { mkEv s 0 GEN.evEVT_LOST 0 false [s.evtLostNow] with abs := k }
  let s := wr 0 COM.PAGE_EVENT (setBit (rd s 0 COM.PAGE_EVENT) GEN.evEVT_LOST true) s
  evtPut e (appendFlog e { s with evtLostNow := 0 })

/-- Write a record into the event ring; `n` counts the boundary's records, at most 512 (R535). -/
def evtWrite (k : Nat) (e : EvRec) (sn : State × Nat) : State × Nat :=
  let (s, n) := sn
  let (s, n) := if s.evtLostNow ≠ 0 ∧ evtOn s ∧ 0 < evtFree s ∧ n < 512 then (evtLostRecord k s, n + 1) else (s, n)
  if evtOn s ∧ 0 < evtFree s ∧ n < 512 then (evtPut e s, n + 1) else (evtLose s, n)

/-- Commit one event of block `k`: its bit, its record, its fault marks, its place in the fault log (R526, R529, R531, R537). -/
def commitEvent (k : Nat) (sn : State × Nat) (e : EvRec) : State × Nat :=
  let (s, n) := sn
  if e.corrected then (countCorrected e s, n)
  else
    let s := wr e.page COM.PAGE_EVENT (setBit (rd s e.page COM.PAGE_EVENT) e.bit true) s
    let s := if isFault e then markFault e s else s
    let s := if toFlog e then appendFlog e s else s
    if isFault e || bit (rd s e.page COM.PAGE_EVENT_EN) e.bit then evtWrite k e (s, n) else (s, n)

/-- The events of block `k` in the order of step 4 of R284: raised by items, then the others in page order, then MASKED_FAULT and
CONTAINED_FAULT. -/
def orderEvents (l : List EvRec) : List EvRec :=
  l.filter (fun e => e.cls = 0)
    ++ ((List.range 0x202).flatMap (fun p => l.filter (fun e => e.cls = 1 ∧ e.page = p)))
    ++ l.filter (fun e => e.cls = 2)

/-- The pages whose pending bit is set (R536). -/
def pendingPages (s : State) : List Nat := (pageTable.map (·.1)).filter (pageEventOn s)

/-- `PAGE_VECTOR` goes when a pending bit changed from 0 to 1 (R536). -/
def pageIrq (s : State) : State :=
  let cur := pendingPages s
  let s' := { s with pagePend := cur.map (fun p => (p, 1)) }
  if rdb s 0 GEN.PAGE_IRQ_EN ∧ cur.any (fun p => Map.get 0 s.pagePend p = 0) then sendVec (rd s 0 GEN.PAGE_VECTOR) 0 s' else s'

/-- Step 4 of block `k`'s commit, then the ring's head and vector, then the page interrupt (R284, R535, R536). -/
def commitEvents (k : Nat) (s : State) : State :=
  let due := orderEvents (s.evq.filter (fun e => e.abs ≤ k))
  let s := { s with evq := s.evq.filter (fun e => ¬ e.abs ≤ k) }
  let (s, n) := due.foldl (commitEvent k) (s, 0)
  let late := s.evq.filter (fun e => e.abs ≤ k)
  let s := { s with evq := s.evq.filter (fun e => ¬ e.abs ≤ k) }
  let (s, n) := late.foldl (commitEvent k) (s, n)
  let s := if n = 0 then s
    else sendVec (rd s 0 GEN.EVT_CFG_EVT_VECTOR) (rd s 0 GEN.EVT_CFG_EVT_ITR)
      { s with writeBacks := Map.put 0 s.writeBacks (rd64 s 0 GEN.EVT_WB_LO GEN.EVT_WB_HI) (rd s 0 GEN.EVT_HEAD + 1) }
  let s := if rd s 0 GEN.EVT_CTRL_STATE = 2 then wr 0 GEN.EVT_CTRL_STATE 0 s else s
  pageIrq s

/-- At the first block that runs, the events held in PD0 become events of that block; those lost are counted (R533). -/
def takeDeferred (s : State) : State :=
  let l := s.deferred.map (fun e => { e with abs := now s })
  let n := s.deferredLost
  let s := { s with evq := s.evq ++ l, deferred := [], deferredLost := 0 }
  if n = 0 then s else raise 0 GEN.evDEFERRED_LOST [n] (addc 0 GEN.DEFERRED_LOST n s)

/-! ## Monitors (R539 to R543) -/

/-- Length in ticks of window `w`: 1 s, 15 min, 24 h. -/
def monTicks (w : Nat) : Nat := if w = 0 then 8000 else if w = 1 then 7200000 else 691200000

/-- An empty set. -/
def monEmpty (start : Nat) (isPartial : Bool) : MonSet := ⟨2 ^ 31 - 1, -(2 ^ 31), 0, 0, [], start, isPartial⟩

/-- Index of a set. -/
def monKey (c w prev : Nat) : Nat := (c * 3 + w) * 2 + prev

def monSet (m : Map (Option MonSet)) (k : Nat) : MonSet := (Map.get none m k).getD (monEmpty 0 false)

def putMon (k : Nat) (x : MonSet) (s : State) : State := { s with mons := Map.put none s.mons k (some x) }

/-- The bin of a sample (R540); `w` holds W, or E in its low 5 bits and S in bits 9:8. -/
def monBin (kind : Nat) (lo : Int) (w : Nat) (v : Int) : Nat :=
  if kind = 0 then
    if v < lo then 0 else min 63 (1 + ((v - lo) / (w : Int)).toNat)
  else
    let m := v.natAbs
    let e := w % 32
    let sh := bitsOf w 8 2
    if m < 2 ^ e then 0
    else
      let top := Nat.log2 m
      let k := top - e
      let f := (m * 2 ^ sh / 2 ^ top) % 2 ^ sh
      let b := 1 + k * 2 ^ sh + f
      if 62 < b then 63 else b

/-- A set after one more sample. -/
def monAdd (kind : Nat) (lo : Int) (w : Nat) (v : Int) (x : MonSet) : MonSet :=
  let b := monBin kind lo w v
  { x with lo := min x.lo v, hi := max x.hi v, count := min (2 ^ 32 - 1) (x.count + 1), sum := satSigned 64 (x.sum + v),
           bins := Map.put 0 x.bins b (min (2 ^ 32 - 1) (Map.get 0 x.bins b + 1)) }

/-- The configuration record of a channel. -/
def monCfg (c : Nat) : Nat := Tab.mcfg c

/-- One channel takes a sample into its three windows, and is checked against its threshold (R539, R543). -/
def monTake (c : Nat) (v : Int) (s : State) : State :=
  let pg := monCfg c
  let kind := rd s pg (MCFG.KIND c)
  let lo := rdS s pg (MCFG.LO c)
  let w := rd s pg (MCFG.W c)
  let s := forEach [0, 1, 2] (fun i s => putMon (monKey c i 0) (monAdd kind lo w v (monSet s.mons (monKey c i 0))) s) s
  if rdb s pg MCFG.THRESH_EN ∧ rdS s pg MCFG.THRESHOLD < v then
    raiseFirstOf c 0x200 MON0.evTHRESHOLD [c, ofSigned 32 v] s
  else s

/-- The bits of PARAM that a source uses (Table 18.6). -/
def monParamBits (src : Nat) : Nat :=
  if src = 1 then 6 else if src = 4 ∨ src = 8 then 3 else if src = 5 then 16 else if src = 7 ∨ src = 9 then 2
  else if src = 0x0A then 6 else if src = 2 ∨ src = 0x0B ∨ src = 0x0C then 1 else 0

/-- The channels that a sample of source `src` and parameter `param` reaches. -/
def monChannels (s : State) (src param : Nat) : List Nat :=
  (List.range 48).filter (fun c =>
    rd s (monCfg c) (MCFG.SOURCE c) = src
      ∧ rd s (monCfg c) (MCFG.PARAM c) % 2 ^ monParamBits src = param % 2 ^ monParamBits src)

/-- A sample of a source, saturated to 32 bits signed, goes to every channel set to it, while the monitors are enabled. -/
def monSample (src param : Nat) (v : Int) (s : State) : State :=
  if rdb s 0x200 COM.PAGE_CTRL_ENABLE then
    forEach (monChannels s src param) (fun c s => monTake c (satSigned 32 v) s) s
  else s

/-- At a window's last tick boundary the current sets become the previous ones (R539). -/
def monRoll (t : Nat) (s : State) : State :=
  forEach [0, 1, 2] (fun w s =>
    if t % monTicks w = 0 then
      forEach (List.range 48) (fun c s =>
        putMon (monKey c w 0) (monEmpty t false) (putMon (monKey c w 1) (monSet s.mons (monKey c w 0)) s)) s
    else s) s

/-- The windows in progress hold ticks without samples for these channels (R541). -/
def monPartial (cs : List Nat) (s : State) : State :=
  forEach cs (fun c s => forEach [0, 1, 2] (fun w s =>
    putMon (monKey c w 0) { monSet s.mons (monKey c w 0) with isPartial := true } s) s) s

/-- After ticks that were not run, tick `t` comes next: the sets whose windows hold such ticks are partial, and windows that have ended have
rolled (R337, R539, R541). -/
def monWake (t : Nat) (s : State) : State :=
  forEach [0, 1, 2] (fun w s =>
    forEach (List.range 48) (fun c s =>
      let x := monSet s.mons (monKey c w 0)
      let n := t / monTicks w
      let b := x.start / monTicks w
      if b = n then putMon (monKey c w 0) { x with isPartial := true } s
      else
        let p := if b + 1 = n then { x with isPartial := true } else monEmpty ((n - 1) * monTicks w) true
        putMon (monKey c w 0) (monEmpty (n * monTicks w) true) (putMon (monKey c w 1) p s)) s) s

/-- A channel whose configuration committed begins its current sets again (R541). -/
def monRestart (c : Nat) (s : State) : State :=
  forEach [0, 1, 2] (fun w s => putMon (monKey c w 0) (monEmpty s.clock.tick true) s) s

end Sys2Proof.Machine
end

