-- ==== Sys2Proof/Machine/Rings.lean ====
section
/-! DEFINITION. The receive side of the host rings: room, reservation, writing entries and returning descriptors (R457 to R464). -/

namespace Sys2Proof.Machine

/-- The states of a ring (Table 15.8). -/
def ringStopped : Nat := 0
def ringRunning : Nat := 1
def ringStopping : Nat := 2

/-- Descriptors that belong to the terminal (R458). -/
def ringPosted (s : State) (n : Nat) : Nat := (rd s 0xB1 (HST1.TAIL n) + 65536 - rd s 0xB1 (HST1.HEAD n)) % 65536

/-- Ring length. -/
def ringLen (s : State) (n : Nat) : Nat := 2 ^ rd s 0xB1 (HST1.RING_CFG_LOG2_LEN n)

/-- Address of descriptor i of ring n in host memory (R457, R458). -/
def descAddr (s : State) (n i : Nat) : Nat := rd64 s 0xB1 (HST1.BASE_LO n) (HST1.BASE_HI n) / 4096 * 4096 + 32 * (i % ringLen s n)

/-- Address of ring n's head write-back (R460). -/
def wbAddr (s : State) (n : Nat) : Nat := rd64 s 0xB1 (HST1.WB_LO n) (HST1.WB_HI n)

/-- A receive ring that takes new frames and entries (R461). -/
def ringTakes (s : State) (n : Nat) : Bool :=
  decide (rd s 0xB1 (HST1.RING_CTRL_STATE n) = ringRunning) && !rdb s 0xB1 (HST1.RING_CFG_KIND n) && rdb s 0xB0 HST0.HST_CTRL_EN

/-- Descriptors free for a new frame or entry: posted, less those reserved (R462). -/
def ringRoom (s : State) (n : Nat) : Nat := ringPosted s n - rd s (held 0xB1) (HHST.RSVD n)

/-- `BUF_SIZE` in bytes (R460). -/
def ringBuf (s : State) (n : Nat) : Nat :=
  match rd s 0xB1 (HST1.RING_CFG_BUF_SIZE n) with
  | 0 => 256
  | 1 => 2048
  | 2 => 4096
  | _ => 16384

/-- Descriptors that an entry of so many bytes needs, prefix included (R462). -/
def ringNeeds (s : State) (n bytes : Nat) : Nat := (bytes + ringBuf s n - 1) / ringBuf s n

/-- A frame or entry finds no room on a ring (R462, R464). -/
def noRoom (n : Nat) (s : State) : State := raiseFirst 0xB2 HST2.evNO_ROOM [n] (inc 0xB2 (HST2.NO_ROOM n) s)

/-- What a receive entry carries beside its bytes. -/
structure RxHead where
  typ : Nat
  port : Nat
  info : Nat
  tsNs : Nat
  tsSec : Nat
  tsValid : Bool
  resumed : Bool

/-- Write an entry into the next descriptors and return them; `abs` is the block of the returning commit (Table 15.3). -/
def ringWrite (n : Nat) (h : RxHead) (bytes : List Byte) (abs : Nat) (s : State) : State :=
  let size := ringBuf s n
  let k := max 1 (ringNeeds s n bytes.length)
  let s := forEach (List.range k) (fun i s =>
    let part := (bytes.drop (i * size)).take size
    let out : RxOut :=
      ⟨h.typ, h.port, part.length, decide (i + 1 < k), 0, h.info, h.tsNs, h.tsSec, h.tsValid, h.resumed, abs, part⟩
    { s with rxSlots := Map.put none s.rxSlots (descAddr s n (rd s 0xB1 (HST1.HEAD n) + i)) (some out) }) s
  let s := wr 0xB1 (HST1.HEAD n) (rd s 0xB1 (HST1.HEAD n) + k) s
  wr (held 0xB1) (HHST.RETURNED n) 1 (addc 0xB2 (HST2.DONE n) k s)

/-- Send an entry that is no frame to ring `n`, at the commit of the block that produces it; answers whether it found room (R464). -/
def sendEntry (n typ port : Nat) (bytes : List Byte) (s : State) : State × Bool :=
  if ringTakes s n ∧ ringNeeds s n bytes.length ≤ ringRoom s n then
    (ringWrite n ⟨typ, port, 0, 0, 0, false, false⟩ bytes (now s) s, true)
  else (noRoom n s, false)

/-- `HEAD` passes the returned descriptors at its front, at most `k` of them. -/
def txAdvance (n : Nat) : Nat → State → State
  | 0, s => s
  | k + 1, s =>
    let f := rd s (held 0xB1) (HHST.FETCHED n)
    if f ≠ 0 ∧ Map.get 0 s.txSlots (descAddr s n (rd s 0xB1 (HST1.HEAD n))) ≠ 0 then
      txAdvance n k (wr 0xB1 (HST1.HEAD n) (rd s 0xB1 (HST1.HEAD n) + 1) (wr (held 0xB1) (HHST.FETCHED n) (f - 1) s))
    else s

/-- A STOPPING transmit ring with nothing fetched left becomes STOPPED (R461). -/
def txStopCheck (n : Nat) (s : State) : State :=
  if rd s 0xB1 (HST1.RING_CTRL_STATE n) = ringStopping ∧ rdb s 0xB1 (HST1.RING_CFG_KIND n) ∧ rd s (held 0xB1) (HHST.FETCHED n) = 0 then
    raise 0xB1 HST1.evRING_STOPPED [n] (wr 0xB1 (HST1.RING_CTRL_STATE n) ringStopped s)
  else s

/-- Return the descriptor of transmit ring `n` at count `pos` with its STATUS (R465). -/
def txReturn (n pos status : Nat) (s : State) : State :=
  if rd s 0xB1 (HST1.RING_CTRL_STATE n) = ringStopped then s
  else
    let s := { s with txSlots := Map.put 0 s.txSlots (descAddr s n pos) (16 + status) }
    let s := wr (held 0xB1) (HHST.RETURNED n) 1 (inc 0xB2 (HST2.DONE n) s)
    txStopCheck n (txAdvance n 32768 s)

/-- Step 5 of a commit: each ring that returned descriptors writes its head and sends its vector (R284, R456, R460). -/
def ringWriteBacks (s : State) : State :=
  forEach (List.range 64) (fun n s =>
    if rdb s (held 0xB1) (HHST.RETURNED n) then
      let s := wr (held 0xB1) (HHST.RETURNED n) 0 s
      let s := { s with writeBacks := Map.put 0 s.writeBacks (wbAddr s n) (rd s 0xB1 (HST1.HEAD n) + 1) }
      sendVec (rd s 0xB1 (HST1.RING_CFG_VECTOR n)) (rd s 0xB1 (HST1.RING_CFG_ITR n)) s
    else s) s

/-- Drop everything a ring holds and make it STOPPED without a write-back (R466). -/
def ringDrop (n : Nat) (s : State) : State :=
  let s := wr 0xB1 (HST1.RING_CTRL_STATE n) ringStopped s
  let s := wr (held 0xB1) (HHST.RSVD n) 0 (wr (held 0xB1) (HHST.STOP_AT n) 0 s)
  wr (held 0xB1) (HHST.RETURNED n) 0 (wr (held 0xB1) (HHST.FETCHED n) 0 s)

end Sys2Proof.Machine
end

