-- ==== Sys2Proof/Machine/Square.lean ====
section
/-! DEFINITION. Market Square: pools, carves, requests, references, staging and its table commands (chapter 7). -/

namespace Sys2Proof.Machine

/-- The operating modes (Table 17.1). -/
def modeDormant : Nat := 0
def modeBoot : Nat := 1
def modeSelftest : Nat := 2
def modeCommission : Nat := 3
def modeService : Nat := 4
def modeGuarded : Nat := 5
def modeLean : Nat := 6
def modeRecovery : Nat := 7

/-- The operating mode. -/
def mode (s : State) : Nat := rd s 0x20 PWR0.PWR_STATUS_MODE

/-- Client classes (Table 7.5). -/
def clIngress : Nat := 0
def clCarriageway : Nat := 1
def clKerb : Nat := 2
def clFibre : Nat := 3
def clHost : Nat := 4
def clArcWrite : Nat := 5
def clArcServe : Nat := 6
def clMews : Nat := 7
def clTram : Nat := 8
def clTown : Nat := 9
def clCul : Nat := 10
def clRecirc : Nat := 11
def clHostSw : Nat := 12

/-- Carves (Table 7.4). -/
def carveShared : Nat := 0
def carveExpress : Nat := 1
def carveControl : Nat := 2

/-- The empty result (R194). -/
def emptyHandle : Nat := 0xFFFFFFFF

def handlePool (h : Nat) : Nat := h / 2 ^ 29
def handleIndex (h : Nat) : Nat := h % 2 ^ 29
def mkHandle (p i : Nat) : Nat := p * 2 ^ 29 + i

/-- Buffer sizes of the pools (Table 7.1). -/
def poolSize (p : Nat) : Nat := [256, 1024, 2304, 9728, 65536].getD p 0

/-- Buffers in one MiB of pool p (R193). -/
def poolPerMib (p : Nat) : Nat := [4096, 1024, 455].getD p 0

/-- On-die and spill buffers of a pool; P3 has 1 048 576, all in LPDDR6, and P4 157 696 staging slots (R193, Table 7.1). -/
def poolOndie (s : State) (p : Nat) : Nat := if p < 3 then 4 * rd s 0xE0 (SQR0.POOL_ONDIE_MIB p) * poolPerMib p else 0
def poolSpill (s : State) (p : Nat) : Nat :=
  if p < 3 then 8 * rd s 0xE0 (SQR0.POOL_SPILL_MIB p) * poolPerMib p else if p = 3 then 1048576 else 0
def stageSlots : Nat := 157696

/-- Segments of Arcade's store, which P4 handles name (R195, R410). -/
def storeSegs : Nat := 33554432

def p4Handle (segment : Nat) : Nat := mkHandle 4 segment

def slotOf (s : State) (segment : Nat) : Option StageSlot := s.slots.find? (fun x => x.segment = segment)

/-- A handle that a detached slot has: no 32-bit handle, so no requester can name it (R430; log entry 43). -/
def isDetached (h : Nat) : Bool := decide (2 ^ 32 ≤ h)
def detachedHandle (id : Nat) : Nat := 2 ^ 32 + id

/-- The index of the staging slot that a P4 handle or a detached handle stands for. -/
def slotIndex (s : State) (h : Nat) : Option Nat :=
  if isDetached h then (s.detached.find? (fun d => d.handle = h)).map (·.index)
  else if handlePool h = 4 then (slotOf s (handleIndex h)).map (·.index)
  else none

/-- The LPDDR6 channel of a spill or P3 buffer, or of a staging slot (R65, R193); none for an on-die buffer or an unstaged segment. -/
def handleChannel (s : State) (h : Nat) : Option Nat :=
  if isDetached h ∨ handlePool h = 4 then (slotIndex s h).map (· % 8)
  else
    let o := poolOndie s (handlePool h)
    if handleIndex h < o then none else some ((handleIndex h - o) % 8)

/-- Whether a channel's buffers are parked. -/
def chanParked (s : State) (c : Nat) : Bool := bit (rd s 0xE0 SQR0.SQR_STATUS_CHAN_PARKED) c

/-- A buffer or slot is withheld by a double-bit error of its words (R211). -/
def dbeHeld (s : State) (h : Nat) : Bool := decide (h ∈ s.dbeParked) || (slotIndex s h).any (fun i => decide (i ∈ s.dbeSlots))

/-- A buffer or slot is withheld from the free lists: its channel is parked, or a double-bit error withholds it (R210, R211). -/
def withheld (s : State) (h : Nat) : Bool := (handleChannel s h).any (chanParked s) || dbeHeld s h

/-- The metadata word of a buffer that was never allocated (Table 7.4). -/
def blankMeta : Meta := ⟨0, 0, 0, 0, false, false⟩

/-- A buffer's metadata word. PARKED reads 1 while the buffer is withheld; a word keeps it after its channel has returned for as long as the
buffer stays allocated (R210). -/
def getBuf (s : State) (h : Nat) : Meta :=
  let m := (Map.get none s.buffers h).getD blankMeta
  { m with parked := m.parked || withheld s h }

/-- Write a metadata word; one that equals the word of a buffer never allocated is not listed. -/
def putBuf (h : Nat) (m : Meta) (s : State) : State :=
  { s with buffers := Map.put none s.buffers h (if m = blankMeta then none else some m) }

/-- A handle that names no buffer of the pools as configured. -/
def noBuffer (s : State) (h : Nat) : Bool :=
  decide (4 < handlePool h) ||
    (if handlePool h = 4 then decide (storeSegs ≤ handleIndex h)
     else decide (poolOndie s (handlePool h) + poolSpill s (handlePool h) ≤ handleIndex h))

/-- An invalid handle: its pool code is above 4, or its index is not below the pool's TOTAL; a buffer that is allocated stays valid when
parking has lowered TOTAL, since its references are released in the normal way (R194, R210; log entry 43). -/
def badHandle (s : State) (h : Nat) : Bool :=
  noBuffer s h || (decide (handlePool h < 4) && decide (rd s 0xE0 (SQR0.TOTAL (handlePool h)) ≤ handleIndex h) && !(getBuf s h).allocated)

/-- The metadata word (Table 7.4). -/
def metaWord (m : Meta) : Nat :=
  m.count + m.holders * 2 ^ 8 + m.owner * 2 ^ 24 + m.carve * 2 ^ 28 + b2n m.allocated * 2 ^ 30 + b2n m.parked * 2 ^ 31

/-- The pools answer: enabled and READY (R213). -/
def poolsOn (s : State) : Bool := rdb s 0xE0 COM.PAGE_CTRL_ENABLE && rdb s 0xE0 SQR0.SQR_STATUS_READY

/-! ## Carves (R197 to R199) -/

def carveUsed (c p : Nat) : Field :=
  if c = carveExpress then SQR0.INUSE_EXPRESS p else if c = carveControl then SQR0.INUSE_CTRL p else SQR0.INUSE_SHARED p

def carveResv (s : State) (c p : Nat) : Nat :=
  if c = carveExpress then rd s 0xE0 (SQR0.EXPRESS_RESV p) else if c = carveControl then rd s 0xE0 (SQR0.CTRL_RESV p) else 0

/-- The Shared carve's limit; P4's reservations are ignored (R197, Table 7.8). -/
def sharedLimit (s : State) (p : Nat) : Nat :=
  if p = 4 then rd s 0xE0 (SQR0.TOTAL 4)
  else rd s 0xE0 (SQR0.TOTAL p) - rd s 0xE0 (SQR0.EXPRESS_RESV p) - rd s 0xE0 (SQR0.CTRL_RESV p)

/-- Free Shared count of a pool (R215). -/
def freeShared (s : State) (p : Nat) : Nat := sharedLimit s p - rd s 0xE0 (SQR0.INUSE_SHARED p)

/-- Reservations of a pool not yet used. -/
def resvUnused (s : State) (p : Nat) : Nat :=
  (carveResv s carveExpress p - rd s 0xE0 (SQR0.INUSE_EXPRESS p)) + (carveResv s carveControl p - rd s 0xE0 (SQR0.INUSE_CTRL p))

/-- HEADROOM as applied: at most 64 (Table 7.8). -/
def headroom (s : State) : Nat := min 64 (rd s 0xE0 SQR0.SQR_CTRL_HEADROOM)

/-- The smallest of P0 to P3 that s bytes fit (R196). -/
def poolFit (s : State) (size : Nat) : Option Nat := (List.range 4).find? (fun p => size + headroom s ≤ poolSize p)

/-- The pool and the carve charged, by the borrow rules (R199). -/
def chooseFrom (s : State) (carve : Nat) : Nat → Nat → Option (Nat × Nat)
  | _, 0 => none
  | p, n + 1 =>
    if carve ≠ carveShared ∧ rd s 0xE0 (carveUsed carve p) < carveResv s carve p then some (p, carve)
    else if rd s 0xE0 (SQR0.INUSE_SHARED p) < sharedLimit s p then some (p, carveShared)
    else if p = 3 ∨ rdb s 0xE0 (SQR0.POOL_NO_BORROW p) then none
    else chooseFrom s carve (p + 1) n

/-- A free on-die buffer of pool p: never handed out first, then the head of the free list. `n` bounds the buffers passed over. -/
def takeOndie (p : Nat) : Nat → State → Option (Nat × State)
  | 0, _ => none
  | k + 1, s =>
    let n := rd s (held 0xE0) (HSQR.NEXT_ONDIE p)
    if n < poolOndie s p then
      let t := wr (held 0xE0) (HSQR.NEXT_ONDIE p) (n + 1) s
      if mkHandle p n ∈ s.dbeParked then takeOndie p k t else some (mkHandle p n, t)
    else
      match s.freed.find? (fun h => handlePool h = p ∧ handleIndex h < poolOndie s p) with
      | some h => some (h, { s with freed := s.freed.erase h })
      | none => none

/-- A free spill or P3 buffer: buffers of parked channels are passed over and set aside. -/
def takeSpill (p : Nat) : Nat → State → Option (Nat × State)
  | 0, _ => none
  | k + 1, s =>
    let n := rd s (held 0xE0) (HSQR.NEXT_SPILL p)
    let h := mkHandle p (poolOndie s p + n)
    if n < poolSpill s p then
      let t := wr (held 0xE0) (HSQR.NEXT_SPILL p) (n + 1) s
      if h ∈ s.dbeParked then takeSpill p k t
      else if chanParked s (n % 8) then takeSpill p k { t with parkedFree := t.parkedFree ++ [h] }
      else some (h, t)
    else
      match s.freed.find? (fun h => handlePool h = p ∧ poolOndie s p ≤ handleIndex h) with
      | some h => some (h, { s with freed := s.freed.erase h })
      | none => none

/-- Free on-die buffers of pool p: neither in use nor withheld. -/
def ondieFree (s : State) (p : Nat) : Nat :=
  poolOndie s p - rd s (held 0xE0) (HSQR.ONDIE_USED p)
    - (s.dbeParked.filter (fun h => handlePool h = p ∧ handleIndex h < poolOndie s p ∧ !(getBuf s h).allocated)).length

/-- Take a buffer of pool p charged to a carve: Express and Control take on-die buffers of P0 to P2 and no others; Shared takes one only
while the on-die free count exceeds the reservations not yet used, and a spill buffer otherwise (R198; log entry 97). -/
def takeFrom (p carve : Nat) (s : State) : Option (Nat × State) :=
  let n := 16 + s.dbeParked.length
  if p < 3 ∧ (carve ≠ carveShared ∨ resvUnused s p < ondieFree s p) then
    (takeOndie p n s).map (fun (h, t) => (h, wr (held 0xE0) (HSQR.ONDIE_USED p) (rd t (held 0xE0) (HSQR.ONDIE_USED p) + 1) t))
  else takeSpill p n s

/-- The empty result for requester r (R203). -/
def emptyResult (r : Nat) (s : State) : State := inc 0xE1 (SQR1.EMPTY r) s

/-- ALLOC for a requester, size, carve and class, from the first pool that fits upward; answers the handle or the empty result
(R196, R199, R203, R205). -/
def allocate (r size carve cls : Nat) (s : State) : Nat × State :=
  if !poolsOn s then (emptyHandle, emptyResult r s)
  else
    match poolFit s size with
    | none => (emptyHandle, emptyResult r (inc 0xE1 SQR1.OVERSIZE s))
    | some p0 =>
      match chooseFrom s carve p0 4 with
      | none => (emptyHandle, raiseFirst 0xE0 SQR0.evPOOL_EMPTY [p0, carve] (emptyResult r s))
      | some (p, c) =>
        match takeFrom p c s with
        | none => (emptyHandle, raiseFirst 0xE0 SQR0.evPOOL_EMPTY [p0, carve] (emptyResult r s))
        | some (h, t) =>
          let t := putBuf h ⟨1, 2 ^ cls, r, c, true, false⟩ t
          let t := wr 0xE0 (carveUsed c p) (rd t 0xE0 (carveUsed c p) + 1) t
          let t := if p = p0 then t else inc 0xE1 (SQR1.BORROWED r) t
          (h, inc 0xE1 (SQR1.GRANTS r) t)

/-! ## References (R205 to R207) -/

/-- Operations of Table 7.6 in order. -/
def opInc : Nat := 1
def opHandover : Nat := 2
def opDec : Nat := 3

/-- The reason for refusing an operation, 0 for none, the first that holds in the order of R206. DEDUCED (log entry 43): a staged P4 segment
without references takes its first reference by INC. -/
def refReason (s : State) (op cls h : Nat) : Nat :=
  let m := getBuf s h
  if !poolsOn s then 6
  else if badHandle s h then 4
  else if !m.allocated ∧ ¬ (handlePool h = 4 ∧ op = opInc) then (if op = opDec then 1 else 7)
  else if m.parked ∧ op = opInc then 5
  else if op = opDec ∧ !bit m.holders cls then 2
  else if op = opInc ∧ m.count = 255 then 3
  else 0

/-- The refusal log takes a record; the oldest of 16 is overwritten (R217). -/
def logRefusal (r cls op reason h k : Nat) (s : State) : State :=
  let n := rd s 0xE2 SQR2.LOG_STATUS_COUNT
  let i := if n = 0 then 0 else (rd s 0xE2 SQR2.LOG_STATUS_NEWEST + 1) % 16
  let s := wr 0xE2 (SQR2.LOG_TICK i) s.clock.tick s
  let s := wr 0xE2 (SQR2.LOG_INFO i)
    (s.clock.block + r * 2 ^ 8 + cls * 2 ^ 12 + op * 2 ^ 16 + reason * 2 ^ 20) s
  let s := wr 0xE2 (SQR2.LOG_META i) (metaWord (getBuf s h)) (wr 0xE2 (SQR2.LOG_HANDLE i) h s)
  let s := wr 0xE2 SQR2.LOG_STATUS_NEWEST i s
  if n = 16 then
    let s := wr 0xE2 SQR2.LOG_STATUS_LOG_OVERRUN 1 s
    if r = 0xC then raiseItem k 0xE2 SQR2.evLOG_OVERRUN [] s else raise 0xE2 SQR2.evLOG_OVERRUN [] s
  else wr 0xE2 SQR2.LOG_STATUS_COUNT (n + 1) s

/-- The counter of a refusal's reason (Table 7.9). -/
def countReason (reason : Nat) (s : State) : State :=
  if reason = 1 then inc 0xE1 SQR1.DOUBLE_FREE s
  else if reason = 2 then inc 0xE1 SQR1.HOLDER_REFUSED s
  else if reason = 3 then inc 0xE1 SQR1.REF_SATURATED s
  else if reason = 4 then inc 0xE1 SQR1.BAD_HANDLE s
  else if reason = 7 then inc 0xE1 SQR1.NOT_ALLOCATED s
  else s

/-- Refuse an operation: requester 0xC is the commit port, whose event belongs to the committed block `k` (R206, R207). -/
def refuseRef (r cls op reason h k : Nat) (s : State) : State :=
  let s := countReason reason (logRefusal r cls op reason h k s)
  let s := if r = 0xC then inc 0xE1 SQR1.COMMIT_REFUSALS s else inc 0xE1 (SQR1.REFUSALS r) s
  if reason = 1 then
    if r = 0xC then raiseItem k 0xE1 SQR1.evDOUBLE_FREE [h, r] s else raise 0xE1 SQR1.evDOUBLE_FREE [h, r] s
  else
    if r = 0xC then raiseFirstItem k 0xE1 SQR1.evREF_REFUSED [reason, h] s else raiseFirst 0xE1 SQR1.evREF_REFUSED [reason, h] s

/-- Buffers of pool p in channel c. -/
def poolInChannel (s : State) (p c : Nat) : Nat := (poolSpill s p + 7 - c) / 8

/-- The channels whose buffers are parked. -/
def parkedChans (s : State) : List Nat := (List.range 8).filter (chanParked s)

/-- A handle lies in a channel whose buffers are parked. -/
def inParkedChan (s : State) (h : Nat) : Bool := (handleChannel s h).any (chanParked s)

/-- Allocated buffers of pool p that stay parked after their channel has returned (R210). -/
def stillParked (s : State) (p : Nat) : Nat :=
  (s.buffers.filter (fun e => (if isDetached e.1 then 4 else handlePool e.1) = p ∧ (e.2.getD blankMeta).parked ∧ !withheld s e.1)).length

/-- TOTAL_p: buffers not parked; for P4, staging slots (Table 7.8, R210, R211). -/
def poolTotal (s : State) (p : Nat) : Nat :=
  if p = 4 then
    stageSlots - (parkedChans s).length * (stageSlots / 8) - (s.dbeSlots.filter (fun i => !chanParked s (i % 8))).length - stillParked s 4
  else
    poolOndie s p + poolSpill s p - ((parkedChans s).map (poolInChannel s p)).sum
      - (s.dbeParked.filter (fun h => handlePool h = p ∧ !inParkedChan s h)).length - stillParked s p

def setTotals (s : State) : State := forEach (List.range 5) (fun p t => wr 0xE0 (SQR0.TOTAL p) (poolTotal t p) t) s

/-- A segment without references leaves its staging slot, whose index is free again. -/
def dropSlot (seg : Nat) (s : State) : State :=
  match slotOf s seg with
  | none => s
  | some x =>
    { s with slots := s.slots.filter (fun y => y.segment ≠ seg), slotFree := s.slotFree ++ [x.index],
             buffers := Map.put none s.buffers (p4Handle seg) none, chunkData := s.chunkData.filter (fun c => c.1 / 64 ≠ seg) }

/-- The last reference is gone: the carve is credited and the buffer joins the tail of its free list, unless it is withheld. A staging
slot keeps its segment, unless it is withheld (R205, R210 to R212). -/
def freeBuf (h : Nat) (s : State) : State :=
  let m := getBuf s h
  let p := handlePool h
  let s := putBuf h { m with count := 0, holders := 0, allocated := false, parked := false } { s with bufBytes := Map.put none s.bufBytes h none }
  let s := wr 0xE0 (carveUsed m.carve p) (rd s 0xE0 (carveUsed m.carve p) - 1) s
  let s := if p < 3 ∧ handleIndex h < poolOndie s p
    then wr (held 0xE0) (HSQR.ONDIE_USED p) (rd s (held 0xE0) (HSQR.ONDIE_USED p) - 1) s else s
  let s := if p = 4 then (if withheld s h then dropSlot (handleIndex h) s else s)
    else if dbeHeld s h then s
    else if inParkedChan s h then { s with parkedFree := s.parkedFree ++ [h] }
    else { s with freed := s.freed ++ [h] }
  if m.parked then setTotals s else s

/-- Apply an operation that is not refused (Table 7.6). -/
def applyRef (op cls h : Nat) (s : State) : State :=
  let m := getBuf s h
  if op = opInc then
    if m.allocated then putBuf h { m with count := m.count + 1, holders := m.holders ||| 2 ^ cls } s
    else wr 0xE0 (SQR0.INUSE_SHARED 4) (rd s 0xE0 (SQR0.INUSE_SHARED 4) + 1)
      (putBuf h { m with count := 1, holders := 2 ^ cls, carve := carveShared, allocated := true } s)
  else if op = opHandover then putBuf h { m with holders := m.holders ||| 2 ^ cls } s
  else if m.count ≤ 1 then freeBuf h s
  else putBuf h { m with count := m.count - 1 } s

/-- Present an operation: applied, or refused; answers whether it was applied. -/
def refOp (op r cls h k : Nat) (s : State) : State × Bool :=
  let reason := refReason s op cls h
  if reason = 0 then (applyRef op cls h s, true) else (refuseRef r cls op reason h k s, false)

/-- The next block to commit names buffer h, and its commit is due: a commit operation on h may still be pending (R207). -/
def commitPending (s : State) (h : Nat) : Bool :=
  decide (s.nextCommit + 2 ≤ now s) && s.work.any (fun b => decide (b.abs = s.nextCommit)
    && b.results.any (fun r => decide (r.handle = h) || decide (r.item.handle = h) || decide (r.item.aux.getD 6 0 = h)))

/-- An operation whose answer nobody waits for. One of another requester than the commit port waits for a pending commit operation on the
same buffer (R207). -/
def refDo (op r cls h k : Nat) (s : State) : State :=
  if r ≠ 0xC ∧ commitPending s h then { s with refWaits := s.refWaits ++ [⟨r, cls, op, h, false⟩] } else (refOp op r cls h k s).1

/-- The client class that allocated a frame's buffer: a Carriageway, Tramlines, or reception (R207, R209). -/
def bufClass (s : State) (h : Nat) (cwy : Bool) : Nat :=
  let m := getBuf s h
  if cwy then clCarriageway else if bit m.holders clTram ∧ !bit m.holders clIngress then clTram else clIngress

/-- The requester that presents a client class's operations at egress. -/
def portRequester (port : Nat) : Nat :=
  if port < 4 then 5 else if port < 8 then 6 else if port = 8 then 3 else if port = 9 then 4 else if port = 10 then 8 else 7

/-- The egress class of a port node (Table 7.5): Kerb ports 0 to 7, fibre 8 and 9, host 10, Arcade 11. -/
def egressClass (port : Nat) : Nat := if port < 8 then clKerb else if port < 10 then clFibre else if port = 10 then clHost else clArcWrite

/-- Free a buffer that a discarded ledger allocated (R209). -/
def discardFree (h : Nat) (s : State) : State :=
  if (getBuf s h).allocated then inc 0xE1 SQR1.DISCARD_FREES (freeBuf h s) else s

/-! ## Building and closing the pools (R213) -/

/-- A pool configuration that may be enabled: at most 16 on-die MiB and 256 spill MiB, and reservations within the on-die buffers
(R198, R213). -/
def poolsConfigOk (s : State) : Bool :=
  decide (((List.range 3).map (fun p => rd s 0xE0 (SQR0.POOL_ONDIE_MIB p))).sum ≤ 16)
    && decide (((List.range 3).map (fun p => rd s 0xE0 (SQR0.POOL_SPILL_MIB p))).sum ≤ 256)
    && (List.range 3).all (fun p => carveResv s carveExpress p + carveResv s carveControl p ≤ poolOndie s p)

/-- Build every free list, empty of references. -/
def buildPools (s : State) : State :=
  let s := { s with buffers := [], freed := [], parkedFree := [], dbeParked := [], slots := [], slotFree := [],
                    dbeSlots := [], p4Waits := [], refWaits := [], won := [] }
  let s := forEach (List.range 5) (fun p s =>
    let s := wr 0xE0 (SQR0.INUSE_EXPRESS p) 0 (wr 0xE0 (SQR0.INUSE_CTRL p) 0 (wr 0xE0 (SQR0.INUSE_SHARED p) 0 s))
    let s := wr (held 0xE0) (HSQR.NEXT_ONDIE p) 0 (wr (held 0xE0) (HSQR.NEXT_SPILL p) 0 s)
    wr (held 0xE0) (HSQR.ONDIE_USED p) 0 (wr (held 0xE0) (HSQR.LOW p) 0 s)) (wr (held 0xE0) HSQR.NEXT_SLOT 0 s)
  setTotals (wr (held 0xE0) HSQR.BUILDING 1 (wr 0xE0 SQR0.SQR_STATUS_READY 0 s))

/-- POOL_LOW when the free Shared count first falls below LOW_WATER, and again once it has risen back above (R215). -/
def poolLowCheck (s : State) : State :=
  forEach (List.range 5) (fun p s =>
    let lw := rd s 0xE0 (SQR0.LOW_WATER p)
    let free := freeShared s p
    if lw ≠ 0 ∧ free < lw then
      if rdb s (held 0xE0) (HSQR.LOW p) then s
      else raise 0xE0 SQR0.evPOOL_LOW [p, free] (wr (held 0xE0) (HSQR.LOW p) 1 s)
    else if lw = 0 ∨ lw < free then wr (held 0xE0) (HSQR.LOW p) 0 s else s) s

/-- LOG_CLEAR takes effect (R217). -/
def logClearBoundary (s : State) : State :=
  if rdb s (held 0xE0) HSQR.LOG_CLEAR_REQ then
    wr 0xE2 SQR2.LOG_CLEAR 0 (wr 0xE2 SQR2.LOG_STATUS_COUNT 0 (wr (held 0xE0) HSQR.LOG_CLEAR_REQ 0 s))
  else s

/-! ## Parked channels and buffers (R210, R211) -/

/-- Answer an operation that finds no staging slot: the empty result; a table command ends with RESULT 2 (R203, R212, R217). -/
def refEmpty (w : RefOp) (s : State) : State :=
  let s := emptyResult w.requester s
  if w.table then tblResult 0xE2 2 s else s

/-- The operations that wait for a segment receive the empty result. -/
def failWaits (seg : Nat) (s : State) : State :=
  forEach (s.p4Waits.filter (fun w => handleIndex w.handle = seg)) refEmpty
    { s with p4Waits := s.p4Waits.filter (fun w => handleIndex w.handle ≠ seg) }

/-- Take a segment without references out of a slot that is withheld. -/
def loseSlot (seg : Nat) (s : State) : State := failWaits seg (dropSlot seg s)

/-- Staged segments without references in slots that satisfy `p`. -/
def idleSegs (s : State) (p : StageSlot → Bool) : List Nat :=
  (s.slots.filter (fun x => p x && !(getBuf s (p4Handle x.segment)).allocated)).map (·.segment)

/-- Park channel c: free buffers leave the lists, allocated ones read poisoned until they are freed, TOTAL falls; a slot without references
loses its segment (R210). -/
def parkChannel (c : Nat) (s : State) : State :=
  let inChan := fun h => decide (handleChannel s h = some c)
  let out := s.freed.filter inChan
  let s := { s with freed := s.freed.filter (fun h => !inChan h), parkedFree := s.parkedFree ++ out,
                    buffers := s.buffers.map (fun e =>
                      if inChan e.1 ∧ (e.2.getD blankMeta).allocated then (e.1, e.2.map (fun m => { m with parked := true })) else e) }
  let s := wr 0xE0 SQR0.SQR_STATUS_CHAN_PARKED (setBit (rd s 0xE0 SQR0.SQR_STATUS_CHAN_PARKED) c true) s
  let s := forEach (idleSegs s (fun x => decide (x.index % 8 = c))) loseSlot s
  raise 0xE0 SQR0.evCHANNEL_PARKED [c, 1] (setTotals s)

/-- Unpark channel c: its buffers with COUNT 0 return to the free lists, those withheld by a double-bit error apart; allocated ones keep
PARKED until they are freed (R210, R211). -/
def unparkChannel (c : Nat) (s : State) : State :=
  let inChan := fun h => decide (handleChannel s h = some c)
  let back := s.parkedFree.filter (fun h => inChan h && !dbeHeld s h)
  let s := { s with parkedFree := s.parkedFree.filter (fun h => !inChan h), freed := s.freed ++ back }
  let s := wr 0xE0 SQR0.SQR_STATUS_CHAN_PARKED (setBit (rd s 0xE0 SQR0.SQR_STATUS_CHAN_PARKED) c false) s
  raise 0xE0 SQR0.evCHANNEL_PARKED [c, 0] (setTotals s)

/-- A double-bit error at word `addr` of a metadata or free-list array parks the buffer or slot until the pools are next built (R211). -/
def parkDbe (h loc addr : Nat) (s : State) : State :=
  let s := if handlePool h = 4 then
      match slotOf s (handleIndex h) with
      | none => s
      | some x =>
        let s := { s with dbeSlots := s.dbeSlots ++ [x.index] }
        if (getBuf s h).allocated then s else loseSlot x.segment s
    else { s with freed := s.freed.filter (· ≠ h), parkedFree := s.parkedFree.filter (· ≠ h),
                  dbeParked := if h ∈ s.dbeParked then s.dbeParked else s.dbeParked ++ [h] }
  raiseFault 0xE0 SQR0.evDBE_PARKED loc false [h, addr] (setTotals (inc 0xE1 SQR1.PARKED_DBE s))

/-! ## P4 staging slots (R195, R212) -/

/-- Replace or add a segment's slot. -/
def putSlot (x : StageSlot) (s : State) : State :=
  { s with slots := x :: s.slots.filter (fun y => y.segment ≠ x.segment) }

/-- Mark a slot used now. -/
def touchSlot (segment : Nat) (s : State) : State :=
  let n := rd s (held 0xE0) HSQR.USES + 1
  let s := wr (held 0xE0) HSQR.USES n s
  match slotOf s segment with
  | some x => putSlot { x with used := n } s
  | none => s

/-- The least recently used slot that has COUNT 0 and has been written back. -/
def oldestSlot (s : State) : Option StageSlot :=
  (s.slots.filter (fun x => x.writtenBack ∧ x.ready ∧ !(getBuf s (p4Handle x.segment)).allocated)).foldl
    (fun a x => match a with | none => some x | some y => if x.used < y.used then some x else some y) none

/-- A slot index that is not withheld. -/
def slotUsable (s : State) (i : Nat) : Bool := !chanParked s (i % 8) && decide (i ∉ s.dbeSlots)

/-- The index of a free staging slot: never used first, then the slot free the longest; withheld ones are passed over. -/
def freeSlot : Nat → State → Option (Nat × State)
  | 0, _ => none
  | k + 1, s =>
    let n := rd s (held 0xE0) HSQR.NEXT_SLOT
    if n < stageSlots then
      let t := wr (held 0xE0) HSQR.NEXT_SLOT (n + 1) s
      if slotUsable s n then some (n, t) else freeSlot k { t with slotFree := t.slotFree ++ [n] }
    else (s.slotFree.find? (slotUsable s)).map (fun i => (i, { s with slotFree := s.slotFree.erase i }))

/-- Stage a segment for requester r: a free slot, or the least recently used one that may be reused; none when no slot qualifies (R212). -/
def takeSlot (r segment : Nat) (ready writtenBack : Bool) (s : State) : Option State :=
  let fill := fun i t =>
    touchSlot segment (putSlot ⟨segment, i, ready, writtenBack, 0⟩ (putBuf (p4Handle segment) { blankMeta with owner := r } t))
  match freeSlot (16 + s.dbeSlots.length) s with
  | some (i, t) => some (fill i t)
  | none =>
    match oldestSlot s with
    | none => none
    | some x => (freeSlot 1 (dropSlot x.segment s)).map (fun (i, t) => fill i t)

/-! ## Requests from the Roundabout (R200 to R203) -/

/-- A request of Table 7.2: the requester's class and a carve that it may name. -/
def requestOk (r carve cls : Nat) : Bool :=
  if r < 3 then decide (cls = clCarriageway) && decide (carve < 3)
  else if r < 7 then decide (cls = clIngress) && decide (carve < 2)
  else if r = 7 then decide (cls = clArcWrite) && decide (carve = carveShared)
  else if r = 8 then (decide (cls = clIngress) && decide (carve < 2)) || (decide (cls = clHostSw) && decide (carve < 3))
  else if r = 9 then decide (cls = clMews) && decide (carve = carveControl)
  else if r = 10 then decide (cls = clTram) && decide (carve = carveExpress)
  else decide (cls = clTown) && decide (carve = carveControl)

/-- Place of a requester in the ranking of core cycle c. -/
def rankOf (c r : Nat) : Nat := (r + 12 - 4 * (c % 3)) % 12

/-- The waiting requests that take part in the ranking of cycle c, best first. -/
def ranking (s : State) (c : Nat) : List BufReq :=
  (List.range 12).flatMap (fun i => s.requests.filter (fun q => rankOf c q.requester = i ∧ q.cycle < c))

/-- Grants given in cycle c so far. -/
def givenIn (s : State) (c : Nat) : Nat := if rd s (held 0xE0) HSQR.WIN_CYCLE = c then rd s (held 0xE0) HSQR.WIN_COUNT else 0

/-- The earliest cycle, of those still to be ranked, in which a waiting request takes part. -/
def nextRanking (s : State) : Option Nat :=
  let c := rd s (held 0xE0) HSQR.WIN_CYCLE
  let open_ := if givenIn s c < 4 then c else c + 1
  (s.requests.map (·.cycle)).min?.map (fun q => max open_ (q + 1))

/-- A request wins in cycle c: its buffer is taken, or it has the empty result, and waits for its answer. -/
def grant (c : Nat) (q : BufReq) (s : State) : State :=
  let (h, t) := allocate q.requester q.size q.carve q.cls { s with requests := s.requests.filter (fun x => x.requester ≠ q.requester) }
  { t with won := t.won ++ [⟨q, c, h⟩] }

/-- The grants of cycle c: up to four, to the first in the ranking (R201). -/
def grantCycle (c : Nat) (s : State) : State :=
  let l := (ranking s c).take (4 - givenIn s c)
  let n := givenIn s c + l.length
  forEach l (grant c) (wr (held 0xE0) HSQR.WIN_COUNT n (wr (held 0xE0) HSQR.WIN_CYCLE c s))

/-- Rank the waiting requests cycle by cycle while `more` says so; each cycle serves one at least. -/
def serveWhile (more : State → Nat → Bool) : Nat → State → State
  | 0, s => s
  | n + 1, s =>
    match nextRanking s with
    | none => s
    | some c => if more s c then serveWhile more n (grantCycle c s) else s

/-- The rankings up to cycle t. -/
def serveTo (t : Nat) (s : State) : State := serveWhile (fun _ c => decide (c ≤ t)) s.requests.length s

/-- The rankings until requester r has no request waiting. -/
def serveFor (r : Nat) (s : State) : State := serveWhile (fun s _ => s.requests.any (fun q => q.requester = r)) s.requests.length s

/-- Present a request, one waiting at most. -/
def presentRequest (r size carve cls cycle : Nat) (s : State) : State :=
  if s.requests.any (fun q => q.requester = r) then s
  else { s with requests := s.requests ++ [⟨r, size, carve, cls, cycle⟩] }

/-- A request that the machine itself makes in core cycle `cycle`: presented, ranked with those that wait, and answered (log entry 98). -/
def askFor (r size carve cls cycle : Nat) (s : State) : Nat × State :=
  let s := serveFor r (presentRequest r size carve cls cycle (serveFor r s))
  match s.won.reverse.find? (fun w => w.req.requester = r) with
  | none => (emptyHandle, s)
  | some w => (w.handle, { s with won := s.won.erase w })

/-- One made at no stated cycle of the block. -/
def askNow (r size carve cls : Nat) (s : State) : Nat × State := askFor r size carve cls (startOf (now s)) s

/-- Answer the requester's request that won three cycles before `cycle`. Mews and Town Hall present an empty one again 1 block later
(R202, R203). -/
def answerRequest (r cycle : Nat) (s : State) : State :=
  match s.won.find? (fun w => w.req.requester = r ∧ w.cycle + 3 = cycle) with
  | none => s
  | some w =>
    let s := wr (held 0xE0) (HSQR.ANSWER r) w.handle { s with won := s.won.erase w }
    if w.handle = emptyHandle ∧ (r = 9 ∨ r = 11) then presentRequest r w.req.size w.req.carve w.req.cls (cycle + blockCycles) s else s

/-- What the Roundabout has left of the block that ends is ranked. -/
def roundaboutBoundary (s : State) : State := serveTo (startOf (now s)) s

/-! ## The commands -/

/-- A request of Table 7.2 is presented in core cycle `cyc` of the block in progress (R200, R202). -/
def execBufferRequest (requester size carve cls cyc : Nat) (s : State) : Host.Outcome State Fault Refusal :=
  settle s (onlyIf (requester < 12 ∧ requestOk requester carve cls ∧ cyc < blockCycles) (fun s =>
    let t := startOf (now s) + cyc
    presentRequest requester size carve cls t (serveTo t s)) s)

/-- A request that won its ranking is answered in core cycle `cyc` of the block in progress (R202, R203). -/
def execBufferAnswer (requester cyc : Nat) (s : State) : Host.Outcome State Fault Refusal :=
  settle s (onlyIf (requester < 12 ∧ cyc < blockCycles) (fun s =>
    let t := startOf (now s) + cyc
    answerRequest requester t (serveTo t s)) s)

/-- The pools are built; READY at a block boundary (R213). -/
def execPoolsReady (s : State) : Host.Outcome State Fault Refusal :=
  settle s (onlyIf (rdb s (held 0xE0) HSQR.BUILDING && rdb s 0xE0 COM.PAGE_CTRL_ENABLE)
    (fun s => wr 0xE0 SQR0.SQR_STATUS_READY 1 (wr (held 0xE0) HSQR.BUILDING 0 s)) s)

/-- Clearing ENABLE: judged at the next block boundary (R213). -/
def sqrDisable (s : State) : State := onlyIf (rdb s 0xE0 COM.PAGE_CTRL_ENABLE) (wr (held 0xE0) HSQR.CLEAR_REQ 1) s

/-- SQR_DISABLE. -/
def execSqrDisable (s : State) : Host.Outcome State Fault Refusal := settle s (hostCmd 0xE0 0x008 sqrDisable s)

/-- Setting ENABLE: the pools are built, or an oversized configuration is refused and ENABLE stays clear (R213). -/
def sqrEnable (s : State) : State :=
  if rdb s 0xE0 COM.PAGE_CTRL_ENABLE then wr (held 0xE0) HSQR.CLEAR_REQ 0 s
  else if poolsConfigOk s then buildPools (wr 0xE0 COM.PAGE_CTRL_ENABLE 1 s)
  else s

/-- SQR_ENABLE. -/
def execSqrEnable (s : State) : Host.Outcome State Fault Refusal := settle s (hostCmd 0xE0 0x008 sqrEnable s)

/-- TBL_CMD 1: read a buffer's metadata (R217). -/
def execSqrTableRead (s : State) : Host.Outcome State Fault Refusal :=
  settle s (tblCmd 0xE2 (fun s =>
    let h := rd s 0xE2 SQR2.TBL_ADDR
    if !poolsOn s then tblResult 0xE2 4 s
    else if badHandle s h then tblResult 0xE2 3 s
    else tblResult 0xE2 0 (wr 0xE2 (TBL.DATA 0) (metaWord (getBuf s h)) s)) s)

/-- TBL_CMD 2: allocate from the pool named, as requester 8 with class HOST_SW (R217). -/
def execSqrTableAlloc (s : State) : Host.Outcome State Fault Refusal :=
  settle s (tblCmd 0xE2 (fun s =>
    let a := rd s 0xE2 SQR2.TBL_ADDR
    let p := handlePool a
    if 3 < p then tblResult 0xE2 3 s
    else if a % 4 = 3 then tblResult 0xE2 5 s
    else if !poolsOn s then tblResult 0xE2 4 (emptyResult 8 s)
    else
      let (h, t) := askNow 8 (poolSize p - headroom s) (a % 4) clHostSw s
      tblResult 0xE2 (if h = emptyHandle then 2 else 0) (wr 0xE2 SQR2.TBL_DATA1 h t)) s)

/-- TBL_CMD 5 to 7: RESULT 5 at once (R217). -/
def execSqrInvalidCmd (s : State) : Host.Outcome State Fault Refusal :=
  settle s (tblCmd 0xE2 (tblResult 0xE2 5) s)

/-- LOG_CLEAR: the log empties at the next block boundary (R217). -/
def execLogClear (s : State) : Host.Outcome State Fault Refusal :=
  settle s (hostCmd 0xE2 0x044 (fun s => wr 0xE2 SQR2.LOG_CLEAR 1 (wr (held 0xE0) HSQR.LOG_CLEAR_REQ 1 s)) s)

end Sys2Proof.Machine
end

