-- ==== Sys2Proof/Machine/Tree.lean ====
section
/-! DEFINITION. The scheduler's tree, its shapers, its plan and its configuration checks (R219 to R226, R236, R246). -/

namespace Sys2Proof.Machine

/-- Classes (R255): 0 Standard, 1 Assured, 2 Express. -/
def clsStandard : Nat := 0
def clsAssured : Nat := 1
def clsExpress : Nat := 2

/-! ## Paths (Table 8.1) -/

def subOf (leaf : Nat) : Nat := leaf / 8
def svcOf (s : State) (leaf : Nat) : Nat := rd s (Tab.sub (subOf leaf)) NODE.PARENT
def svcPort (s : State) (svc : Nat) : Nat := rd s (Tab.svc svc) NODE.PARENT % 16
def leafPort (s : State) (leaf : Nat) : Nat := svcPort s (svcOf s leaf)

/-- The leaf's class; 3 is applied as 0 (Table 8.9). -/
def leafClass (s : State) (leaf : Nat) : Nat := let c := rd s (Tab.leaf leaf) LEAF.CLASS; if c = 3 then 0 else c

/-- The path names an enabled port node (R253). -/
def leafHasPort (s : State) (leaf : Nat) : Bool := decide (leafPort s leaf < 12) && rdb s (Tab.pnode (leafPort s leaf)) NODE.ENABLE

/-- The transmit queue of a leaf on a Kerb port: 7 for Express (R220). -/
def leafTxq (s : State) (leaf : Nat) : Nat := if leafClass s leaf = clsExpress then 7 else rd s (Tab.leaf leaf) LEAF.TXQ

/-- A fibre port node. -/
def isFibre (port : Nat) : Bool := port = 8 || port = 9

/-! ## Alloc-ID slots (R221, Table 8.13) -/

def slotService (s : State) (fib n : Nat) : Nat := rd s 0x150 (if fib = 0 then UPA.SLOT_A_SERVICE n else UPA.SLOT_B_SERVICE n)
def slotValid (s : State) (fib n : Nat) : Bool := rdb s 0x150 (if fib = 0 then UPA.SLOT_A_VALID n else UPA.SLOT_B_VALID n)
def slotRate (s : State) (fib n : Nat) : Nat := rd s 0x150 (if fib = 0 then UPA.SLOT_A_ASSURED_RATE n else UPA.SLOT_B_ASSURED_RATE n)

/-- G: 0 is applied as 1, values above 64 as 64. -/
def slotG (s : State) (fib n : Nat) : Nat :=
  max 1 (min 64 (rd s 0x150 (if fib = 0 then UPA.SLOT_A_G_TICKS n else UPA.SLOT_B_G_TICKS n)))

/-- The window room W in bytes (R221). -/
def slotWindow (s : State) (fib n : Nat) : Nat := slotRate s fib n * slotG s fib n / 64

/-- The valid slots of a fibre port that name a service node. -/
def slotsOf (s : State) (fib svc : Nat) : List Nat := (List.range 64).filter (fun n => slotValid s fib n ∧ slotService s fib n = svc)

/-- The slot of a service node under a fibre port node. -/
def slotFor (s : State) (port svc : Nat) : Option Nat := (slotsOf s (port - 8) svc).head?

/-- Write the WINDOW registers from the slots in effect. -/
def setWindows (s : State) : State :=
  forEach (List.range 64) (fun n s => wr 0x150 (UPA.WINDOW_B n) (slotWindow s 1 n) (wr 0x150 (UPA.WINDOW_A n) (slotWindow s 0 n) s)) s

/-! ## The records that hold anything -/

/-- Record pages from `lo` to below `hi` with a field away from its reset value. -/
def pagesIn (s : State) (lo hi : Nat) : List Nat :=
  ((s.regs.map (fun e => e.1 / 32768)).filter (fun p => lo ≤ p ∧ p < hi)).eraseDups

def leavesIn (s : State) : List Nat := (pagesIn s 0x40000 0x60000).map (· - 0x40000)
def subsIn (s : State) : List Nat := (pagesIn s 0x20000 0x24000).map (· - 0x20000)
def svcsIn (s : State) : List Nat := (pagesIn s 0x18000 0x18400).map (· - 0x18000)

def leafOn (s : State) (q : Nat) : Bool := rdb s (Tab.leaf q) LEAF.ENABLE
def subOn (s : State) (n : Nat) : Bool := rdb s (Tab.sub n) NODE.ENABLE
def svcOn (s : State) (n : Nat) : Bool := rdb s (Tab.svc n) NODE.ENABLE
def pnodeOn (s : State) (n : Nat) : Bool := rdb s (Tab.pnode n) NODE.ENABLE

/-! ## The Kerb port's rate -/

/-- MODE of a Kerb port, 3 applied as 0 (Table 10.8). -/
def kerbMode (s : State) (p : Nat) : Nat := let m := rd s (0x80 + p) KRB.PORT_CTRL_MODE; if m = 3 then 0 else m

/-- Kerb-X4. -/
def kerbX4 (s : State) (p : Nat) : Bool := kerbMode s p = 2

/-- M of a port node: the Kerb port's maximum frame length (R290), and the constants of R219. DESIGN CHOICE (log entry 104): no register gives
a fibre port's configured M of R84; it is 9 600, the longest that a port node takes. -/
def portM (s : State) (port : Nat) : Nat :=
  if port < 8 then
    let m := max 64 (min 9600 (rd s (0x80 + port) KRB.MAX_FRAME))
    if kerbX4 s port then min 2048 m else m
  else if port = 11 then 65536 else 9600

/-- Number of lanes in a lane mask. -/
def lanes (mask : Nat) : Nat := ((List.range 4).filter (bit mask)).length

/-- The link is up (Table 10.8). -/
def kerbUp (s : State) (p : Nat) : Bool := decide (2 ≤ rd s (0x80 + p) KRB.PORT_STATUS_LINK)

/-- C_max: the rate of a Kerb port's widest mode, or RATE (R222). -/
def portCmax (s : State) (port : Nat) : Nat :=
  if port < 8 then (if kerbX4 s port then 40000000 else if kerbMode s port = 1 then 10000000 else 1000000)
  else if port < 10 then 0
  else rd s (Tab.pnode port) (PNODE.RATE port)

/-- C of a port node at a block boundary (Table 8.2, R244, R317, R466). -/
def portCNow (s : State) (port : Nat) : Nat :=
  if port < 8 then
    if !kerbUp s port then 0
    else if kerbX4 s port ∧ (rdb s (held 0x100) HSCH.LEAN_C ∨ lanes (rd s (0x80 + port) KRB.PORT_STATUS_TX_LANES) < 4) then 20000000
    else portCmax s port
  else if port = 10 ∧ !rdb s 0xB0 HST0.HST_STATUS_LINK_UP then 0
  else portCmax s port

/-- The C that admission and the scheduler use: that of the plan (R236). -/
def portC (s : State) (port : Nat) : Nat := rd s 0x100 (SCH0.PORT_C_KBPS port)

/-- E_res: the CIRs of the Express leaves under a port node (R222). -/
def portERes (s : State) (port : Nat) : Nat :=
  ((leavesIn s).filter (fun q => leafOn s q ∧ leafClass s q = clsExpress ∧ leafPort s q = port)).foldl
    (fun a q => a + rd s (Tab.leaf q) LEAF.CIR) 0

/-! ## Gates in the plan (R229) -/

/-- Port p's gate list is in force. -/
def gateOn (s : State) (p : Nat) : Bool := decide (p < 8) && rdb s 0x102 (SCH2.GATE_CTRL_EN p) && rdb s (held 0x100) (HSCH.OPER p)

/-- f_t as a fraction: open time and cycle time. -/
def gateOpen (s : State) (p t : Nat) : Nat × Nat :=
  if gateOn s p then (rd s (held 0x100) (HSCH.OPEN_NS p t), max 1 (rd s (held 0x100) (HSCH.OPER_CYCLE p))) else (1, 1)

/-- Z_t in ns: the longest closed time; 128 ns more while LPI_EN is set (R305). -/
def gateZ (s : State) (p t : Nat) : Nat :=
  (if gateOn s p then rd s (held 0x100) (HSCH.Z_NS p t) else 0)
    + (if p < 8 ∧ rdb s (0x80 + p) KRB.PORT_CTRL_LPI_EN then 128 else 0)

/-- Z_t of a port node in units of 1/800 ns: 1 block at the host port (R463). -/
def portZ800 (s : State) (port txq : Nat) : Nat := if port < 8 then 800 * gateZ s port txq else if port = 10 then 1562500 else 0

/-! ## The plan (R236) -/

/-- Rebuild one port node's plan; CAPACITY_CHANGE when C changes. -/
def rebuildPort (port : Nat) (s : State) : State :=
  let c := portCNow s port
  let e := portERes s port
  let (o, cyc) := gateOpen s port 0
  let old := portC s port
  let s := wr 0x100 (SCH0.PORT_C_KBPS port) c (wr 0x100 (SCH0.PORT_E_RES port) e s)
  let s := wr 0x100 (SCH0.PORT_CAPACITY port) (c * o / cyc - e) s
  if c = old then s else raise 0x100 SCH0.evCAPACITY_CHANGE [port, c] s

def rebuildPlan (s : State) : State := forEach (List.range 12) rebuildPort s

/-! ## Shapers (R223 to R226) -/

/-- One refill: bucket and residue of a shaper of rate r and burst b (in 64-byte units). -/
def refill (r b : Nat) (bucket : Int) (residue : Nat) : Int × Nat :=
  if r = 0 then (bucket, residue)
  else
    let t := residue + r
    let v := bucket + (t / 4096 : Nat)
    if (64 * b : Nat) ≤ v then ((64 * b : Nat), 0) else (v, t % 4096)

/-- Refill the committed and the peak shaper of a record. Leaf, subscriber and service records place them alike. -/
def refillNode (pg : Nat) (s : State) : State :=
  let (c, cr) := refill (rd s pg NODE.CIR) (rd s pg NODE.CBS) (rdS s pg NODE.C_BUCKET) (rd s pg NODE.C_RESIDUE)
  let (p, pr) := refill (rd s pg NODE.PIR) (rd s pg NODE.PBS) (rdS s pg NODE.P_BUCKET) (rd s pg NODE.P_RESIDUE)
  wr pg NODE.P_RESIDUE pr (wrS pg NODE.P_BUCKET p (wr pg NODE.C_RESIDUE cr (wrS pg NODE.C_BUCKET c s)))

/-- The nodes with shapers in use: fibre service nodes have none of their own (R221). -/
def shaperPages (s : State) : List Nat :=
  (leavesIn s).map Tab.leaf ++ (subsIn s).map Tab.sub ++ ((svcsIn s).filter (fun n => !isFibre (svcPort s n))).map Tab.svc

/-- At every block boundary each shaper refills (R223). -/
def shaperRefill (s : State) : State := forEach (shaperPages s) refillNode s

/-- A changed rate or burst: a positive bucket is set to 0 and the residue cleared (R226). -/
def reconfigShaper (old : State) (pg : Nat) (s : State) : State :=
  let zero := fun (b r : Field) (s : State) => wr pg r 0 (if 0 < rdS s pg b then wr pg b 0 s else s)
  let s := if rd old pg NODE.CIR ≠ rd s pg NODE.CIR ∨ rd old pg NODE.CBS ≠ rd s pg NODE.CBS
    then zero NODE.C_BUCKET NODE.C_RESIDUE s else s
  if rd old pg NODE.PIR ≠ rd s pg NODE.PIR ∨ rd old pg NODE.PBS ≠ rd s pg NODE.PBS
    then zero NODE.P_BUCKET NODE.P_RESIDUE s else s

/-- Overhead of a port node, signed (Table 8.10). -/
def portOverhead (s : State) (port : Nat) : Int := rdS s (Tab.pnode port) (PNODE.OVERHEAD port)

/-- The pages of a leaf's path whose shapers apply: leaf, subscriber and, except upstream, service. -/
def pathPages (s : State) (leaf : Nat) : List Nat :=
  [Tab.leaf leaf, Tab.sub (subOf leaf)] ++ (if isFibre (leafPort s leaf) then [] else [Tab.svc (svcOf s leaf)])

/-- Charge a departure to both buckets along the path; an Express frame is not charged (R224). -/
def chargeShapers (leaf cls port len : Nat) (s : State) : State :=
  if cls = clsExpress then s
  else
    let d : Int := len + portOverhead s port
    forEach (pathPages s leaf) (fun pg s =>
      wrS pg NODE.P_BUCKET (rdS s pg NODE.P_BUCKET - d) (wrS pg NODE.C_BUCKET (rdS s pg NODE.C_BUCKET - d) s)) s

/-- Committed- and peak-eligibility of a path (R225), and whether a committed shaper is in debt. -/
def committedEligible (s : State) (leaf : Nat) : Bool :=
  (pathPages s leaf).all (fun pg => rd s pg NODE.CIR ≠ 0 && decide (0 ≤ rdS s pg NODE.C_BUCKET))
def peakEligible (s : State) (leaf : Nat) : Bool :=
  (pathPages s leaf).all (fun pg => rd s pg NODE.PIR ≠ 0 && decide (0 ≤ rdS s pg NODE.P_BUCKET))
def committedDebt (s : State) (leaf : Nat) : Bool := (pathPages s leaf).any (fun pg => decide (rdS s pg NODE.C_BUCKET < 0))

/-! ## Configuration checks (R222, Table 8.3) -/

/-- A node as CFG_REFUSED names it: index and level, laid out as TBL_ADDR (Table 8.8). -/
def nodeCode (level index : Nat) : Nat := index + level * 2 ^ 17

/-- Committed rate of a service node: its CIR, or its slot's ASSURED_RATE (R221). -/
def svcRate (s : State) (svc : Nat) : Nat :=
  let p := svcPort s svc
  if isFibre p then (match slotFor s p svc with | some n => slotRate s (p - 8) n | none => 0) else rd s (Tab.svc svc) NODE.CIR

/-- A service's committed rate is stated: a fibre service has exactly one slot. Without it the fault is check 7's alone (log entry 107). -/
def hasRate (s : State) (svc : Nat) : Bool := !isFibre (svcPort s svc) || decide ((slotsOf s (svcPort s svc - 8) svc).length = 1)

def sumBy (l : List Nat) (f : Nat → Nat) : Nat := l.foldl (fun a x => a + f x) 0

/-- First offender of check 1: Express reservations. -/
def check1 (s : State) : List Nat :=
  ((svcsIn s).filter (fun n => isFibre (svcPort s n) ∧ hasRate s n ∧ svcRate s n <
      sumBy ((leavesIn s).filter (fun q => leafOn s q ∧ leafClass s q = clsExpress ∧ svcOf s q = n))
        (fun q => rd s (Tab.leaf q) LEAF.CIR))).map (nodeCode 2)
    ++ ((List.range 8).filter (fun p => portCmax s p < 2 * portERes s p)).map (nodeCode 3)

/-- Check 2: committed-rate sums. -/
def check2 (s : State) : List Nat :=
  let leaves := (leavesIn s).filter (fun q => leafOn s q ∧ leafClass s q ≠ clsExpress)
  let subs := (subsIn s).filter (subOn s)
  let svcs := (svcsIn s).filter (svcOn s)
  (subs.filter (fun n => rd s (Tab.sub n) NODE.CIR <
      sumBy (leaves.filter (fun q => subOf q = n)) (fun q => rd s (Tab.leaf q) LEAF.CIR))).map (nodeCode 1)
    ++ (svcs.filter (fun v => hasRate s v ∧ svcRate s v <
      sumBy (subs.filter (fun n => rd s (Tab.sub n) NODE.PARENT = v)) (fun n => rd s (Tab.sub n) NODE.CIR))).map (nodeCode 2)
    ++ (([0, 1, 2, 3, 4, 5, 6, 7, 10, 11] : List Nat).filter (fun p => portCmax s p <
      sumBy (svcs.filter (fun v => svcPort s v = p)) (fun v => rd s (Tab.svc v) NODE.CIR) + portERes s p)).map (nodeCode 3)

/-- Check 3: a non-zero PIR below the CIR. -/
def check3 (s : State) : List Nat :=
  let bad := fun pg => rd s pg NODE.PIR ≠ 0 ∧ rd s pg NODE.PIR < rd s pg NODE.CIR
  ((leavesIn s).filter (fun q => bad (Tab.leaf q))).map (nodeCode 0)
    ++ ((subsIn s).filter (fun n => bad (Tab.sub n))).map (nodeCode 1)
    ++ ((svcsIn s).filter (fun n => bad (Tab.svc n))).map (nodeCode 2)

/-- Check 4: a class that the port node does not carry (Table 8.2). -/
def check4 (s : State) : List Nat :=
  ((leavesIn s).filter (fun q => leafOn s q ∧
    ((leafPort s q = 10 ∧ leafClass s q = clsExpress) ∨ (leafPort s q = 11 ∧ leafClass s q ≠ clsStandard)))).map (nodeCode 0)

/-- Check 5: Express or Assured under a fibre service node without an assured rate (R23). -/
def check5 (s : State) : List Nat :=
  ((leavesIn s).filter (fun q => leafOn s q ∧ leafClass s q ≠ clsStandard ∧ isFibre (leafPort s q) ∧ hasRate s (svcOf s q)
    ∧ svcRate s (svcOf s q) = 0)).map
    (nodeCode 0)

/-- Check 6: a non-Express leaf on transmit queue 7. -/
def check6 (s : State) : List Nat :=
  ((leavesIn s).filter (fun q => leafOn s q ∧ leafClass s q ≠ clsExpress ∧ rd s (Tab.leaf q) LEAF.TXQ = 7)).map (nodeCode 0)

/-- Check 7: parents and slots. -/
def check7 (s : State) : List Nat :=
  ((leavesIn s).filter (fun q => leafOn s q ∧ !subOn s (subOf q))).map (nodeCode 0)
    ++ ((subsIn s).filter (fun n => subOn s n ∧ !svcOn s (rd s (Tab.sub n) NODE.PARENT))).map (nodeCode 1)
    ++ ((svcsIn s).filter (fun v => svcOn s v ∧ (12 ≤ svcPort s v ∨ !pnodeOn s (svcPort s v)
        ∨ (isFibre (svcPort s v) ∧ (slotsOf s (svcPort s v - 8) v).length ≠ 1)))).map (nodeCode 2)

/-- The lowest failing check and its first offending node; (0, 0) when all pass. -/
def schedCheck (s : State) : Nat × Nat :=
  match (([check1, check2, check3, check4, check5, check6, check7].zipIdx 1).filterMap
      (fun c => (c.1 s).head?.map (fun n => (c.2, n)))).head? with
  | some r => r
  | none => (0, 0)

/-- Every node that offends against the lowest failing check. -/
def schedOffenders (s : State) : List Nat :=
  (([check1, check2, check3, check4, check5, check6, check7].map (fun c => c s)).find? (fun l => !l.isEmpty)).getD []

/-- The service node of a node as nodeCode names it. -/
def nodeSvc (s : State) (node : Nat) : Nat :=
  let i := node % 2 ^ 17
  if node / 2 ^ 17 = 0 then svcOf s i else if node / 2 ^ 17 = 1 then rd s (Tab.sub i) NODE.PARENT else i

/-- The lowest slot that stands for an offending node, as page 0x150 names it: fibre A 0 to 63, then fibre B 64 to 127 (R222). -/
def slotCode (s : State) (nodes : List Nat) : Nat :=
  let svcs := nodes.map (nodeSvc s)
  match (List.range 128).find? (fun n => slotValid s (n / 64) (n % 64) ∧ svcs.contains (slotService s (n / 64) (n % 64))) with
  | some n => n
  | none => 0

/-- After the scheduler's pages apply: changed shapers restart, windows and plan follow (R226, R236). -/
def schedApplied (old s : State) : State :=
  let s := forEach ((pagesIn s 0x18000 0x18400) ++ (pagesIn s 0x20000 0x24000) ++ (pagesIn s 0x40000 0x60000)
    ++ (pagesIn old 0x18000 0x18400) ++ (pagesIn old 0x20000 0x24000) ++ (pagesIn old 0x40000 0x60000)).eraseDups (reconfigShaper old) s
  setWindows s

/-! ## LEAN suspensions (R246) -/

/-- Unsuspended Assured leaves of a port, highest index first. -/
def assuredLeaves (s : State) (port : Nat) : List Nat :=
  (sortBy id ((leavesIn s).filter (fun q => leafOn s q ∧ leafClass s q = clsAssured ∧ leafPort s q = port
    ∧ !rdb s (Tab.leaf q) LEAF.SUSPENDED))).reverse

/-- Suspend one leaf. -/
def suspendLeaf (q : Nat) (s : State) : State :=
  inc 0x100 SCH0.LEAN_SUSPENSIONS (wr 0x100 SCH0.LEAN_SUSPENDED (rd s 0x100 SCH0.LEAN_SUSPENDED + 1) (wr (Tab.leaf q) LEAF.SUSPENDED 1 s))

/-- The committed capacity of a Kerb-X4 port at 20 Gb/s. -/
def leanCapacity (s : State) (p : Nat) : Nat := let (o, c) := gateOpen s p 0; 20000000 * o / c - portERes s p

/-- Suspend Assured leaves of one port, LEAN_KEEP clear, highest index first, until the sum fits. -/
def suspendPort (p : Nat) (s : State) : State :=
  let cap := leanCapacity s p
  (assuredLeaves s p).foldl (fun s q =>
    if sumBy (assuredLeaves s p) (fun q => rd s (Tab.leaf q) LEAF.CIR) ≤ cap ∨ rdb s (Tab.leaf q) LEAF.LEAN_KEEP then s
    else suspendLeaf q s) s

/-- LEAN entry: suspensions on every Kerb-X4 port, and LEAN_SUSPEND once when there are any. -/
def leanSuspend (s : State) : State :=
  let before := rd s 0x100 SCH0.LEAN_SUSPENDED
  let s := forEach ((List.range 8).filter (kerbX4 s)) suspendPort s
  let n := rd s 0x100 SCH0.LEAN_SUSPENDED - before
  if n = 0 then s else raise 0x100 SCH0.evLEAN_SUSPEND [n] s

/-- LEAN exit releases every suspension. -/
def leanRelease (s : State) : State :=
  wr 0x100 SCH0.LEAN_SUSPENDED 0 (forEach (leavesIn s) (fun q s => wr (Tab.leaf q) LEAF.SUSPENDED 0 s) s)

end Sys2Proof.Machine
end

