-- ==== Sys2Proof/Machine/ArcDir.lean ====
section
/-! DEFINITION. Arcade's directory, extents, gap records, and the staged segments as references come and go (R413 to R417, R425,
R428 to R430, R440). -/

namespace Sys2Proof.Machine

/-- STATE of a directory entry (Table 14.1). -/
def dirFree : Nat := 0
def dirFilling : Nat := 1
def dirRepairing : Nat := 2
def dirComplete : Nat := 3
def dirRing : Nat := 4
def dirDeleting : Nat := 5

def dirState (s : State) (e : Nat) : Nat := rd s (Tab.dir e) DIRE.STATE
def dirId (s : State) (e : Nat) : Nat := rd s (Tab.dir e) DIRE.OBJECT_ID

/-- The bucket of an object (R414). -/
def dirBucket (id : Nat) : Nat := crc32c 0xFFFFFFFF (toLe 8 id) * 524288 / 2 ^ 32

def bucketEntries (b : Nat) : List Nat := (List.range 8).map (fun i => 8 * b + i)

/-- The entry of an object. -/
def dirFind (s : State) (id : Nat) : Option Nat :=
  (bucketEntries (dirBucket id)).find? (fun e => dirState s e ≠ dirFree ∧ dirId s e = id)

/-- The lowest free entry of an object's bucket. -/
def dirSlot (s : State) (id : Nat) : Option Nat := (bucketEntries (dirBucket id)).find? (fun e => dirState s e = dirFree)

/-- Entries in use. -/
def entriesIn (s : State) : List Nat :=
  ((pagesIn s 0x2000000 0x2400000).map (· - 0x2000000)).filter (fun e => dirState s e ≠ dirFree)

/-! ## Extents (R413) -/

def extents (s : State) (e : Nat) : List (Nat × Nat) :=
  [(rd s (Tab.dir e) DIRE.START0, rd s (Tab.dir e) DIRE.COUNT0), (rd s (Tab.dir e) DIRE.START1, rd s (Tab.dir e) DIRE.COUNT1),
   (rd s (Tab.dir e) DIRE.START2, rd s (Tab.dir e) DIRE.COUNT2)].filter (fun x => x.2 ≠ 0)

def putExtents (e : Nat) (l : List (Nat × Nat)) (s : State) : State :=
  let x := fun i => l.getD i (0, 0)
  let s := wr (Tab.dir e) DIRE.START0 (x 0).1 (wr (Tab.dir e) DIRE.COUNT0 (x 0).2 s)
  let s := wr (Tab.dir e) DIRE.START1 (x 1).1 (wr (Tab.dir e) DIRE.COUNT1 (x 1).2 s)
  wr (Tab.dir e) DIRE.START2 (x 2).1 (wr (Tab.dir e) DIRE.COUNT2 (x 2).2 s)

/-- The n-th segment of extents taken in order. -/
def extSeg : List (Nat × Nat) → Nat → Option Nat
  | [], _ => none
  | (a, c) :: r, n => if n < c then some (a + n) else extSeg r (n - c)

/-- The first n segments of extents, and the rest. -/
def extTake : List (Nat × Nat) → Nat → List (Nat × Nat)
  | [], _ => []
  | (a, c) :: r, n => if n = 0 then [] else if n < c then [(a, n)] else (a, c) :: extTake r (n - c)
def extDrop : List (Nat × Nat) → Nat → List (Nat × Nat)
  | [], _ => []
  | (a, c) :: r, n => if n < c then (a + n, c - n) :: r else extDrop r (n - c)

def inExt (l : List (Nat × Nat)) (seg : Nat) : Bool := l.any (fun x => x.1 ≤ seg ∧ seg < x.1 + x.2)
def extCount (l : List (Nat × Nat)) : Nat := (l.map (·.2)).sum

/-- Extents in use: of every entry, and of shrunk rings' old slots. -/
def usedExtents (s : State) : List (Nat × Nat) :=
  sortBy (·.1) ((entriesIn s).flatMap (extents s) ++ s.shrinks.flatMap (·.2))

/-- The free extents between used ones. -/
def gapsFrom : Nat → List (Nat × Nat) → List (Nat × Nat)
  | a, [] => if a < storeSegs then [(a, storeSegs - a)] else []
  | a, (b, c) :: r => (if a < b then [(a, b - a)] else []) ++ gapsFrom (max a (b + c)) r

def freeExtents (s : State) : List (Nat × Nat) := gapsFrom 0 (usedExtents s)

/-- Best fit: the smallest free extent that holds n segments. -/
def bestFit (free : List (Nat × Nat)) (n : Nat) : Option (Nat × Nat) := minBy (·.2) (free.filter (fun x => n ≤ x.2))

/-- At most `k` free extents that give n segments: the largest ones whole, the last by best fit. -/
def allocUpTo : Nat → List (Nat × Nat) → Nat → Option (List (Nat × Nat))
  | 0, _, _ => none
  | k + 1, free, n =>
    match bestFit free n with
    | some (a, _) => some [(a, n)]
    | none =>
      match minBy (fun x => storeSegs - x.2) free with
      | none => none
      | some x => (allocUpTo k (free.filter (· ≠ x)) (n - x.2)).map (fun r => x :: r)

/-- The smallest set of at most `k` free extents of the size asked (R413). -/
def allocExtents (s : State) (k n : Nat) : Option (List (Nat × Nat)) :=
  (([1, 2, 3].filter (fun i => i ≤ k)).filterMap (fun i => allocUpTo i (freeExtents s) n)).head?

/-- FREE_SEGS and OBJECTS follow the directory. -/
def setDirCounts (s : State) : State :=
  wr 0x1E0 ARC0.FREE_SEGS (storeSegs - extCount (usedExtents s)) (wr 0x1E0 ARC0.OBJECTS (entriesIn s).length s)

/-- The register fields of the pages that satisfy `p`. -/
def dirRegs (p : Nat → Bool) (m : Map Nat) : Map Nat := m.filter (fun x => p (x.1 / 32768))

/-- A home copy with the changed entries written to it. -/
def dirWritten (s : State) (home : Map Nat) : Map Nat :=
  s.dirDirty.foldl (fun h e =>
    (dirRegs (fun p => decide (p = Tab.dir e)) s.regs).foldl (fun h x => Map.put 0 h x.1 (x.2 + 1)) (dirRegs (fun p => decide (p ≠ Tab.dir e)) h)) home

/-- Write the changed entries to both home copies; the first such write after a start clears the clean-stop marker (R416, R570). -/
def dirFlush (s : State) : State :=
  if s.dirDirty = [] then s
  else
    inc 0x1E0 ARC0.DIR_FLUSHES
      (wr (held 0x1E0) HARC.CLEAN 0 { s with dirHome := dirWritten s s.dirHome, dirHome4 := dirWritten s s.dirHome4, dirDirty := [] })

/-- The home copy of an entry is due; with 4 096 entries waiting it is written at once (R416). -/
def dirMark (e : Nat) (s : State) : State :=
  if e ∈ s.dirDirty then s
  else
    let s := if s.dirDirty = [] then wr (held 0x1E0) HARC.DIRTY_SINCE s.clock.tick s else s
    let s := { s with dirDirty := s.dirDirty ++ [e] }
    if 4096 ≤ s.dirDirty.length ∧ rdb s 0x1E0 ARC0.ARC_STATUS_READY then dirFlush s else s

/-- A commit touched the entry: LAST_TICK, and the home copy is due (R416). -/
def touchDir (e : Nat) (s : State) : State := if dirState s e = dirFree then s else dirMark e (wr (Tab.dir e) DIRE.LAST_TICK s.clock.tick s)

/-- Changed entries that have waited for 8 000 ticks are written (R416). -/
def dirTick (s : State) : State :=
  if rdb s 0x1E0 ARC0.ARC_STATUS_READY ∧ s.dirDirty ≠ [] ∧ rd s (held 0x1E0) HARC.DIRTY_SINCE + 8000 ≤ s.clock.tick then dirFlush s else s

/-- The home copy of package 4 has the later LAST_TICK of a record (R416). -/
def later4 (s : State) (pg : Nat) : Bool := decide (Map.get 0 s.dirHome (DIRE.LAST_TICK.key pg) < Map.get 0 s.dirHome4 (DIRE.LAST_TICK.key pg))

/-- Load the working copy from the home copies: of two that disagree, the one with the later LAST_TICK (R416). -/
def dirLoad (s : State) : State :=
  let keep := dirRegs (fun p => !(decide (0x2000000 ≤ p) && decide (p < 0x2400000))) s.regs
  let home := dirRegs (fun p => !later4 s p) s.dirHome ++ dirRegs (later4 s) s.dirHome4
  { s with regs := home.foldl (fun m p => Map.insertKey p.1 (p.2 - 1) (Map.erase m p.1)) keep, dirDirty := [] }

/-- A mapped segment (R412). -/
def mapped (s : State) (seg : Nat) : Bool := (Map.get none s.nand seg).isSome

/-! ## Rings (R428) -/

/-- The slot of segment number n in ring r: by BASE and LEN, and below BASE by the length before the ring grew (R428, R429). -/
def ringSlot (s : State) (r n : Nat) : Nat :=
  let base := rd s (Tab.ring r) RING.BASE
  let old := rd s (Tab.ring r) HRNG.OLD_LEN
  if old ≠ 0 ∧ n < base ∧ base ≤ n + old then old + n - base
  else (((n : Int) - (base : Int)) % (max 1 (rd s (Tab.ring r) RING.LEN) : Nat)).toNat

/-- The piece of a store segment that holds a byte: package, and offset in the package's store area (R410). -/
def piecePlace (seg byte : Nat) : Nat × Nat := (byte / 8192, seg * 8192 + byte % 8192)

/-- A number that a ring still holds: from OLDEST to HEAD (R428). -/
def ringHolds (s : State) (r n : Nat) : Bool :=
  let lo := rd s (Tab.ring r) RING.OLDEST
  let hi := rd s (Tab.ring r) RING.HEAD
  decide (lo ≠ 0xFFFFFFFF) && decide (hi ≠ 0xFFFFFFFF) && decide (lo ≤ n) && decide (n ≤ hi)

/-- The store segment of an object's segment number. -/
def objSeg (s : State) (e n : Nat) : Option Nat :=
  if dirState s e = dirRing then extSeg (extents s e) (ringSlot s (rd s (Tab.dir e) DIRE.RING) n) else extSeg (extents s e) n

/-! ## Staged segments (R212, R430, R440) -/

/-- Replace a P4 handle in the frames that hold it. -/
def swapHandle (a b : Nat) (e : QEnt) : QEnt :=
  { e with handle := if e.handle = a then b else e.handle, handle2 := if e.handle2 = a then b else e.handle2 }

/-- The same in a work item, whose serve's segment is word 6 of `aux`. -/
def swapItem (a b : Nat) (x : Item) : Item := if x.aux.getD 6 0 = a then { x with aux := x.aux.set 6 b } else x

/-- Replace a P4 handle everywhere in the frames that hold it, those not yet committed included. -/
def swapEverywhere (a b : Nat) (s : State) : State :=
  { s with leafq := s.leafq.map (swapHandle a b), macs := s.macs.map (fun x => { x with ent := swapHandle a b x.ent }),
           ingress := s.ingress.map (fun f => { f with item := swapItem a b f.item }), early := s.early.map (swapItem a b),
           arcWrites := s.arcWrites.map (fun w => { w with handle := if w.handle = a then b else w.handle }),
           work := s.work.map (fun w => { w with results := w.results.map (Result.mapItem (swapItem a b)) }) }

/-- Detach a staged slot that has references; unstage one that has none. -/
def detachSeg (entry seg : Nat) (s : State) : State :=
  match slotOf s seg with
  | none => s
  | some x =>
    let m := getBuf s (p4Handle seg)
    if m.allocated then
      let id := rd s (held 0x1E0) HARC.NEXT_DET
      let h := detachedHandle id
      let t := wr (held 0x1E0) HARC.NEXT_DET (id + 1) (dropSlot seg s)
      let t := putBuf h m { t with slotFree := s.slotFree, detached := t.detached ++ [⟨h, entry, x.index⟩] }
      swapEverywhere (p4Handle seg) h t
    else dropSlot seg s

/-- Trim the segments of some extents: they are no longer mapped, and their staged slots are detached or unstaged. -/
def trimExtents (entry : Nat) (l : List (Nat × Nat)) (s : State) : State :=
  let segs := (s.slots.map (·.segment)).filter (inExt l)
  let s := forEach segs (detachSeg entry) s
  { s with nand := s.nand.filter (fun x => !inExt l x.1), segCrc := s.segCrc.filter (fun x => !inExt l x.1) }

/-- An entry being deleted is free once no detached slot of it remains. -/
def finishDelete (e : Nat) (s : State) : State :=
  if dirState s e = dirDeleting ∧ !(s.detached.any (fun d => d.entry = e)) then
    let s := if rdb s (Tab.dir e) DIRE.RING_KIND then resetPage (Tab.ring (rd s (Tab.dir e) DIRE.RING)) s else s
    dirMark e (resetPage (Tab.dir e) s)
  else s

/-- Old slots of a shrunk ring are released once every staged slot among them has COUNT 0 (R429). -/
def finishShrinks (s : State) : State :=
  let ready := fun (x : Nat × List (Nat × Nat)) =>
    !(s.slots.any (fun y => inExt x.2 y.segment ∧ (getBuf s (p4Handle y.segment)).allocated))
  let done := s.shrinks.filter ready
  forEach done (fun x s => trimExtents x.1 x.2 s) { s with shrinks := s.shrinks.filter (fun x => !ready x) }

/-- What follows when references have been released. -/
def arcSettle (s : State) : State :=
  setDirCounts (finishShrinks (forEach (entriesIn s) finishDelete s))

/-- Release a serve's reference on its segment: by DEC, or on the detached slot it was moved to (R430, R433). -/
def serveRelease (h : Nat) (s : State) : State :=
  if h = 0 then s
  else if isDetached h then
    let m := getBuf s h
    if m.count ≤ 1 then
      let gone := (s.detached.filter (fun d => d.handle = h)).map (·.index)
      let s := { s with buffers := Map.put none s.buffers h none, detached := s.detached.filter (fun d => d.handle ≠ h),
                        slotFree := s.slotFree ++ gone }
      arcSettle (wr 0xE0 (SQR0.INUSE_SHARED 4) (rd s 0xE0 (SQR0.INUSE_SHARED 4) - 1) s)
    else putBuf h { m with count := m.count - 1 } s
  else arcSettle (refDo opDec 7 clArcServe h 0 s)

/-! ## Gap records (R425) -/

/-- Content of a GAP entry (Table 15.5). -/
def gapBytes (object first count reason tick : Nat) : List Byte :=
  toLe 8 object ++ toLe 4 first ++ toLe 4 count ++ toLe 4 reason ++ toLe 4 tick ++ toLe 8 0

/-- Send a gap record to GAP_RING; GAP_LOST when the ring has no room. -/
def gapToRing (object first count reason : Nat) (s : State) : State :=
  let (s, ok) := sendEntry (rd s 0x1E0 ARC0.GAP_RING) 5 0xF (gapBytes object first count reason s.clock.tick) s
  if ok then s else raiseFirst 0x1E0 ARC0.evGAP_LOST [] (inc 0x1E0 ARC0.GAP_LOST s)

/-- Record a gap of entry e: to Yunager in hardware mode, to GAP_RING in host-assisted mode. The event belongs to the block in progress,
or to the committed block `item` − 1 whose item caused it (R529). -/
def recordGapOf (item e first count reason : Nat) (s : State) : State :=
  if count = 0 then s
  else
    let s := inc 0x1E0 ARC0.GAPS s
    let s := if item = 0 then raiseFirst 0x1E0 ARC0.evGAP [e, reason] s else raiseFirstItem (item - 1) 0x1E0 ARC0.evGAP [e, reason] s
    if rdb s 0x1E0 ARC0.ARC_CTRL_GAP_DEST then gapToRing (dirId s e) first count reason s
    else { s with gaps := s.gaps ++ [⟨e, dirId s e, first, count, reason, s.clock.tick, false⟩] }

/-- A gap that no item of a block caused. -/
def recordGap (e first count reason : Nat) (s : State) : State := recordGapOf 0 e first count reason s

/-- Readers of a ring. -/
def readersOf (s : State) (r : Nat) : List Nat :=
  ((pagesIn s 0x1C000 0x20000).map (· - 0x1C000)).filter (fun i => rdb s (Tab.reader i) READER.VALID ∧ rd s (Tab.reader i) READER.RING = r)

/-- Move one reader to OLDEST with OVERRUN (R431). -/
def overrunReader (r i : Nat) (s : State) : State :=
  let s := wr (Tab.reader i) READER.POS (rd s (Tab.ring r) RING.OLDEST) s
  inc 0x1E0 ARC0.OVERRUNS (inc (Tab.reader i) READER.OVERRUNS (wr (Tab.reader i) READER.OVERRUN 1 s))

/-- A reader below OLDEST (R431); the ring holds segments. -/
def readerBehind (s : State) (r i : Nat) : Bool :=
  decide (rd s (Tab.ring r) RING.OLDEST ≠ 0xFFFFFFFF) && decide (rd s (Tab.reader i) READER.POS < rd s (Tab.ring r) RING.OLDEST)

/-- OLDEST has moved: every reader below it is moved (R431). -/
def overrunReaders (r : Nat) (s : State) : State :=
  let behind := (readersOf s r).filter (readerBehind s r)
  if rd s (Tab.ring r) RING.OLDEST = rd s (Tab.ring r) HRNG.SEEN then s
  else if behind = [] then wr (Tab.ring r) HRNG.SEEN (rd s (Tab.ring r) RING.OLDEST) s
  else raiseFirst 0x1E2 ARC2.evREADER_OVERRUN [r, behind.length]
    (forEach behind (overrunReader r) (wr (Tab.ring r) HRNG.SEEN (rd s (Tab.ring r) RING.OLDEST) s))

end Sys2Proof.Machine
end

