-- ==== Sys2Proof/Machine/Outcome.lean ====
section
/-! DEFINITION. Deadlines, outcomes and the promise counters (R20 to R22, R30 to R34, R243, R253, R254); frames leaving the queues. -/

namespace Sys2Proof.Machine

/-- Outcome codes of the promise counters (Table 8.7). -/
def ocDelivered : Nat := 0
def ocRefused : Nat := 1
def ocDropped : Nat := 2
def ocPartner : Nat := 3
def ocShortfall : Nat := 4
def ocContained : Nat := 5
def ocAbandoned : Nat := 6
def ocLate : Nat := 7

/-- The class bound in core cycles from the acceptance time, fraction dropped (Table 1.2, R22). -/
def boundCycles (s : State) (port cls leaf : Nat) : Nat :=
  let g := match slotFor s port (svcOf s leaf) with | some n => slotG s (port - 8) n | none => 1
  let up := g * tickCycles + 2 * blockCycles
  if isFibre port then (if cls = clsStandard then max (160 * tickCycles) up else up)
  else if cls = clsExpress then
    let c := max 1 (portC s port)
    (6352992 * c + 16 * portM s port * 1244160000) / (1000 * c)
  else if cls = clsAssured then 128 * blockCycles
  else 160 * tickCycles

/-- The outcome of a frame delivered at core cycle `t` (R33). -/
def classify (e : QEnt) (t : Nat) : Nat :=
  if t ≤ e.deadline then ocDelivered
  else if t ≤ e.deadline + e.ext then ocPartner
  else if isFibre e.port ∧ e.shortfall then ocShortfall
  else if e.contained then ocContained
  else ocLate

/-- Count a frame in its outcome. -/
def countOutcome (port cls m : Nat) (s : State) : State := inc 0x100 (SCH0.PROMISE port cls m) s

/-- A Late frame's record (R34, R254). -/
def raiseLate (e : QEnt) (t : Nat) (s : State) : State :=
  raise 0x100 SCH0.evLATE [e.port + e.cls * 2 ^ 4 + e.leaf * 2 ^ 6, e.acc / 64, e.acc % 64, t - e.deadline] s

/-- Deliver a frame at core cycle `t`: its outcome is counted, a Late one reported, and the transit latency sampled (R33, R34). -/
def deliver (e : QEnt) (t : Nat) (s : State) : State :=
  let m := classify e t
  let s := monSample 0x01 (e.port + 16 * e.cls) ((t : Int) - startOf e.acc) (countOutcome e.port e.cls m s)
  if m = ocLate then raiseLate e t s else s

/-- A frame without a leaf queue against its ingress port, Dropped or Fault-contained (R253); ports above 10 have no counter. -/
def dropUnqueued (ingress : Nat) (s : State) : State :=
  if ingress ≤ 10 then inc 0x100 (SCH0.DROPPED_UNQUEUED ingress) s else s
def containUnqueued (ingress : Nat) (s : State) : State :=
  if ingress ≤ 10 then inc 0x100 (SCH0.CONTAINED_UNQUEUED ingress) s else s

/-! ## Queued bytes (R241, R243) -/

/-- L as the queues count it: with the XGEM header upstream. -/
def queueLen (port len : Nat) : Nat := if isFibre port then len + 8 else len

/-- The class sum of a node. -/
def classSum (cls : Nat) : Field := if cls = clsExpress then NODE.Q_EXPRESS else if cls = clsAssured then NODE.Q_ASSURED else NODE.Q_STANDARD

/-- The node records above a leaf: subscriber, service, port. -/
def nodesAbove (leaf svc port : Nat) : List Nat := [Tab.sub (subOf leaf), Tab.svc svc, Tab.pnode port]

/-- Add a frame's bytes to its leaf and to every node above. -/
def addBytes (e : QEnt) (s : State) : State :=
  let l := queueLen e.port e.length
  let s := wr (Tab.leaf e.leaf) LEAF.QUEUED_BYTES (rd s (Tab.leaf e.leaf) LEAF.QUEUED_BYTES + l) s
  forEach (nodesAbove e.leaf e.node e.port) (fun pg s => wr pg (classSum e.cls) (rd s pg (classSum e.cls) + l) s) s

/-- Take them off again at departure. -/
def subBytes (e : QEnt) (s : State) : State :=
  let l := queueLen e.port e.length
  let s := wr (Tab.leaf e.leaf) LEAF.QUEUED_BYTES (rd s (Tab.leaf e.leaf) LEAF.QUEUED_BYTES - l) s
  forEach (nodesAbove e.leaf e.node e.port) (fun pg s => wr pg (classSum e.cls) (rd s pg (classSum e.cls) - l) s) s

/-! ## Frames leaving -/

/-- A frame in a parked buffer, or with a parked segment: its read returns a poisoned result (R210). -/
def poisoned (s : State) (e : QEnt) : Bool :=
  let bad := fun h => (getBuf s h).allocated && (getBuf s h).parked
  bad e.handle || bad e.handle2

/-- The descriptors that a frame reserved on its ring are returned or free again (R462). -/
def unreserve (e : QEnt) (s : State) : State :=
  if e.ring = 0 then s
  else wr (held 0xB1) (HHST.RSVD (e.ring - 1)) (rd s (held 0xB1) (HHST.RSVD (e.ring - 1)) - e.ndesc) s

/-- Release what a frame holds: its buffer by DEC of the egress class, a serve's segment with it, its descriptors. -/
def releaseEnt (e : QEnt) (s : State) : State :=
  let s := unreserve e s
  let s := if e.handle = emptyHandle then s else if isDetached e.handle then serveRelease e.handle s
    else refDo opDec (portRequester e.port) e.holder e.handle 0 s
  serveRelease e.handle2 s

/-- Remove a frame from the leaf queues; a leaf left empty keeps no deficit. -/
def removeQueued (e : QEnt) (s : State) : State :=
  let s := { s with leafq := s.leafq.filter (fun x => x.id ≠ e.id) }
  if s.leafq.any (fun x => x.leaf = e.leaf) then s else wr (Tab.leaf e.leaf) HNODE.DEFICIT 0 s

/-- Remove a frame from a MAC. -/
def removeMac (e : QEnt) (s : State) : State := { s with macs := s.macs.filter (fun x => x.ent.id ≠ e.id) }

/-- An accepted frame that is never delivered: its outcome, its bytes, its place and its buffers (R33). -/
def endQueued (m : Nat) (e : QEnt) (s : State) : State :=
  releaseEnt e (removeQueued e (subBytes e (countOutcome e.port e.cls m s)))
def endMac (m : Nat) (e : QEnt) (s : State) : State := releaseEnt e (removeMac e (countOutcome e.port e.cls m s))

/-- Every accepted frame of a port node ends Fault-contained (R317, R466). -/
def containPort (port : Nat) (s : State) : State :=
  let s := forEach (s.leafq.filter (fun e => e.port = port)) (endQueued ocContained) s
  forEach ((s.macs.filter (fun x => x.port = port)).map (·.ent)) (endMac ocContained) s

/-- Number of accepted frames of a port node. -/
def acceptedOf (s : State) (port : Nat) : Nat :=
  (s.leafq.filter (fun e => e.port = port)).length + (s.macs.filter (fun x => x.port = port)).length

/-- A port's lanes are all back at core cycle t: frames whose deadline is still ahead miss it on their own account from now on (R244). -/
def unmarkContained (port t : Nat) (s : State) : State :=
  let ahead := fun (e : QEnt) => if e.port = port ∧ t < e.deadline then { e with contained := false } else e
  { s with leafq := s.leafq.map ahead, macs := s.macs.map (fun x => { x with ent := ahead x.ent }) }

/-- Mark the frames accepted for a port as touched by a contained cause (R244). -/
def markContained (port : Nat) (s : State) : State :=
  { s with leafq := s.leafq.map (fun e => if e.port = port then { e with contained := true } else e),
           macs := s.macs.map (fun x => if x.port = port then { x with ent := { x.ent with contained := true } } else x) }

/-- Extend the deadlines of a queue's frames by the part of a hold that falls after their acceptance (R30). -/
def extendHeld (p t from_ til : Nat) (s : State) : State :=
  let ext := fun (e : QEnt) => if e.port = p ∧ leafTxq s e.leaf = t then { e with ext := e.ext + (til - max from_ (startOf e.acc)) } else e
  { s with leafq := s.leafq.map ext,
           macs := s.macs.map (fun x => if x.port = p ∧ x.txq = t ∧ !x.started then
             { x with ent := { x.ent with ext := x.ent.ext + (til - max from_ (startOf x.ent.acc)) } } else x) }

end Sys2Proof.Machine
end

