-- ==== Sys2Proof/Machine/Admission.lean ====
section
/-! DEFINITION. Admission at the door (R26, R27, R44, R45, R237 to R245, R462). -/

namespace Sys2Proof.Machine

/-- Colours: 0 green, 1 yellow, 2 red. -/
def green : Nat := 0
def yellow : Nat := 1
def red : Nat := 2

/-- The admission unit takes frames for a port node in this mode (R44, R45, R49). -/
def admissionOpen (s : State) (port : Nat) : Bool :=
  let m := mode s
  let stop := rdb s (held 0x100) HSCH.STOP
  let stopFill := rdb s (held 0x100) HSCH.STOP_FILL
  if port = 11 then decide (m = modeCommission ∨ m = modeService ∨ m = modeGuarded ∨ m = modeLean) && !stopFill
  else decide (m = modeService ∨ m = modeGuarded ∨ m = modeLean) && !stop

/-- Queued bytes at a node of the same or higher precedence, Express left out (R238). -/
def aheadNoExpress (s : State) (pg cls : Nat) : Nat :=
  rd s pg NODE.Q_ASSURED + (if cls = clsStandard then rd s pg NODE.Q_STANDARD else 0)

/-- The same upstream, where Express counts (R241). -/
def aheadAll (s : State) (pg cls : Nat) : Nat :=
  rd s pg NODE.Q_EXPRESS + (if cls = clsExpress then 0 else aheadNoExpress s pg cls)

/-- (B + L) × 8 / R ≤ A, with R = num / den kb/s and A in units of 1/6 400 ns. -/
def fits (bytes num den a : Nat) : Bool := decide (0 < num) && decide (bytes * 8 * 1000000 * 6400 * den ≤ a * num)

/-- The queueing allowance A in units of 1/6 400 ns, for a colour (R238). -/
def allowance (s : State) (port cls txq colour : Nat) : Nat :=
  let bound := if cls = clsAssured then 200000000 else 16000000000
  let a := bound - 3125000 - 960000 - portZ800 s port txq
  if colour = green then a * 8 else a * min 8 (rd s (Tab.pnode port) PNODE.YELLOW_SHARE)

/-- The four tests of R238 for an Assured or Standard frame on a Kerb, host or Arcade port node. -/
def admitShaped (s : State) (leaf svc port cls len colour : Nat) : Bool :=
  let txq := leafTxq s leaf
  let a := allowance s port cls txq colour
  let (o, cyc) := gateOpen s port txq
  let rate := portC s port * o - portERes s port * cyc
  fits (rd s (Tab.leaf leaf) LEAF.QUEUED_BYTES + len) (rd s (Tab.leaf leaf) LEAF.CIR) 1 a
    && fits (aheadNoExpress s (Tab.sub (subOf leaf)) cls + len) (rd s (Tab.sub (subOf leaf)) NODE.CIR) 1 a
    && fits (aheadNoExpress s (Tab.svc svc) cls + len) (rd s (Tab.svc svc) NODE.CIR) 1 a
    && fits (portM s port + aheadNoExpress s (Tab.pnode port) cls + len) rate cyc a

/-- The Express test on a Kerb port node: M plus queued Express bytes plus L within 2 M (R239). -/
def admitExpress (s : State) (port len : Nat) : Bool :=
  decide (portC s port ≠ 0) && decide (portM s port + rd s (Tab.pnode port) NODE.Q_EXPRESS + len ≤ 2 * portM s port)

/-- The meter of an Express leaf (R240). -/
def meterOpen (s : State) (leaf : Nat) : Bool := decide (0 ≤ rdS s (Tab.leaf leaf) LEAF.C_BUCKET)

/-- n_S of R241. -/
def standardWindows (g : Nat) : Nat := max 1 ((10240 - 2) / (64 * g))

/-- The upstream test (R241). -/
def admitUpstream (s : State) (svc port cls len : Nat) : Bool :=
  match slotFor s port svc with
  | none => false
  | some n =>
    let w := slotWindow s (port - 8) n
    let b := aheadAll s (Tab.svc svc) cls + (len + 8)
    if cls = clsStandard then decide (b ≤ w * standardWindows (slotG s (port - 8) n)) else decide (b ≤ w)

/-- The ring of a host frame has room for its descriptors (R462); a frame without a ring needs none. -/
def ringFits (s : State) (e : QEnt) : Bool :=
  decide (e.ring = 0) || (ringTakes s (e.ring - 1) && decide (e.ndesc ≤ ringRoom s (e.ring - 1)))

/-- Every test but the ring's (R238 to R242). -/
def admitTests (s : State) (e : QEnt) (colour : Nat) : Bool :=
  leafHasPort s e.leaf && admissionOpen s e.port && leafOn s e.leaf && !rdb s (Tab.leaf e.leaf) LEAF.SUSPENDED
    && decide (rd s (Tab.leaf e.leaf) LEAF.QUEUED_BYTES + queueLen e.port e.length ≤ 16777215)
    && (if isFibre e.port then admitUpstream s e.node e.port e.cls e.length
        else if e.cls = clsExpress then decide (e.port < 8) && admitExpress s e.port e.length
        else admitShaped s e.leaf e.node e.port e.cls e.length colour)
    && (decide (e.cls ≠ clsExpress) || meterOpen s e.leaf)

/-- The decision on an enqueue. -/
def admits (s : State) (e : QEnt) (colour : Nat) : Bool := admitTests s e colour && ringFits s e

/-- Fill in where a leaf lies: class, service node, port node, egress class. -/
def placeEnt (s : State) (e : QEnt) : QEnt :=
  { e with cls := leafClass s e.leaf, node := svcOf s e.leaf, port := leafPort s e.leaf, holder := egressClass (leafPort s e.leaf) }

/-- Count a refusal: the leaf's REFUSED field, and the port node and class, or the ingress port (R242, R253). -/
def countRefusal (e : QEnt) (ingress : Nat) (s : State) : State :=
  let s := inc (Tab.leaf e.leaf) LEAF.REFUSED s
  if leafHasPort s e.leaf then countOutcome e.port e.cls ocRefused s
  else if ingress ≤ 10 then inc 0x100 (SCH0.REFUSED_UNQUEUED ingress) s else s

/-- Accept a frame: its deadline, its bytes, the Express meter's charge, its descriptors (R18, R240, R243, R462). -/
def accept (e : QEnt) (s : State) : State :=
  let id := rd s (held 0x100) HSCH.NEXT_ID
  let e := { e with id := id, deadline := startOf e.acc + boundCycles s e.port e.cls e.leaf }
  let s := wr (held 0x100) HSCH.NEXT_ID (id + 1) (addBytes e s)
  let s := if e.cls = clsExpress then
      wrS (Tab.leaf e.leaf) LEAF.C_BUCKET
        (rdS s (Tab.leaf e.leaf) LEAF.C_BUCKET - ((queueLen e.port e.length : Int) + portOverhead s e.port)) s
    else s
  let s := if e.ring = 0 then s
    else wr (held 0xB1) (HHST.RSVD (e.ring - 1)) (rd s (held 0xB1) (HHST.RSVD (e.ring - 1)) + e.ndesc) s
  { s with leafq := s.leafq ++ [e] }

/-- Decide an enqueue of a frame whose place is filled in; answers whether the frame was accepted. -/
def takePlaced (e : QEnt) (colour ingress : Nat) (s : State) : State × Bool :=
  if admits s e colour then (accept e s, true)
  else
    let s := if admitTests s e colour ∧ !ringFits s e then noRoom (e.ring - 1) s else s
    (countRefusal e ingress s, false)

/-- Decide an enqueue at a commit. -/
def takeIn (e : QEnt) (colour ingress : Nat) (s : State) : State × Bool := takePlaced (placeEnt s e) colour ingress s

/-- An empty queue entry to fill in. -/
def blankEnt : QEnt :=
  { id := 0, handle := emptyHandle, bytes := [], length := 0, leaf := 0, cls := 0, node := 0, port := 0, colour := 0,
    remark := ⟨false, false, 0⟩, acc := 0, deadline := 0, ext := 0, contained := false, holder := 0, inFlight := 0,
    sentBytes := 0, shortfall := false, xgemPort := 0, seqTag := 0, twoStep := false, tsId := 0, resumed := false, ring := 0,
    entType := 0, prefixBytes := [], ndesc := 0, ruleId := 0, tsValid := false, tsResumed := false, tsNs := 0, tsSec := 0,
    handle2 := 0, payOffset := 0, payLen := 0, arcEntry := 0, arcSeg := 0 }

end Sys2Proof.Machine
end

