-- ==== Sys2Proof/Machine/Choose.lean ====
section
/-! DEFINITION. Choosing the next frame of a port node (R233 to R235): the tiers, the Roundabout of ties, deficit round robin. -/

namespace Sys2Proof.Machine

/-- The head frames under a port node: the oldest of each leaf that is not in flight. -/
def headsOf (s : State) (keep : QEnt → Bool) : List QEnt :=
  (s.leafq.filter (fun e => e.inFlight = 0 ∧ keep e)).foldl
    (fun a e => if a.any (fun x => x.leaf = e.leaf) then a else a ++ [e]) []

/-- The Roundabout rank of a leaf for core cycle c of the block: service, subscriber, leaf. -/
def tieRank (e : QEnt) (c : Nat) : Nat :=
  let svc := (e.node + 1024 - c % 1024) % 1024
  let sub := (subOf e.leaf + 16384 - c % 16384) % 16384
  let leaf := (e.leaf % 8 + 8 - c % 8) % 8
  (svc * 16384 + sub) * 8 + leaf

/-- A key: first `a`, then `b` below 2 ^ 27. -/
def withTie (a b : Nat) : Nat := a * 2 ^ 27 + b

/-- Precedence: Express 0, Assured 1, Standard 2. -/
def precedence (cls : Nat) : Nat := 2 - min 2 cls

/-- U of a port node's transmit queue in units of 1/1 000 cycle: 1.2 µs + Z_t + 3 × M × 8 / C (Table 8.4). -/
def urgency (s : State) (port txq : Nat) : Nat :=
  let c := max 1 (portC s port)
  1492992 + portZ800 s port txq * 1244160 / 800000 + 24 * portM s port * 1244160 * 1000 / c

/-- Tier 1: Express, by acceptance time. -/
def pickExpress (l : List QEnt) (c : Nat) : Option QEnt :=
  minBy (fun e => withTie e.acc (tieRank e c)) (l.filter (fun e => e.cls = clsExpress))

/-- Tier 2 among frames already found urgent: earliest deadline, Assured before Standard, acceptance time. -/
def pickUrgent (l : List QEnt) (c : Nat) : Option QEnt :=
  minBy (fun e => withTie ((e.deadline * 4 + precedence e.cls) * 2 ^ 64 + e.acc) (tieRank e c)) l

/-- Tier 3: committed-eligible, Assured before Standard, acceptance time. -/
def pickCommitted (s : State) (l : List QEnt) (c : Nat) : Option QEnt :=
  minBy (fun e => withTie (precedence e.cls * 2 ^ 64 + e.acc) (tieRank e c))
    (l.filter (fun e => e.cls ≠ clsExpress ∧ committedEligible s e.leaf))

/-! ## Tier 4: deficit round robin -/

/-- A child of a round: its record page, its quantum, the length of its candidate. -/
structure Child where
  page : Nat
  index : Nat
  quantum : Nat
  len : Nat
  ent : QEnt

/-- Visits, each adding the quantum, after which a child's deficit covers its candidate. -/
def visitsNeeded (s : State) (x : Child) : Nat := (x.len - rd s x.page HNODE.DEFICIT + x.quantum - 1) / max 1 x.quantum

/-- Distance of a child from the one last visited, 1 for the next; the last visited itself comes after all others. -/
def visitOrder (last n i : Nat) : Nat := if last = 0 then i + 1 else (i + n - last) % n + 1

/-- One level: the child that the round reaches first with enough deficit, and the deficits and the place it leaves behind. A child
already visited with enough left goes on. -/
def drrPick (parent n : Nat) (l : List Child) (s : State) : Option (QEnt × State) :=
  let last := rd s parent HNODE.VISIT
  let l := l.filter (fun x => x.quantum ≠ 0)
  match l.find? (fun x => x.index + 1 = last ∧ x.len ≤ rd s x.page HNODE.DEFICIT) with
  | some x => some (x.ent, wr x.page HNODE.DEFICIT (rd s x.page HNODE.DEFICIT - x.len) s)
  | none =>
    let key := fun (x : Child) => max 1 (visitsNeeded s x) * (n + 1) + visitOrder last n x.index
    match minBy key l with
    | none => none
    | some w =>
      let rounds := max 1 (visitsNeeded s w)
      let t := forEach l (fun x t =>
        let v := if visitOrder last n x.index ≤ visitOrder last n w.index then rounds else rounds - 1
        wr x.page HNODE.DEFICIT (rd t x.page HNODE.DEFICIT + v * x.quantum) t) s
      some (w.ent, wr parent HNODE.VISIT (w.index + 1) (wr w.page HNODE.DEFICIT (rd t w.page HNODE.DEFICIT - w.len) t))

/-- The candidates below a subscriber, its leaves; below a service, its subscribers; below a port, its services. -/
def pickLeaf (sub : Nat) (l : List QEnt) (s : State) : Option (QEnt × State) :=
  drrPick (Tab.sub sub) 8 ((l.filter (fun e => subOf e.leaf = sub)).map (fun e =>
    ⟨Tab.leaf e.leaf, e.leaf % 8, 64 * rd s (Tab.leaf e.leaf) LEAF.WEIGHT, e.length, e⟩)) s

def pickSub (svc : Nat) (l : List QEnt) (s : State) : Option (QEnt × State) :=
  let subs := ((l.filter (fun e => e.node = svc)).map (fun e => subOf e.leaf)).eraseDups
  let cand := subs.filterMap (fun n => (pickLeaf n l s).map (fun r =>
    (⟨Tab.sub n, n, 64 * rd s (Tab.sub n) NODE.WEIGHT, r.1.length, r.1⟩ : Child)))
  match drrPick (Tab.svc svc) 16384 cand s with
  | none => none
  | some (e, t) => pickLeaf (subOf e.leaf) l t

def pickSvc (port : Nat) (l : List QEnt) (s : State) : Option (QEnt × State) :=
  let svcs := ((l.filter (fun e => e.port = port)).map (·.node)).eraseDups
  let cand := svcs.filterMap (fun v => (pickSub v l s).map (fun r =>
    (⟨Tab.svc v, v, 64 * rd s (Tab.svc v) NODE.WEIGHT, r.1.length, r.1⟩ : Child)))
  match drrPick (Tab.pnode port) 1024 cand s with
  | none => none
  | some (e, t) => pickSub e.node l t

/-- Give back the deficits charged for a frame (R235). -/
def creditDeficit (e : QEnt) (len : Nat) (s : State) : State :=
  forEach [Tab.leaf e.leaf, Tab.sub (subOf e.leaf)] (fun pg s => wr pg HNODE.DEFICIT (rd s pg HNODE.DEFICIT + len) s) s

/-! ## A transmit opportunity -/

/-- Room for one more frame of a transmit queue: one waiting at most (R234). -/
def macRoom (s : State) (port txq : Nat) : Bool := !(s.macs.any (fun x => x.port = port ∧ x.txq = txq ∧ !x.started))

/-- A queue is held by pause now. -/
def isHeld (s : State) (p t : Nat) : Bool := bit (rd s (0x80 + p) KRB.PORT_STATUS_HELD) t

/-- A head frame of a port node is ready: on a Kerb port, its queue is open, not held, and has room (R233). -/
def frameReady (s : State) (e : QEnt) : Bool :=
  if e.port < 8 then
    let t := leafTxq s e.leaf
    (!gateOn s e.port || bit (rd s 0x102 (SCH2.OPEN_NOW e.port)) t) && !isHeld s e.port t && macRoom s e.port t && kerbUp s e.port
  else true

/-- A head frame is urgent at core cycle `at_` (Table 8.4). -/
def isUrgent (s : State) (at_ : Nat) (e : QEnt) : Bool :=
  decide (e.deadline * 1000 ≤ at_ * 1000 + urgency s e.port (leafTxq s e.leaf))

/-- What the tiers of Table 8.4 give at cycle `c` of the block: the frame, whether it was urgent, and the state of the round robin. -/
def chooseFrame (l : List QEnt) (c : Nat) (urgent : QEnt → Bool) (excess : List QEnt → State → Option (QEnt × State)) (s : State) :
    Option (QEnt × Bool × State) :=
  match pickExpress l c with
  | some e => some (e, false, s)
  | none =>
    match pickUrgent (l.filter urgent) c with
    | some e => some (e, true, s)
    | none =>
      match pickCommitted s l c with
      | some e => some (e, false, s)
      | none => (excess (l.filter (fun e => peakEligible s e.leaf)) s).map (fun (e, t) => (e, false, t))

/-- An urgent frame that departs while a committed shaper on its path is in debt overrides it (R28, R233). -/
def countOverride (e : QEnt) (s : State) : State :=
  if committedDebt s e.leaf then
    raiseFirst 0x100 SCH0.evDEADLINE_OVERRIDE [e.port, e.leaf] (inc 0x100 (SCH0.PORT_DEADLINE_OVERRIDE e.port) s)
  else s

/-- Departure: the shapers are charged and the bytes leave the queues (R224, R243). -/
def depart (e : QEnt) (s : State) : State := removeQueued e (subBytes e (chargeShapers e.leaf e.cls e.port e.length s))

/-- The frame that a port node's opportunity at cycle `c` of the block in progress serves. -/
def chooseAt (port c : Nat) (s : State) : Option (QEnt × Bool × State) :=
  let l := (headsOf s (fun e => e.port = port)).filter (frameReady s)
  chooseFrame l c (isUrgent s (startOf (now s) + c)) (pickSvc port) s

/-- Serve the first ready tier and hand the frame to the MAC (R233, R234). -/
def transmitOpportunity (port c : Nat) (s : State) : State :=
  match chooseAt port c s with
  | none => s
  | some (e, urgent, t) =>
    let t := if urgent then countOverride e t else t
    let txq := leafTxq t e.leaf
    let t := depart e t
    { t with macs := t.macs ++ [⟨port, txq, e, decide (port = 10), startOf (now s) + c⟩] }

end Sys2Proof.Machine
end

