-- ==== Sys2Proof/Machine/Clock.lean ====
section
/-! DEFINITION. The local clock's counter (R323 to R325): the time of day in 2⁻⁴⁰ ns at an instant. -/

namespace Sys2Proof.Machine

/-- The time of day wraps with its 48-bit seconds. -/
def timeWrap : Nat := 2 ^ 48 * 1000000000 * 2 ^ 40

/-- `INCR` in effect. -/
def incr (s : State) : Nat := rd64 s 0x30 TIM0.INCR_LO TIM0.INCR_HI

/-- The time of day `cyc` core cycles into the block: `INCR` for each counter cycle, 4 core cycles, since the anchor (R324). -/
def curTime (s : State) (cyc : Nat) : Nat :=
  (rd s (held 0x30) HTIM.ANCHOR_T + ((startOf (now s) + cyc) / 4 - rd s (held 0x30) HTIM.ANCHOR_C / 4) * incr s) % timeWrap

/-- The same in whole ns. -/
def curNs (s : State) (cyc : Nat) : Nat := curTime s cyc / 2 ^ 40

/-- Set the time of day at an instant. -/
def setTime (t cyc : Nat) (s : State) : State :=
  wr (held 0x30) HTIM.ANCHOR_C (startOf (now s) + cyc) (wr (held 0x30) HTIM.ANCHOR_T (t % timeWrap) s)

/-- An instant of the time of day, in ns, has come: it falls on the nearest counter cycle. -/
def reached (s : State) (cyc ns : Nat) : Bool := decide (ns * 2 ^ 40 ≤ curTime s cyc + incr s / 2)

/-- Two blocks after the boundary now, in 2⁻⁴⁰ ns: 3 906.25 ns (R231, R349). -/
def twoBlocksOn (s : State) : Nat := curTime s 0 + 390625 * 2 ^ 40 / 100

/-- A start lies at least 2 blocks after the boundary now. -/
def startsLater (s : State) (start : Nat) : Bool := decide (twoBlocksOn s ≤ start * 2 ^ 40)

/-- The smallest n with start + n × period at least 2 blocks after the boundary now. -/
def firstMultiple (s : State) (start period : Nat) : Nat :=
  (twoBlocksOn s - start * 2 ^ 40 + (max 1 period * 2 ^ 40 - 1)) / (max 1 period * 2 ^ 40)

/-- Show the time and the number of the tick that starts now (R325). -/
def showTick (s : State) : State :=
  let t := curNs s 0
  let sec := t / 1000000000
  let s := wr 0x30 TIM0.TICK_NS (t % 1000000000) (wr64 0x30 TIM0.TICK_SEC_LO TIM0.TICK_SEC_HI sec s)
  wr64 0x30 TIM0.TICK_NUM_LO TIM0.TICK_NUM_HI s.clock.tick s

/-- Show the time of a cycle in `NOW_NS` and its companions (R325). -/
def showNow (cyc : Nat) (s : State) : State :=
  let t := curTime s cyc
  let ns := t / 2 ^ 40
  let s := wr 0x30 TIM0.NOW_NS (ns % 1000000000) (wr64 0x30 TIM0.NOW_SEC_LO TIM0.NOW_SEC_HI (ns / 1000000000) s)
  wr 0x30 TIM0.NOW_FRAC (t % 2 ^ 40 / 2 ^ 8) s

end Sys2Proof.Machine
end

