-- ==== Sys2Proof/Machine/Gates.lean ====
section
/-! DEFINITION. Gate lists (R227 to R232) and the node table commands of page 0x101 (R256). -/

namespace Sys2Proof.Machine

/-! ## Gate lists -/

/-- GATES and INTERVAL of entry i of a port's oper list. -/
def operGates (s : State) (p i : Nat) : Nat := rd s (Tab.gateOper p i) GENT.GATES
def operInterval (s : State) (p i : Nat) : Nat := rd s (Tab.gateOper p i) GENT.INTERVAL

def operLen (s : State) (p : Nat) : Nat := max 1 (rd s (held 0x100) (HSCH.OPER_LEN p))
def operCycle (s : State) (p : Nat) : Nat := max 1 (rd s (held 0x100) (HSCH.OPER_CYCLE p))

/-- Offset in the cycle at which entry i ends: the last entry holds to the end of the cycle, where the list is cut (R227). -/
def entryEnd (s : State) (p i : Nat) : Nat :=
  if operLen s p ≤ i + 1 then operCycle s p
  else min (operCycle s p) (((List.range (i + 1)).map (operInterval s p)).sum)

/-- The entries of one cycle with the offsets at which they end. -/
def cycleEntries (s : State) (p : Nat) : List (Nat × Nat) :=
  let ends := (List.range (operLen s p)).foldl
    (fun (a : Nat × List (Nat × Nat)) i =>
      let e := if operLen s p ≤ i + 1 then operCycle s p else min (operCycle s p) (a.1 + operInterval s p i)
      (e, a.2 ++ [(operGates s p i, e)])) (0, [])
  ends.2

/-- The entries of one cycle of the list that is pending. -/
def pendingEntries (s : State) (p : Nat) : List (Nat × Nat) :=
  let len := max 1 (rd s (held 0x100) (HSCH.NEW_LEN p))
  let cycle := max 1 (rd s (held 0x100) (HSCH.NEW_CYCLE p))
  ((List.range len).foldl
    (fun (a : Nat × List (Nat × Nat)) i =>
      let e := if len ≤ i + 1 then cycle else min cycle (a.1 + rd s (Tab.gateAdmin p i) GENT.INTERVAL)
      (e, a.2 ++ [(rd s (Tab.gateAdmin p i) GENT.GATES, e)])) (0, [])).2

/-- The same with durations. -/
def durations : Nat → List (Nat × Nat) → List (Nat × Nat)
  | _, [] => []
  | a, (g, e) :: r => (g, e - a) :: durations e r

/-- Open time of gate t in a cycle. -/
def openTime (l : List (Nat × Nat)) (t : Nat) : Nat := ((l.filter (fun x => bit x.1 t)).map (·.2)).sum

/-- The longest continuous closed time, over two cycles, at most one cycle; an entry cut off at the cycle's end takes no time (R229). -/
def closedTime (l : List (Nat × Nat)) (t cycle : Nat) : Nat :=
  let step := fun (a : Nat × Nat) (x : Nat × Nat) => if x.2 = 0 then a else if bit x.1 t then (0, a.2) else (a.1 + x.2, max a.2 (a.1 + x.2))
  min cycle ((l ++ l).foldl step (0, 0)).2

/-- OPEN_NOW: the gates of the entry in effect; every gate open while gates are off or no list has started (R227). -/
def showGates (p : Nat) (s : State) : State :=
  wr 0x102 (SCH2.OPEN_NOW p) (if gateOn s p then operGates s p (rd s (held 0x100) (HSCH.ENTRY p)) else 0xFF) s

/-- A list is pending. -/
def gatePending (s : State) (p : Nat) : Bool := rdb s 0x102 (SCH2.CONFIG_CHANGE p)

/-- The instant, in ns of the time of day, at which the entry in effect ends. -/
def entryOver (s : State) (p : Nat) : Nat :=
  if rdb s (held 0x100) (HSCH.WAIT p) then rd s (held 0x100) (HSCH.CYCLE_START p)
  else rd s (held 0x100) (HSCH.CYCLE_START p) + entryEnd s p (rd s (held 0x100) (HSCH.ENTRY p))

/-- Walk the cycle's entries from offset `a` on for the first at which gate t is closed: its start. -/
def firstClosed (t : Nat) : Nat → List (Nat × Nat) → Option Nat
  | _, [] => none
  | a, (g, e) :: r => if a < e ∧ !bit g t then some a else firstClosed t (max a e) r

/-- The next closing of gate t by the oper list of port p, in ns of the time of day, from the entry in effect on; none when it never closes. -/
def operClose (s : State) (p t : Nat) : Option Nat :=
  if !gateOn s p then none
  else
    let l := cycleEntries s p
    let e := rd s (held 0x100) (HSCH.ENTRY p)
    let start := rd s (held 0x100) (HSCH.CYCLE_START p)
    if rdb s (held 0x100) (HSCH.WAIT p) then (firstClosed t 0 l).map (· + start)
    else
      match firstClosed t (entryEnd s p e) (l.drop (e + 1)) with
      | some a => some (start + a)
      | none => (firstClosed t 0 l).map (fun a => start + operCycle s p + a)

/-- The next closing of gate t of port p: by the oper list before a pending list starts, else by that list (R228, R231). -/
def nextClose (s : State) (p t : Nat) : Option Nat :=
  let own := operClose s p t
  match rd s (held 0x100) (HSCH.START_NS p) with
  | 0 => own
  | st + 1 =>
    if !rdb s 0x102 (SCH2.GATE_CTRL_EN p) then own
    else
      let new := (firstClosed t 0 (pendingEntries s p)).map (· + st)
      match own with
      | some a => if a < st then some a else new
      | none => new

/-- Why a CONFIG_CHANGE is refused; 0 when it is not (R230). -/
def gateReason (s : State) (p : Nat) : Nat :=
  let n := rd s 0x102 (SCH2.GATE_CTRL_LIST_LEN p)
  let c := rd s 0x102 (SCH2.CYCLE_TIME p)
  let l := List.range (min n 256)
  if gatePending s p then 1
  else if rd s 0x100 (SCH0.PORT_E_RES p) ≠ 0 ∧ (List.range 256).any (fun i => !bit (rd s (Tab.gateAdmin p i) GENT.GATES) 7) then 2
  else if n = 0 ∨ 256 < n ∨ c < 1000 ∨ 1000000000 < c then 3
  else if l.any (fun i => rd s (Tab.gateAdmin p i) GENT.INTERVAL < 32) then 4
  else 0

/-- Base time in ns. -/
def gateBase (s : State) (p : Nat) : Nat :=
  rd s 0x102 (SCH2.BASE_NS p) + (rd s 0x102 (SCH2.BASE_SEC_LO p) + rd s 0x102 (SCH2.BASE_SEC_HI p) * 2 ^ 32) * 1000000000

/-- The commit of page 0x102 fixes the start instant of a requested list (R231). -/
def gateCommit (p : Nat) (s : State) : State :=
  if !gatePending s p ∨ rd s (held 0x100) (HSCH.START_NS p) ≠ 0 then s
  else
    let base := gateBase s p
    let c := rd s 0x102 (SCH2.CYCLE_TIME p)
    let s := wr (held 0x100) (HSCH.NEW_LEN p) (rd s 0x102 (SCH2.GATE_CTRL_LIST_LEN p)) (wr (held 0x100) (HSCH.NEW_CYCLE p) c s)
    let s := wr (held 0x100) (HSCH.NEW_BASE p) base s
    if startsLater s base then wr (held 0x100) (HSCH.START_NS p) (base + 1) s
    else
      let n := firstMultiple s base c
      let s := wr (held 0x100) (HSCH.START_NS p) (base + n * c + 1) s
      raise 0x102 SCH2.evGATE_BASE_MOVED [p, n] (wr 0x102 (SCH2.GATE_STATUS_MOVED_N p) (min 0xFFFF n) s)

/-- The admin list becomes the oper list, all 256 entries of it (R229, R231). -/
def gateListStart (p : Nat) (s : State) : State :=
  let len := rd s (held 0x100) (HSCH.NEW_LEN p)
  let start := rd s (held 0x100) (HSCH.START_NS p) - 1
  let s := forEach (List.range 256) (fun i s =>
    wr (Tab.gateOper p i) GENT.GATES (rd s (Tab.gateAdmin p i) GENT.GATES)
      (wr (Tab.gateOper p i) GENT.INTERVAL (rd s (Tab.gateAdmin p i) GENT.INTERVAL) s)) s
  let s := wr (held 0x100) (HSCH.OPER_LEN p) len (wr (held 0x100) (HSCH.OPER_CYCLE p) (rd s (held 0x100) (HSCH.NEW_CYCLE p)) s)
  let s := wr (held 0x100) (HSCH.OPER_BASE p) (rd s (held 0x100) (HSCH.NEW_BASE p)) s
  let s := wr (held 0x100) (HSCH.CYCLE_START p) start (wr (held 0x100) (HSCH.START_NS p) 0 s)
  let s := wr (held 0x100) (HSCH.ENTRY p) 0 (wr (held 0x100) (HSCH.WAIT p) 0 (wr (held 0x100) (HSCH.OPER p) 1 s))
  let l := durations 0 (cycleEntries s p)
  let s := forEach (List.range 8) (fun t s =>
    wr (held 0x100) (HSCH.OPEN_NS p t) (openTime l t) (wr (held 0x100) (HSCH.Z_NS p t) (closedTime l t (operCycle s p)) s)) s
  raise 0x102 SCH2.evGATE_STARTED [p] (showGates p (wr 0x102 (SCH2.CONFIG_CHANGE p) 0 s))

/-- The next entry takes effect; after the cycle's end, the first of the next cycle. -/
def gateNext (p : Nat) (s : State) : State :=
  let e := rd s (held 0x100) (HSCH.ENTRY p)
  let s :=
    if rdb s (held 0x100) (HSCH.WAIT p) then wr (held 0x100) (HSCH.WAIT p) 0 (wr (held 0x100) (HSCH.ENTRY p) 0 s)
    else if operCycle s p ≤ entryEnd s p e then
      wr (held 0x100) (HSCH.ENTRY p) 0
        (wr (held 0x100) (HSCH.CYCLE_START p) (rd s (held 0x100) (HSCH.CYCLE_START p) + operCycle s p) s)
    else wr (held 0x100) (HSCH.ENTRY p) (e + 1) s
  showGates p s

/-- After a step of the clock: the first instant of base + n × period after the time now. -/
def instantAfter (s : State) (base period : Nat) : Nat :=
  let t := curNs s 0
  if t < base then base else base + ((t - base) / max 1 period + 1) * max 1 period

/-- A step of the local clock ends the cycle in progress (R232); a pending start passed over moves on likewise. -/
def gateStep (p : Nat) (s : State) : State :=
  let s := if rdb s (held 0x100) (HSCH.OPER p) then
      wr (held 0x100) (HSCH.WAIT p) 1
        (wr (held 0x100) (HSCH.CYCLE_START p) (instantAfter s (rd s (held 0x100) (HSCH.OPER_BASE p)) (operCycle s p)) s)
    else s
  let st := rd s (held 0x100) (HSCH.START_NS p)
  if st ≠ 0 ∧ st - 1 ≤ curNs s 0 then
    wr (held 0x100) (HSCH.START_NS p) (instantAfter s (st - 1) (rd s (held 0x100) (HSCH.NEW_CYCLE p)) + 1) s
  else s

/-- CONFIG_CHANGE of Kerb port `port`: pending from now, or refused (R230, R231). -/
def execGateConfigChange (port : Nat) (s : State) : Host.Outcome State Fault Refusal :=
  settle s (onlyIf (port < 8) (hostCmd 0x102 (0x214 + 0x20 * port) (fun s =>
    let r := gateReason s port
    let s := wr 0x102 (SCH2.GATE_STATUS_RESULT port) r s
    if r = 0 then wr 0x102 (SCH2.CONFIG_CHANGE port) 1 s else raise 0x102 SCH2.evGATE_REFUSED [port, r] s)) s)

/-- The start instant of a pending list has come, `cyc` cycles into the block (R231). -/
def execGateListStart (port cyc : Nat) (s : State) : Host.Outcome State Fault Refusal :=
  settle s (onlyIf (port < 8 ∧ rd s (held 0x100) (HSCH.START_NS port) ≠ 0
    ∧ reached s cyc (rd s (held 0x100) (HSCH.START_NS port) - 1)) (gateListStart port) s)

/-- The entry in effect of a port's oper list is over (R227). -/
def execGateEntryChange (port cyc : Nat) (s : State) : Host.Outcome State Fault Refusal :=
  settle s (onlyIf (port < 8 ∧ rdb s (held 0x100) (HSCH.OPER port) ∧ reached s cyc (entryOver s port)) (gateNext port) s)

/-- The gate entries that TBL_ADDR of page 0x102 names. -/
def gateAdminPage (s : State) : Nat := Tab.gateAdmin (rd s 0x102 SCH2.TBL_ADDR_PORT) (rd s 0x102 SCH2.TBL_ADDR_ENTRY)
def gateOperPage (s : State) : Nat := Tab.gateOper (rd s 0x102 SCH2.TBL_ADDR_PORT) (rd s 0x102 SCH2.TBL_ADDR_ENTRY)

/-- TBL_CMD 1: read an admin entry (R227). -/
def execGateReadAdmin (s : State) : Host.Outcome State Fault Refusal :=
  settle s (tblCmd 0x102 (fun s => tblResult 0x102 0 (readRecord 0x102 (gateAdminPage s) GENT.fields s)) s)

/-- TBL_CMD 2: write an admin entry, refused while a change is pending (R230). -/
def execGateWriteAdmin (s : State) : Host.Outcome State Fault Refusal :=
  settle s (tblCmd 0x102 (fun s =>
    if gatePending s (rd s 0x102 SCH2.TBL_ADDR_PORT) then tblResult 0x102 1 s
    else
      let pg := gateAdminPage s
      tblResult 0x102 0 (wr pg GENT.GATES (dataField s 0x102 GENT.GATES) (wr pg GENT.INTERVAL (dataField s 0x102 GENT.INTERVAL) s))) s)

/-- TBL_CMD 3: read an oper entry (R227). -/
def execGateReadOper (s : State) : Host.Outcome State Fault Refusal :=
  settle s (tblCmd 0x102 (fun s => tblResult 0x102 0 (readRecord 0x102 (gateOperPage s) GENT.fields s)) s)

/-! ## Node table commands -/

/-- The record page and the fields that TBL_ADDR of page 0x101 names; none for an index out of range for the level (Table 8.8). -/
def nodeRecord (s : State) : Option (Nat × List Field) :=
  let i := rd s 0x101 SCH1.TBL_ADDR_INDEX
  match rd s 0x101 SCH1.TBL_ADDR_LEVEL with
  | 0 => some (Tab.leaf i, LEAF.fields)
  | 1 => if i < 16384 then some (Tab.sub i, NODE.fields) else none
  | 2 => if i < 1024 then some (Tab.svc i, NODE.fields) else none
  | _ => if i < 12 then some (Tab.pnode i,
      [NODE.ENABLE, NODE.WEIGHT, NODE.Q_EXPRESS, NODE.Q_ASSURED, NODE.Q_STANDARD] ++ PNODE.fields i) else none

/-- Read the node named. -/
def nodeRead (s : State) : State :=
  match nodeRecord s with
  | some (pg, fs) => tblResult 0x101 0 (readRecord 0x101 pg fs s)
  | none => tblResult 0x101 1 s

/-- TBL_CMD 1: read a node (R256). -/
def execNodeRead (s : State) : Host.Outcome State Fault Refusal := settle s (tblCmd 0x101 nodeRead s)

/-- TBL_CMD 2: write a node to staging (R256). -/
def execNodeWrite (s : State) : Host.Outcome State Fault Refusal :=
  settle s (tblCmd 0x101 (fun s =>
    match nodeRecord s with
    | some (pg, fs) => tblResult 0x101 0 (stageRecord 0x101 pg fs s)
    | none => tblResult 0x101 1 s) s)

/-- TBL_CMD 3: read a node and clear its REFUSED field (R242). -/
def execNodeReadClearRefused (s : State) : Host.Outcome State Fault Refusal :=
  settle s (tblCmd 0x101 (fun s =>
    let t := nodeRead s
    if rd s 0x101 SCH1.TBL_ADDR_LEVEL = 0 then wr (Tab.leaf (rd s 0x101 SCH1.TBL_ADDR_INDEX)) LEAF.REFUSED 0 t else t) s)

end Sys2Proof.Machine
end

