-- ==== Sys2Proof/Machine/Router.lean ====
section
/-! DEFINITION. The mailbox router of the Mews (R394 to R398): message headers, delivery, returns, handles. -/

namespace Sys2Proof.Machine

/-- Fields of a message header (Table 13.7). -/
def msgDest (m : Msg) : Nat := m.header % 256
def msgEpoch (m : Msg) : Nat := bitsOf m.header 8 16
def msgSrc (m : Msg) : Nat := bitsOf m.header 24 8
def msgLen (m : Msg) : Nat := bitsOf m.header 32 3
def msgHasHandle (m : Msg) : Bool := bit m.header 37

/-- STATUS of a returned message. -/
def msgStatus (st : Nat) (m : Msg) : Msg := { m with header := m.header - bitsOf m.header 35 2 * 2 ^ 35 + st * 2 ^ 35 }

/-- A header from its fields. -/
def msgHeader (dest epoch src len tag : Nat) (handle : Bool) : Nat :=
  dest + epoch * 2 ^ 8 + src * 2 ^ 24 + len * 2 ^ 32 + b2n handle * 2 ^ 37 + tag * 2 ^ 40

/-- SRC_ROLE of hardware, and its TAGs. -/
def hwRole : Nat := 0xFF
def tagCapture : Nat := 1
def tagTrib : Nat := 2
def tagMeasurement : Nat := 3
def tagFeed : Nat := 4
def tagFrame : Nat := 5

/-- STATE of a role (Table 13.12). -/
def roleUnassigned : Nat := 0
def roleRunning : Nat := 1
def roleRestarting : Nat := 2
def roleStopped : Nat := 3
def roleHeld : Nat := 4

def roleState (s : State) (r : Nat) : Nat := rd s (Tab.role r) ROLE.STATE
def roleEpoch (s : State) (r : Nat) : Nat := rd s (Tab.role r) ROLE.EPOCH
def roleRxOf (s : State) (r : Nat) : List Msg := Map.get [] s.roleRx r
def roleRetOf (s : State) (r : Nat) : List Msg := Map.get [] s.roleRet r
def roleHandlesOf (s : State) (r : Nat) : List Nat := Map.get [] s.roleHandles r
def setRx (r : Nat) (l : List Msg) (s : State) : State := { s with roleRx := Map.put [] s.roleRx r l }
def setRet (r : Nat) (l : List Msg) (s : State) : State := { s with roleRet := Map.put [] s.roleRet r l }
def setHandles (r : Nat) (l : List Nat) (s : State) : State :=
  wr (Tab.role r) ROLE.HANDLES l.length { s with roleHandles := Map.put [] s.roleHandles r l }

/-- A role that takes messages: RUNNING; role 0x00 is Yunager's mailbox. -/
def roleTakes (s : State) (r : Nat) : Bool := r = 0 || roleState s r = roleRunning

/-- What delivery finds: 0 delivered, 1 STALE, 2 FULL, 3 NO_ROLE (R395). -/
def deliveryStatus (s : State) (m : Msg) : Nat :=
  let r := msgDest m
  if !roleTakes s r then 3
  else if r ≠ 0 ∧ msgEpoch m ≠ roleEpoch s r then 1
  else if 16 ≤ (roleRxOf s r).length ∨ (msgHasHandle m ∧ 64 ≤ (roleHandlesOf s r).length) then 2
  else 0

/-- The handle a message carries is given up: DEC(MEWS) (R398). -/
def dropHandle (m : Msg) (s : State) : State := if msgHasHandle m then refDo opDec 9 clMews (m.words.getD 0 0 % 2 ^ 32) 0 s else s

/-- Return a message to its sender's return queue, or discard it; a handle it still holds is given up (R395, R398). -/
def returnMsg (st : Nat) (holds : Bool) (m : Msg) (s : State) : State :=
  let s := if holds then dropHandle m s else s
  let r := msgSrc m
  if r = hwRole then inc 0x1C0 MEW0.STALE_HW s
  else if 8 ≤ (roleRetOf s r).length then inc 0x1C0 MEW0.RETURN_LOST s
  else setRet r (roleRetOf s r ++ [msgStatus st m]) s

/-- The counter of a delivery status. -/
def countDelivery (st : Nat) (s : State) : State :=
  inc 0x1C0 (if st = 0 then MEW0.MSG_DELIVERED else if st = 1 then MEW0.MSG_STALE else if st = 2 then MEW0.MSG_FULL else MEW0.MSG_NO_ROLE) s

/-- Append a message to a role's receive queue. -/
def acceptMsg (m : Msg) (s : State) : State :=
  let r := msgDest m
  let s := setRx r (roleRxOf s r ++ [m]) s
  if msgHasHandle m then setHandles r (roleHandlesOf s r ++ [m.words.getD 0 0 % 2 ^ 32]) s else s

/-- Deliver a message, or return it (R395). -/
def routeMsg (m : Msg) (s : State) : State :=
  let st := deliveryStatus s m
  let s := countDelivery st s
  if st = 0 then acceptMsg m s else returnMsg st true m s

/-- A message of a hardware sender under the role's current epoch. -/
def hwMsg (s : State) (dest tag : Nat) (handle : Bool) (words : List Nat) : Msg :=
  ⟨msgHeader dest (roleEpoch s dest) hwRole words.length tag handle, words⟩

/-- Requesters of the router (Table 13.8); cores 0 to 7 come first. -/
def reqFibre (p : Nat) : Nat := 10 + p
def reqClock : Nat := 12
def reqTram : Nat := 13
def reqPower : Nat := 14

/-- Hardware sends a message, as requester `q` of the router. -/
def sendHw (q dest tag : Nat) (words : List Nat) (s : State) : State :=
  { s with msgQueue := s.msgQueue ++ [(q, hwMsg s dest tag false words)] }

/-- The requester that the router serves next in core cycle `c` of a block: the first with a message waiting, in a ranking that starts at
index c mod 15, behind the `k` indices that the cycle has been through (R396). -/
def routerNext (s : State) (c k : Nat) : Option Nat :=
  (((List.range 15).map (fun i => (c + i) % 15)).drop k).find? (fun q => s.msgQueue.any (fun x => x.1 = q))

/-- Indices of the ranking that the router has been through in this cycle, and messages it has delivered in it. -/
def routerGone (s : State) (at_ : Nat) : Nat × Nat :=
  if rd s (held 0x1C0) HMEW.ROUTE_AT = at_ + 1 then (rd s (held 0x1C0) HMEW.ROUTE_GONE, rd s (held 0x1C0) HMEW.ROUTE_COUNT) else (0, 0)

/-- The router serves requester `q`: its oldest message is delivered or returned (R395, R396). -/
def routeFrom (q c at_ : Nat) (s : State) : State :=
  match s.msgQueue.find? (fun x => x.1 = q) with
  | none => s
  | some x =>
    let n := (routerGone s at_).2
    let s := wr (held 0x1C0) HMEW.ROUTE_AT (at_ + 1) (wr (held 0x1C0) HMEW.ROUTE_GONE ((q + 15 - c % 15) % 15 + 1)
      (wr (held 0x1C0) HMEW.ROUTE_COUNT (n + 1) s))
    routeMsg x.2 { s with msgQueue := dropFirst (fun y => y.1 = q) s.msgQueue }

/-- A STEER_MEWS result at commit: the FRAME message, answered whether it can be delivered (R397). -/
def steerMsg (s : State) (role handle : Nat) : Msg := hwMsg s role tagFrame true [handle]
def canSteer (s : State) (role handle : Nat) : Bool := deliveryStatus s (steerMsg s role handle) = 0

/-- Give up every handle of a role, and those in its waiting messages (R398). -/
def freeHandles (r : Nat) (s : State) : State :=
  setHandles r [] (forEach (roleHandlesOf s r) (fun h s => refDo opDec 9 clMews h 0 s) s)

/-- At a change of epoch every message in the old receive queue returns STALE; the handle of one was given up already where the role has
stopped since (R395, R398). -/
def flushRx (r : Nat) (s : State) : State :=
  let q := roleRxOf s r
  let hs := roleHandlesOf s r
  forEach q (fun m s => returnMsg 1 (decide ((m.words.getD 0 0 % 2 ^ 32) ∈ hs)) m (countDelivery 1 s))
    (setRx r [] (setHandles r ((roleHandlesOf s r).filter (fun h => !(q.any (fun m => msgHasHandle m ∧ m.words.getD 0 0 % 2 ^ 32 = h)))) s))

/-- The next epoch: 0 is never used (R390). -/
def nextEpoch (e : Nat) : Nat := if e = 0xFFFF then 1 else e + 1

end Sys2Proof.Machine
end

