-- ==== Sys2Proof/Machine/Time.lean ====
section
/-! DEFINITION. The local clock, its sources, steps, time-stamps, the Lamplighter and the capture inputs (chapter 11). -/

namespace Sys2Proof.Machine

/-- Time states (Table 11.1). -/
def clkUnset : Nat := 0
def clkLocking : Nat := 1
def clkLocked : Nat := 2
def clkHoldover : Nat := 3
def clkUncertain : Nat := 4

def clkState (s : State) : Nat := rd s 0x30 TIM0.CLK_STATUS_STATE

/-- `SERVO_MODE` 0: hardware correction. -/
def hwServo (s : State) : Bool := !rdb s 0x30 TIM0.CLK_CTRL_SERVO_MODE

/-- The timing port (TP_STATUS.CURRENT). -/
def timingPort (s : State) : Nat := rd s 0x40 FB0.TP_STATUS_CURRENT

/-- `CLOCK_CLASS` for the present state (R348), `TOD_VALID`, and the bound of LOCKED (Table 11.1). -/
def clkShow (s : State) : State :=
  let s := if clkState s = clkLocked then wr 0x30 TIM0.ERR_BOUND_NS (rd s 0x30 TIM0.LOCK_NS) s else s
  let m := rd s 0x30 TIM0.CLASS_MAP
  let within := decide (rd s 0x30 TIM0.ERR_BOUND_NS ≤ rd s 0x30 TIM0.HOLD_SPEC_NS)
  let c := if clkState s = clkLocked then bitsOf m 0 8
    else if clkState s = clkHoldover then (if within then bitsOf m 8 8 else bitsOf m 16 8) else bitsOf m 24 8
  wr 0x30 TIM0.CLK_STATUS_CLOCK_CLASS c
    (wr 0x30 TIM0.CLK_STATUS_TOD_VALID (rd s (held 0x30) (HTIM.TOD_SET (timingPort s))) s)

/-- Enter a time state with a bound; STATE_CHANGE when the state changes (R326). -/
def enterClk (new bound : Nat) (s : State) : State :=
  let old := clkState s
  let s := clkShow (wr 0x30 TIM0.ERR_BOUND_NS bound (wr 0x30 TIM0.CLK_STATUS_STATE new s))
  if new = old then s else raise 0x30 TIM0.evSTATE_CHANGE [old, new, rd s 0x30 TIM0.ERR_BOUND_NS] s

/-- |θ| of the last measurement. -/
def lastTheta (s : State) : Nat := (rdS s 0x30 TIM0.OFFSET_NS).natAbs

/-- The source in use is lost: the reference PLL in HOLDOVER or no ToD reference for the timing port; PPS_IN lost (R326). -/
def sourceLost (s : State) : Bool :=
  if rdb s 0x30 TIM0.CLK_CTRL_SOURCE then rdb s 0x31 (TIM1.CAP_STATUS_LOST 0)
  else decide (rd s 0x40 FB0.TP_STATUS_PLL_STATE = 2) || !rdb s (held 0x30) (HTIM.TOD_SET (timingPort s))

/-- Discard the fibre measurement in progress. -/
def dropMeasurement (s : State) : State := wr (held 0x30) HTIM.SUM 0 (wr (held 0x30) HTIM.COUNT 0 s)

/-- Follow the source as it is lost and as it returns (Table 11.1, R327). -/
def followSource (s : State) : State :=
  let was := rdb s (held 0x30) HTIM.LOST
  let is := sourceLost s
  let s := clkShow s
  if is = was then s
  else if is then
    let s := dropMeasurement (wr (held 0x30) HTIM.LOST_TICKS 0 (wr (held 0x30) HTIM.LOST 1 s))
    if clkState s = clkLocking ∨ clkState s = clkLocked then enterClk clkHoldover (rd s 0x30 TIM0.ERR_BOUND_NS) s else s
  else
    let s := wr (held 0x30) HTIM.LOST 0 s
    if clkState s = clkHoldover then enterClk clkLocking (lastTheta s) s else s

/-- Once per tick while the source is lost: 50 ppb of the tick for 80 000 ticks, then `HOLD_PPB`; a tick is 125 000 ns (R327). -/
def growBound (s : State) : State :=
  if rdb s (held 0x30) HTIM.LOST ∧ clkState s ≠ clkUnset then
    let n := rd s (held 0x30) HTIM.LOST_TICKS
    let ppb := if n < 80000 then 50 else rd s 0x30 TIM0.HOLD_PPB
    let f := rd s (held 0x30) HTIM.BOUND_FRAC + ppb
    let s := wr (held 0x30) HTIM.LOST_TICKS (min (2 ^ 32 - 1) (n + 1)) (wr (held 0x30) HTIM.BOUND_FRAC (f % 8000) s)
    clkShow (wr 0x30 TIM0.ERR_BOUND_NS (min 0xFFFFFFFE (rd s 0x30 TIM0.ERR_BOUND_NS + f / 8000)) s)
  else s

/-! ## Steps (R334 to R336) -/

/-- The limit of a step's magnitude; none in UNSET (R334). -/
def stepLimit (s : State) : Option Nat :=
  if clkState s = clkUnset then none
  else if clkState s = clkUncertain then some (max (rd s 0x30 TIM0.TIME_JUMP_LIMIT) (rd s 0x30 TIM0.ERR_BOUND_NS))
  else some (rd s 0x30 TIM0.TIME_JUMP_LIMIT)

def stepAllowed (s : State) (v : Int) : Bool := match stepLimit s with | none => true | some l => decide (v.natAbs ≤ l)

def stepResult (r : Nat) (s : State) : State := wr 0x30 TIM0.STEP_CMD_STEP_RESULT r s

/-- Schedule step request i: 0 the accepted pending step, 1 servo, 2 software. -/
def scheduleStep (i : Nat) (v : Int) (cyc : Nat) (s : State) : State :=
  wr (held 0x30) (HTIM.STEP_AT i) (startOf (now s) + cyc + 1) (wrS (held 0x30) (HTIM.STEP i) v s)

/-- The pending step. -/
def pendingStep (s : State) : Int := toSigned 64 (rd64 s 0x30 TIM0.PENDING_STEP_LO TIM0.PENDING_STEP_HI)

/-- A refused step becomes the pending one; its first value is kept while it stays within the limit of it (R334, R335). -/
def refuseStep (v : Int) (s : State) : State :=
  let near := rdb s 0x30 TIM0.CLK_STATUS_STEP_PENDING
    && decide ((v - rdS s (held 0x30) HTIM.FIRST).natAbs ≤ rd s 0x30 TIM0.TIME_JUMP_LIMIT)
  let s := if near then s else wr (held 0x30) HTIM.FIRST_TICK s.clock.tick (wrS (held 0x30) HTIM.FIRST v s)
  let e := ofSigned 64 v
  let s := wr64 0x30 TIM0.PENDING_STEP_LO TIM0.PENDING_STEP_HI e (wr 0x30 TIM0.CLK_STATUS_STEP_PENDING 1 s)
  raise 0x30 TIM0.evJUMP_REFUSED [e, e / 2 ^ 32] (inc 0x30 TIM0.JUMPS_REFUSED s)

/-- A step request from the servo or from software (R334). -/
def requestStep (i : Nat) (v : Int) (cyc : Nat) (s : State) : State :=
  if stepAllowed s v then
    let s := scheduleStep i v cyc s
    if i = 2 then stepResult 1 s else s
  else
    let s := refuseStep v s
    if i = 2 then stepResult 4 s else s

/-- A request is due at the tick boundary now: it lies at least 2 blocks back. -/
def stepDue (s : State) (i : Nat) : Bool :=
  let at_ := rd s (held 0x30) (HTIM.STEP_AT i)
  decide (at_ ≠ 0) && decide (at_ - 1 + 2 * blockCycles ≤ startOf (now s))

/-- The pending step is accepted: scheduled whatever its size (R335). -/
def acceptPending (cyc : Nat) (s : State) : State := scheduleStep 0 (pendingStep s) cyc s

/-- Move the time of day by a step of origin i, with all that a step touches (R336, Table 11.2). -/
def applyStep (i : Nat) (s : State) : State :=
  let v := rdS s (held 0x30) (HTIM.STEP i)
  let t := ((curTime s 0 : Int) + v * 2 ^ 40) % (timeWrap : Int)
  let s := setTime t.toNat 0 s
  let s := wr 0x30 TIM0.CLK_STATUS_STEP_PENDING 0 (inc 0x30 TIM0.STEPS s)
  let s := wr64 0x30 TIM0.PENDING_STEP_LO TIM0.PENDING_STEP_HI 0 s
  let e := ofSigned 64 v
  let s := raise 0x30 TIM0.evSTEP_APPLIED [e, e / 2 ^ 32, i] s
  let s := dropMeasurement s
  let s := if clkState s = clkUnset then enterClk clkLocking (lastTheta s) s else s
  showTick (forEach (List.range 8) gateStep s)

/-! ## Measurements (R330, R332, R333) -/

/-- The nominal increment (R324). -/
def nominalIncr : Nat := 0x03370B96A674

/-- A number rounded to the nearest multiple: n / d. -/
def roundDiv (n : Int) (d : Nat) : Int := (2 * n + d) / (2 * (d : Int))

/-- The PI filter's output a in ppb, clamped; I and θ are kept in 2⁻¹⁶ ns. -/
def servoOut (s : State) (theta integral : Int) : Int :=
  let lim : Int := rd s 0x30 TIM0.MAX_ADJ_PPB
  max (-lim) (min lim ((rd s 0x30 TIM0.SERVO_KP * theta + integral) / 2 ^ 32))

/-- nominal × (1 − a × 10⁻⁹), rounded to nearest. -/
def incrFor (a : Int) : Nat := (roundDiv ((nominalIncr : Int) * (1000000000 - a)) 1000000000).toNat

/-- The servo runs as role TIME_SERVO, 0x08, while that role runs (R333). -/
def servoRuns (s : State) : Bool := decide (rd s (Tab.role 8) ROLE.STATE = 1)

/-- The servo acts on a measurement (R333); `INCR` changes at the next block boundary. -/
def servoAct (theta : Int) (cyc : Nat) (s : State) : State :=
  let s := if hwServo s then sendHw reqClock 8 tagMeasurement [ofSigned 48 theta] s else s
  if !hwServo s ∨ !servoRuns s then s
  else if (rd s 0x30 TIM0.STEP_THRESH_NS : Int) * 65536 < theta.natAbs then requestStep 1 (-(theta / 65536)) cyc s
  else
    let i := rdS s (held 0x30) HTIM.INTEGRAL + rd s 0x30 TIM0.SERVO_KI * theta
    let a := servoOut s theta i
    wr (held 0x30) HTIM.NEW_INCR (incrFor a + 1) (wrS 0x30 TIM0.ADJ_PPB a (wrS (held 0x30) HTIM.INTEGRAL i s))

/-- Lock and unlock are judged on each measurement (R332). -/
def judgeLock (theta : Int) (s : State) : State :=
  let lock := rd s 0x30 TIM0.LOCK_NS * 65536
  let inL := if theta.natAbs ≤ lock then min 16 (rd s (held 0x30) HTIM.IN_LOCK + 1) else 0
  let outL := if 4 * lock < theta.natAbs then min 4 (rd s (held 0x30) HTIM.OUT_LOCK + 1) else 0
  let s := wr (held 0x30) HTIM.IN_LOCK inL (wr (held 0x30) HTIM.OUT_LOCK outL s)
  if inL = 16 ∧ (clkState s = clkLocking ∨ (clkState s = clkUncertain ∧ hwServo s)) then
    enterClk clkLocked (rd s 0x30 TIM0.LOCK_NS) s
  else if outL = 4 ∧ clkState s = clkLocked then enterClk clkLocking (lastTheta s) s
  else if clkState s = clkLocking then clkShow (wr 0x30 TIM0.ERR_BOUND_NS (lastTheta s) s)
  else s

/-- A measurement of θ, in 2⁻¹⁶ ns, is shown, sampled, judged and sent to the servo. -/
def measured (theta : Int) (cyc : Nat) (s : State) : State :=
  let s := wrS 0x30 TIM0.OFFSET_NS (theta / 65536) s
  servoAct theta cyc (judgeLock theta (monSample 0x03 0 (theta / 65536) s))

/-- Bit periods of the upstream rate in ns: EqD × 10⁵ / (rate in 10 kb/s) (R329). -/
def eqdNs (s : State) (p : Nat) : Int :=
  let e : Int := rd s (0x42 + 0x20 * p) FB2.EQD
  let r := rd s (0x43 + 0x20 * p) FB3.US_STATUS_RATE
  if r = 0 then e * 100000 / 1244160 else if r = 1 then e * 100000 / 2488320 else e * 100000 / 4976640

/-- D of a fibre port in 2⁻¹⁶ ns (R329). -/
def fibreDelay (s : State) (p : Nat) : Int :=
  ((rd s 0x30 (if p = 0 then TIM0.TEQD_A else TIM0.TEQD_B) : Int) - eqdNs s p - 35000) * rd s 0x30 TIM0.TOD_ASYM

/-- θ of one PSBd of superframe `m` on the timing port, latched `cyc` cycles into the block, in 2⁻¹⁶ ns (R330). -/
def psbdTheta (s : State) (m cyc : Nat) : Int :=
  let p := timingPort s
  let t : Int := rd s (held 0x30) (HTIM.TOD_T p)
  ((curTime s cyc / 2 ^ 24 : Nat) : Int)
    - ((t + ((m : Int) - rd s (held 0x30) (HTIM.TOD_N p)) * 125000) * 65536 + fibreDelay s p)

/-- A PSBd in SYNC on the timing port joins the measurement in progress, one per tick (R330). -/
def latchPsbd (m cyc : Nat) (s : State) : State :=
  if rdb s 0x30 TIM0.CLK_CTRL_SOURCE ∨ rdb s (held 0x30) HTIM.LOST then s
  else
    let s := wrS (held 0x30) HTIM.SUM (rdS s (held 0x30) HTIM.SUM + psbdTheta s m cyc) s
    wr (held 0x30) HTIM.LAST_PSBD (s.clock.tick + 1) (wr (held 0x30) HTIM.COUNT (rd s (held 0x30) HTIM.COUNT + 1) s)

/-- `SERVO_TICKS`, 0 applied as 1. -/
def servoTicks (s : State) : Nat := max 1 (rd s 0x30 TIM0.SERVO_TICKS)

/-! ## Time-stamps (R342 to R347) -/

def secOf (ns : Nat) : Nat := ns / 1000000000 % 2 ^ 48
def nsOf (ns : Nat) : Nat := ns % 1000000000

/-- The time of day in 2⁻⁴⁰ ns at an instant, corrected by picoseconds (R343). -/
def stampTime (s : State) (cyc : Nat) (ps : Int) : Nat :=
  (((curTime s cyc : Int) + ps * 2 ^ 40 / 1000) % (timeWrap : Int)).toNat

/-- The head entry of port p's transmit queue shows in its registers. -/
def txtsShow (p : Nat) (s : State) : State :=
  let q := s.txts.filter (fun x => x.port = p)
  let s := wr 0x32 (TIM2.TXTS_STATUS_COUNT p) q.length s
  match q.head? with
  | some x =>
    let s := wr 0x32 (TIM2.TXTS_STATUS_HEAD_VALID p) 1 (wrb 0x32 (TIM2.TXTS_STATUS_RESUMED p) x.resumed s)
    let s := wr 0x32 (TIM2.TXTS_ID p) x.id (wr 0x32 (TIM2.TXTS_NS p) x.ns s)
    wr 0x32 (TIM2.TXTS_SEC_LO p) x.sec (wr 0x32 (TIM2.TXTS_SEC_HI p) (x.sec / 2 ^ 32) s)
  | none =>
    let s := wr 0x32 (TIM2.TXTS_STATUS_HEAD_VALID p) 0 (wr 0x32 (TIM2.TXTS_STATUS_RESUMED p) 0 s)
    let s := wr 0x32 (TIM2.TXTS_ID p) 0xFFFF (wr 0x32 (TIM2.TXTS_NS p) 0 s)
    wr 0x32 (TIM2.TXTS_SEC_LO p) 0 (wr 0x32 (TIM2.TXTS_SEC_HI p) 0 s)

/-- An entry joins a port's transmit queue of 32, or is dropped (R346). -/
def pushTxts (p id t : Nat) (resumed : Bool) (s : State) : State :=
  if (s.txts.filter (fun x => x.port = p)).length < 32 then
    let ns := t / 2 ^ 40
    txtsShow p { s with txts := s.txts ++ [⟨p, id, nsOf ns, secOf ns, resumed⟩] }
  else
    raiseFirst 0x32 TIM2.evTXTS_OVERFLOW [p] (wr 0x32 (TIM2.TXTS_STATUS_TXTS_OVF p) 1 (inc 0x32 (TIM2.TXTS_DROPPED p) s))

/-- The head entry of capture input i shows in its registers. -/
def capShow (i : Nat) (s : State) : State :=
  let q := s.caps.filter (fun x => x.port = i)
  let x := q.head?.getD ⟨i, 0, 0, 0, false⟩
  let s := wr 0x31 (TIM1.CAP_STATUS_COUNT i) q.length (wr 0x31 (TIM1.CAP_NS i) x.ns s)
  wr 0x31 (TIM1.CAP_SEC_LO i) x.sec (wr 0x31 (TIM1.CAP_SEC_HI i) (x.sec / 2 ^ 32) s)

/-- An entry joins a capture queue of 8, or is dropped (R351). -/
def pushCap (i ns : Nat) (s : State) : State :=
  if (s.caps.filter (fun x => x.port = i)).length < 8 then
    capShow i { s with caps := s.caps ++ [⟨i, 0, nsOf ns, secOf ns, false⟩] }
  else raiseFirst 0x31 TIM1.evCAP_OVF [i] (wr 0x31 (TIM1.CAP_STATUS_OVF i) 1 (inc 0x31 (TIM1.DROPPED i) s))

/-! ## The Lamplighter (R349, R350) -/

def lampStart (s : State) (n : Nat) : Nat :=
  rd s 0x31 (TIM1.START_NS n) + (rd s 0x31 (TIM1.START_SEC_LO n) + rd s 0x31 (TIM1.START_SEC_HI n) * 2 ^ 32) * 1000000000

/-- MODE, 3 applied as 0. -/
def lampMode (s : State) (n : Nat) : Nat := let m := rd s 0x31 (TIM1.LAMP_CTRL_MODE n); if m = 3 then 0 else m

/-- `WIDTH` and `PERIOD` in range. -/
def lampRange (s : State) (n : Nat) : Bool :=
  decide (64 ≤ rd s 0x31 (TIM1.PERIOD_NS n)) && decide (8 ≤ rd s 0x31 (TIM1.WIDTH_NS n))
    && decide (rd s 0x31 (TIM1.WIDTH_NS n) < rd s 0x31 (TIM1.PERIOD_NS n))

/-- Set an output running from an instant. -/
def lampRun (n start next result : Nat) (s : State) : State :=
  let s := wr (held 0x30) (HTIM.L_RUN n) (lampMode s n) (wr (held 0x30) (HTIM.L_PERIOD n) (rd s 0x31 (TIM1.PERIOD_NS n)) s)
  let s := wr (held 0x30) (HTIM.L_WIDTH n) (rd s 0x31 (TIM1.WIDTH_NS n)) (wr (held 0x30) (HTIM.L_START n) start s)
  wr 0x31 (TIM1.LAMP_CTRL_RESULT n) result (wr (held 0x30) (HTIM.L_NEXT n) next s)

/-- An arm refused (R349). -/
def lampRefuse (n : Nat) (s : State) : State := raise 0x31 TIM1.evLAMP_REFUSED [n] (wr 0x31 (TIM1.LAMP_CTRL_RESULT n) 3 s)

/-- ARM is taken at a block boundary (R349). -/
def lampTake (n : Nat) (s : State) : State :=
  if !rdb s (held 0x30) (HTIM.L_ARM n) then s
  else
    let s := wr 0x31 (TIM1.LAMP_CTRL_ARM n) 0 (wr (held 0x30) (HTIM.L_ARM n) 0 s)
    let start := lampStart s n
    if lampMode s n = 0 then wr 0x31 (TIM1.LAMP_CTRL_RESULT n) 0 (wr (held 0x30) (HTIM.L_END n) 0 (wr (held 0x30) (HTIM.L_RUN n) 0 s))
    else if !lampRange s n then lampRefuse n s
    else if startsLater s start then lampRun n start start 1 s
    else if lampMode s n = 1 then lampRefuse n s
    else
      let k := firstMultiple s start (rd s 0x31 (TIM1.PERIOD_NS n))
      let s := lampRun n start (start + k * rd s 0x31 (TIM1.PERIOD_NS n)) 2 s
      raise 0x31 TIM1.evLAMP_MOVED [n, k] (wr 0x31 (TIM1.MOVED_N n) (min 0xFFFF k) s)

/-- A pulse may be given (R350). -/
def lampValid (s : State) (n : Nat) : Bool :=
  !rdb s 0x31 (TIM1.LAMP_CTRL_REQUIRE_VALID n) || decide (clkState s = clkLocked)
    || (decide (clkState s = clkHoldover) && decide (rd s 0x30 TIM0.ERR_BOUND_NS ≤ rd s 0x30 TIM0.HOLD_SPEC_NS))

/-- WIDTH in core cycles: the nearest count of local-clock cycles (R349). -/
def lampCycles (s : State) (n : Nat) : Nat := 4 * (roundDiv (rd s (held 0x30) (HTIM.L_WIDTH n) * 2 ^ 40 : Nat) (max 1 (incr s))).toNat

/-- The level of output n: active while a pulse runs, inactive in SLEEP and DEEP SLEEP; POLARITY 0 is active high (R349, R350). -/
def lampLevel (s : State) (n cyc : Nat) : Bool :=
  (s.clock.running && decide (startOf (now s) + cyc + 1 < rd s (held 0x30) (HTIM.L_END n))) != rdb s 0x31 (TIM1.LAMP_CTRL_POLARITY n)

/-- The pulse due on output n is given from `cyc`, or suppressed. -/
def lampPulse (n cyc : Nat) (s : State) : State :=
  let s := if lampValid s n then
      inc 0x31 (TIM1.PULSES n) (wr (held 0x30) (HTIM.L_END n) (startOf (now s) + cyc + lampCycles s n + 1) s)
    else inc 0x31 (TIM1.SUPPRESSED n) s
  if rd s (held 0x30) (HTIM.L_RUN n) = 1 then wr 0x31 (TIM1.LAMP_CTRL_RESULT n) 0 (wr (held 0x30) (HTIM.L_RUN n) 0 s)
  else wr (held 0x30) (HTIM.L_NEXT n) (rd s (held 0x30) (HTIM.L_NEXT n) + rd s (held 0x30) (HTIM.L_PERIOD n)) s

/-- A step or a wake moved the time to now: a periodic output goes on at its first instant after it, and repeats none; a one-shot
passed over fires, late (R350). -/
def lampStep (n : Nat) (s : State) : State :=
  let t := curNs s 0
  let run := rd s (held 0x30) (HTIM.L_RUN n)
  let next := rd s (held 0x30) (HTIM.L_NEXT n)
  if run = 0 ∨ t < next then s
  else if run = 1 then raise 0x31 TIM1.evLAMP_LATE [n] (lampPulse n 0 s)
  else wr (held 0x30) (HTIM.L_NEXT n) (next + ((t - next) / max 1 (rd s (held 0x30) (HTIM.L_PERIOD n)) + 1) * rd s (held 0x30) (HTIM.L_PERIOD n)) s

/-! ## Boundaries -/

/-- The time's share of a tick's start: the tick's time is shown, ToD references come into use, the bound grows, a measurement
without a PSBd in the last tick is discarded (R325, R327, R328, R330). -/
def timeTick (s : State) : State :=
  let s := showTick s
  let s := forEach [0, 1] (fun p s =>
    if rdb s (held 0x30) (HTIM.NEXT_SET p) then
      let s := wr (held 0x30) (HTIM.TOD_N p) (rd s (held 0x30) (HTIM.NEXT_N p)) s
      let s := wr (held 0x30) (HTIM.TOD_T p) (rd s (held 0x30) (HTIM.NEXT_T p)) s
      let s := wr (held 0x30) (HTIM.TOD_SET p) 1 (wr (held 0x30) (HTIM.NEXT_SET p) 0 s)
      if timingPort s = p then dropMeasurement s else s
    else s) s
  let s := if rd s (held 0x30) HTIM.COUNT ≠ 0 ∧ rd s (held 0x30) HTIM.LAST_PSBD ≠ s.clock.tick then dropMeasurement s else s
  growBound (followSource s)

/-- The time's share of a block boundary: a new `INCR`, and ARM (R333, R349). -/
def timeBlock (s : State) : State :=
  let n := rd s (held 0x30) HTIM.NEW_INCR
  let s := if n = 0 then s else wr (held 0x30) HTIM.NEW_INCR 0 (wr64 0x30 TIM0.INCR_LO TIM0.INCR_HI (n - 1) (setTime (curTime s 0) 0 s))
  forEach (List.range 4) lampTake s

/-! ## Commands -/

/-- A fibre measurement is complete: the mean of θ over `SERVO_TICKS` ticks (R330). -/
def execTimeMeasurement (cyc : Nat) (s : State) : Host.Outcome State Fault Refusal :=
  settle s (onlyIf (servoTicks s ≤ rd s (held 0x30) HTIM.COUNT ∧ !rdb s 0x30 TIM0.CLK_CTRL_SOURCE) (fun s =>
    measured (rdS s (held 0x30) HTIM.SUM / (max 1 (rd s (held 0x30) HTIM.COUNT) : Nat)) cyc (dropMeasurement s)) s)

/-- θ of an accepted PPS pulse captured at `l` (2⁻¹⁶ ns), and ARM used (R332). -/
def ppsTheta (s : State) (l : Int) : Int :=
  let d := l - rdS s 0x30 TIM0.PPS_DELAY_NS * 65536
  let sec : Int := 1000000000 * 65536
  let whole := if rdb s 0x30 TIM0.PPS_NEXT_SEC_HI_ARM then (rd64 s 0x30 TIM0.PPS_NEXT_SEC_LO TIM0.PPS_NEXT_SEC_HI : Int)
    else roundDiv d (1000000000 * 65536)
  d - whole * sec

/-- An edge passes its checks: stamped, queued; on PPS_IN it ends a loss and, as the source, gives a measurement (R351). -/
def acceptEdge (i cyc : Nat) (s : State) : State :=
  let s := wr (held 0x30) (HTIM.LAST_EDGE i) (startOf (now s) + cyc + 1) (inc 0x31 (TIM1.ACCEPTED i) s)
  let s := pushCap i (curNs s cyc) s
  if i ≠ 0 then s
  else
    let s := if rdb s 0x31 (TIM1.CAP_STATUS_LOST 0) then raise 0x31 TIM1.evPPS_LOST [0] (wr 0x31 (TIM1.CAP_STATUS_LOST 0) 0 s) else s
    if rdb s 0x30 TIM0.CLK_CTRL_SOURCE then
      let s := followSource s
      let theta := ppsTheta s (curTime s cyc / 2 ^ 24 : Nat)
      measured theta cyc (wr 0x30 TIM0.PPS_NEXT_SEC_HI_ARM 0 s)
    else s

/-- The edge comes less than MIN_TICKS after the last accepted one. -/
def edgeTooSoon (s : State) (i cyc : Nat) : Bool :=
  let last := rd s (held 0x30) (HTIM.LAST_EDGE i)
  decide (last ≠ 0) && decide (startOf (now s) + cyc < last - 1 + rd s 0x31 (TIM1.CAP_CTRL_MIN_TICKS i) * tickCycles)

/-- An edge at `cyc` of a pulse of `len` local-clock cycles on capture input `input` (0 PPS_IN, 1 CAP1): the edge that EDGE selects is taken,
while the clock that samples the input runs (R351). -/
def execCaptureEdge (input : Nat) (falling : Bool) (len cyc : Nat) (s : State) : Host.Outcome State Fault Refusal :=
  settle s (onlyIf (input < 2 ∧ s.clock.running ∧ rdb s 0x31 (TIM1.CAP_CTRL_EN input) ∧ falling = rdb s 0x31 (TIM1.CAP_CTRL_EDGE input)
      ∧ !rdb s 0x31 (TIM1.CAP_STATUS_STUCK input) ∧ 4 ≤ len) (fun s =>
    if edgeTooSoon s input cyc then raiseFirst 0x31 TIM1.evPPS_REJECT [input] (inc 0x31 (TIM1.REJECTED input) s)
    else acceptEdge input cyc s) s)

/-- An input has been held at its active level for `ticks` ticks, `STUCK_TICKS` or more, or once stuck has stayed inactive for 8 or more (R351). -/
def execInputStuck (input : Nat) (released : Bool) (ticks : Nat) (s : State) : Host.Outcome State Fault Refusal :=
  let need := if released then 8 else rd s 0x31 (TIM1.STUCK_TICKS input)
  settle s (onlyIf (input < 2 ∧ rdb s 0x31 (TIM1.CAP_STATUS_STUCK input) = released ∧ need ≤ ticks) (fun s =>
    raise 0x31 TIM1.evINPUT_STUCK [input, b2n (!released)] (wrb 0x31 (TIM1.CAP_STATUS_STUCK input) (!released) s)) s)

/-- PPS_IN has given no accepted pulse for 16 000 ticks (R351). -/
def execPpsLost (s : State) : Host.Outcome State Fault Refusal :=
  settle s (onlyIf (!rdb s 0x31 (TIM1.CAP_STATUS_LOST 0)
      ∧ rd s (held 0x30) (HTIM.LAST_EDGE 0) + 16000 * tickCycles ≤ startOf (now s) + 1) (fun s =>
    followSource (raise 0x31 TIM1.evPPS_LOST [1] (wr 0x31 (TIM1.CAP_STATUS_LOST 0) 1 s))) s)

/-- ARM: the next PPS pulse marks the second named (R332). -/
def execPpsArm (s : State) : Host.Outcome State Fault Refusal :=
  settle s (hostCmd 0x30 0x148 (wr 0x30 TIM0.PPS_NEXT_SEC_HI_ARM 1) s)

/-- At a tick boundary one scheduled step is applied, the accepted pending one first, then the servo's, then software's; the others
due are dropped (R334, R336). -/
def execStepApply (s : State) : Host.Outcome State Fault Refusal :=
  settle s (onlyIf s.clock.tickOpen (fun s =>
    match [0, 1, 2].filter (stepDue s) with
    | [] => s
    | i :: rest =>
      let t := forEach (List.range 4) lampStep (applyStep i s)
      let t := forEach (i :: rest) (fun j t => wr (held 0x30) (HTIM.STEP_AT j) 0 t) t
      if rest = [] then t else stepResult 5 t) s)

/-- SET: a step to the time in SET_SEC and SET_NS (R334). -/
def execStepSet (cyc : Nat) (s : State) : Host.Outcome State Fault Refusal :=
  settle s (hostCmd 0x30 0xB0 (fun s =>
    if hwServo s then stepResult 2 s
    else
      let target := rd s 0x30 TIM0.SET_NS + rd64 s 0x30 TIM0.SET_SEC_LO TIM0.SET_SEC_HI * 1000000000
      requestStep 2 ((target : Int) - curNs s cyc) cyc s) s)

/-- ADJUST: a step by ADJ_NS (R334). -/
def execStepAdjust (cyc : Nat) (s : State) : Host.Outcome State Fault Refusal :=
  settle s (hostCmd 0x30 0xB0 (fun s =>
    if hwServo s then stepResult 2 s
    else requestStep 2 (toSigned 64 (rd64 s 0x30 TIM0.ADJ_NS_LO TIM0.ADJ_NS_HI)) cyc s) s)

/-- ACCEPT (R335). -/
def execStepAccept (cyc : Nat) (s : State) : Host.Outcome State Fault Refusal :=
  settle s (hostCmd 0x30 0xB0 (fun s =>
    if rdb s 0x30 TIM0.CLK_STATUS_STEP_PENDING then stepResult 1 (acceptPending cyc s) else stepResult 3 s) s)

/-- DISCARD (R335). -/
def execStepDiscard (s : State) : Host.Outcome State Fault Refusal :=
  settle s (hostCmd 0x30 0xB0 (fun s =>
    if rdb s 0x30 TIM0.CLK_STATUS_STEP_PENDING then
      stepResult 0 (wr64 0x30 TIM0.PENDING_STEP_LO TIM0.PENDING_STEP_HI 0 (wr 0x30 TIM0.CLK_STATUS_STEP_PENDING 0 s))
    else stepResult 3 s) s)

/-- CLEAR_UNCERTAIN in software mode: LOCKED when the last |θ| is within `LOCK_NS`, else LOCKING (R341). -/
def execClearUncertain (s : State) : Host.Outcome State Fault Refusal :=
  settle s (hostCmd 0x30 0xB0 (fun s =>
    if hwServo s then stepResult 2 s
    else if clkState s ≠ clkUncertain then s
    else if lastTheta s ≤ rd s 0x30 TIM0.LOCK_NS then enterClk clkLocked (rd s 0x30 TIM0.LOCK_NS) s
    else enterClk clkLocking (lastTheta s) s) s)

/-- The pending step has stayed near its first value for `ACCEPT_HOLD` ticks (R335). -/
def execAutoAccept (s : State) : Host.Outcome State Fault Refusal :=
  settle s (onlyIf (rdb s 0x30 TIM0.CLK_CTRL_AUTO_ACCEPT ∧ rdb s 0x30 TIM0.CLK_STATUS_STEP_PENDING
      ∧ rd s (held 0x30) (HTIM.STEP_AT 0) = 0
      ∧ rd s (held 0x30) HTIM.FIRST_TICK + rd s 0x30 TIM0.ACCEPT_HOLD ≤ s.clock.tick) (acceptPending 0) s)

/-- TOD_CMD.LOAD, by host software or by Yunager: the port's reference from the next tick boundary, or refused (R328). -/
def execTodLoad (byHost : Bool) (s : State) : Host.Outcome State Fault Refusal :=
  settle s (hostCmdOf byHost 0x30 0x114 (fun s =>
    let p := rd s 0x30 TIM0.TOD_CMD_PORT
    let n := rd64 s 0x30 TIM0.TOD_SFC_LO TIM0.TOD_SFC_HI
    let sfc := rd64 s (0x40 + 0x20 * p) FB0.SFC_LO FB0.SFC_HI
    let r := if 2 ^ 30 < ((n : Int) - sfc).natAbs then 2
      else if rd s (0x40 + 0x20 * p) FB0.DS_STATUS_SYNC_STATE ≠ 2 then 3 else 1
    let s := raise 0x30 TIM0.evTOD_LOADED [p, r] (wr 0x30 TIM0.TOD_CMD_LOAD 0 (wr 0x30 TIM0.TOD_CMD_TOD_RESULT r s))
    if r = 1 then
      let t := rd s 0x30 TIM0.TOD_NS + rd64 s 0x30 TIM0.TOD_SEC_LO TIM0.TOD_SEC_HI * 1000000000
      wr (held 0x30) (HTIM.NEXT_SET p) 1 (wr (held 0x30) (HTIM.NEXT_T p) t (wr (held 0x30) (HTIM.NEXT_N p) n s))
    else s) s)

/-- TXTS_POP, by host software or by Yunager, removes the head entry of port `port` (R346). -/
def execTxtsPop (port : Nat) (byHost : Bool) (s : State) : Host.Outcome State Fault Refusal :=
  settle s (onlyIf (port < 8) (hostCmdOf byHost 0x32 (0x5C + 0x40 * port) (fun s =>
    txtsShow port { s with txts := dropFirst (fun x => x.port = port) s.txts })) s)

/-- CAP_POP removes the head entry of capture input `input` (R351). -/
def execCapPop (input : Nat) (s : State) : Host.Outcome State Fault Refusal :=
  settle s (onlyIf (input < 2) (hostCmd 0x31 (0x114 + 0x40 * input) (fun s =>
    capShow input { s with caps := dropFirst (fun x => x.port = input) s.caps })) s)

/-- ARM: the settings of output `output` are taken at the next block boundary (R349). -/
def execLampArm (output : Nat) (s : State) : Host.Outcome State Fault Refusal :=
  settle s (onlyIf (output < 4) (hostCmd 0x31 (0x40 + 0x20 * output) (fun s =>
    wr (held 0x30) (HTIM.L_ARM output) 1 (wr 0x31 (TIM1.LAMP_CTRL_ARM output) 1 s))) s)

/-- A pulse of output `output` falls due `cyc` cycles into the block (R349, R350). -/
def execLampPulse (output cyc : Nat) (s : State) : Host.Outcome State Fault Refusal :=
  settle s (onlyIf (output < 4 ∧ s.clock.running ∧ rd s (held 0x30) (HTIM.L_RUN output) ≠ 0
      ∧ reached s cyc (rd s (held 0x30) (HTIM.L_NEXT output))) (fun s =>
    lampPulse output cyc s) s)

end Sys2Proof.Machine
end

