-- ==== Sys2Proof/Machine/Parser.lean ====
section
/-! DEFINITION. The parser (R134 to R144): headers, limits, lengths, the status and flags, the catalogue fields. -/

namespace Sys2Proof.Machine

/-- What the parser is set to: a port's limits and the recognised numbers (Table 5.8). -/
structure ParseCfg where
  maxHeaders : Nat
  window : Nat
  tpidExtra : Nat
  tpidExtraOn : Bool
  vxlanPort : Nat
  gtpuPort : Nat
  deriving DecidableEq, Repr

/-- The parser's progress: position from the start of the parse, headers counted, the end set by the outermost valid length, whether
one was met, the end that the lengths met so far leave (R141), flags, fields extracted. -/
structure Parse where
  pos : Nat
  count : Nat
  bound : Nat
  bounded : Bool
  room : Nat
  flags : Nat
  status : Nat
  fields : Map Nat
  present : Nat
  tunnelId : Nat
  innerStart : Nat
  innerType : Nat
  /-- R-TAG sequence number + 1, 0 for no R-TAG; and the byte offset of its tag from the start of the frame. -/
  rtag : Nat
  rtagAt : Nat
  /-- Positions + 1 of the first IP header and of the GTP-U header. -/
  ipAt : Nat
  gtpAt : Nat
  deriving DecidableEq, Repr

/-- What comes next in the frame. -/
inductive Next where
  | eth
  | etype (t tags : Nat)
  | mpls (labels : Nat)
  | ip4
  | ip6
  | proto (p : Nat) (v6 : Bool)
  | vxlan
  | gtpu
  | gtpExt (typ : Nat)
  | stop
  deriving DecidableEq, Repr

/-- PARSE_FLAGS bits (Table 5.2). -/
def pfLenConflict : Nat := 0
def pfCsumBad : Nat := 1
def pfFragment : Nat := 2
def pfDepth : Nat := 3
def pfTunnel : Nat := 4
def pfEsp : Nat := 5
def pfRecirc : Nat := 6
def pfPadded : Nat := 7

def Parse.flag (b : Nat) (x : Parse) : Parse := { x with flags := setBit x.flags b true }
def Parse.fail (st : Nat) (x : Parse) : Next × Parse := (.stop, if st = 1 then { x with status := 1 }.flag pfDepth else { x with status := st })
def Parse.field (id v : Nat) (x : Parse) : Parse := { x with fields := Map.put 0 x.fields id v, present := setBit x.present id true }

/-- `n` bytes of `d` from an offset, as a number. -/
def fieldAt (d : List Byte) (off n : Nat) : Nat := beNat ((d.drop off).take n)

/-- Read a header of `n` bytes that counts `cost`: beyond the limits DEPTH_EXCEEDED, cut short by the frame's end MALFORMED, past the
outermost valid length the parse ends with LEN_CONFLICT (R138, R140, R141). -/
def withHeader (c : ParseCfg) (d : List Byte) (n cost : Nat) (x : Parse) (f : Parse → Next × Parse) : Next × Parse :=
  if c.maxHeaders < x.count + cost ∨ c.window < x.pos + n then x.fail 1
  else if d.length < x.pos + n then x.fail 2
  else if x.bound < x.pos + n then (.stop, x.flag pfLenConflict)
  else f { x with count := x.count + cost }

/-- Move past n bytes. -/
def Parse.skip (n : Nat) (x : Parse) : Parse := { x with pos := x.pos + n }

/-- A length field that claims `claimed` bytes from the header's start, of at least `least` (R140, R141): invalid lengths of IP make the
frame MALFORMED (none), of an inner header are replaced and flagged. The outermost valid one bounds the rest; one that claims more than
the lengths around it leave is flagged. -/
def takeLength (d : List Byte) (claimed least : Nat) (ip inner : Bool) (x : Parse) : Option Parse :=
  let here := d.length - x.pos
  if claimed < least ∨ here < claimed then
    if ip then none else some (if inner then x.flag pfLenConflict else x)
  else
    let x := if claimed < here then x.flag pfPadded else x
    let x := if x.bounded ∧ x.room < x.pos + claimed then x.flag pfLenConflict else x
    let x := { x with room := min x.room (x.pos + claimed) }
    some (if x.bounded then x else { x with bound := x.pos + claimed, bounded := true })

/-- A tunnel end: the first pass stops here (R137). -/
def Parse.tunnel (id typ : Nat) (x : Parse) : Next × Parse :=
  (.stop, { x with tunnelId := id, innerStart := x.pos, innerType := typ }.flag pfTunnel)

def isVlan (c : ParseCfg) (t : Nat) : Bool := t = 0x8100 || t = 0x88A8 || (c.tpidExtraOn && decide (t = c.tpidExtra))

/-- The one's complement sum of 16-bit words. -/
def onesSum (d : List Byte) : Nat → Nat
  | 0 => 0
  | n + 1 => let v := onesSum d n + fieldAt d (2 * n) 2; if 65535 < v then v - 65535 else v

def parseEth (c : ParseCfg) (d : List Byte) (x : Parse) : Next × Parse :=
  withHeader c d 14 1 x (fun x =>
    (.etype (fieldAt d (x.pos + 12) 2) 0, ((x.field 4 (fieldAt d x.pos 6)).field 5 (fieldAt d (x.pos + 6) 6)).skip 14))

def parseTag (c : ParseCfg) (d : List Byte) (tags : Nat) (x : Parse) : Next × Parse :=
  if tags = 4 then x.fail 1
  else withHeader c d 4 1 x (fun x =>
    let tci := fieldAt d x.pos 2
    let x := if tags = 0 then (x.field 6 (tci % 4096)).field 7 (tci / 4096)
      else if tags = 1 then (x.field 8 (tci % 4096)).field 9 (tci / 4096) else x
    (.etype (fieldAt d (x.pos + 2) 2) (tags + 1), x.skip 4))

def parseRtag (c : ParseCfg) (d : List Byte) (tags : Nat) (x : Parse) : Next × Parse :=
  withHeader c d 6 1 x (fun x =>
    let x := if x.rtag = 0 then { x with rtag := fieldAt d (x.pos + 2) 2 + 1, rtagAt := x.pos - 2 } else x
    (.etype (fieldAt d (x.pos + 4) 2) tags, x.skip 6))

def parsePppoe (c : ParseCfg) (d : List Byte) (x : Parse) : Next × Parse :=
  withHeader c d 8 1 x (fun x =>
    match takeLength d (fieldAt d (x.pos + 4) 2 + 6) 8 false false x with
    | none => x.fail 2
    | some x =>
      let p := fieldAt d (x.pos + 6) 2
      let x := ((x.field 16 (fieldAt d (x.pos + 2) 2)).field 17 p).skip 8
      (if p = 0x0021 then .ip4 else if p = 0x0057 then .ip6 else .stop, x))

/-- After the tags: the EtherType and the header it names (Table 5.1). -/
def parseEtype (c : ParseCfg) (d : List Byte) (t tags : Nat) (x : Parse) : Next × Parse :=
  if isVlan c t then parseTag c d tags x
  else if t = 0xF1C1 then parseRtag c d tags x
  else
    let x := (x.field 10 tags).field 11 t
    if t = 0x8847 ∨ t = 0x8848 then (.mpls 0, x)
    else if t = 0x8864 then parsePppoe c d x
    else if t = 0x0800 then (.ip4, x)
    else if t = 0x86DD then (.ip6, x)
    else (.stop, x)

/-- The header that a first nibble names: 4 IPv4, 6 IPv6. -/
def byNibble (d : List Byte) (x : Parse) : Next :=
  if x.bound ≤ x.pos then .stop
  else
    let n := fieldAt d x.pos 1 / 16
    if n = 4 then .ip4 else if n = 6 then .ip6 else .stop

def parseMpls (c : ParseCfg) (d : List Byte) (k : Nat) (x : Parse) : Next × Parse :=
  if k = 8 then x.fail 1
  else withHeader c d 4 1 x (fun x =>
    let v := fieldAt d x.pos 4
    let x := if k = 0 then (x.field 12 (v / 4096)).field 13 (bitsOf v 9 3) else if k = 1 then x.field 14 (v / 4096) else x
    let x := (x.field 15 (k + 1)).skip 4
    (if bit v 8 then byNibble d x else .mpls (k + 1), x))

def parseIp4 (c : ParseCfg) (d : List Byte) (x : Parse) : Next × Parse :=
  withHeader c d 20 1 x (fun x =>
    let ihl := 4 * (fieldAt d x.pos 1 % 16)
    if c.window < x.pos + ihl then x.fail 1
    else if ihl < 20 ∨ d.length < x.pos + ihl then x.fail 2
    else if x.bound < x.pos + ihl then (.stop, x.flag pfLenConflict)
    else
      match takeLength d (fieldAt d (x.pos + 2) 2) ihl true true x with
      | none => x.fail 2
      | some x =>
        let f := fieldAt d (x.pos + 6) 2
        let p := fieldAt d (x.pos + 9) 1
        let x := if onesSum (d.drop x.pos) (ihl / 2) = 65535 then x else x.flag pfCsumBad
        let x := if f % 16384 = 0 then x else x.flag pfFragment
        let x := ((x.field 18 (fieldAt d (x.pos + 12) 4)).field 19 (fieldAt d (x.pos + 16) 4)).field 23 (fieldAt d (x.pos + 1) 1)
        (if f % 8192 = 0 then .proto p false else .stop, (x.field 24 p).skip ihl))

/-- Next headers that name an IPv6 extension (Table 5.1). -/
def isExt (p : Nat) : Bool := p = 0 || p = 43 || p = 44 || p = 60 || p = 51

/-- IP_PROTO takes the final next header: an extension's number is not it. -/
def Parse.nextHeader (p : Nat) (x : Parse) : Parse := if isExt p then x else x.field 24 p

def parseIp6 (c : ParseCfg) (d : List Byte) (x : Parse) : Next × Parse :=
  withHeader c d 40 1 x (fun x =>
    let len := fieldAt d (x.pos + 4) 2
    if len = 0 then x.fail 2
    else
      match takeLength d (len + 40) 40 true true x with
      | none => x.fail 2
      | some x =>
        let v := fieldAt d x.pos 4
        let p := fieldAt d (x.pos + 6) 1
        let x := ((x.field 20 (fieldAt d (x.pos + 8) 16)).field 21 (fieldAt d (x.pos + 24) 16)).field 22 (v % 2 ^ 20)
        (.proto p true, ((x.field 23 (bitsOf v 20 8)).nextHeader p).skip 40))

/-- Bytes of an IPv6 extension header. -/
def extLen (d : List Byte) (p : Nat) (x : Parse) : Nat :=
  if p = 44 then 8 else if p = 51 then (fieldAt d (x.pos + 1) 1 + 2) * 4 else (fieldAt d (x.pos + 1) 1 + 1) * 8

def parseExt (c : ParseCfg) (d : List Byte) (p : Nat) (x : Parse) : Next × Parse :=
  withHeader c d (extLen d p x) 1 x (fun x =>
    let n := fieldAt d x.pos 1
    let off := fieldAt d (x.pos + 2) 2
    let frag := p = 44
    let last := frag ∧ off / 8 ≠ 0
    let x := (if last then x.field 24 n else x.nextHeader n).skip (extLen d p x)
    let x := if frag ∧ (off / 8 ≠ 0 ∨ off % 2 = 1) then x.flag pfFragment else x
    (if last then .stop else .proto n true, x))

def parseUdp (c : ParseCfg) (d : List Byte) (x : Parse) : Next × Parse :=
  withHeader c d 8 1 x (fun x =>
    match takeLength d (fieldAt d (x.pos + 4) 2) 8 false true x with
    | none => x.fail 2
    | some x =>
      let dp := fieldAt d (x.pos + 2) 2
      let x := ((x.field 25 (fieldAt d x.pos 2)).field 26 dp).skip 8
      (if dp = c.vxlanPort then .vxlan else if dp = c.gtpuPort then .gtpu else .stop, x))

/-- Bytes of a TCP header, by its data offset. -/
def tcpLen (d : List Byte) (x : Parse) : Nat := max 20 (4 * (fieldAt d (x.pos + 12) 1 / 16))

def parseTcp (c : ParseCfg) (d : List Byte) (x : Parse) : Next × Parse :=
  withHeader c d (tcpLen d x) 1 x (fun x =>
    (.stop, (((x.field 25 (fieldAt d x.pos 2)).field 26 (fieldAt d (x.pos + 2) 2)).field 27 (fieldAt d (x.pos + 13) 1)).skip (tcpLen d x)))

def parseSctp (c : ParseCfg) (d : List Byte) (x : Parse) : Next × Parse :=
  withHeader c d 12 1 x (fun x => (.stop, ((x.field 25 (fieldAt d x.pos 2)).field 26 (fieldAt d (x.pos + 2) 2)).skip 12))

/-- INNER_TYPE that a GRE protocol names; 0 for one that Table 5.1 does not list. -/
def greInner (p : Nat) : Nat := if p = 0x0800 then 2 else if p = 0x86DD then 3 else if p = 0x6558 then 1 else if p = 0x8847 then 4 else 0

/-- Bytes of a GRE header, by its flags. -/
def greLen (f : Nat) : Nat := 4 + 4 * (b2n (bit f 15) + b2n (bit f 13) + b2n (bit f 12))

def parseGre (c : ParseCfg) (d : List Byte) (x : Parse) : Next × Parse :=
  withHeader c d (greLen (fieldAt d x.pos 2)) 1 x (fun x =>
    let f := fieldAt d x.pos 2
    let key := if bit f 13 then fieldAt d (x.pos + 4 + 4 * b2n (bit f 15)) 4 else 0
    let t := greInner (fieldAt d (x.pos + 2) 2)
    let x := (if bit f 13 then x.field 30 key else x).skip (greLen f)
    if t = 0 then (.stop, { x with tunnelId := key }) else x.tunnel key t)

def parseVxlan (c : ParseCfg) (d : List Byte) (x : Parse) : Next × Parse :=
  withHeader c d 8 1 x (fun x =>
    let vni := fieldAt d (x.pos + 4) 3
    ((x.field 29 vni).skip 8).tunnel vni 1)

/-- The end of a GTP-U header: a tunnel end when the message type is 0xFF. -/
def gtpuEnd (d : List Byte) (x : Parse) : Next × Parse :=
  let typ := x.innerType
  if typ = 0xFF then
    x.tunnel (Map.get 0 x.fields 28) (match byNibble d x with | .ip4 => 2 | .ip6 => 3 | _ => 0)
  else (.stop, { x with innerType := 0, tunnelId := Map.get 0 x.fields 28 })

/-- GTP-U; the message type waits in `innerType` until the header's end. -/
def parseGtpu (c : ParseCfg) (d : List Byte) (x : Parse) : Next × Parse :=
  let opt := fieldAt d x.pos 1 % 8 ≠ 0
  let n := if opt then 12 else 8
  withHeader c d n 1 x (fun x =>
    match takeLength d (fieldAt d (x.pos + 2) 2 + 8) 8 false true x with
    | none => x.fail 2
    | some x =>
      let ext := if bit (fieldAt d x.pos 1) 2 then fieldAt d (x.pos + 11) 1 else 0
      let x := { (x.field 28 (fieldAt d (x.pos + 4) 4)) with innerType := fieldAt d (x.pos + 1) 1 }
      let x := x.skip n
      if ext ≠ 0 then (.gtpExt ext, x) else gtpuEnd d x)

def parseGtpExt (c : ParseCfg) (d : List Byte) (x : Parse) : Next × Parse :=
  let n := 4 * max 1 (fieldAt d x.pos 1)
  withHeader c d n 1 x (fun x =>
    let nx := fieldAt d (x.pos + n - 1) 1
    let x := x.skip n
    if nx ≠ 0 then (.gtpExt nx, x) else gtpuEnd d x)

/-- What an IP protocol number names (Table 5.1). -/
def parseProto (c : ParseCfg) (d : List Byte) (p : Nat) (v6 : Bool) (x : Parse) : Next × Parse :=
  if v6 ∧ isExt p then parseExt c d p x
  else if p = 50 then (.stop, x.flag pfEsp)
  else if p = 17 then parseUdp c d x
  else if p = 6 then parseTcp c d x
  else if p = 132 then parseSctp c d x
  else if p = 47 then parseGre c d x
  else if p = 4 then x.tunnel 0 2
  else if p = 41 then x.tunnel 0 3
  else (.stop, x)

/-- Note where the first IP header stands. -/
def Parse.atIp (x : Parse) : Parse := if x.ipAt = 0 then { x with ipAt := x.pos + 1 } else x

/-- One header. -/
def parseStep (c : ParseCfg) (d : List Byte) (n : Next) (x : Parse) : Next × Parse :=
  match n with
  | .eth => parseEth c d x
  | .etype t tags => parseEtype c d t tags x
  | .mpls k => parseMpls c d k x
  | .ip4 => parseIp4 c d x.atIp
  | .ip6 => parseIp6 c d x.atIp
  | .proto p v6 => parseProto c d p v6 x
  | .vxlan => parseVxlan c d x
  | .gtpu => parseGtpu c d { x with gtpAt := x.pos + 1 }
  | .gtpExt _ => parseGtpExt c d x
  | .stop => (.stop, x)

/-- Headers one after another; at most 12 count, and what counts nothing comes between. -/
def parseLoop (c : ParseCfg) (d : List Byte) : Nat → Next × Parse → Parse
  | 0, (_, x) => x
  | _ + 1, (.stop, x) => x
  | k + 1, (n, x) => parseLoop c d k (parseStep c d n x)

/-- Where a parse starts: Ethernet, or the inner type of a recirculated pass (Table 5.6). -/
def startNext (typ : Nat) : Next :=
  if typ = 2 then .ip4 else if typ = 3 then .ip6 else if typ = 4 then .mpls 0 else .eth

/-- Parse `d` from an inner start of type `typ`; on a recirculated pass RECIRCULATED is set (R143). -/
def parseFrame (c : ParseCfg) (d : List Byte) (typ tunnelId : Nat) (recirc : Bool) : Parse :=
  let x : Parse := ⟨0, 0, d.length, false, d.length, if recirc then 2 ^ pfRecirc else 0, 0, [], 0, tunnelId, 0, 0, 0, 0, 0, 0⟩
  parseLoop c d 40 (startNext typ, x)

/-- A port's parse profile (Table 5.8). -/
def parseCfg (s : State) (port : Nat) : ParseCfg :=
  let m := rd s 0xC0 (PRS.PROFILE_MAX_HEADERS port)
  let w := rd s 0xC0 (PRS.PROFILE_WINDOW port)
  ⟨if m = 0 ∨ 12 < m then 12 else m, 64 * (if w = 0 ∨ 8 < w then 8 else w), rd s 0xC0 PRS.TPID_EXTRA,
   rdb s 0xC0 PRS.TPID_EXTRA_EN, rd s 0xC0 PRS.VXLAN_PORT, rd s 0xC0 PRS.GTPU_PORT⟩

/-- A TPID that marks a VLAN tag, on every port alike (Table 5.1). -/
def isTag (s : State) (t : Nat) : Bool := isVlan (parseCfg s 0) t

/-- The headers of a frame with no port's limits: what the egress MACs look at (R252). -/
def parseWhole (s : State) (d : List Byte) : Parse := parseFrame { parseCfg s 0 with maxHeaders := 12, window := 512 } d 0 0 false

/-- The catalogue fields of Table 5.3 in order. -/
def catalogue (x : Parse) (port pass length : Nat) : List Nat :=
  (List.range 32).map (fun i =>
    if i = 0 then port else if i = 1 then pass else if i = 2 then x.tunnelId else if i = 3 then x.flags
    else if i = 31 then length else Map.get 0 x.fields i)

/-- The fields extracted, the metadata and FRAME_LENGTH always among them (R139). -/
def reachedMask (x : Parse) : Nat := x.present ||| 0x8000000F

/-- Widths of the catalogue (Table 5.3). -/
def fieldWidth (i : Nat) : Nat :=
  [4, 2, 32, 8, 48, 48, 12, 4, 12, 4, 3, 16, 20, 3, 20, 4, 16, 16, 32, 32, 128, 128, 20, 8, 8, 16, 16, 8, 32, 24, 32, 14].getD i 0

end Sys2Proof.Machine
end

