-- ==== Sys2Proof/Machine/Classify.lean ====
section
/-! DEFINITION. Rule-tree images, walks, banks and swaps, the default actions, the Cul-de-sac (R145 to R168). -/

namespace Sys2Proof.Machine

/-- An empty work item. -/
def blankItem : Item :=
  { handle := emptyHandle, source := 0, entry := 0, pass := 0, length := 0, status := 0, flags := 0, epoch := 0, bank := 0, kind := 0,
    actionIndex := 0, action := [], ruleId := 0, h := 0, flow := 0, direct := false, lookup := false, region := 0, key := 0, keyLen := 0, profile := 0,
    fields := [], present := 0, innerStart := 0, innerType := 0, tunnelId := 0, port := 0, queueSet := 0, stream := 0,
    fibre := 0, xgemPort := 0, cwyBuf := false, headUsed := 0, twoStep := false, tsId := 0, tsValid := false, tsResumed := false, tsNs := 0,
    tsSec := 0, counts := [], raises := [], aux := [] }

/-- The frame in a buffer. -/
def bufData (s : State) (h : Nat) : List Byte := (Map.get none s.bufBytes h).getD []
def putData (h : Nat) (b : List Byte) (s : State) : State := { s with bufBytes := Map.put none s.bufBytes h (some b) }

/-! ## Images (R145 to R149) -/

/-- Little-endian 32-bit words of a byte string, by word index. -/
def wordsOf (l : List Byte) : Map Nat :=
  (List.range ((l.length + 3) / 4)).filterMap (fun i =>
    let w := leNat ((l.drop (4 * i)).take 4)
    if w = 0 then none else some (i, w))

/-- An image with its length in bytes. -/
structure Image where
  words : Map Nat
  len : Nat

def Image.w (m : Image) (off : Nat) : Nat := Map.get 0 m.words (off / 4)
def Image.byte (m : Image) (off : Nat) : Nat := bitsOf (m.w off) (8 * (off % 4)) 8
/-- `n` bytes from an offset, first byte most significant. -/
def Image.be (m : Image) (off n : Nat) : Nat := (List.range n).foldl (fun a i => a * 256 + m.byte (off + i)) 0

def Image.ruleCount (m : Image) : Nat := m.w 0x0C
def Image.actionCount (m : Image) : Nat := m.w 0x10
def Image.root (m : Image) : Nat := m.w 0x14
def Image.pinned (m : Image) : Nat := m.w 0x18
def Image.ruleTable (m : Image) : Nat := m.w 0x1C
def Image.actionTable (m : Image) : Nat := m.w 0x20
def Image.maxReads (m : Image) : Nat := m.byte 0x24
def Image.needMask (m : Image) : Nat := m.w 0x28 + m.w 0x2C * 2 ^ 32
def Image.id (m : Image) : Nat := m.w 0x30 + m.w 0x34 * 2 ^ 32

/-- The valid key slots: field, key bit. -/
def Image.slots (m : Image) : List (Nat × Nat) :=
  ((List.range 16).map (fun i => m.w (0x40 + 4 * i))).filterMap (fun v => if bit v 7 then some (v % 64, bitsOf v 8 9) else none)

/-- The bank's image. -/
def image (s : State) (bank : Nat) : Image := ⟨if bank = 0 then s.imgA else s.imgB, rd s (held 0xC8) (HCLS.LEN bank)⟩

/-- The 384-bit key, key bit 0 its most significant bit (R144). DESIGN CHOICE (log entry 104): where two valid slots overlap, the key holds
the OR of their fields' bits. -/
def buildKey (m : Image) (fields : List Nat) : Nat :=
  m.slots.foldl (fun k x => k ||| (fields.getD x.1 0 % 2 ^ fieldWidth x.1) * 2 ^ (384 - x.2 - fieldWidth x.1)) 0

/-- Key bits `at_` to `at_ + n - 1` as a number. -/
def keyBits (key at_ n : Nat) : Nat := bitsOf key (384 - at_ - n) n

/-- The 16 words of an action entry (R147). -/
def Image.action (m : Image) (i : Nat) : List Nat := (List.range 16).map (fun j => m.w (m.actionTable + 64 * i + 4 * j))

/-- A node or an entry lies in the pinned region, resident in the tree cache (R150). -/
def Image.isPinned (m : Image) (off : Nat) : Bool := decide (0x100 ≤ off) && decide (off + 64 ≤ 0x100 + m.pinned)

/-- The 64 bytes at an offset are used: a line of the shared region becomes the one last used (R150). -/
def touchLine (m : Image) (bank off : Nat) (l : List (Nat × Nat)) : List (Nat × Nat) :=
  if m.isPinned off then l else (bank, off / 64) :: l.filter (fun x => x ≠ (bank, off / 64))

/-- The 64 bytes at an offset are in the tree cache: pinned, or the line last used; a line never fetched is not. Of a line fetched earlier the
spec does not say whether it was replaced, the associativity being open: `open_` decides (log entry 105). -/
def inTreeCache (m : Image) (bank off : Nat) (open_ : Bool) (l : List (Nat × Nat)) : Bool :=
  m.isPinned off || decide (l.head? = some (bank, off / 64)) || (l.contains (bank, off / 64) && open_)

/-- The first rule of a leaf that matches: its result, or no match, and the lines used; a rule index or an offset out of range is a tree
fault (R148). DESIGN CHOICE (log entry 104): such an index is a fault where it is reached in priority order, so that an earlier match stands. -/
def matchRules (m : Image) (key bank node : Nat) : List (Nat × Nat) → List Nat → Walk × List (Nat × Nat)
  | l, [] => (⟨bank, 1, 0, [], 0, 0⟩, l)
  | l, r :: rest =>
    let off := m.ruleTable + 128 * r
    if m.ruleCount ≤ r ∨ m.len < off + 128 then (⟨bank, 2, 0, [], 0, node⟩, l)
    else
      let l := touchLine m bank (off + 64) (touchLine m bank off l)
      if (key ^^^ m.be off 48) &&& m.be (off + 0x30) 48 = 0 then
        let a := m.w (off + 0x60) % 2 ^ 18
        if m.len < m.actionTable + 64 * a + 64 then (⟨bank, 2, 0, [], 0, node⟩, l)
        else (⟨bank, 0, a, m.action a, m.w (off + 0x64), 0⟩, touchLine m bank (m.actionTable + 64 * a) l)
      else matchRules m key bank node l rest

/-- The walk of R148 from the node at `off`, `fuel` more nodes allowed, `l` the lines of the shared region; `hit` gives a free value for
each node. DESIGN CHOICE (log entry 104): a CUT_BITS outside 1 to 8, and key bits past 383 (zeros), are walked as they stand. -/
def walkFrom (m : Image) (key bank : Nat) (hit : Nat → Bool) : Nat → Nat → Nat → List (Nat × Nat) → Walk × List (Nat × Nat)
  | fuel, off, dram, l =>
    if m.len < off + 64 then (⟨bank, 2, 0, [], 0, off⟩, l)
    else
      let w := m.w off
      if w % 4 = 1 then
        match fuel with
        | 0 => (⟨bank, 2, 0, [], 0, off⟩, l)
        | k + 1 =>
          let child := m.w (off + 4) + 64 * keyBits key (bitsOf w 6 9) (bitsOf w 2 4)
          let dram := if inTreeCache m bank child (hit k) l then dram else dram + 1
          if m.maxReads < dram then (⟨bank, 2, 0, [], 0, child⟩, l) else walkFrom m key bank hit k child dram (touchLine m bank child l)
      else if w % 4 = 2 then matchRules m key bank off l ((List.range (min 15 (bitsOf w 2 4))).map (fun i => m.w (off + 4 + 4 * i) % 2 ^ 18))
      else if w % 4 = 0 then (⟨bank, 1, 0, [], 0, 0⟩, l)
      else (⟨bank, 2, 0, [], 0, off⟩, l)

/-- STATE of a bank: 0 EMPTY, 1 LOADING, 2 VALID, 3 RETIRING. -/
def bankState (s : State) (b : Nat) : Nat := rd s 0xC8 (if b = 0 then CLS.BANK_STATUS_A_STATE else CLS.BANK_STATUS_B_STATE)
def setBankState (b v : Nat) (s : State) : State := wr 0xC8 (if b = 0 then CLS.BANK_STATUS_A_STATE else CLS.BANK_STATUS_B_STATE) v s
def activeBank (s : State) : Nat := rd s 0xC8 CLS.BANK_STATUS_ACTIVE
def swapPending (s : State) : Bool := rdb s 0xC8 CLS.BANK_STATUS_SWAP_PENDING
def drainCount (b : Nat) : Field := if b = 0 then CLS.DRAIN_A else CLS.DRAIN_B

/-- The parse fails for a bank's image: MALFORMED, or a needed field unreached (R139, R140). -/
def parseFails (s : State) (bank : Nat) (x : Parse) : Bool :=
  decide (x.status = 2) ||
    (decide (x.status = 1) && decide (bankState s bank ≠ 0)
      && ((image s bank).needMask &&& (0xFFFFFFFF - reachedMask x % 2 ^ 32)) ≠ 0)

/-- Look a frame's fields up in a bank; an EMPTY bank matches nothing (R152). -/
def lookupBank (s : State) (bank : Nat) (fields : List Nat) : Walk × State :=
  if bankState s bank = 0 then (⟨bank, 1, 0, [], 0, 0⟩, s)
  else
    let m := image s bank
    let (w, l) := walkFrom m (buildKey m fields) bank (fun k => Config.freeValue (s.fresh + k) % 2 = 1) 23 m.root 0 s.treeLines
    (w, { s with treeLines := l, fresh := s.fresh + 24 })

/-- The parse of a frame that waits: from its inner start on a recirculated pass (R134, R143). -/
def parseOf (s : State) (f : InFrame) : Parse :=
  parseFrame (parseCfg s f.item.port) (f.bytes.drop f.item.innerStart) f.item.innerType f.item.tunnelId (decide (f.item.pass ≠ 0))

/-- Its catalogue fields. -/
def fieldsOf (s : State) (f : InFrame) : List Nat := catalogue (parseOf s f) f.item.port f.item.pass f.item.length

/-- Walk one bank for a frame. -/
def walkBank (s : State) (f : InFrame) (bank : Nat) : Walk × State := lookupBank s bank (fieldsOf s f)

/-- The banks to walk for a frame whose key completes now: the stamped one for a recirculated pass, both while a swap waits (R158,
R165). -/
def banksFor (s : State) (f : InFrame) : List Nat :=
  if f.item.pass ≠ 0 then [f.item.bank]
  else if swapPending s then [activeBank s, 1 - activeBank s] else [activeBank s]

/-- The speculative walks of a frame, one after another, and what they leave in the tree cache (R151). -/
def walkFrame (s : State) (f : InFrame) : List Walk × State :=
  (banksFor s f).foldl (fun a b => let (w, t) := walkBank a.2 f b; (a.1 ++ [w], t)) ([], s)

/-- A valid key slot of a bank to be walked names FRAME_LENGTH or PARSE_FLAGS: the key is complete at the last byte alone (R577). -/
def keyNeedsEnd (s : State) (f : InFrame) : Bool :=
  (banksFor s f).any (fun b => decide (bankState s b ≠ 0) && (image s b).slots.any (fun x => decide (x.1 = 31) || decide (x.1 = 3)))

/-- A frame in reassembly as far as it has come, with nothing but zeros after it (R81). -/
def partFrame (s : State) (r : Reasm) : InFrame :=
  ⟨8 + r.fibre, 0, decide (r.handle = emptyHandle), 0, r.bytes ++ List.replicate (portM s (8 + r.fibre) - r.bytes.length) 0#8, r.walks,
   { blankItem with handle := r.handle, source := 8 + r.fibre, port := 8 + r.fibre, length := portM s (8 + r.fibre), stream := r.stream,
                    fibre := r.fibre, xgemPort := r.portId }, 0⟩

/-- The parse of a frame in reassembly ends within the bytes received. -/
def partParsed (s : State) (r : Reasm) : Bool :=
  let x := parseOf s (partFrame s r)
  decide (x.status ≠ 2) && decide (x.pos ≤ r.bytes.length)

/-- Replace the first frame that satisfies `p`. -/
def updFirst {α : Type} (p : α → Bool) (g : α → α) : List α → List α
  | [] => []
  | x :: r => if p x then g x :: r else x :: updFirst p g r

/-- Frames of a source whose key may be complete before their last byte: whole ones at the front end, and those in reassembly (R81, R577). -/
def earlyKey (s : State) (src : Nat) (f : InFrame) : Bool := decide (f.src = src) && f.walks.isEmpty && !keyNeedsEnd s f
def partKey (s : State) (src : Nat) (r : Reasm) : Bool :=
  decide (8 + r.fibre = src) && decide (r.kind = 0) && r.walks.isEmpty && !keyNeedsEnd s (partFrame s r) && partParsed s r

/-- Frames of a source that wait for a journal and have not been walked. -/
def waitingKey (src : Nat) (f : InFrame) : Bool := decide (f.src = src) && f.walks.isEmpty

/-- The key of a source's first frame that has none is complete: the frame is walked speculatively, and nothing but the tree cache changes
(R151, R157, R577). -/
def execKeyComplete (src : Nat) (s : State) : Host.Outcome State Fault Refusal :=
  settle s (onlyIf (src < 12) (fun s =>
    match s.front.find? (earlyKey s src) with
    | some f => let (w, t) := walkFrame s f; { t with front := updFirst (earlyKey s src) (fun f => { f with walks := w }) s.front }
    | none =>
      match s.ingress.find? (waitingKey src) with
      | some f => let (w, t) := walkFrame s f; { t with ingress := updFirst (waitingKey src) (fun f => { f with walks := w }) s.ingress }
      | none =>
        match s.reasm.find? (partKey s src) with
        | some r =>
          let (w, t) := walkFrame s (partFrame s r)
          { t with reasm := updFirst (partKey s src) (fun r => { r with walks := w }) s.reasm }
        | none => s) s)

/-! ## Actions and defaults (R159 to R162) -/

/-- Exactly one terminal action (R159). -/
def oneTerminal (w0 : Nat) : Bool := decide (((List.range 7).filter (bit w0)).length = 1)

/-- A default-table entry: its modifiers other than COUNT and MIRROR are ignored (R161). -/
def defaultAction (s : State) (i : Nat) : List Nat :=
  (List.range 16).map (fun w =>
    let v := recWord s false (Tab.dact i) DACT.fields w
    if w = 0 then v &&& 0x37F else v)

def noMatchAction (s : State) (port : Nat) : List Nat := defaultAction s (rd s 0xC8 (CLS.DEFAULT_NOMATCH port))
def parseFailAction (s : State) (port : Nat) : List Nat := defaultAction s (rd s 0xC8 (CLS.DEFAULT_PARSEFAIL port))

/-- A port that sends its misses to host software (R162). -/
def missPort (s : State) (port : Nat) : Bool := bit (rd s 0xC8 CLS.MISS_MODE) port

/-- TBL_CMD 1: read a default action (R161). -/
def execDefaultTableRead (s : State) : Host.Outcome State Fault Refusal :=
  settle s (tblCmd 0xC8 (fun s => tblResult 0xC8 0 (readRecord 0xC8 (Tab.dact (rd s 0xC8 CLS.TBL_ADDR)) DACT.fields s)) s)

/-- TBL_CMD 2: write a default action to staging; refused without exactly one terminal action, or with RECIRC (R159, R161). -/
def execDefaultTableWrite (s : State) : Host.Outcome State Fault Refusal :=
  settle s (tblCmd 0xC8 (fun s =>
    let w0 := rd s 0xC8 (TBL.DATA 0)
    if !oneTerminal w0 then tblResult 0xC8 1 s
    else if bit w0 6 then tblResult 0xC8 2 s
    else tblResult 0xC8 0 (stageRecord 0xC8 (Tab.dact (rd s 0xC8 CLS.TBL_ADDR)) DACT.fields s)) s)

/-! ## Loading and swapping banks (R152 to R156) -/

def standbyBank (s : State) : Nat := 1 - activeBank s

/-- LOAD_DONE with its bank and RESULT. -/
def loadDone (r : Nat) (s : State) : State :=
  let b := standbyBank s
  let s := wr 0xC8 CLS.LOAD_STATUS_RESULT r (wr 0xC8 CLS.LOAD_STATUS_BUSY 0 (wr 0xC8 CLS.LOAD_CTRL_START 0 s))
  raise 0xC8 CLS.evLOAD_DONE [b, r] s

/-- The loader refuses to start (R154). -/
def loadRefused (s : State) : Bool :=
  rd s 0xC8 (drainCount (standbyBank s)) ≠ 0 || swapPending s
    || (decide (rd s (held 0xC8) HCLS.SWAPPED ≠ 0) && decide (now s < rd s (held 0xC8) HCLS.SWAPPED - 1 + 2))

/-- START: the load begins into the standby bank, or is refused at once (R153, R154). -/
def loadStart (s : State) : State :=
  if rdb s 0xC8 CLS.LOAD_STATUS_BUSY then s
  else if loadRefused s then loadDone 1 s
  else wr 0xC8 CLS.LOAD_CTRL_START 1 (wr 0xC8 CLS.LOAD_STATUS_BUSY 1 (setBankState (standbyBank s) 1 s))

/-- LOAD_CTRL.START is written, by host software or by Yunager, whom no page lock stops (R153). -/
def execRuleLoadStart (byHost : Bool) (s : State) : Host.Outcome State Fault Refusal :=
  settle s (if byHost then hostCmd 0xC8 0x60 loadStart s else loadStart s)

/-- The checks of a header against Table 5.4: 0, or the RESULT. -/
def headerCheck (m : Image) (loadLen : Nat) : Nat :=
  let len := m.w 8
  if m.len < 256 ∨ m.w 0 ≠ 0x54424C55 ∨ m.w 4 ≠ 1 ∨ len < 256 ∨ 536870912 < len ∨ len ≠ loadLen ∨ m.root % 64 ≠ 0
      ∨ !(m.isPinned m.root) ∨ m.ruleTable % 128 ≠ 0 ∨ m.actionTable % 64 ≠ 0 ∨ m.w 0x24 / 256 ≠ 0
      ∨ (List.range 32).any (fun i => m.w (0x80 + 4 * i) ≠ 0) then 2
  else 0

/-- A key slot that names a reserved field or runs past key bit 383 (R144). -/
def slotBad (x : Nat × Nat) : Bool := decide (32 ≤ x.1) || decide (384 < x.2 + fieldWidth x.1)

/-- Limits and key slots, then every action entry, then the rules' action indices (R153). -/
def limitCheck (m : Image) : Nat :=
  if 262144 < m.ruleCount ∨ m.actionCount = 0 ∨ 262144 < m.actionCount ∨ 3 * 2 ^ 20 < m.pinned ∨ m.len < 0x100 + m.pinned
      ∨ 2 < m.maxReads ∨ m.slots.any slotBad ∨ m.len < m.ruleTable + 128 * m.ruleCount ∨ m.len < m.actionTable + 64 * m.actionCount then 4
  else if (List.range m.actionCount).any (fun a => !oneTerminal (m.w (m.actionTable + 64 * a))) then 5
  else if (List.range m.ruleCount).any (fun r => m.actionCount ≤ m.w (m.ruleTable + 128 * r + 0x60) % 2 ^ 18) then 4
  else 0

/-- CRC-32C over the image with the CRC field as zero. -/
def imageCrc (l : List Byte) : Nat := crc32c 0xFFFFFFFF (l.take 0x38 ++ [0, 0, 0, 0] ++ l.drop 0x3C)

/-- The RESULT of a load (Table 5.9). -/
def loadResult (l : List Byte) (loadLen : Nat) : Nat :=
  let m : Image := ⟨wordsOf l, l.length⟩
  if headerCheck m loadLen ≠ 0 then 2
  else if imageCrc l ≠ m.w 0x38 then 3
  else limitCheck m

/-- Bytes of an object of the store, from its first segment on; none where a segment is not mapped. -/
def objectBytes (s : State) (id len : Nat) : Option (List Byte) :=
  match dirFind s id with
  | none => none
  | some e =>
    let parts := (List.range ((len + 65535) / 65536)).map (fun n =>
      match objSeg s e n with
      | some g => Map.get none s.nand g
      | none => none)
    if parts.all (·.isSome) then some ((parts.flatMap (fun p => p.getD [])).take len) else none

/-- What the loader reads: from the Arcade object, or as host memory gives it; none on a read error. -/
def loadSource (s : State) (host : Option (List Byte)) : Option (List Byte) :=
  if rdb s 0xC8 CLS.LOAD_CTRL_FROM_ARCADE then
    objectBytes s (rd64 s 0xC8 CLS.LOAD_SRC_LO CLS.LOAD_SRC_HI) (rd s 0xC8 CLS.LOAD_LEN)
  else host

def setImageId (b id : Nat) (s : State) : State :=
  if b = 0 then wr 0xC8 (CLS.IMAGE_ID_A 0) id (wr 0xC8 (CLS.IMAGE_ID_A 1) (id / 2 ^ 32) s)
  else wr 0xC8 (CLS.IMAGE_ID_B 0) id (wr 0xC8 (CLS.IMAGE_ID_B 1) (id / 2 ^ 32) s)

/-- Empty a bank, or fill it with an image. -/
def setImage (b : Nat) (m : Image) (s : State) : State :=
  let s := { s with treeLines := s.treeLines.filter (fun x => x.1 ≠ b) }
  let s := if b = 0 then { s with imgA := m.words } else { s with imgB := m.words }
  setImageId b m.id (wr (held 0xC8) (HCLS.LEN b) m.len s)

/-- A load ends: the bank becomes VALID, or EMPTY when a check fails. `host` is what a read of host memory gave (R153). -/
def execRuleLoadDone (host : Option (List Byte)) (s : State) : Host.Outcome State Fault Refusal :=
  settle s (onlyIf (rdb s 0xC8 CLS.LOAD_STATUS_BUSY) (fun s =>
    let b := standbyBank s
    match loadSource s host with
    | none => loadDone 6 (setBankState b 0 (setImage b ⟨[], 0⟩ s))
    | some l =>
      let r := loadResult l (rd s 0xC8 CLS.LOAD_LEN)
      if r = 0 then
        let s := loadDone 0 (setBankState b 2 (setImage b ⟨wordsOf l, l.length⟩ s))
        measure 3 6 (now s) (Image.id ⟨wordsOf l, l.length⟩) (Config.sha512 l) s
      else loadDone r (setBankState b 0 (setImage b ⟨[], 0⟩ s))) s)

/-- SWAP: pending for the first boundary at least 2 blocks on, or refused (R155). -/
def execBankSwapRequest (s : State) : Host.Outcome State Fault Refusal :=
  settle s (hostCmd 0xC8 0x44 (fun s =>
    let r := if bankState s (standbyBank s) ≠ 2 then 2 else if swapPending s then 3 else 0
    if r = 0 then
      wr (held 0xC8) HCLS.SWAP_AT (now s + 3 + 1) (wr 0xC8 CLS.BANK_STATUS_SWAP_PENDING 1 (wr 0xC8 CLS.BANK_STATUS_SWAP_RESULT 0 s))
    else raise 0xC8 CLS.evSWAP_REFUSED [r] (wr 0xC8 CLS.BANK_STATUS_SWAP_RESULT r s)) s)

/-- The swap takes effect: standby and active change places, the epoch rises (R155). -/
def execBankSwap (s : State) : Host.Outcome State Fault Refusal :=
  settle s (onlyIf (swapPending s ∧ rd s (held 0xC8) HCLS.SWAP_AT ≤ now s + 1) (fun s =>
    let old := activeBank s
    let s := if bankState s old = 2 then setBankState old 3 s else s
    let s := wr 0xC8 CLS.BANK_STATUS_ACTIVE (1 - old) (wr 0xC8 CLS.BANK_STATUS_SWAP_PENDING 0 s)
    let s := wr 0xC8 CLS.BANK_STATUS_SWAP_RESULT 1 (wr 0xC8 CLS.EPOCH (rd s 0xC8 CLS.EPOCH + 1) s)
    let s := wr (held 0xC8) HCLS.SWAP_AT 0 (wr (held 0xC8) HCLS.SWAPPED (now s + 1) s)
    raise 0xC8 CLS.evSWAPPED [rd s 0xC8 CLS.EPOCH, 1 - old] s) s)

/-- RETIRING to VALID standby: nothing drains, and the block that followed the swap has committed (R156). -/
def execBankRetired (s : State) : Host.Outcome State Fault Refusal :=
  settle s (onlyIf (bankState s (standbyBank s) = 3 ∧ rd s 0xC8 (drainCount (standbyBank s)) = 0
      ∧ rd s (held 0xC8) HCLS.SWAPPED ≤ s.nextCommit) (fun s =>
    raise 0xC8 CLS.evBANK_RETIRED [standbyBank s] (setBankState (standbyBank s) 2 s)) s)

/-! ## Frames for host rings (R162, R168, R462) -/

/-- A queue entry for ring n: its leaf, its prefix, the descriptors it needs (R462). -/
def hostEnt (s : State) (n typ : Nat) (pre : List Byte) (x : Item) (handle : Nat) (bytes : List Byte) (length acc : Nat) : QEnt :=
  { blankEnt with handle := handle, bytes := bytes, length := length, leaf := rd s 0xB1 (HST1.LEAF n), acc := acc, ring := n + 1,
                  entType := typ, prefixBytes := pre, ndesc := ringNeeds s n (pre.length + length),
                  ruleId := if x.kind = 0 then x.ruleId else 0xFFFFFFFF, tsValid := x.tsValid, tsResumed := x.tsResumed,
                  tsNs := x.tsNs, tsSec := x.tsSec, xgemPort := x.port }

/-- Whether ring n names a leaf. -/
def ringHasLeaf (s : State) (n : Nat) : Bool := rdb s 0xB1 (HST1.LEAF_EN n)

/-! ## The Cul-de-sac (R167, R168) -/

/-- `CUL_LIMIT` as applied. -/
def culLimit (s : State) : Nat := max 1 (min 4096 (rd s 0xC9 CUL.CUL_CTRL_CUL_LIMIT))

/-- COUNT and OLDEST follow the entries. -/
def culShow (s : State) : State :=
  wr 0xC9 CUL.CUL_STATUS_COUNT s.cul.length
    (wr 0xC9 CUL.CUL_STATUS_OLDEST (match s.cul.head? with | some x => x.index | none => 0) s)

/-- The words of an entry (Table 5.10). -/
def culWords (x : CulEnt) : List Nat :=
  [x.handle, x.length + x.port * 2 ^ 14 + x.pass * 2 ^ 18 + x.reason * 2 ^ 20 + x.status * 2 ^ 22, x.ruleId, x.epoch,
   x.abs / 64 % 2 ^ 32, x.abs % 64 + x.flags * 2 ^ 8 + 2 ^ 31]

/-- Free the oldest entry. -/
def culDropOldest (k : Nat) (s : State) : State :=
  match s.cul with
  | [] => s
  | x :: r => culShow (refDo opDec 0xC clCul x.handle k { s with cul := r })

/-- The first index from `i` on that no entry has. -/
def culFree (l : List CulEnt) : Nat → Nat → Nat
  | 0, i => i
  | n + 1, i => if l.any (fun x => x.index = i) then culFree l n ((i + 1) % 4096) else i

/-- A committed QUARANTINE of block k enters its frame; when full, the new frame or the oldest ones are freed (R167). `cwy` says that a
Carriageway took the frame's buffer. -/
def culEnter (x : CulEnt) (cwy : Bool) (k : Nat) (s : State) : State :=
  let lim := culLimit s
  if lim ≤ s.cul.length ∧ !rdb s 0xC9 CUL.CUL_CTRL_FULL_MODE then
    inc 0xC9 CUL.CUL_DISCARDED (refDo opDec 0xC (bufClass s x.handle cwy) x.handle k s)
  else
    let ovr := s.cul.length + 1 - lim
    let s := forEach (List.range ovr) (fun _ s => inc 0xC9 CUL.CUL_REPLACED (culDropOldest k s)) s
    let i := culFree s.cul 4096 (rd s (held 0xC8) HCLS.CUL_NEXT)
    let s := refDo opHandover 0xC clCul x.handle k s
    let s := wr (held 0xC8) HCLS.CUL_NEXT ((i + 1) % 4096) { s with cul := s.cul ++ [{ x with index := i }] }
    let s := raiseFirstItem k 0xC9 CUL.evCUL_ENTRY [i] (inc 0xC9 CUL.CUL_IN (culShow s))
    if s.cul.length = lim ∧ ovr = 0 then raiseItem k 0xC9 CUL.evCUL_FULL [] s else s

def culResult (r : Nat) (s : State) : State := wr 0xC9 CUL.CUL_CMD_RESULT r s

/-- Remove an entry. -/
def culRemove (i : Nat) (s : State) : State := culShow { s with cul := s.cul.filter (fun x => x.index ≠ i) }

/-- Export an entry to a host ring as a frame of Standard class (R168). -/
def culExport (x : CulEnt) (ring : Nat) (s : State) : State :=
  let pre := (culWords x).flatMap (toLe 4) ++ toLe 8 0
  let it := { blankItem with kind := if x.reason = 0 then 0 else 1, ruleId := x.ruleId, port := x.port }
  let e := { placeEnt s (hostEnt s ring 2 pre it x.handle (bufData s x.handle) x.length (now s)) with cls := clsStandard }
  if !ringHasLeaf s ring then culResult 3 s
  else
    let (t, ok) := takePlaced e green 11 s
    if ok then culResult 1 (culRemove x.index (refDo opHandover 0xC clHost x.handle (now s) t)) else culResult 3 t

/-- A Cul-de-sac command takes effect at the block boundary (R168). -/
def culBoundary (s : State) : State :=
  let op := rd s (held 0xC8) HCLS.CUL_OP
  let i := rd s (held 0xC8) HCLS.CUL_INDEX
  let ring := rd s (held 0xC8) HCLS.CUL_RING
  let s := wr (held 0xC8) HCLS.CUL_OP 0 s
  if op = 0 then s
  else if op = 3 then culResult 1 (culShow { forEach s.cul (fun x s => refDo opDec 0xC clCul x.handle (now s) s) s with cul := [] })
  else
    match s.cul.find? (fun x => x.index = i) with
    | none => culResult 2 s
    | some x =>
      if op = 1 then culResult 1 (culRemove i (refDo opDec 0xC clCul x.handle (now s) s)) else culExport x ring s

/-- A command written to CUL_CMD waits for the next block boundary (R168). -/
def culCommand (op index ring : Nat) (s : State) : State :=
  hostCmd 0xC9 0x54 (fun s => wr (held 0xC8) HCLS.CUL_OP op (wr (held 0xC8) HCLS.CUL_INDEX index (wr (held 0xC8) HCLS.CUL_RING ring s))) s

/-- CUL_CMD 1: release an entry (R168). -/
def execCulRelease (index : Nat) (s : State) : Host.Outcome State Fault Refusal := settle s (culCommand 1 index 0 s)
/-- CUL_CMD 2: export an entry (R168). -/
def execCulExport (index ring : Nat) (s : State) : Host.Outcome State Fault Refusal := settle s (culCommand 2 index ring s)
/-- CUL_CMD 3: release all entries (R168). -/
def execCulReleaseAll (s : State) : Host.Outcome State Fault Refusal := settle s (culCommand 3 0 0 s)

/-- TBL_CMD 1 of page 0x0C9: read an entry (Table 5.10). -/
def execCulTableRead (s : State) : Host.Outcome State Fault Refusal :=
  settle s (tblCmd 0xC9 (fun s =>
    let ws := match s.cul.find? (fun x => x.index = rd s 0xC9 CUL.TBL_ADDR) with | some x => culWords x | none => []
    tblResult 0xC9 0 (loadData 0xC9 ws s)) s)

end Sys2Proof.Machine
end

