-- ==== Sys2Proof/Machine/Kerb.lean ====
section
/-! DEFINITION. The Kerb ports: lanes, links, fallback, reception, serialisation, pause (chapter 10). -/

namespace Sys2Proof.Machine

/-- A power domain is on (Table 17.13). -/
def pdOn (s : State) (d : Nat) : Bool := bit (rd s 0x20 PWR0.PD_STATUS) d && decide (rd s (held 0x20) (HPWR.READY d) = 0)

/-- The KRB page of a Kerb port and its held page. -/
def krb (p : Nat) : Nat := 0x80 + p
def krbHeld (p : Nat) : Nat := held (0x80 + p)
def lan (p : Nat) : Nat := 0xA0 + p

def portEn (s : State) (p : Nat) : Bool := rdb s (krb p) KRB.PORT_CTRL_EN

/-- The domain of a Kerb port: PD13 for ports 0 to 3, PD14 for 4 to 7. -/
def kerbDomain (s : State) (p : Nat) : Bool := pdOn s (if p < 4 then 13 else 14)

/-- The two lowest-numbered lanes of a mask. -/
def lowestTwo (mask : Nat) : Nat := (((List.range 4).filter (bit mask)).take 2).foldl (fun a l => a + 2 ^ l) 0

/-- Record a fault event once more on another page: the same fault, so no double fault. -/
def alsoFault (pg b loc : Nat) (masked : Bool) (d : List Nat) (s : State) : State := pushEv (mkEv s pg b loc masked d) s

/-- Tags of lanes out of service: receive and transmit direction. -/
def Tag.txLane (p l : Nat) : Nat := 96 + 4 * p + l
def closeLanes (p : Nat) (s : State) : State :=
  { s with openFaults := s.openFaults.filter (fun x =>
      !((List.range 4).any (fun l => x.1 = Tag.lane p l ∨ x.1 = Tag.txLane p l))) }

/-- The location code of a lane: level 4, SUBSYSTEM 0x08 + p, UNIT the lane (R322). -/
def laneLoc (p l : Nat) : Nat := locUnit (0x08 + p) l

/-- LINK follows the lanes: UP, or UP on two lanes. -/
def setLinkWidth (p : Nat) (s : State) : State :=
  let two := kerbX4 s p ∧ (lanes (rd s (krb p) KRB.PORT_STATUS_TX_LANES) < 4 ∨ lanes (rd s (krb p) KRB.PORT_STATUS_RX_LANES) < 4)
  wr (krb p) KRB.PORT_STATUS_LINK (if two then 3 else 2) s

/-- Show which lanes are in electrical idle: those the mode leaves unused, lanes 2 and 3 in LEAN, the transmitter's in low-power idle (R288,
R305, R306). -/
def showIdle (p : Nat) (s : State) : State :=
  forEach (List.range 4) (fun l s =>
    let unused := portEn s p && decide (kerbMode s p = 0) && decide (0 < l)
    let lean := rdb s (krbHeld p) HKRB.NARROW && kerbX4 s p && decide (2 ≤ l)
    let low := rdb s (krb p) KRB.PORT_STATUS_LPI && bit (rd s (krb p) KRB.PORT_STATUS_TX_LANES) l
    wrb (lan p) (LAN.LANE_STATUS_EI l) (unused || lean || low) s) s

/-! ## What a Kerb-X4 transmitter sends (R291, R292, Tables 10.2, 10.3) -/

/-- A special code group Kx.y by its byte, above the data bytes. -/
def kGroup (b : Nat) : Nat := 256 + b
def kStart : Nat := kGroup 0xFB
def kTerm : Nat := kGroup 0xFD
def kMarker : Nat := kGroup 0x7C

/-- The code groups of a frame: /S/, six bytes of preamble, the SFD, the frame with its FCS, /T/. -/
def frameGroups (d : List Byte) : List Nat := kStart :: (List.replicate 6 0x55 ++ [0xD5] ++ d.map (·.toNat) ++ [kTerm])

/-- Of bytes or code groups striped over w lanes, those of active lane l: every w-th from the l-th on. -/
def striped {α : Type} (w l : Nat) (g : List α) : List α := (g.zipIdx.filter (fun x => x.2 % w = l)).map (·.1)

/-- What the last frame of Kerb port p puts on its l-th active lane. -/
def laneGroups (s : State) (p l : Nat) : List Nat :=
  striped (lanes (rd s (krb p) KRB.PORT_STATUS_TX_LANES)) l (frameGroups ((Map.get none s.wire p).getD []))

/-- A marker on one lane: /A/ and its marker byte; a request and a resume name a column count as well (Table 10.3). -/
def markerGroups (lane ok kind r : Nat) : List Nat :=
  [kMarker, lane % 4 + ok % 16 * 4 + kind % 4 * 64] ++ if kind = 0 then [] else [r / 256 % 64, r % 256]

/-- A marker is sent. -/
def sendMarker (p kind ok r : Nat) (s : State) : State :=
  wr (krbHeld p) HKRB.MARK_KIND kind (wr (krbHeld p) HKRB.MARK_OK ok (wr (krbHeld p) HKRB.MARK_R r s))

/-- The last marker of Kerb port p on transmit lane l. -/
def lastMarker (s : State) (p l : Nat) : List Nat :=
  let h := krbHeld p
  markerGroups l (rd s h HKRB.MARK_OK) (rd s h HKRB.MARK_KIND) (rd s h HKRB.MARK_R)

/-! ## Pause (R313 to R315) -/

/-- `PAUSE_MODE`, 3 applied as 0. -/
def pauseMode (s : State) (p : Nat) : Nat := let m := rd s (krb p) KRB.PORT_CTRL_PAUSE_MODE; if m = 3 then 0 else m

/-- The frame being serialised on a port. -/
def sending (s : State) (p : Nat) : Option MacEnt := s.macs.find? (fun x => x.port = p ∧ x.started)

/-- Core cycles of n quanta of 512 bit times at the port's C, which is in kb/s. -/
def quantaCycles (s : State) (p n : Nat) : Nat := n * 512 * 1244160 / max 1 (portCNow s p)

/-- Hold transmit queue t from core cycle `at_` for `len` cycles. -/
def holdQueue (p t at_ len : Nat) (s : State) : State :=
  let since := rd s (krbHeld p) (HKRB.HELD_SINCE t)
  let s := if since = 0 then wr (krbHeld p) (HKRB.HELD_SINCE t) (at_ + 1) s else s
  wr (krb p) KRB.PORT_STATUS_HELD (setBit (rd s (krb p) KRB.PORT_STATUS_HELD) t true) (wr (krbHeld p) (HKRB.HELD_UNTIL t) (at_ + len + 1) s)

/-- A hold ends at core cycle `to`: the held time counts, and extends the deadlines of the frames in the queue (R30, R315). -/
def releaseQueue (p t til : Nat) (s : State) : State :=
  let since := rd s (krbHeld p) (HKRB.HELD_SINCE t)
  if since = 0 then s
  else
    let c := (til - (since - 1)) * 100 + rd s (krbHeld p) (HKRB.US_REST t)
    let s := wr (krbHeld p) (HKRB.US_REST t) (c % 124416) (addc (krb p) (KRB.HELD_US t) (c / 124416) s)
    let s := extendHeld p t (since - 1) til s
    let s := wr (krbHeld p) (HKRB.HELD_SINCE t) 0 (wr (krbHeld p) (HKRB.HELD_UNTIL t) 0 s)
    wr (krb p) KRB.PORT_STATUS_HELD (setBit (rd s (krb p) KRB.PORT_STATUS_HELD) t false) s

/-- A pause of n quanta for transmit queue t, received at `at_`; `busy` says that a frame of a queue that the pause holds is being serialised
(Table 10.6). -/
def pauseQueue (busy : Bool) (p at_ n t : Nat) (s : State) : State :=
  if isHeld s p t then if n = 0 then releaseQueue p t at_ s else holdQueue p t at_ (quantaCycles s p n) s
  else if busy then wr (krbHeld p) (HKRB.PEND t) (if n = 0 then 0 else quantaCycles s p n + 1) s
  else if n = 0 then s else holdQueue p t at_ (quantaCycles s p n) s

/-- The frame in progress has ended: pending holds start. -/
def startPending (p at_ : Nat) (s : State) : State :=
  forEach (List.range 8) (fun t s =>
    let n := rd s (krbHeld p) (HKRB.PEND t)
    if n = 0 then s else holdQueue p t at_ (n - 1) (wr (krbHeld p) (HKRB.PEND t) 0 s)) s

/-- A frame of transmit queue t is being serialised. -/
def sendsQueue (s : State) (p t : Nat) : Bool := (sending s p).any (fun x => x.txq = t)

/-- A pause frame with a good FCS: its opcode, class-enable vector and times (R313, R314). An Annex 31B pause holds every queue. -/
def execPauseReceived (port opcode enable : Nat) (times : List Nat) (cyc : Nat) (s : State) : Host.Outcome State Fault Refusal :=
  settle s (onlyIf (port < 8 ∧ kerbUp s port) (fun s =>
    let at_ := startOf (now s) + cyc
    let m := pauseMode s port
    if m = 1 ∧ opcode = 0x0001 then
      forEach (List.range 8) (pauseQueue (sending s port).isSome port at_ (times.getD 0 0)) (inc (krb port) KRB.PAUSE_RX s)
    else if m = 2 ∧ opcode = 0x0101 then
      forEach ((List.range 8).filter (bit enable)) (fun t => pauseQueue (sendsQueue s port t) port at_ (times.getD t 0) t) (inc (krb port) KRB.PAUSE_RX s)
    else inc (krb port) KRB.CTRL_IGNORED s) s)

/-- A hold's quanta run out and the queue resumes (R314). -/
def execPauseExpiry (port queue : Nat) (s : State) : Host.Outcome State Fault Refusal :=
  settle s (onlyIf (port < 8 ∧ queue < 8 ∧ isHeld s port queue
      ∧ rd s (krbHeld port) (HKRB.HELD_UNTIL queue) ≤ startOf (now s) + blockCycles) (fun s =>
    releaseQueue port queue (rd s (krbHeld port) (HKRB.HELD_UNTIL queue) - 1) s) s)

/-! ## Serialisation (R311, R312, R345, R346) -/

/-- The offset of what follows the tags, and its EtherType: at most `n` VLAN tags. -/
def afterTags (s : State) (d : List Byte) : Nat → Nat → Nat × Nat
  | 0, off => (off + 2, fieldAt d off 2)
  | n + 1, off => if isTag s (fieldAt d off 2) then afterTags s d n (off + 4) else (off + 2, fieldAt d off 2)

/-- The offset of a PTP event message behind up to two tags: messageType 0 to 3 of EtherType 0x88F7 (R342). -/
def ptpAt (s : State) (d : List Byte) : Option Nat :=
  let (off, t) := afterTags s d 2 12
  if t = 0x88F7 ∧ fieldAt d off 1 % 16 < 4 then some off else none

/-- Replace bytes from an offset. -/
def overlay (d : List Byte) (off : Nat) (b : List Byte) : List Byte := d.take off ++ b ++ d.drop (off + b.length)

/-- The remark of R252: DEI of the outer tag, and the DSCP of the first IP header that the headers of Table 5.1 lead to. -/
def remarkBytes (s : State) (r : Remark) (d : List Byte) : List Byte :=
  let d := if r.dei ∧ isTag s (fieldAt d 12 2) then overlay d 14 (toBe 1 (setBit (fieldAt d 14 1) 4 true)) else d
  if !r.dscp then d
  else
    let x := parseWhole s d
    let off := x.ipAt - 1
    if !bit x.present 23 then d
    else if bit x.present 20 then
      let v := fieldAt d off 2
      overlay d off (toBe 2 (v / 4096 * 4096 + r.dscpValue * 64 + v % 64))
    else overlay d (off + 1) (toBe 1 (r.dscpValue * 4 + fieldAt d (off + 1) 1 % 4))

/-- `TX_UNTAG` (R312). -/
def untagBytes (s : State) (p : Nat) (d : List Byte) : List Byte :=
  if rdb s (krb p) KRB.TX_UNTAG_EN ∧ isTag s (fieldAt d 12 2) ∧ fieldAt d 14 2 % 4096 = rd s (krb p) KRB.TX_UNTAG_VID then
    d.take 12 ++ d.drop 16
  else d

/-- Padding to 64 bytes, the FCS's four among them. -/
def padBytes (d : List Byte) : List Byte := d ++ List.replicate (60 - d.length) 0

/-- The FCS, in the order of transmission. -/
def withFcs (d : List Byte) : List Byte := d ++ toLe 4 (crc32 d)

/-- A Sync that its sender marks one-step: no two-step mark, its twoStepFlag clear (R345). -/
def oneStep (s : State) (p : Nat) (e : QEnt) (d : List Byte) : Option Nat :=
  match ptpAt s d with
  | some off =>
    if rdb s 0x32 (TIM2.TS_CTRL_EN p) ∧ rdb s 0x32 (TIM2.TS_CTRL_ONESTEP_EN p) ∧ fieldAt d off 1 % 16 = 0 ∧ !e.twoStep
      ∧ !bit (fieldAt d (off + 6) 1) 1 then some off else none
  | none => none

/-- Write the transmit time into originTimestamp and add the remainder, in 2⁻¹⁶ ns, to correctionField (R345). -/
def stampSync (off t : Nat) (d : List Byte) : List Byte :=
  let ns := t / 2 ^ 40
  let d := overlay d (off + 34) (toBe 6 (secOf ns) ++ toBe 4 (nsOf ns))
  overlay d (off + 8) (toBe 8 ((fieldAt d (off + 8) 8 + t % 2 ^ 40 / 2 ^ 24) % 2 ^ 64))

/-- Core cycles of n bytes at a port's present rate. -/
def wireCycles (s : State) (p n : Nat) : Nat := n * 8 * 1244160 / max 1 (portCNow s p)

/-- The time of day at which a frame's time-stamp point leaves: after 8 bytes, corrected for the board (R343). -/
def txStamp (s : State) (p at_ : Nat) : Nat := stampTime s (at_ + wireCycles s p 8 - startOf (now s)) (rdS s 0x32 (TIM2.TX_ADJ_PS p))

/-- The frame as the MAC sends it (R312, R345). -/
def egressBytes (s : State) (p at_ : Nat) (e : QEnt) : List Byte :=
  let d := padBytes (untagBytes s p (remarkBytes s e.remark e.bytes))
  withFcs (match oneStep s p e d with | some off => stampSync off (txStamp s p at_) d | none => d)

/-- The waiting frame of queue t may start: not held, and its last byte leaves before the next closing of its gate (R228, R311). -/
def mayStart (s : State) (p cyc : Nat) (x : MacEnt) : Bool :=
  let bits := (8 + (egressBytes s p (startOf (now s) + cyc) x.ent).length) * 8
  let ends := curTime s cyc + bits * 1000000 * 2 ^ 40 / max 1 (portCNow s p)
  !isHeld s p x.txq && (!gateOn s p || bit (rd s 0x102 (SCH2.OPEN_NOW p)) x.txq)
    && (match nextClose s p x.txq with | some c => decide (ends ≤ c * 2 ^ 40) | none => true)

/-- The waiting frame that a port's MAC starts: the highest queue that may (R311). -/
def macPick (s : State) (p cyc : Nat) : Option MacEnt :=
  minBy (fun x => 7 - x.txq) (s.macs.filter (fun x => x.port = p ∧ !x.started ∧ mayStart s p cyc x))

/-- The MAC of Kerb port `port` starts a frame `cyc` cycles into the block (R311). -/
def execKerbFrameStart (port cyc : Nat) (s : State) : Host.Outcome State Fault Refusal :=
  settle s (onlyIf (port < 8 ∧ kerbUp s port ∧ (sending s port).isNone) (fun s =>
    match macPick s port cyc with
    | none => s
    | some x =>
      let at_ := startOf (now s) + cyc
      if poisoned s x.ent then endMac ocContained x.ent s
      else
        { s with macs := s.macs.map (fun y => if y.ent.id = x.ent.id then { y with started := true, at_ := at_ } else y),
                 wire := Map.put none s.wire port (some (egressBytes s port at_ x.ent)) }) s)

/-- The time-stamp of a frame that has left (R346). -/
def stampSent (p : Nat) (x : MacEnt) (s : State) : State :=
  if rdb s 0x32 (TIM2.TS_CTRL_EN p) ∧ x.ent.twoStep then
    pushTxts p x.ent.tsId (txStamp s p x.at_) x.ent.resumed (inc 0x32 (TIM2.TX_STAMPED p) s)
  else if rdb s 0x32 (TIM2.TS_CTRL_EN p) ∧ (oneStep s p x.ent x.ent.bytes).isSome then inc 0x32 (TIM2.TX_STAMPED p) s
  else s

/-- The last byte of the frame in progress leaves Kerb port `port`: delivery (R21). -/
def execKerbTxComplete (port cyc : Nat) (s : State) : Host.Outcome State Fault Refusal :=
  settle s (onlyIf (port < 8 ∧ (sending s port).any (fun x => x.at_ ≤ startOf (now s) + cyc)) (fun s =>
    match sending s port with
    | none => s
    | some x =>
      let t := startOf (now s) + cyc
      let s := stampSent port x (inc (krb port) KRB.TX_FRAMES s)
      let s := wr (krbHeld port) HKRB.IDLE_FROM t (releaseEnt x.ent (removeMac x.ent (deliver x.ent t s)))
      startPending port t s) s)

/-- A transmit opportunity of a Kerb or the host port node (R233); on a Kerb-X4 port a ready frame ends electrical idle (R305). -/
def execTransmitOpportunity (port cyc : Nat) (s : State) : Host.Outcome State Fault Refusal :=
  settle s (onlyIf (port < 8 ∨ port = 10) (fun s =>
    let t := transmitOpportunity port cyc s
    if port < 8 ∧ t.macs.length ≠ s.macs.length then
      showIdle port (wr (krb port) KRB.PORT_STATUS_LPI 0 t)
    else t) s)

/-- No frame for `LPI_ENTRY` ns: electrical idle (R305). -/
def execLpiEntry (port : Nat) (s : State) : Host.Outcome State Fault Refusal :=
  settle s (onlyIf (port < 8 ∧ kerbX4 s port ∧ kerbUp s port ∧ rdb s (krb port) KRB.PORT_CTRL_LPI_EN
      ∧ rd s (krbHeld port) HKRB.IDLE_FROM + nsCycles (rd s (krb port) KRB.LPI_ENTRY) ≤ startOf (now s + 1)
      ∧ !(s.macs.any (fun x => x.port = port))) (fun s => showIdle port (wr (krb port) KRB.PORT_STATUS_LPI 1 s)) s)

/-! ## Links and lanes (R294 to R299, R306, R316, R317) -/

/-- A port's ingress requester (Table 7.2). -/
def kerbRequester (p : Nat) : Nat := if p < 4 then 5 else 6

/-- A frame being received on port `src`: a fill frame of a fibre port, SOURCE 13, among them. -/
def ofPort (src : Nat) (f : InFrame) : Bool := decide (f.src = src) || (decide (f.src = 13) && decide (f.item.port = src))

/-- Squash what is being received on a source: nothing of it remains but a count, its buffer is free (R157, R318). -/
def squash (src requester : Nat) (s : State) : State :=
  let l := s.front.filter (ofPort src)
  let s := { s with front := s.front.filter (fun f => !ofPort src f) }
  forEach l (fun f s =>
    let s := if src < 11 then inc 0xC0 (PRS.FCS_SQUASH src) s else s
    if f.item.handle = emptyHandle then s else refDo opDec requester clIngress f.item.handle 0 s) s

/-- A link goes down; what it carried ends at the next block boundary (R317). -/
def linkDrop (p : Nat) (s : State) : State :=
  let s := wr (krb p) KRB.PORT_STATUS_LINK (b2n (portEn s p)) s
  let s := wr (krb p) KRB.PORT_STATUS_TX_LANES 0 (wr (krb p) KRB.PORT_STATUS_RX_LANES 0 (wr (krb p) KRB.PORT_STATUS_LPI 0 s))
  let s := wr (krbHeld p) HKRB.UP_FROM s.clock.tick (wr (krbHeld p) HKRB.DOWN 1 (inc (krb p) KRB.LINK_DOWNS (showIdle p s)))
  let s := forEach (List.range 8) (fun t s => releaseQueue p t (startOf (now s)) (wr (krbHeld p) (HKRB.PEND t) 0 s)) s
  squash p (kerbRequester p) (closeLanes p s)

/-- The link goes down for a fault that has its record, or by a command. -/
def linkDown (p loc : Nat) (s : State) : State := alsoFault (krb p) KRB.evLINK_DOWN loc false [] (linkDrop p s)

/-- At the block boundary after a link went down its accepted frames are contained (R317). -/
def kerbBoundary (p : Nat) (s : State) : State :=
  if rdb s (krbHeld p) HKRB.DOWN then containPort p (wr (krbHeld p) HKRB.DOWN 0 s) else s

/-- Lanes a mode uses. -/
def modeLanes (s : State) (p : Nat) : Nat := if kerbMode s p = 0 then 1 else 15

/-- Mark lane l of Kerb port p, or of the host port, lost. -/
def markLost (p l : Nat) (s : State) : State :=
  let s := wr (krbHeld p) (HKRB.BAD_TICK l) s.clock.tick s
  inc (lan p) (LAN.LOSSES l) (wr (lan p) (LAN.LANE_STATUS_LOST l) 1 (wr (lan p) (LAN.LANE_STATUS_ALIGNED l) 0 s))

/-- The criterion a lane meets: 0 its signal detect fell, 1 it lost synchronisation, 2 invalid code groups or disparity errors, 3 a marker out of
column (R294). Synchronisation goes with the signal. -/
def laneFails (pg l cause : Nat) (s : State) : State :=
  let s := if cause = 0 then wr pg (LAN.LANE_STATUS_SIGNAL l) 0 s else s
  if cause ≤ 1 then wr pg (LAN.LANE_STATUS_SYNC l) 0 s else s

/-- Code violations and disparity errors received on a lane; they begin a lost lane's clean time anew (R294, R299, Table 10.3, Table 10.10). -/
def laneErrors (p l viol disp : Nat) (s : State) : State :=
  let s := addc (lan p) (LAN.DISP_ERR l) disp (addc (lan p) (LAN.CODE_VIOL l) viol s)
  if viol = 0 then s else wr (krbHeld p) (HKRB.BAD_TICK l) s.clock.tick s

/-- A lane of an up Kerb port is lost, the first invalid code group in column `col`: a fallback request for the columns from 8 before it on, or the
link goes down (R294, R295, R298, R317). -/
def kerbLaneLost (p l col : Nat) (s : State) : State :=
  let ok := setBit (rd s (krbHeld p) HKRB.RX_OK) l false
  let loc := laneLoc p l
  let fall := kerbX4 s p ∧ rdb s (krb p) KRB.PORT_CTRL_FALLBACK_EN ∧ 2 ≤ lanes ok ∧ mode s ≠ modeLean
  let s := raiseFault (lan p) LAN.evLANE_LOST loc (decide fall) [] (markLost p l (wr (krbHeld p) HKRB.RX_OK ok s))
  if fall then
    let s := openFault (Tag.lane p l) loc (inc (krb p) KRB.FALLBACKS (sendMarker p 1 ok (col - 8) s))
    alsoFault (krb p) KRB.evFALLBACK loc true [0, lowestTwo ok] s
  else linkDown p loc s

/-- A lane that carries nothing of the frames is lost. On a Kerb-X4 port that runs on two others it leaves RX_OK, and nothing is lost with it;
a lane in electrical idle for LEAN is not in use. -/
def idleLaneLost (p l : Nat) (s : State) : State :=
  let loc := laneLoc p l
  if p < 8 ∧ kerbUp s p ∧ kerbX4 s p then
    if rdb s (krbHeld p) HKRB.NARROW ∧ 2 ≤ l then s
    else
      let s := wr (krbHeld p) HKRB.RX_OK (setBit (rd s (krbHeld p) HKRB.RX_OK) l false) s
      openFault (Tag.lane p l) loc (raiseFault (lan p) LAN.evLANE_LOST loc true [] (markLost p l s))
  else
    let s := if p < 8 then wr (krbHeld p) HKRB.UP_FROM s.clock.tick s else s
    raiseFault (lan p) LAN.evLANE_LOST loc false [] (markLost p l s)

/-- Lane `lane` of Kerb port `port` (8: the host lanes) meets a loss criterion, with the errors received on it since its last count and the column
of the first invalid code group; errors that meet no criterion (`cause` 4) are only counted (R294). -/
def execLaneLost (port lane cause viol disp col : Nat) (s : State) : Host.Outcome State Fault Refusal :=
  settle s (onlyIf (port < 9 ∧ lane < 4) (fun s =>
    let t := laneErrors port lane viol disp s
    if 4 ≤ cause ∨ rdb s (lan port) (LAN.LANE_STATUS_LOST lane) then t
    else if port < 8 ∧ kerbUp s port ∧ bit (rd s (krb port) KRB.PORT_STATUS_RX_LANES) lane then
      kerbLaneLost port lane col (laneFails (lan port) lane cause t)
    else idleLaneLost port lane (laneFails (lan port) lane cause t)) s)

/-- The transmitter goes to two lanes on a partner's request; the frame in progress is resent from column R, its time-stamp point with
it where `sfd` says that it lies there (R296, R347). -/
def resumeTx (p ok r at_ : Nat) (sfd : Bool) (s : State) : State :=
  let old := rd s (krb p) KRB.PORT_STATUS_TX_LANES
  let lost := ((List.range 4).filter (fun l => bit old l ∧ !bit ok l)).head?.getD 0
  let s := sendMarker p 2 (rd s (krbHeld p) HKRB.RX_OK) r s
  let s := inc (krb p) KRB.RESUMES (setLinkWidth p (wr (krb p) KRB.PORT_STATUS_TX_LANES (lowestTwo ok) (wr (krbHeld p) HKRB.PART_OK ok s)))
  let s := match sending s p with
    | none => s
    | some x =>
      let s := inc (krb p) KRB.TX_RESENT s
      if !sfd then s
      else if x.ent.twoStep then
        { s with macs := s.macs.map (fun y => if y.ent.id = x.ent.id then { y with at_ := at_, ent := { y.ent with resumed := true } } else y) }
      else if (oneStep s p x.ent x.ent.bytes).isSome then raise 0x32 TIM2.evONESTEP_STALE [p] (inc 0x32 (TIM2.ONESTEP_STALE p) s)
      else s
  let loc := laneLoc p lost
  let s := raiseFault (krb p) KRB.evFALLBACK loc true [1, lowestTwo ok] s
  markContained p (openFault (Tag.txLane p lost) loc s)

/-- A fallback request arrives with its RX_OK and its column count: with fewer than two good lanes, and in LEAN, the loss is detected and the link goes down
(R296, R317, Table 1.9). -/
def execFallbackRequestRx (port rxOk r : Nat) (sfd : Bool) (cyc : Nat) (s : State) : Host.Outcome State Fault Refusal :=
  settle s (onlyIf (port < 8 ∧ kerbX4 s port ∧ kerbUp s port) (fun s =>
    if lanes rxOk < 2 ∨ mode s = modeLean then
      let loc := laneLoc port (((List.range 4).filter (fun l => bit (rd s (krb port) KRB.PORT_STATUS_TX_LANES) l ∧ !bit rxOk l)).head?.getD 0)
      noteDouble (earlierFault s) loc (linkDown port loc s)
    else resumeTx port (rxOk % 16) r (startOf (now s) + cyc) sfd s) s)

/-- A resume marker arrives: the resent bytes overwrite those of the frame being received from byte `off` on, and a speculative parse
is redone; a resent SFD gives the frame its new arrival time (R297, R347). -/
def execResumeMarkerRx (port off : Nat) (bytes : List Byte) (sfd : Bool) (cyc : Nat) (s : State) : Host.Outcome State Fault Refusal :=
  settle s (onlyIf (port < 8 ∧ kerbX4 s port ∧ kerbUp s port) (fun s =>
    let w := lowestTwo (rd s (krbHeld port) HKRB.RX_OK)
    let s := setLinkWidth port (wr (krb port) KRB.PORT_STATUS_RX_LANES w s)
    let ns := stampTime s cyc (rdS s 0x32 (TIM2.RX_ADJ_PS port)) / 2 ^ 40
    let g := fun (f : InFrame) =>
      let it := if sfd ∧ f.item.tsValid then { f.item with tsResumed := true, tsNs := nsOf ns, tsSec := secOf ns } else f.item
      { f with bytes := overlay f.bytes off bytes, walks := [], item := it }
    let stamped := s.front.any (fun f => f.src = port ∧ f.item.tsValid)
    let s := { s with front := updFirst (fun f => f.src = port) g s.front }
    if sfd ∧ stamped then inc 0x32 (TIM2.RX_RESUMED port) s else s) s)

/-- The transmitter's lanes as a partner's RX_OK and LEAN allow. -/
def wantLanes (s : State) (p ok : Nat) : Nat := if rdb s (krbHeld p) HKRB.NARROW then lowestTwo (ok &&& 3) else if lanes ok = 4 then 15 else lowestTwo ok

/-- A scheduled marker is sent: the transmitter takes the lanes that the partner's last RX_OK names (R292, R299, R306). -/
def execScheduledMarker (port partnerOk : Nat) (s : State) : Host.Outcome State Fault Refusal :=
  settle s (onlyIf (port < 8 ∧ kerbX4 s port ∧ kerbUp s port ∧ 2 ≤ lanes partnerOk) (fun s =>
    let old := rd s (krb port) KRB.PORT_STATUS_TX_LANES
    let w := wantLanes s port (partnerOk % 16)
    let s := sendMarker port 0 (rd s (krbHeld port) HKRB.RX_OK) 0 (wr (krbHeld port) HKRB.PART_OK partnerOk s)
    if w = old ∨ lanes w = 0 then s
    else
      let s := setLinkWidth port (wr (krb port) KRB.PORT_STATUS_TX_LANES w s)
      if lanes old < lanes w then
        let s := if lanes w = 4 then unmarkContained port (startOf (now s)) s else s
        let s := { s with openFaults := s.openFaults.filter (fun x => !((List.range 4).any (fun l => x.1 = Tag.txLane port l))) }
        raise (krb port) KRB.evRESTORED [1, w] (inc (krb port) KRB.RESTORES s)
      else s) s)

/-- A lost lane has been clean for `RESTORE_TICKS` ticks: it is set again in RX_OK, and its partner returns to it (R299). -/
def execLaneRestore (port lane : Nat) (s : State) : Host.Outcome State Fault Refusal :=
  settle s (onlyIf (port < 8 ∧ lane < 4 ∧ kerbX4 s port ∧ kerbUp s port ∧ rdb s (lan port) (LAN.LANE_STATUS_LOST lane)
      ∧ rd s (krbHeld port) (HKRB.BAD_TICK lane) + rd s (krb port) KRB.RESTORE_TICKS ≤ s.clock.tick) (fun s =>
    let ok := setBit (rd s (krbHeld port) HKRB.RX_OK) lane true
    let s := wr (lan port) (LAN.LANE_STATUS_LOST lane) 0 (wr (lan port) (LAN.LANE_STATUS_SYNC lane) 1 (wr (krbHeld port) HKRB.RX_OK ok s))
    let s := wr (lan port) (LAN.LANE_STATUS_SIGNAL lane) 1 (wr (lan port) (LAN.LANE_STATUS_ALIGNED lane) 1 s)
    let w := if lanes ok = 4 then 15 else lowestTwo ok
    let s := closeFault (Tag.lane port lane) (setLinkWidth port (wr (krb port) KRB.PORT_STATUS_RX_LANES w s))
    raise (krb port) KRB.evRESTORED [0, w] (inc (krb port) KRB.RESTORES s)) s)

/-- Narrow a Kerb-X4 port for LEAN, and widen it again (R306). -/
def leanNarrow (p : Nat) (s : State) : State :=
  if kerbX4 s p ∧ kerbUp s p then
    let ok := rd s (krbHeld p) HKRB.RX_OK &&& 3
    let s := wr (krbHeld p) HKRB.NARROW 1 (wr (krbHeld p) HKRB.RX_OK ok s)
    showIdle p (setLinkWidth p (wr (krb p) KRB.PORT_STATUS_RX_LANES ok s))
  else s
def leanWiden (p : Nat) (s : State) : State :=
  if rdb s (krbHeld p) HKRB.NARROW then
    let s := wr (krbHeld p) HKRB.NARROW 0 s
    if kerbX4 s p ∧ kerbUp s p then
      let ok := (List.range 4).foldl (fun a l => if rdb s (lan p) (LAN.LANE_STATUS_LOST l) then a else a + 2 ^ l) 0
      showIdle p (setLinkWidth p (wr (krb p) KRB.PORT_STATUS_RX_LANES (if lanes ok = 4 then 15 else lowestTwo ok) (wr (krbHeld p) HKRB.RX_OK ok s)))
    else s
  else s

/-- The good lanes that bring a link up; in LEAN a Kerb-X4 port runs on lanes 0 and 1 (R42, R306, R316). -/
def upLanes (s : State) (p tx rx : Nat) : Bool :=
  if kerbX4 s p then
    let m := if mode s = modeLean then 3 else 15
    decide (2 ≤ lanes (tx &&& m)) && decide (2 ≤ lanes (rx &&& m))
  else decide (tx = modeLanes s p) && decide (rx = modeLanes s p)

/-- The link conditions have held for `UP_HOLD` ticks on these lanes (R316); `ids` holds the partner's lane number received on each lane, two bits a
lane, and `skews` the code groups each lies behind the earliest, eight bits a lane (R293). Lanes of a Kerb-X4 port that are not good are lost,
and come back as after a fallback. -/
def execLinkUp (port tx rx ids skews : Nat) (s : State) : Host.Outcome State Fault Refusal :=
  settle s (onlyIf (port < 8 ∧ portEn s port ∧ kerbDomain s port ∧ !kerbUp s port ∧ tx < 16 ∧ rx < 16 ∧ upLanes s port tx rx
      ∧ rd s (krbHeld port) HKRB.UP_FROM + max 1 (rd s (krb port) KRB.UP_HOLD) ≤ s.clock.tick) (fun s =>
    let x4 := kerbX4 s port
    let lean := x4 && decide (mode s = modeLean)
    let w := fun m => if lean then 3 else if x4 ∧ lanes m < 4 then lowestTwo m else m
    let (m, t) := (kerbMode s port, startOf (now s))
    let s := wr (krbHeld port) HKRB.RX_OK (if lean then rx &&& 3 else rx) (wr (krbHeld port) HKRB.PART_OK tx (wrb (krbHeld port) HKRB.NARROW lean s))
    let s := wr (krb port) KRB.PORT_STATUS_TX_LANES (w tx) (wr (krb port) KRB.PORT_STATUS_RX_LANES (w rx) s)
    let s := forEach ((List.range 4).filter (bit rx)) (fun l s =>
      wr (lan port) (LAN.LANE_STATUS_LANE_ID l) (bitsOf ids (2 * l) 2) (wr (lan port) (LAN.LANE_STATUS_SKEW l) (bitsOf skews (8 * l) 8)
        (wr (lan port) (LAN.LANE_STATUS_SIGNAL l) 1 (wr (lan port) (LAN.LANE_STATUS_SYNC l) 1 (wr (lan port) (LAN.LANE_STATUS_ALIGNED l) 1 (wr (lan port) (LAN.LANE_STATUS_LOST l) 0 s)))))) s
    let s := forEach ((List.range 4).filter (fun l => x4 && !bit rx l)) (fun l s => wr (lan port) (LAN.LANE_STATUS_LOST l) 1
      (wr (krbHeld port) (HKRB.BAD_TICK l) s.clock.tick s)) s
    raise (krb port) KRB.evLINK_UP [m, w tx] (showIdle port (wr (krbHeld port) HKRB.IDLE_FROM t (setLinkWidth port s)))) s)

/-! ## Reception (R307 to R310) -/

/-- A frame's outer tag, when it has one: TCI. -/
def outerTci (s : State) (d : List Byte) : Option Nat :=
  if isTag s (fieldAt d 12 2) then some (fieldAt d 14 2) else none

/-- `RX_PUSH`: a tag for untagged frames, a VID for priority tags (R309). -/
def rxPush (s : State) (p : Nat) (d : List Byte) : List Byte :=
  if !rdb s (krb p) KRB.RX_PUSH_EN then d
  else
    let tci := rd s (krb p) KRB.RX_PUSH_TCI
    match outerTci s d with
    | none => d.take 12 ++ toBe 2 0x8100 ++ toBe 2 tci ++ d.drop 12
    | some t => if t % 4096 = 0 then overlay d 14 (toBe 2 (t + tci % 4096)) else d

/-- Index into the group hash: bits 31 to 20 of the complemented CRC-32 over the destination, x³¹ in bit 31 (R307). -/
def hashIndex (d : List Byte) : Nat := reverseBits 32 (crc32 (d.take 6)) / 2 ^ 20

/-- The filter passes a frame's destination (R307). -/
def groupPass (s : State) (p : Nat) (d : List Byte) : Bool :=
  if fieldAt d 0 6 = 2 ^ 48 - 1 then !rdb s (krb p) KRB.RXQ_CTRL_BCAST_DROP
  else if bit (fieldAt d 0 1) 0 then bit (rd s (Tab.hashw p (hashIndex d / 32)) HASHW.WORD) (hashIndex d % 32)
  else true

/-- A steering filter matches (Table 10.9). -/
def filterMatch (s : State) (pg : Nat) (tci : Option Nat) (etype : Nat) : Bool :=
  let vm := rd s pg FILT.VID_MASK
  let em := rd s pg FILT.ETYPE_MASK
  rdb s pg FILT.VALID
    && (match tci with
        | none => decide (vm = 0) && !rdb s pg FILT.PCP_EN
        | some t => decide ((t ^^^ rd s pg FILT.VID) &&& vm = 0) && (!rdb s pg FILT.PCP_EN || decide (t / 8192 = rd s pg FILT.PCP)))
    && decide ((etype ^^^ rd s pg FILT.ETHERTYPE) &&& em = 0)

/-- The EtherType after up to four tags. -/
def tagsEtype (s : State) (d : List Byte) : Nat :=
  ((List.range 4).foldl (fun (o : Nat) _ => if isTag s (fieldAt d o 2) then o + 4 else o) 12 |> fun o => fieldAt d o 2)

/-- The receive queue of a frame (R308). -/
def steer (s : State) (p : Nat) (d : List Byte) : Nat :=
  let tci := outerTci s d
  match (List.range 16).find? (fun i => filterMatch s (Tab.filt p i) tci (tagsEtype s d)) with
  | some i => rd s (Tab.filt p i) FILT.RXQ
  | none =>
    match tci with
    | some t => bitsOf (rd s (krb p) KRB.PCP_RXQ) (3 * (t / 8192)) 3
    | none => rd s (krb p) KRB.RXQ_CTRL_DEFAULT_RXQ

/-- Frames in an ingress buffer. -/
def waitingIn (s : State) (src queue : Nat) : Nat := (s.ingress.filter (fun f => f.src = src ∧ f.queue = queue)).length

/-- The receive time-stamp of an event frame (R342, R344). -/
def rxStamp (s : State) (p cyc : Nat) (d : List Byte) (it : Item) : Item :=
  if rdb s 0x32 (TIM2.TS_CTRL_EN p) ∧ (ptpAt s d).isSome then
    let ns := stampTime s cyc (rdS s 0x32 (TIM2.RX_ADJ_PS p)) / 2 ^ 40
    { it with tsValid := true, tsNs := nsOf ns, tsSec := secOf ns }
  else it

/-- The first 30 bytes of a frame have come: filter, steer, take a buffer. `bytes` is the frame without its FCS as it arrives, `cyc` the
instant of its time-stamp point (R307 to R309). -/
def kerbReceive (p : Nat) (bytes : List Byte) (cyc : Nat) (s : State) : State :=
  if fieldAt bytes 12 2 = 0x8808 then s
  else
    let d := rxPush s p bytes
    if !groupPass s p d then inc (krb p) KRB.GROUP_FILTERED s
    else
      let q := steer s p d
      let carve := if bit (rd s (krb p) KRB.RXQ_CTRL_EXPRESS) q then carveExpress else carveShared
      let full := 512 ≤ waitingIn s p q
      let (h, t) := if full then (emptyHandle, s) else askFor (kerbRequester p) (portM s p) carve clIngress (startOf (now s) + cyc) s
      let it := rxStamp s p cyc d { blankItem with handle := h, source := p, port := p, length := d.length + 4, aux := [bytes.length + 4] }
      let t := if it.tsValid then inc 0x32 (TIM2.RX_STAMPED p) t else t
      { t with front := t.front ++ [⟨p, q, decide (h = emptyHandle), 0, d, [], it, 0⟩] }

/-- A frame arrives at Kerb port `port` (R307). -/
def execKerbFrameReceived (port : Nat) (bytes : List Byte) (cyc : Nat) (s : State) : Host.Outcome State Fault Refusal :=
  settle s (onlyIf (port < 8 ∧ kerbUp s port ∧ !(s.front.any (fun f => f.src = port))) (kerbReceive port bytes cyc) s)

/-- The counter of a frame that the MAC discards; none for a good one (R310). -/
def rxFault (s : State) (p len : Nat) (fcsOk : Bool) : Option Field :=
  if len < 64 then some KRB.RX_RUNT else if portM s p < len then some KRB.RX_OVERSIZE else if fcsOk then none else some KRB.RX_FCS_ERR

/-- A frame joins its ingress buffer, its last byte received at core cycle `at_`. -/
def joinIngress (f : InFrame) (at_ : Nat) (s : State) : State :=
  putData f.item.handle f.bytes { s with ingress := s.ingress ++ [{ f with at_ := at_ }] }

/-- The overflow counter of a source (Table 1.10). -/
def countOverflow (src : Nat) (s : State) : State :=
  let s := if src < 8 then inc (krb src) KRB.RXQ_OVERFLOW s
    else if src < 10 then inc (0x41 + 0x20 * (src - 8)) FB1.INGRESS_OVERFLOW s else s
  dropUnqueued src s

/-- A fibre port's oldest frame fails its FCS: it alone is squashed. -/
def squashFirst (src req : Nat) (f : InFrame) (s : State) : State :=
  if src < 8 then squash src req s
  else
    let s := inc 0xC0 (PRS.FCS_SQUASH src) { s with front := dropFirst (ofPort src) s.front }
    if f.item.handle = emptyHandle then s else refDo opDec req clIngress f.item.handle 0 s

/-- The last byte of the frame being received on source `src` has come, its FCS checked (R157, R310, R576). -/
def execFrameLastByte (src : Nat) (fcsOk : Bool) (cyc : Nat) (s : State) : Host.Outcome State Fault Refusal :=
  settle s (onlyIf (src < 10) (fun s =>
    match s.front.find? (ofPort src) with
    | none => s
    | some f =>
      let req := if src < 8 then kerbRequester src else 3 + (src - 8)
      let bad := if src < 8 then rxFault s src (f.item.aux.getD 0 0) fcsOk else none
      match bad with
      | some c => inc (krb src) c (squash src req s)
      | none =>
        if !fcsOk then squashFirst src req f s
        else
          let s := { s with front := dropFirst (ofPort src) s.front }
          let s := if src < 8 then inc (krb src) KRB.RX_FRAMES s else s
          if f.overflow then countOverflow src s else joinIngress f (startOf (now s) + cyc) s) s)

/-! ## Registers that act -/

/-- A Kerb port has EN set. -/
def anyPortEn (s : State) : Bool := (List.range 8).any (portEn s)

/-- A write to KREF_CTRL (R301). -/
def execKrefCtrlWrite (value : Nat) (s : State) : Host.Outcome State Fault Refusal :=
  settle s (hostCmd 0xA9 0x40 (fun s =>
    let en := value % 2
    let sp := value / 2 % 2
    if anyPortEn s ∧ (en = 0 ∨ sp ≠ rd s 0xA9 KREF.KREF_CTRL_SPREAD) then
      raise 0xA9 KREF.evSPREAD_REFUSED [] (wr 0xA9 KREF.KREF_STATUS_REFUSED 1 s)
    else
      wr 0xA9 KREF.KREF_STATUS_SPREAD_ON (sp * en) (wr 0xA9 KREF.KREF_CTRL_EN en (wr 0xA9 KREF.KREF_CTRL_SPREAD sp s))) s)

/-- The KREF PLL loses lock, or regains it (Table 10.12). -/
def execKrefUnlock (locked : Bool) (s : State) : Host.Outcome State Fault Refusal :=
  settle s (onlyIf (rdb s 0xA9 KREF.KREF_STATUS_LOCKED ≠ locked) (fun s =>
    let s := wrb 0xA9 KREF.KREF_STATUS_LOCKED locked s
    if locked then s else raiseFault 0xA9 KREF.evKREF_UNLOCK (locUnit 0 0x3F) false [] s) s)

/-- The test fields of a lane act: those of the host lanes only while the host link is held in reset (R304). -/
def testActs (s : State) (p : Nat) : Bool := decide (p < 8) || rdb s 0xB0 HST0.HST_CTRL_LINK_HOLD

/-- Inverted bits reach the lane's own checker in near-end loopback, where each counts (R302, R303, R304). -/
def injectBits (p l n : Nat) (s : State) : State :=
  if testActs s p ∧ rdb s (lan p) (LAN.LANE_CTRL_TEST l) ∧ rd s (lan p) (LAN.LANE_CTRL_LOOPBACK l) = 1 ∧ rdb s (lan p) (LAN.LANE_CTRL_CHECK_EN l)
      ∧ rdb s (lan p) (LAN.LANE_STATUS_PRBS_LOCK l) then addc (lan p) (LAN.PRBS_ERR l) n s
  else s

/-- INJ_SINGLE (R303). -/
def execPrbsInjSingle (port lane : Nat) (s : State) : Host.Outcome State Fault Refusal :=
  settle s (onlyIf (port < 9 ∧ lane < 4) (hostCmd (lan port) (0x44 + 0x20 * lane) (injectBits port lane 1)) s)

/-- INJ_BURST: `BURST_LEN` bits, 0 applied as 1 (R303). -/
def execPrbsInjBurst (port lane : Nat) (s : State) : Host.Outcome State Fault Refusal :=
  settle s (onlyIf (port < 9 ∧ lane < 4) (hostCmd (lan port) (0x44 + 0x20 * lane) (fun s =>
    injectBits port lane (max 1 (rd s (lan port) (LAN.LANE_INJ_BURST_LEN lane))) s)) s)

/-- A locked checker has counted `errs` wrong bits since its last report, then locks or loses lock (R302). -/
def execPrbsLock (port lane : Nat) (lock : Bool) (errs : Nat) (s : State) : Host.Outcome State Fault Refusal :=
  settle s (onlyIf (port < 9 ∧ lane < 4 ∧ testActs s port ∧ rdb s (lan port) (LAN.LANE_CTRL_CHECK_EN lane)) (fun s =>
    let was := rdb s (lan port) (LAN.LANE_STATUS_PRBS_LOCK lane)
    let s := if was then addc (lan port) (LAN.PRBS_ERR lane) errs s else s
    if was = lock then s else
    let s := wrb (lan port) (LAN.LANE_STATUS_PRBS_LOCK lane) lock s
    let s := if lock then s else inc (lan port) (LAN.LOCK_LOSS lane) s
    raise (lan port) LAN.evPRBS_LOCK [lane] s) s)

/-- A change ignored: CFG_IGNORED and its event (R289, R301, R304). -/
def kerbIgnored (p off : Nat) (s : State) : State := raise (krb p) KRB.evCFG_IGNORED [off] (wr (krb p) KRB.PORT_STATUS_CFG_IGNORED 1 s)

/-- A write to LANE_CTRL; TEST and LOOPBACK do not change while the port has EN set. On the host lanes the drive settings are read-only
(R304, R575, Table 10.10). -/
def execLaneCtrlWrite (port lane value : Nat) (s : State) : Host.Outcome State Fault Refusal :=
  settle s (onlyIf (port < 9 ∧ lane < 4) (hostCmd (lan port) (0x40 + 0x20 * lane) (fun s =>
    let pg := lan port
    let lb := bitsOf value 2 2
    let te := bitsOf value 4 1
    let changes := lb ≠ rd s pg (LAN.LANE_CTRL_LOOPBACK lane) ∨ te ≠ rd s pg (LAN.LANE_CTRL_TEST lane)
    let busy := port < 8 ∧ portEn s port
    let s := if busy then s else wr pg (LAN.LANE_CTRL_LOOPBACK lane) lb (wr pg (LAN.LANE_CTRL_TEST lane) te s)
    let s := wr pg (LAN.LANE_CTRL_TX_INVERT lane) value (wr pg (LAN.LANE_CTRL_RX_INVERT lane) (value / 2) s)
    let s := wr pg (LAN.LANE_CTRL_PATTERN lane) (value / 2 ^ 5) (wr pg (LAN.LANE_CTRL_CHECK_EN lane) (value / 2 ^ 8) s)
    let s := if port = 8 then s
      else wr pg (LAN.LANE_CTRL_TX_SWING lane) (value / 2 ^ 9) (wr pg (LAN.LANE_CTRL_TX_DEEMPH lane) (value / 2 ^ 12) s)
    if busy ∧ changes then kerbIgnored port (0x40 + 0x20 * lane) s else s)) s)

/-- A write to PORT_CTRL (R289, R301, R317, R575). -/
def execPortCtrlWrite (port value : Nat) (s : State) : Host.Outcome State Fault Refusal :=
  settle s (onlyIf (port < 8) (hostCmd (krb port) 0x40 (fun s =>
    let pg := krb port
    let was := portEn s port
    let m := bitsOf value 1 2
    let modeIgnored := was ∧ m ≠ rd s pg KRB.PORT_CTRL_MODE
    let s := if was then s else wr pg KRB.PORT_CTRL_MODE m s
    let s := wr pg KRB.PORT_CTRL_AN_EN (value / 2 ^ 5) s
    let s := wrStaged pg pg KRB.PORT_CTRL_FALLBACK_EN (value / 2 ^ 3) (wrStaged pg pg KRB.PORT_CTRL_LPI_EN (value / 2 ^ 4) s)
    let s := wrStaged pg pg KRB.PORT_CTRL_PAUSE_MODE (value / 2 ^ 6) s
    let want := bit value 0
    let enIgnored := want ∧ !was ∧ rdb s 0xA9 KREF.KREF_STATUS_SPREAD_ON ∧ !kerbX4 s port
    let s := if want ∧ !was ∧ !enIgnored then
        showIdle port (wr (krbHeld port) HKRB.UP_FROM s.clock.tick (wr pg KRB.PORT_STATUS_LINK 1 (wr pg KRB.PORT_CTRL_EN 1 s))) else s
    let s := if !want ∧ was then
        let up := kerbUp s port
        let s := wr pg KRB.PORT_CTRL_EN 0 s
        if up then linkDown port 0 s else wr pg KRB.PORT_STATUS_LINK 0 s
      else s
    if modeIgnored ∨ enIgnored then kerbIgnored port 0x40 s else s)) s)

/-- The record that TBL_ADDR names: a steering filter or a hash word (Table 10.8). -/
def krbRecord (s : State) (p : Nat) : Option (Nat × List Field) :=
  let i := rd s (krb p) KRB.TBL_ADDR_INDEX
  if rdb s (krb p) KRB.TBL_ADDR_TABLE then some (Tab.hashw p i, HASHW.fields)
  else if i < 16 then some (Tab.filt p i, FILT.fields) else none

/-- TBL_CMD 1 of a KRB page (R308). -/
def execKrbTableRead (port : Nat) (s : State) : Host.Outcome State Fault Refusal :=
  settle s (onlyIf (port < 8) (tblCmd (krb port) (fun s =>
    match krbRecord s port with
    | some (pg, fs) => tblResult (krb port) 0 (readRecord (krb port) pg fs s)
    | none => tblResult (krb port) 1 s)) s)

/-- TBL_CMD 2 of a KRB page (R308). -/
def execKrbTableWrite (port : Nat) (s : State) : Host.Outcome State Fault Refusal :=
  settle s (onlyIf (port < 8) (tblCmd (krb port) (fun s =>
    match krbRecord s port with
    | some (pg, fs) => tblResult (krb port) 0 (stageRecord (krb port) pg fs s)
    | none => tblResult (krb port) 1 s)) s)

/-- The commit of a KRB page: `LPI_EN` is refused on a port whose E_res is not zero (R305). -/
def kerbCommit (p : Nat) (s : State) : State :=
  if rdb s (krb p) KRB.PORT_CTRL_LPI_EN ∧ portERes s p ≠ 0 then
    wr (krb p) KRB.PORT_STATUS_LPI_REFUSED 1 (wr (krb p) KRB.PORT_CTRL_LPI_EN 0 s)
  else s

end Sys2Proof.Machine
end

