-- ==== Sys2Proof/Machine/Build.lean ====
section
/-! DEFINITION. The build lists of a fibre port's upstream assembler: prediction, fragments, frames returned (R121 to R126). -/

namespace Sys2Proof.Machine

/-- A fibre port's page 0x040; its page `i`; its held page. -/
def fibPage (f : Nat) : Nat := 0x40 + 0x20 * f
def fibN (f i : Nat) : Nat := fibPage f + i
def fibHeld (f : Nat) : Nat := held (fibPage f)

/-- STATE of the activation machine (Table 4.2). -/
def actState (s : State) (f : Nat) : Nat := rd s (fibN f 2) FB2.ACT_STATUS_STATE

/-- A frame's length as payload: with the R-TAG of a replicated copy (R128). -/
def upLen (e : QEnt) : Nat := e.length + (if e.seqTag = 0 then 0 else 6)

/-! ## What the lists hold -/

def slotKey (f n : Nat) : Nat := 64 * f + n

/-- A slot's predicted burst. -/
def predOf (s : State) (f n : Nat) : List BuildEnt := Map.get [] s.predicted (slotKey f n)
def setPred (f n : Nat) (l : List BuildEnt) (s : State) : State := { s with predicted := Map.put [] s.predicted (slotKey f n) l }

/-- Every entry of a port's build lists: predicted bursts, and those reconciled and not started (R126). -/
def buildEntries (s : State) (f : Nat) : List BuildEnt :=
  (s.predicted.filter (fun p => p.1 / 64 = f)).flatMap (·.2)
    ++ (s.bursts.filter (fun b => b.fibre = f ∧ b.stage < 3)).flatMap (·.entries)

/-- Bytes of a frame placed in build lists. -/
def placedBytes (l : List BuildEnt) (id : Nat) : Nat := (l.filter (fun x => x.id = id)).foldl (fun a x => a + x.len) 0

/-- Bytes of a frame neither sent nor placed. -/
def leftBytes (l : List BuildEnt) (e : QEnt) : Nat := upLen e - e.sentBytes - placedBytes l e.id

/-- Room that entries take: an XGEM header and the part each. -/
def usedRoom (l : List BuildEnt) : Nat := l.foldl (fun a x => a + 8 + x.len) 0

/-- A frame of the queues by its number. -/
def entOf (s : State) (id : Nat) : Option QEnt := s.leafq.find? (fun e => e.id = id)

/-- The port's lists changed: BUILD_ENTRIES, and which frames are wholly in flight (R121). -/
def syncBuild (f : Nat) (s : State) : State :=
  let l := buildEntries s f
  let s := wr (fibN f 3) FB3.BUILD_ENTRIES (min 0xFFFF l.length) s
  { s with leafq := s.leafq.map (fun e => if e.port = 8 + f then { e with inFlight := if leftBytes l e = 0 then 1 else 0 } else e) }

/-! ## Returning (R125, R235) -/

/-- Return one entry: the round robin is credited; RETURNED counts it. -/
def returnEntry (f : Nat) (x : BuildEnt) (s : State) : State :=
  let s := match entOf s x.id with
    | some e => if x.charged then creditDeficit e x.len s else s
    | none => s
  inc (fibN f 3) FB3.RETURNED s

def returnEntries (f : Nat) (l : List BuildEnt) (s : State) : State := forEach l (returnEntry f) s

/-- Return a slot's predicted burst. -/
def returnPredicted (f n : Nat) (s : State) : State := syncBuild f (setPred f n [] (returnEntries f (predOf s f n) s))

/-- Return every predicted frame of a port (R117). -/
def returnAllPredicted (f : Nat) (s : State) : State := forEach (List.range 64) (fun n s =>
  if predOf s f n = [] then s else returnPredicted f n s) s

/-- Return every pre-assembled frame of a port: predicted, and reconciled but not started. -/
def returnAll (f : Nat) (s : State) : State :=
  let go := s.bursts.filter (fun b => b.fibre = f ∧ b.stage < 3)
  let s := { s with bursts := s.bursts.filter (fun b => !(decide (b.fibre = f) && decide (b.stage < 3))) }
  returnAllPredicted f (returnEntries f (go.flatMap (·.entries)) s)

/-! ## Placing (R121, R123, R235) -/

/-- The payload alignment of a split (R123). -/
def splitAlign : Nat := max 1 (Config.ponStandard 0)

/-- The part of a frame with `left` bytes that a room takes: all of it, the largest split that R123 allows, or none. -/
def partFor (s : State) (f n left room : Nat) : Option Nat :=
  if left + 8 ≤ room then some left
  else
    let p := (min (room - 8) (left - 16)) / splitAlign * splitAlign
    if rdb s (Tab.asl f n) ASL.NO_FRAG ∨ p < 64 ∨ left < p + 16 then none else some p

/-- The frames a slot may take next: the oldest of each leaf under its service node with bytes left, its length what is left. -/
def slotHeads (s : State) (f n : Nat) : List QEnt :=
  let svc := slotService s f n
  let l := buildEntries s f
  (headsOf s (fun e => e.port = 8 + f ∧ e.node = svc)).map (fun e => { e with length := leftBytes l e })

/-- Core cycle at which a slot's next grant window starts: the first after a change of G, or the one that follows the present (R235, R258). -/
def nextWindow (s : State) (f n : Nat) : Nat :=
  let from_ := rd s (fibHeld f) (HUPS.FROM n)
  (if s.clock.tick < from_ then from_ else from_ + slotG s f n) * tickCycles

/-- The frame that the tiers give, whether tier 4 gave it and whether tier 2 did, and the state of the round robin with it charged. The assembler works at the start of a
block: ties stand as in cycle 0. -/
def chooseUp (f n : Nat) (l : List QEnt) (s : State) : Option (QEnt × Bool × Bool × State) :=
  let c := 0
  let urgent := fun (e : QEnt) => decide (e.cls ≠ clsExpress) && decide (e.deadline < nextWindow s f n)
  let tier4 := (pickExpress l c).isNone && (pickUrgent (l.filter urgent) c).isNone && (pickCommitted s l c).isNone
  (chooseFrame l c urgent (pickSub (slotService s f n)) s).map (fun r => (r.1, tier4, r.2))

/-- The lists have room for another entry; when they have none, PREDICT_FULL once a tick (R126). -/
def listsFull (s : State) (f : Nat) : Bool := decide (65536 ≤ (buildEntries s f).length)

def noteFull (f : Nat) (s : State) : State :=
  if rd s (fibHeld f) HUPS.FULL_TICK = s.clock.tick + 1 then s
  else raise (fibN f 3) FB3.evPREDICT_FULL [] (inc (fibN f 3) FB3.PREDICT_FULL (wr (fibHeld f) HUPS.FULL_TICK (s.clock.tick + 1) s))

/-- An entry for a part of a frame: what the round robin was charged beyond the part is credited, and a split is counted. -/
def placePart (f : Nat) (e : QEnt) (part : Nat) (charged urgent : Bool) (s : State) : BuildEnt × State :=
  let whole := (entOf s e.id).getD e
  let last := decide (part = e.length)
  let s := if last then s else inc (fibN f 3) FB3.FRAGMENTS (if charged then creditDeficit e (e.length - part) s else s)
  (⟨e.id, upLen whole - e.length, part, last, charged, urgent⟩, s)

/-- Append frames in scheduler order to a list until its room is full, a frame does not fit, or `fuel` ends. `put` stores the list. -/
def appendFrames (f n room : Nat) (get : State → List BuildEnt) (put : List BuildEnt → State → State) : Nat → State → State
  | 0, s => s
  | fuel + 1, s =>
    match chooseUp f n (slotHeads s f n) s with
    | none => s
    | some (e, charged, urgent, t) =>
      match partFor s f n e.length (room - usedRoom (get s)) with
      | none => s
      | some part =>
        if listsFull s f then noteFull f s
        else
          let (x, t) := placePart f e part charged urgent t
          let t := syncBuild f (put (get s ++ [x]) t)
          if part = e.length then appendFrames f n room get put fuel t else t

/-- Fuel for filling: a frame enters a list once, and each at most in two parts. -/
def fillFuel (s : State) (f : Nat) : Nat := 2 * (s.leafq.filter (fun e => e.port = 8 + f)).length + 1

/-- The bytes of an entry's frame from the entry's first on: what R123 counts, for a part of a frame too. -/
def trueLeft (s : State) (x : BuildEnt) : Nat := match entOf s x.id with | some e => max x.len (upLen e - x.off) | none => x.len

/-- Keep entries from the front while they fit a room; the first that does not is split when R123 allows; the rest are returned. Answers the
list kept. -/
def trimTo (f n : Nat) : Nat → List BuildEnt → State → List BuildEnt × State
  | _, [], s => ([], s)
  | room, x :: l, s =>
    if x.len + 8 ≤ room then
      let (k, s) := trimTo f n (room - 8 - x.len) l s
      (x :: k, s)
    else
      match partFor s f n (trueLeft s x) room with
      | none => ([], returnEntries f (x :: l) s)
      | some p =>
        let rest : BuildEnt := { x with off := x.off + p, len := x.len - p }
        ([{ x with len := p, last := false }], returnEntries f (rest :: l) (inc (fibN f 3) FB3.FRAGMENTS s))

/-! ## Prediction (R121) -/

/-- A slot whose burst is predicted: bound, PREDICT set, its service node named. -/
def predicts (s : State) (f n : Nat) : Bool :=
  rdb s (Tab.asl f n) ASL.BOUND && rdb s (Tab.asl f n) ASL.PREDICT && slotValid s f n

/-- Precedence of an entry's frame: 0 Express, 1 Assured, 2 Standard. -/
def entPrec (s : State) (x : BuildEnt) : Nat := match entOf s x.id with | some e => precedence e.cls | none => 0

/-- Put an entry ahead of those of lower precedence. -/
def insertPrec (s : State) (p : Nat) (x : BuildEnt) : List BuildEnt → List BuildEnt
  | [] => [x]
  | y :: l => if p < entPrec s y then x :: y :: l else y :: insertPrec s p x l

/-- Place committed frames of higher precedence than some entry of the predicted burst ahead of those entries. -/
def insertHigher (f n : Nat) : Nat → State → State
  | 0, s => s
  | fuel + 1, s =>
    let lst := predOf s f n
    let low := lst.foldl (fun a x => max a (entPrec s x)) 0
    match chooseUp f n ((slotHeads s f n).filter (fun e => precedence e.cls < low)) s with
    | none => s
    | some (e, charged, urgent, t) =>
      if listsFull s f then noteFull f s
      else
        let (x, t) := placePart f e e.length charged urgent t
        insertHigher f n fuel (syncBuild f (setPred f n (insertPrec s (precedence e.cls) x lst) t))

/-- Keep a slot's predicted burst in scheduler order and within its room (R121). -/
def predictSlot (f n : Nat) (s : State) : State :=
  if !predicts s f n then s
  else
    let room := rd s (Tab.asl f n) ASL.PREDICTED_ROOM
    let s := insertHigher f n (fillFuel s f) s
    let (kept, s) := trimTo f n room (predOf s f n) s
    let s := syncBuild f (setPred f n kept s)
    appendFrames f n room (fun s => predOf s f n) (setPred f n) (fillFuel s f) s

/-- Append to a burst that is being extended (R122, R124); `b` names it by port, start and Alloc-ID. -/
def sameBurst (b c : Burst) : Bool := decide (c.fibre = b.fibre) && decide (c.start = b.start) && decide (c.alloc = b.alloc) && decide (c.stage < 3)

def burstEntries (s : State) (b : Burst) : List BuildEnt := match s.bursts.find? (sameBurst b) with | some c => c.entries | none => []

def setBurst (b : Burst) (g : Burst → Burst) (s : State) : State :=
  { s with bursts := s.bursts.map (fun c => if sameBurst b c then g c else c) }

def extendBurst (b : Burst) (s : State) : State :=
  if b.slot = 0 ∨ !b.extend then s
  else appendFrames b.fibre (b.slot - 1) b.room (fun s => burstEntries s b)
    (fun l => setBurst b (fun c => { c with entries := l })) (fillFuel s b.fibre) s

/-- After a commit the assembler takes committed frames: bursts being extended first, in start order, then the predicted bursts. -/
def assemble (f : Nat) (s : State) : State :=
  if actState s f ≠ 5 ∨ !rdb s (fibN f 3) FB3.US_CTRL_TX_EN ∨ !(s.leafq.any (fun e => e.port = 8 + f ∧ e.inFlight = 0)) then s
  else forEach (List.range 64) (predictSlot f) (forEach (s.bursts.filter (fun b => b.fibre = f ∧ b.stage = 0)) extendBurst s)

end Sys2Proof.Machine
end

