-- ==== Sys2Proof/Machine/Bollard.lean ====
section
/-! DEFINITION. Bollard: policers, profiles and colours (R247 to R252). -/

namespace Sys2Proof.Machine

/-- The buckets of a policer, in bits, with their residues in 1/512 bit, and the block of the last use (R249). -/
structure Buckets where
  tc : Nat
  tcRes : Nat
  te : Nat
  teRes : Nat
  last : Nat
  deriving DecidableEq, Repr

/-- A profile as it bears on a decision (Table 8.12). -/
structure Profile where
  mode : Nat
  aware : Bool
  cir : Nat
  pir : Nat
  cbs : Nat
  ebs : Nat
  deriving DecidableEq, Repr

def bollardMode (s : State) (pr : Nat) : Nat := let m := rd s (Tab.bpf pr) BPF.MODE; if m = 3 then 0 else m

def getProfile (s : State) (pr : Nat) : Profile :=
  ⟨bollardMode s pr, rdb s (Tab.bpf pr) BPF.AWARE, rd s (Tab.bpf pr) BPF.CIR, rd s (Tab.bpf pr) BPF.PIR,
   rd s (Tab.bpf pr) BPF.CBS, rd s (Tab.bpf pr) BPF.EBS_PBS⟩

def getBuckets (s : State) (i : Nat) : Buckets :=
  ⟨rd s (Tab.pol i) POL.TC, rd s (Tab.pol i) POL.TC_RESIDUE, rd s (Tab.pol i) POL.TE_TP, rd s (Tab.pol i) POL.TE_TP_RESIDUE,
   rd s (Tab.pol i) POL.LAST_BLOCK⟩

/-- The fields of a policer's buckets with the values given. -/
def bucketFields (b : Buckets) : List (Field × Nat) :=
  [(POL.TC, b.tc), (POL.TC_RESIDUE, b.tcRes), (POL.TE_TP, b.te), (POL.TE_TP_RESIDUE, b.teRes), (POL.LAST_BLOCK, b.last)]

def putBuckets (i : Nat) (b : Buckets) (s : State) : State := forEach (bucketFields b) (fun f s => wr (Tab.pol i) f.1 f.2 s) s

/-- Fill a bucket by `n` units of 1/512 bit up to a burst in bits: bucket, residue, and the units that overflow. -/
def fillBucket (v res n burst : Nat) : Nat × Nat × Nat :=
  let u := v * 512 + res + n
  if burst * 512 ≤ u then (burst, 0, u - burst * 512) else (u / 512, u % 512, 0)

/-- The refill at a use or sweep in the block whose number's low 32 bits are `k` (R249). -/
def refillBuckets (p : Profile) (k : Nat) (b : Buckets) : Buckets :=
  let d := (k + 2 ^ 32 - b.last) % 2 ^ 32
  if p.mode = 0 then { b with last := k }
  else
    let (tc, tcr, ovr) := fillBucket b.tc b.tcRes (d * p.cir) (8 * p.cbs)
    let (te, ter, _) := fillBucket b.te b.teRes (if p.mode = 1 then ovr else d * p.pir) (8 * p.ebs)
    ⟨tc, tcr, te, ter, k⟩

/-- The colour of a frame of `bits` bits and the buckets it leaves (Table 8.6). -/
def colourFrame (p : Profile) (incoming bits : Nat) (b : Buckets) : Nat × Buckets :=
  if p.mode = 0 then (green, b)
  else if p.mode = 1 then
    if bits ≤ b.tc ∧ (incoming = green ∨ !p.aware) then (green, { b with tc := b.tc - bits })
    else if bits ≤ b.te ∧ (incoming ≠ red ∨ !p.aware) then (yellow, { b with te := b.te - bits })
    else (red, b)
  else if (incoming = red ∧ p.aware) ∨ b.te < bits then (red, b)
  else if (incoming = yellow ∧ p.aware) ∨ b.tc < bits then (yellow, { b with te := b.te - bits })
  else (green, { b with te := b.te - bits, tc := b.tc - bits })

/-- Use a policer on a frame of `len` bytes in block `k`: the colour and the buckets after (R249, R250). -/
def usePolicer (s : State) (i incoming len k : Nat) : Nat × Buckets :=
  let p := getProfile s (rd s (Tab.pol i) POL.PROFILE)
  colourFrame p incoming (8 * len) (refillBuckets p (low32 k) (getBuckets s i))

/-- A map entry, 3 taken as red (R248). -/
def mapColour (v : Nat) : Nat := min 2 v

/-- The incoming colour that a profile's map gives; green without the field it reads (R248). -/
def incomingColour (s : State) (pr : Nat) (pcpDei dscp : Option Nat) : Nat :=
  let m := rd s (Tab.bpf pr) BPF.MAP
  if rdb s (Tab.bpf pr) BPF.COLOUR_SRC then
    match dscp with
    | some d => mapColour (bitsOf (rd s 0x140 (BOL.DSCP_MAP m (d / 16))) (2 * (d % 16)) 2)
    | none => green
  else
    match pcpDei with
    | some d => mapColour (bitsOf (rd s 0x140 (BOL.PCP_MAP m)) (2 * d) 2)
    | none => green

/-- A policer starts full when its record is committed in block `j` (R249). -/
def startPolicer (j i : Nat) (s : State) : State :=
  let p := getProfile s (rd s (Tab.pol i) POL.PROFILE)
  putBuckets i ⟨8 * p.cbs, 0, 8 * p.ebs, 0, low32 j⟩ s

/-- The remark of a confirmed colour (R252). -/
def remarkOf (s : State) (pr colour : Nat) : Remark :=
  let r := rd s (Tab.bpf pr) BPF.REMARK
  if colour = yellow then ⟨r = 1 ∨ r = 3, r = 2 ∨ r = 3, rd s (Tab.bpf pr) BPF.YELLOW_DSCP⟩ else ⟨false, false, 0⟩

/-- Count a confirmed colour in its profile (R252). -/
def countColour (pr colour : Nat) (s : State) : State :=
  inc (Tab.bpf pr) (if colour = green then BPF.GREEN else if colour = yellow then BPF.YELLOW else BPF.RED) s

/-- Confirm a provisional colour in decision order for block `k`: the policer is used for good, a downgrade counted (R251). -/
def confirmColour (i incoming len provisional k : Nat) (s : State) : Nat × State :=
  let pr := rd s (Tab.pol i) POL.PROFILE
  let (c, b) := usePolicer s i incoming len k
  let c := max c provisional
  let s := countColour pr c (putBuckets i b s)
  let s := if provisional < c then raiseFirstItem k 0x140 BOL.evDOWNGRADE [i] (inc 0x140 BOL.DOWNGRADES s) else s
  (c, if provisional < c ∧ c = red then inc 0x140 BOL.DOWNGRADES_RED s else s)

/-- Sweep one policer: its buckets are refreshed (R249). -/
def sweepPolicer (i : Nat) (s : State) : State :=
  putBuckets i (refillBuckets (getProfile s (rd s (Tab.pol i) POL.PROFILE)) (low32 (now s)) (getBuckets s i)) s

/-- An index that the page's selected table has (Table 8.12). -/
def bolIndexOk (s : State) : Bool := !rdb s 0x140 BOL.TBL_ADDR_TABLE || decide (rd s 0x140 BOL.TBL_ADDR_INDEX < 4096)

/-- The record page and fields that TBL_ADDR selects. -/
def bolRecord (s : State) : Nat × List Field :=
  let i := rd s 0x140 BOL.TBL_ADDR_INDEX
  if rdb s 0x140 BOL.TBL_ADDR_TABLE then (Tab.bpf i, BPF.fields) else (Tab.pol i, POL.fields)

/-- A profile image with a burst of 0 in mode 1 or 2 (R247). -/
def zeroBurst (s : State) : Bool :=
  rdb s 0x140 BOL.TBL_ADDR_TABLE && (dataField s 0x140 BPF.MODE = 1 || dataField s 0x140 BPF.MODE = 2)
    && (dataField s 0x140 BPF.CBS = 0 || dataField s 0x140 BPF.EBS_PBS = 0)

/-- TBL_CMD 1 of page 0x140 (R257). -/
def bolRead (s : State) : State :=
  if bolIndexOk s then tblResult 0x140 0 (readRecord 0x140 (bolRecord s).1 (bolRecord s).2 s) else tblResult 0x140 1 s

/-- TBL_CMD 1: read a policer or profile (R257). -/
def execBolRead (s : State) : Host.Outcome State Fault Refusal := settle s (tblCmd 0x140 bolRead s)

/-- TBL_CMD 2: write a policer or profile to staging, a zero burst refused (R247, R257). -/
def execBolWrite (s : State) : Host.Outcome State Fault Refusal :=
  settle s (tblCmd 0x140 (fun s =>
    if !bolIndexOk s then tblResult 0x140 1 s
    else if zeroBurst s then tblResult 0x140 2 s
    else tblResult 0x140 0 (stageRecord 0x140 (bolRecord s).1 (bolRecord s).2 s)) s)

/-- TBL_CMD 3: read a profile and clear its counters; with TABLE 0 as TBL_CMD 1 (Table 8.12). -/
def execBolReadClear (s : State) : Host.Outcome State Fault Refusal :=
  settle s (tblCmd 0x140 (fun s =>
    let t := bolRead s
    if rdb s 0x140 BOL.TBL_ADDR_TABLE ∧ bolIndexOk s then
      let pg := (bolRecord s).1
      wr pg BPF.GREEN 0 (wr pg BPF.YELLOW 0 (wr pg BPF.RED 0 t))
    else t) s)

/-- The background sweep refreshes a policer (R249). -/
def execPolicerSweep (index : Nat) (s : State) : Host.Outcome State Fault Refusal :=
  settle s (onlyIf (index < 131072) (sweepPolicer index) s)

/-- The duplicated confirmation logic disagrees: masked, the decision is recomputed (R39, Table 8.14). -/
def execBolDupMismatch (s : State) : Host.Outcome State Fault Refusal :=
  settle s (raiseFault 0x140 BOL.evDUP_MISMATCH (locUnit 0x16 0x00) true [] s)

/-- The scheduler's duplicated decision logic disagrees; `unit` is the port node, or 0x0C for the admission unit (R39, Table 8.14). -/
def execSchDupMismatch (unit : Nat) (s : State) : Host.Outcome State Fault Refusal :=
  settle s (onlyIf (unit ≤ 0x0C) (raiseFault 0x100 SCH0.evDUP_MISMATCH (locUnit 0x15 unit) true []) s)

end Sys2Proof.Machine
end

