-- ==== Sys2Proof/Machine/Flow.lean ====
section
/-! DEFINITION. The flow table (R171 to R191, R578): keys, lookup, learning, firewall state, ageing, host access. A slice's work
changes nothing but its ledger (`Wk`); the Crossing applies ledgers at commits. -/

namespace Sys2Proof.Machine

/-! ## A slice's work on one item (R263, R266) -/

/-- The view a slice reads, and what its work has made so far: ledger entries, events, records inserted and removed. -/
structure Wk where
  v : State
  led : List LEntry
  evs : List (Nat × Nat × List Nat)
  inserted : List Nat
  exports : List (List Nat)

/-- A saturating count as a ledger entry. -/
def countEntry (pg : Nat) (f : Field) (n : Nat) : LEntry := ⟨pg, f.key pg, f.rst, f.width, true, true, n⟩

/-- Set a field in the ledger and in the view. -/
def Wk.set (pg : Nat) (f : Field) (x : Nat) (w : Wk) : Wk :=
  { w with v := wr pg f x w.v, led := w.led ++ [⟨pg, f.key pg, f.rst, f.width, false, false, x % 2 ^ f.width⟩] }

/-- Add to a counter, which saturates. -/
def Wk.count (pg : Nat) (f : Field) (n : Nat) (w : Wk) : Wk :=
  { w with v := addc pg f n w.v, led := w.led ++ [countEntry pg f n] }

/-- Add to a count that goes up and down, modulo its width. -/
def Wk.shift (pg : Nat) (f : Field) (n : Nat) (w : Wk) : Wk :=
  { w with v := wr pg f (rd w.v pg f + n) w.v, led := w.led ++ [⟨pg, f.key pg, f.rst, f.width, true, false, n⟩] }

def Wk.event (pg b : Nat) (d : List Nat) (w : Wk) : Wk := { w with evs := w.evs ++ [(pg, b, d)] }

/-- The entry names a flow record: and it is the one that makes the record free, or sets its TYPE. -/
def LEntry.inFlow (e : LEntry) : Bool := decide (0x1000000 ≤ e.page) && decide (e.page < 0x1500000)
def LEntry.setsType (e : LEntry) : Bool := decide (e.key = FREC.TYPE.key e.page)

/-- Apply a ledger entry to the register store. A free record is all zeros (R172): what frees it clears it, and what an earlier view still
counted into it is lost. -/
def LEntry.apply (m : Map Nat) (e : LEntry) : Map Nat :=
  let old := Map.get e.rst m e.key
  let new := if !e.add then e.value else if e.saturate then min (2 ^ e.width - 1) (old + e.value) else (old + e.value) % 2 ^ e.width
  if e.inFlow then
    if e.setsType then (if new = 0 then m.filter (fun p => decide (p.1 / 32768 ≠ e.page)) else Map.put e.rst m e.key new)
    else if Map.get 0 m (FREC.TYPE.key e.page) = 0 then m
    else Map.put e.rst m e.key new
  else Map.put e.rst m e.key new

def applyLedger (l : List LEntry) (s : State) : State := { s with regs := l.foldl LEntry.apply s.regs }

/-- Whether a ledger names a record. -/
def touches (l : List LEntry) (pg : Nat) : Bool := l.any (fun e => e.page = pg)

/-! ## Areas, keys, buckets, regions (R171 to R175) -/

/-- `DIRECT_BASE` as applied. -/
def flowBase (s : State) : Nat := max 8 (8 * (rd s 0xD0 FLW.DIRECT_BASE / 8))
def flowRecords : Nat := 5242880
def hashBuckets (s : State) : Nat := flowBase s / 8

/-- The profile an action entry names; values above 63 are applied as 0. -/
def actionProfile (a : List Nat) : Nat := let p := a.getD 13 0 % 256; if 63 < p then 0 else p

/-- The flow key of a profile's `FIELD_MASK`: fields in ascending ID order, each most significant bit first, padded to a byte. -/
def flowKey (mask : Nat) (fields : List Nat) : List Byte :=
  let x := (List.range 32).foldl
    (fun a i => if bit mask i then (a.1 * 2 ^ fieldWidth i + fields.getD i 0 % 2 ^ fieldWidth i, a.2 + fieldWidth i) else a) (0, 0)
  let n := (x.2 + 7) / 8
  toBe n (x.1 * 2 ^ (8 * n - x.2))

/-- Key bytes of a mask. -/
def maskKeyLen (mask : Nat) : Nat := (((List.range 32).foldl (fun a i => if bit mask i then a + fieldWidth i else a) 0) + 7) / 8

/-- H of a profile and key (R174). -/
def flowHash (s : State) (pr : Nat) (key : List Byte) : Nat := crc32c (rd s 0xD0 FLW.HASH_SEED) (BitVec.ofNat 8 pr :: key)
def flowBucket (s : State) (h : Nat) : Nat := h * hashBuckets s / 2 ^ 32
def bucketRegion (s : State) (b : Nat) : Nat := b * 192 / hashBuckets s

/-- Fill in an item's flow fields from its action entry and catalogue fields (R173, R174). -/
def placeFlow (s : State) (x : Item) : Item :=
  let pr := actionProfile x.action
  let mask := rd s 0xD1 (FLP.FIELD_MASK pr)
  if x.stream ≠ 0 then
    { x with direct := true, flow := x.stream - 1, lookup := false, region := (x.stream - 1) % 192, profile := pr }
  else if mask = 0 ∨ !rdb s 0xD0 FLW.FLW_CTRL_EN then
    let k := flowKey (rd s 0xD1 (FLP.FIELD_MASK 0)) x.fields
    let h := flowHash s 0 k
    { x with h := h, region := bucketRegion s (flowBucket s h), lookup := false, profile := pr }
  else
    let k := flowKey mask x.fields
    let h := flowHash s pr k
    let b := flowBucket s h
    { x with h := h, flow := b, region := bucketRegion s b, lookup := true, key := leNat k, keyLen := k.length, profile := pr }

/-- Fetch a bucket into the flow cache: 2 048 sets of 16, least recently used replaced (R176). -/
def touchFlowCache (b : Nat) (s : State) : State :=
  let l := Map.get [] s.flowCache (b % 2048)
  let s := if l.contains b then s else inc 0xD0 FLW.CACHE_MISSES s
  { s with flowCache := Map.put [] s.flowCache (b % 2048) ((b :: l.filter (fun x => decide (x ≠ b))).take 16) }

/-! ## Halves (R260) -/

/-- Region r lies in half H0 of its home slice. -/
def inH0 (r : Nat) : Bool := r / 3 % 2 = 0

/-! ## Lookup and hits (R176, R177, R182) -/

/-- Hashed lookups and learning are on. -/
def flowOn (s : State) : Bool := rdb s 0xD0 FLW.FLW_CTRL_EN && rdb s 0xD0 FLW.FLW_STATUS_READY

def bucketSlots (b : Nat) : List Nat := (List.range 8).map (fun i => 8 * b + i)

/-- A record that a key hits. -/
def findFlow (v : State) (b pr key : Nat) : Option Nat :=
  (bucketSlots b).find? (fun i => rd v (Tab.flow i) FREC.TYPE = 1 ∧ rd v (Tab.flow i) FREC.PROFILE = pr ∧ rd v (Tab.flow i) FREC.KEY = key)

/-- FW_STATE after a hit: the flags act in the order of R182; a frame without TCP flags leaves NONE for ESTABLISHED. -/
def fwNext (st : Nat) (tcp : Option Nat) : Nat :=
  match tcp with
  | none => if st = 0 then 2 else st
  | some f =>
    let st := if bit f 1 ∧ !bit f 4 then 1 else if bit f 4 ∧ st = 1 then 2 else st
    let st := if bit f 0 then 3 else st
    if bit f 2 then 4 else st

/-- The item's TCP flags, when the parser met TCP. -/
def tcpFlags (x : Item) : Option Nat := if bit x.present 27 then some (x.fields.getD 27 0) else none

/-- Count a hit: PKTS, BYTES, LAST_SEEN; and the firewall state of a FLOW record (R177, R182). -/
def flowHit (i tick : Nat) (x : Item) (w : Wk) : Wk :=
  let pg := Tab.flow i
  let w := ((w.count pg FREC.PKTS 1).count pg FREC.BYTES x.length).set pg FREC.LAST_SEEN tick
  if rd w.v pg FREC.TYPE = 1 ∧ rdb w.v pg FREC.FW_EN then w.set pg FREC.FW_STATE (fwNext (rd w.v pg FREC.FW_STATE) (tcpFlags x)) else w

/-- The lookup of an item: the record it hits or names, if any (R176, R177, R578). -/
def flowLookup (s : State) (tick : Nat) (x : Item) (w : Wk) : Option Nat × Wk :=
  if x.direct then
    if rd w.v (Tab.flow x.flow) FREC.TYPE ≠ 0 ∧ x.flow < flowRecords then (some x.flow, flowHit x.flow tick x w) else (none, w)
  else if x.lookup ∧ flowOn s then
    let w := w.count 0xD0 FLW.LOOKUPS 1
    match findFlow w.v x.flow x.profile x.key with
    | some i => (some i, flowHit i tick x (w.count 0xD0 FLW.HITS 1))
    | none => (none, w)
  else (none, w)

/-- The COUNT modifier: the COUNTER record takes the frame, or COUNT_INVALID does. The record is read in the view when `own` says that
the slice owns it, else as committed (R176, R177). -/
def countInto (s : State) (own : Nat → Bool) (i tick : Nat) (x : Item) (w : Wk) : Wk :=
  let r := if own (i % 192) then w.v else s
  if flowBase s ≤ i ∧ i < flowRecords ∧ rd r (Tab.flow i) FREC.TYPE = 3 then
    ((w.count (Tab.flow i) FREC.PKTS 1).count (Tab.flow i) FREC.BYTES x.length).set (Tab.flow i) FREC.LAST_SEEN tick
  else w.count 0xD0 FLW.COUNT_INVALID 1

/-! ## Learning (R178 to R181) -/

/-- Rejoin flag of a fibre port. -/
def rejoinFlag (f : Nat) : Field := if f = 0 then SREC.REJOIN_A else SREC.REJOIN_B

/-- A stream that stops rejoining on a port no longer counts in that port's RJ_STREAMS (R97). -/
def endRejoin (pg : Nat) (f : Nat) (w : Wk) : Wk :=
  if rdb w.v pg (rejoinFlag f) then (w.set pg (rejoinFlag f) 0).shift (fibPage f + 1) FB1.RJ_STREAMS (2 ^ 16 - 1) else w

/-- A record becomes free: all zeros; its rejoins end with it. -/
def freeRecord (i : Nat) (w : Wk) : Wk :=
  let pg := Tab.flow i
  let w := if rd w.v pg FREC.TYPE = 2 then endRejoin pg 1 (endRejoin pg 0 w) else w
  let w := w.set pg FREC.TYPE 0
  { w with v := resetPage pg w.v }

/-- A new FLOW record at index i, its slot free: the identifying fields. -/
def putFlow (i : Nat) (x : Item) (origin fwEn : Nat) (w : Wk) : Wk :=
  let pg := Tab.flow i
  let w := { w with inserted := w.inserted ++ [i] }
  ((((((w.set pg FREC.TYPE 1).set pg FREC.PROFILE x.profile).set pg FREC.KEY_LEN x.keyLen).set pg FREC.ORIGIN origin).set pg FREC.FW_EN
    fwEn).set pg FREC.KEY_HASH x.h).set pg FREC.KEY x.key

/-- Inserts in the slice's uncommitted ledgers, `here` those of the block in hand (R179). -/
def pendingInserts (s : State) (slice here : Nat) : Nat :=
  ((s.work.filter (fun b => b.slice = slice ∧ !b.discarded)).map (fun b => (b.results.map (fun r => r.inserted.length)).sum)).sum + here

/-- Inserts that the slice has made in a tick (R179). -/
def tickInserts (s : State) (slice tick here : Nat) : Nat :=
  let pend := ((s.work.filter (fun b => b.slice = slice ∧ b.abs / 64 = tick ∧ !b.discarded)).map (fun b => (b.results.map (fun r => r.inserted.length)).sum)).sum
  let done := if rd s (held 0xD0) (HFLW.INSERT_TICK slice) = tick then rd s (held 0xD0) (HFLW.INSERTS slice) else 0
  pend + done + here

/-- The record that gives way to an insert into a full bucket: the oldest of those learned by hardware and not pinned, the lowest slot
first (R179). -/
def evictee (v : State) (tick b : Nat) : Option Nat :=
  minBy (fun i => 2 ^ 32 - 1 - (tick + 2 ^ 32 - rd v (Tab.flow i) FREC.LAST_SEEN) % 2 ^ 32)
    ((bucketSlots b).filter (fun i => rd v (Tab.flow i) FREC.TYPE = 1 ∧ rd v (Tab.flow i) FREC.ORIGIN = 0 ∧ !rdb v (Tab.flow i) FREC.PIN))

/-- The slot for an insert: a free one, or one to evict when allowed. -/
def insertSlot (v : State) (tick b : Nat) (evict : Bool) : Option (Nat × Bool) :=
  match (bucketSlots b).find? (fun i => rd v (Tab.flow i) FREC.TYPE = 0) with
  | some i => some (i, false)
  | none => if evict then (evictee v tick b).map (fun i => (i, true)) else none

/-- Insert a record for a miss, unless R179 stands against it; answers the record. -/
def learnInsert (s : State) (slice tick : Nat) (x : Item) (fwEn : Nat) (w : Wk) : Option Nat × Wk :=
  match insertSlot w.v tick x.flow (rdb s 0xD0 FLW.FLW_CTRL_EVICT_MODE) with
  | none => (none, (w.count 0xD0 FLW.BUCKET_FULL 1).event 0xD0 FLW.evBUCKET_FULL [x.flow])
  | some (i, evict) =>
    if rd s 0xD0 FLW.HASH_LIMIT ≤ rd s 0xD0 FLW.HASHED_COUNT + pendingInserts s slice w.inserted.length then
      (none, (w.count 0xD0 FLW.TABLE_FULL 1).event 0xD0 FLW.evTABLE_FULL [rd s 0xD0 FLW.HASHED_COUNT])
    else
      let rate := rd s 0xD0 FLW.LEARN_RATE
      if rate ≠ 0 ∧ (rate + 2) / 3 ≤ tickInserts s slice tick w.inserted.length then (none, w.count 0xD0 FLW.LEARN_THROTTLED 1)
      else
        let w := if evict then freeRecord i { w.count 0xD0 FLW.EVICTED 1 with exports := w.exports ++ [[1, i]] }
          else w.shift 0xD0 FLW.HASHED_COUNT 1
        (some i, (putFlow i x 0 fwEn w).count 0xD0 FLW.LEARNED 1)

/-- Exchange two catalogue fields. -/
def swapFields (a b : Nat) (l : List Nat) : List Nat := (l.set a (l.getD b 0)).set b (l.getD a 0)

/-- The originator record of a responder's first frame, in committed state (R182). -/
def reverseFlow (s : State) (x : Item) : Option Nat :=
  let k := flowKey (rd s 0xD1 (FLP.FIELD_MASK x.profile)) (swapFields 25 26 (swapFields 20 21 (swapFields 18 19 x.fields)))
  match findFlow s (flowBucket s (flowHash s x.profile k)) x.profile (leNat k) with
  | some i => let st := rd s (Tab.flow i) FREC.FW_STATE; if st = 1 ∨ st = 2 then some i else none
  | none => none

/-- What learning makes of a miss: a record, a learn descriptor, or a firewall denial (R178 to R182). -/
structure Learned where
  record : Option Nat
  desc : Bool
  denied : Bool

/-- LEARN on a miss. -/
def flowLearn (s : State) (slice tick : Nat) (x : Item) (w : Wk) : Learned × Wk :=
  let pr := x.profile
  if !(x.lookup && flowOn s) then (⟨none, false, false⟩, w)
  else
    let origin := if rdb s 0xD1 (FLP.FW_ORIGIN_REQ pr) then (reverseFlow s x).map (· + 1) else some 0
    match origin with
    | none => (⟨none, false, true⟩, w.count 0xD0 FLW.FW_DENIED 1)
    | some peer =>
      if rdb s 0xD1 (FLP.MODE pr) then (⟨none, true, false⟩, w)
      else
        match learnInsert s slice tick x (rd s 0xD1 (FLP.FW_EN pr)) w with
        | (none, w) => (⟨none, false, false⟩, w)
        | (some i, w) =>
          let w := if peer = 0 then w else (w.set (Tab.flow i) FREC.FW_ROLE 1).set (Tab.flow i) FREC.PEER_INDEX (peer - 1)
          (⟨some i, false, false⟩, flowHit i tick x w)

/-- The learn descriptor of an item in block k (Table 15.5). -/
def learnBytes (x : Item) (k : Nat) : List Byte :=
  toLe 4 (x.profile + x.keyLen * 2 ^ 8 + k % 64 * 2 ^ 24) ++ toLe 4 x.h ++ toLe 4 x.flow ++ toLe 4 (k / 64) ++ toLe 48 x.key

/-- A learn descriptor of slice `slice` at the commit of block k: held back within `MISS_HOLD` of the last for the same H, lost without
room (R180). -/
def sendLearn (slice : Nat) (x : Item) (k : Nat) (s : State) : State :=
  if s.missFilter.any (fun e => e.1 = slice ∧ e.2.1 = x.h ∧ k / 64 < e.2.2 / 64 + rd s 0xD0 FLW.MISS_HOLD) then inc 0xD0 FLW.MISS_SUPPRESSED s
  else
    let mine := (s.missFilter.filter (fun e => e.1 = slice ∧ e.2.1 ≠ x.h)).take 4095
    let s := { s with missFilter := (slice, x.h, k) :: mine ++ s.missFilter.filter (fun e => e.1 ≠ slice) }
    let (t, ok) := sendEntry (rd s 0xD0 FLW.LEARN_RING) 3 x.port (learnBytes x k) s
    if ok then t else raiseFirstItem k 0xD0 FLW.evLEARN_RING_FULL [] (inc 0xD0 FLW.LEARN_RING_FULL t)

/-- The 32 words of a record as committed; bytes 0x40 to 0x5F by TYPE (Table 6.1). -/
def flowWords (s : State) (i : Nat) : List Nat :=
  let pg := Tab.flow i
  let stream := rd s pg FREC.TYPE = 2
  (List.range 32).map (fun w =>
    if 16 ≤ w ∧ w < 24 ∧ stream then recWord s false pg SREC.fields (w + 32) else recWord s false pg FREC.fields w)

/-- Export the final image of a removed record: reason 0 aged, 1 evicted, 2 invalidated (R184). -/
def exportFlow (reason i k : Nat) (s : State) : State :=
  if rdb s 0xD0 FLW.FLW_CTRL_EXPORT_EN then
    let bytes := toLe 4 reason ++ toLe 4 i ++ toLe 4 (k / 64) ++ List.replicate 52 0 ++ (flowWords s i).flatMap (toLe 4)
    let (t, ok) := sendEntry (rd s 0xD0 FLW.EXPORT_RING) 4 15 bytes s
    if ok then t else raiseFirstItem k 0xD0 FLW.evEXPORT_LOST [] (inc 0xD0 FLW.EXPORT_LOST t)
  else s

/-! ## Removal (R183, R186, R188) -/

/-- A record becomes free: all zeros; HASHED_COUNT follows in the hashed area. -/
def dropRecord (i : Nat) (s : State) : State :=
  let was := rd s (Tab.flow i) FREC.TYPE = 1
  let s := resetPage (Tab.flow i) s
  if was ∧ i < flowBase s then wr 0xD0 FLW.HASHED_COUNT (rd s 0xD0 FLW.HASHED_COUNT - 1) s else s

/-- The idle limit of a record (R182, R183). -/
def idleLimit (s : State) (i : Nat) : Nat :=
  let o := rd s (Tab.flow i) FREC.IDLE_OVERRIDE
  let l := if o ≠ 0 then o else rd s 0xD1 (FLP.IDLE_TICKS (rd s (Tab.flow i) FREC.PROFILE))
  if rd s (Tab.flow i) FREC.FW_STATE = 4 then (if l = 0 then 800 else min l 800) else l

/-- A record that the ageing engine proposes to remove at tick t (R183). -/
def agedOut (s : State) (t i : Nat) : Bool :=
  decide (rd s (Tab.flow i) FREC.TYPE = 1) && !rdb s (Tab.flow i) FREC.PIN && decide (idleLimit s i ≠ 0)
    && decide (idleLimit s i ≤ (t + 2 ^ 32 - rd s (Tab.flow i) FREC.LAST_SEEN) % 2 ^ 32)

/-- Indices of the records in use. -/
def flowsIn (s : State) : List Nat := (pagesIn s 0x1000000 0x1500000).map (· - 0x1000000)

/-! ## Host access (R187, Table 6.3) -/

/-- The record buffer as a number. -/
def flowBuf (s : State) : Nat := (List.range 32).foldl (fun a i => a + rd s (held 0xD0) (HFLW.BUF i) * 2 ^ (32 * i)) 0

/-- The value that a command's buffer gives a field; STREAM fields lie 0x80 above their bytes. -/
def bufField (c : FlowCmd) (f : Field) : Nat := bitsOf c.buf (8 * (if 0xC0 ≤ f.off then f.off - 0x80 else f.off) + f.lo) f.width

/-- The data words show the half of the buffer that `HALF` selects. -/
def showFlowBuf (s : State) : State :=
  let h := rd s 0xD0 FLW.TBL_ADDR_HALF
  forEach (List.range 16) (fun i s => wr 0xD0 (TBL.DATA i) (rd s (held 0xD0) (HFLW.BUF (16 * h + i))) s) s

/-- A host write to a word of page 0x0D0 that bears on the buffer. -/
def flowBufWrite (off : Nat) (s : State) : State :=
  if off = 0x100 then showFlowBuf s
  else if 0x110 ≤ off ∧ off ≤ 0x14C then
    let i := (off - 0x110) / 4
    wr (held 0xD0) (HFLW.BUF (16 * rd s 0xD0 FLW.TBL_ADDR_HALF + i)) (rd s 0xD0 (TBL.DATA i)) s
  else s

/-- Commands that run while READY is 0 after a change: READ, WRITE and DELETE at or above both bases (R188). -/
def runsUnready (s : State) (c : FlowCmd) : Bool :=
  !rdb s (held 0xD0) HFLW.CLEARING && (c.op = 1 || c.op = 2 || c.op = 5)
    && decide (flowBase s ≤ c.index) && decide (rd s (held 0xD0) HFLW.OLD_BASE ≤ c.index)

/-- Copy fields of the buffer into a record. -/
def copyFields (i : Nat) (fs : List Field) (c : FlowCmd) (w : Wk) : Wk := fs.foldl (fun w f => w.set (Tab.flow i) f (bufField c f)) w

/-- Fields that host software may set in any record, and in a FLOW record. -/
def hostFields : List Field :=
  [FREC.TYPE, FREC.PROFILE, FREC.PIN, FREC.FW_EN, FREC.REPLICATE, FREC.FLOW_ACTION, FREC.KEY, FREC.LEAF_QUEUE, FREC.USE_QUEUE, FREC.POLICER,
   FREC.USE_POLICER, FREC.PKTS, FREC.BYTES, FREC.IDLE_OVERRIDE, FREC.COOKIE]
def hostFlowFields : List Field :=
  [FREC.GTPU_TEID_OUT, FREC.GTPU_QFI, FREC.GTPU_OP, FREC.GEN_SEQ, FREC.RTAG_POS, FREC.XGEM_PORT_A, FREC.XGEM_PORT_B, FREC.SLOT_A, FREC.SLOT_B]
/-- The fields that UPDATE writes. -/
def updateFields : List Field :=
  [FREC.PIN, FREC.FW_EN, FREC.REPLICATE, FREC.FLOW_ACTION, FREC.LEAF_QUEUE, FREC.USE_QUEUE, FREC.POLICER, FREC.USE_POLICER,
   FREC.IDLE_OVERRIDE, FREC.COOKIE] ++ hostFlowFields

/-- The values of Table 3.4. -/
def streamReset : List (Field × Nat) := [(SREC.TAKE_ANY, 1), (SREC.HIST_LEN, 32), (SREC.RESET_TICKS, 800), (SREC.STRIP, 1)]

/-- WRITE (Table 6.3). -/
def flowWrite (s : State) (c : FlowCmd) (i : Nat) (w : Wk) : Nat × Wk :=
  let typ := bufField c FREC.TYPE
  let pr := bufField c FREC.PROFILE
  let blank := bitsOf (c.buf) 512 256 = 0
  if i < flowBase s ∨ flowRecords ≤ i then (1, w)
  else if typ = 2 ∧ !blank ∧ (bufField c SREC.HIST_LEN < 2 ∨ 128 < bufField c SREC.HIST_LEN) then (6, w)
  else
    let seen := rd w.v (Tab.flow i) FREC.LAST_SEEN
    let w := freeRecord i w
    if typ = 0 then (0, w)
    else
      let w := copyFields i hostFields c w
      let len := maskKeyLen (rd s 0xD1 (FLP.FIELD_MASK pr))
      let w := ((w.set (Tab.flow i) FREC.ORIGIN 2).set (Tab.flow i) FREC.KEY_LEN len).set (Tab.flow i) FREC.LAST_SEEN seen
      let w := w.set (Tab.flow i) FREC.KEY_HASH (flowHash s pr (toLe len (bufField c FREC.KEY)))
      (0, if typ = 2 then
            (if blank then streamReset.foldl (fun w f => w.set (Tab.flow i) f.1 f.2) w else copyFields i SREC.fields c w)
          else if typ = 1 then copyFields i hostFlowFields c w else w)

/-- INSERT and LOOKUP (R181). `x` holds the buffer's key. -/
def flowInsert (s : State) (c : FlowCmd) (slice tick : Nat) (insert : Bool) (x : Item) (w : Wk) : Nat × Nat × Wk :=
  if rd s 0xD1 (FLP.FIELD_MASK x.profile) = 0 ∨ (insert ∧ bufField c FREC.TYPE ≠ 1) then (6, 0, w)
  else
    match findFlow w.v x.flow x.profile x.key with
    | some i => (if insert then 2 else 0, i, w)
    | none =>
      if !insert then (5, 0, w)
      else
        match insertSlot w.v tick x.flow false with
        | none => (3, 0, w)
        | some (i, _) =>
          if rd s 0xD0 FLW.HASH_LIMIT ≤ rd s 0xD0 FLW.HASHED_COUNT + pendingInserts s slice 0 then (4, 0, w)
          else
            let w := copyFields i (hostFields ++ hostFlowFields) c (w.shift 0xD0 FLW.HASHED_COUNT 1)
            let w := putFlow i x 1 (bufField c FREC.FW_EN) w
            (0, i, (w.set (Tab.flow i) FREC.LAST_SEEN tick).count 0xD0 FLW.HOST_INSERTS 1)

/-- The buffer's key as an item for lookups. -/
def bufItem (s : State) (c : FlowCmd) : Item :=
  let pr := bufField c FREC.PROFILE
  let len := maskKeyLen (rd s 0xD1 (FLP.FIELD_MASK pr))
  let k := bufField c FREC.KEY % 2 ^ (8 * len)
  let h := flowHash s pr (toLe len k)
  let b := flowBucket s h
  { blankItem with source := 14, profile := pr, key := k, keyLen := len, h := h, flow := b, region := bucketRegion s b, lookup := true }

/-- The item of a table command: its region is that of the record or key it names. -/
def flowCmdItem (s : State) (c : FlowCmd) : Item :=
  let i := c.index
  if c.op = 3 ∨ c.op = 6 then { bufItem s c with aux := [c.op] }
  else { blankItem with source := 14, aux := [c.op], flow := i, region := if i < flowBase s then bucketRegion s (i / 8) else i % 192 }

/-- Records that a FLUSH is to free (R187). -/
def flushSet (s : State) (c : FlowCmd) : List Nat :=
  (flowsIn s).filter (fun i => i < flowBase s ∧ rd s (Tab.flow i) FREC.TYPE = 1 ∧ !rdb s (Tab.flow i) FREC.PIN
    ∧ (c.all ∨ rd s (Tab.flow i) FREC.PROFILE = c.index % 64))

/-- Execute a table command as work of a slice: result code, result index, the ledger. -/
def flowCommand (s : State) (c : FlowCmd) (slice tick : Nat) (x : Item) (w : Wk) : Nat × Nat × Wk :=
  let i := c.index
  if !rdb s 0xD0 FLW.FLW_STATUS_READY ∧ !runsUnready s c then (7, 0, w)
  else if c.op = 1 then (if i < flowRecords then 0 else 1, i, w)
  else if c.op = 2 then let (r, w) := flowWrite s c i w; (r, i, w)
  else if c.op = 3 then flowInsert s c slice tick true x w
  else if c.op = 4 then
    if flowBase s ≤ i then (1, i, w) else if rd w.v (Tab.flow i) FREC.TYPE = 0 then (5, i, w) else (0, i, copyFields i updateFields c w)
  else if c.op = 5 then
    if flowRecords ≤ i then (1, i, w) else if rd w.v (Tab.flow i) FREC.TYPE = 0 then (5, i, w)
    else
      let w := if i < flowBase s then w.shift 0xD0 FLW.HASHED_COUNT (2 ^ 23 - 1) else w
      (0, i, freeRecord i w)
  else if c.op = 6 then flowInsert s c slice tick false x w
  else (0, i, w)

/-- The commit of a table command: BUSY clears, a READ fills the buffer (R187). -/
def flowCmdCommit (op res idx : Nat) (s : State) : State :=
  let s := if op = 1 ∧ res = 0 then
      let ws := flowWords s idx
      showFlowBuf (forEach (List.range 32) (fun i s => wr (held 0xD0) (HFLW.BUF i) (ws.getD i 0) s) s)
    else s
  let s := if op = 3 ∨ op = 6 then wr 0xD0 TBL.RESULT_INDEX idx s else s
  if op = 7 ∧ res = 0 then s else tblResult 0xD0 res s

/-- A table command is written: it executes in the first block that begins after the write (R187). -/
def flowPost (op : Nat) (s : State) : State := tblCmd 0xD0 (fun s =>
  { wr 0xD0 TBL.BUSY 1 s with
    flowCmd := some ⟨op, rd s 0xD0 FLW.TBL_ADDR_INDEX, rdb s 0xD0 FLW.TBL_ADDR_ALL, flowBuf s⟩ }) s

/-- TBL_CMD 1: READ (R187). -/
def execFlowRead (s : State) : Host.Outcome State Fault Refusal := settle s (flowPost 1 s)
/-- TBL_CMD 2: WRITE (R187). -/
def execFlowWrite (s : State) : Host.Outcome State Fault Refusal := settle s (flowPost 2 s)
/-- TBL_CMD 3: INSERT (R181). -/
def execFlowInsert (s : State) : Host.Outcome State Fault Refusal := settle s (flowPost 3 s)
/-- TBL_CMD 4: UPDATE (R187). -/
def execFlowUpdate (s : State) : Host.Outcome State Fault Refusal := settle s (flowPost 4 s)
/-- TBL_CMD 5: DELETE (R187). -/
def execFlowDelete (s : State) : Host.Outcome State Fault Refusal := settle s (flowPost 5 s)
/-- TBL_CMD 6: LOOKUP (R187). -/
def execFlowLookupCmd (s : State) : Host.Outcome State Fault Refusal := settle s (flowPost 6 s)
/-- TBL_CMD 7: FLUSH (R187). -/
def execFlowFlush (s : State) : Host.Outcome State Fault Refusal := settle s (flowPost 7 s)

/-- The last free of a FLUSH has committed: BUSY clears (R187). -/
def execFlowFlushDone (s : State) : Host.Outcome State Fault Refusal :=
  settle s (onlyIf (rdb s (held 0xD0) HFLW.FLUSHING ∧ s.flushList = []) (fun s =>
    tblResult 0xD0 0 (wr (held 0xD0) HFLW.FLUSHING 0 s)) s)

/-! ## Enabling (R188, R578) -/

/-- The direct records that a raised base brings into the hashed area and that are not FREE (R188). -/
def directFreed (s : State) : Nat :=
  ((flowsIn s).filter (fun i => decide (rd s (held 0xD0) HFLW.OLD_BASE ≤ i) && decide (i < rd s (held 0xD0) HFLW.BASE)
    && decide (rd s (Tab.flow i) FREC.TYPE ≠ 0))).length

/-- The frees after a change: every record below the base in force before it and the one that EN was set with (R188). -/
def freeBelow (s : State) : State :=
  let top := max (rd s (held 0xD0) HFLW.BASE) (rd s (held 0xD0) HFLW.OLD_BASE)
  let t := forEach ((flowsIn s).filter (· < top)) (fun i t => resetPage (Tab.flow i) t) (addc 0xD0 FLW.DIRECT_FREED (directFreed s) s)
  wr (held 0xD0) HFLW.FREEING 0 (wr 0xD0 FLW.HASHED_COUNT 0 t)

/-- EN is set: with a changed base or seed the frees begin and READY reads 0 (R188). -/
def execFlowEnable (s : State) : Host.Outcome State Fault Refusal :=
  settle s (hostCmd 0xD0 0x40 (fun s =>
    if rdb s 0xD0 FLW.FLW_CTRL_EN then s
    else
      let same := flowBase s = rd s (held 0xD0) HFLW.BASE ∧ rd s 0xD0 FLW.HASH_SEED = rd s (held 0xD0) HFLW.SEED
      let t := wr 0xD0 FLW.FLW_CTRL_EN 1 s
      if same then t
      else
        let t := if rdb s (held 0xD0) HFLW.FREEING then freeBelow t else t
        let t := wr (held 0xD0) HFLW.OLD_BASE (rd s (held 0xD0) HFLW.BASE) (wr (held 0xD0) HFLW.FREEING 1 (wr 0xD0 FLW.FLW_STATUS_READY 0 t))
        wr (held 0xD0) HFLW.BASE (flowBase s) (wr (held 0xD0) HFLW.SEED (rd s 0xD0 FLW.HASH_SEED) t)) s)

/-- The clearing of R578: every record; the base and the seed of that moment are those in force. -/
def clearFlows (s : State) : State :=
  let t := wr (held 0xD0) HFLW.BASE (flowBase s) (wr (held 0xD0) HFLW.SEED (rd s 0xD0 FLW.HASH_SEED) s)
  let t := forEach (flowsIn s) (fun i t => resetPage (Tab.flow i) t) t
  wr (held 0xD0) HFLW.CLEARING 0 (wr (held 0xD0) HFLW.FREEING 0 (wr 0xD0 FLW.HASHED_COUNT 0 t))

/-- The frees are done: READY reads 1. -/
def flowReady (s : State) : State :=
  let t := if rdb s (held 0xD0) HFLW.CLEARING then clearFlows s else freeBelow s
  raise 0xD0 FLW.evREADY [] (wr 0xD0 FLW.FLW_STATUS_READY 1 t)

/-- The frees after a change or a reset finish (R188, R578). -/
def execFlowTableReady (s : State) : Host.Outcome State Fault Refusal :=
  settle s (onlyIf (rdb s (held 0xD0) HFLW.CLEARING ∨ rdb s (held 0xD0) HFLW.FREEING) flowReady s)

/-! ## Profiles (R190) -/

/-- A profile is refused: its key is too long, names a reserved ID, or breaks R182. -/
def profileBad (s : State) (n : Nat) : Bool :=
  let m := rd s 0xD1 (FLP.FIELD_MASK n)
  decide (48 < maskKeyLen m) || (rdb s 0xD1 (FLP.FW_EN n) && (bit m 0 || bit m 4 || bit m 5))

/-- The fields of profile n that are written. -/
def profileFields (n : Nat) : List Field :=
  [FLP.FIELD_MASK n, FLP.IDLE_TICKS n, FLP.MODE n, FLP.FW_EN n, FLP.FW_ORIGIN_REQ n, FLP.FW_DENY n]

/-- After page 0x0D1's copies apply to `old`: bad profiles keep the old values, KEY_LEN follows the mask. -/
def profileCommit (old s : State) : State :=
  forEach (List.range 64) (fun n s =>
    if profileBad s n then
      raise 0xD1 FLP.evPROFILE_REFUSED [n] (forEach (profileFields n) (fun f s => wr 0xD1 f (rd old 0xD1 f) s) s)
    else wr 0xD1 (FLP.KEY_LEN n) (maskKeyLen (rd s 0xD1 (FLP.FIELD_MASK n))) s) s

end Sys2Proof.Machine
end

