-- ==== Sys2Proof/Machine/Work.lean ====
section
/-! DEFINITION. A Carriageway's work on a frame: sequence recovery (R90 to R98), the action steps of R160, edits, replication; and the
views that slices read (R263). -/

namespace Sys2Proof.Machine

/-! ## Maps in force and views (R261, R263) -/

/-- Ledger entries that slice `slice` reads for its block j: those of every earlier uncommitted block, then its own of block j. Policers
are read as the slice's own entries leave them (R251, R263). -/
def viewLedger (s : State) (slice j : Nat) : List LEntry :=
  (s.work.filter (fun b => !b.discarded && (decide (b.abs < j) || (decide (b.abs = j) && decide (b.slice = slice))))).flatMap
    (fun b => b.results.flatMap (fun r => r.ledger.filter (fun e => decide (b.slice = slice) || decide (ownerOf e.page ≠ 0x140))))

/-- The state as a slice sees it. -/
def viewState (s : State) (slice j : Nat) : State := applyLedger (viewLedger s slice j) s

/-- A fresh piece of work; that on an item starts with what its parse and walk counted (R17). -/
def freshWk (s : State) (slice j : Nat) : Wk := ⟨viewState s slice j, [], [], [], []⟩
def itemWk (s : State) (slice j : Nat) (x : Item) : Wk := { freshWk s slice j with led := x.counts, evs := x.raises }

/-- A result to fill in. -/
def blankResult (slice : Nat) (x : Item) : Result :=
  { item := x, by_ := slice, verdict := .none, bytes := [], handle := x.handle, cwyBuf := x.cwyBuf, colour := green, policer := 0,
    incoming := green, target := 0, mirror := 0, seqTag := 0, xgems := [], slots := [], reason := 0, evs := [], ledger := [], firm := 0, firmEvs := 0,
    red := false, orig := x, open_ := [], inserted := [], exports := [], learn := false, overflow := false, inner := 0, decap := false, keepTunnel := false, proposal := 0, fill := [] }

/-- Take over what a piece of work made. -/
def closeWk (r : Result) (w : Wk) : Result :=
  { r with ledger := w.led, evs := w.evs, inserted := w.inserted, exports := w.exports }

/-! ## What an item's parse left for its edits: the first words of `aux` -/

/-- R-TAG sequence number + 1 and its tag's offset; positions + 1 of the first IP header and of the GTP-U header. -/
def itemRtag (x : Item) : Nat := x.aux.getD 0 0
def itemRtagAt (x : Item) : Nat := x.aux.getD 1 0
def itemIpAt (x : Item) : Nat := x.aux.getD 2 0
def itemGtpAt (x : Item) : Nat := x.aux.getD 3 0
/-- The frame goes to `MISS_RING` (R162). -/
def itemMiss (x : Item) : Bool := x.aux.getD 4 0 = 1
/-- Where the parse of this pass started in the frame. -/
def itemStart (x : Item) : Nat := x.aux.getD 5 0

/-! ## Sequence recovery (R90 to R97) -/

/-- A passed copy sets LAST_PASS, and notes the pass while the other port is lost (R92, R96). -/
def passCopy (s : State) (f pg tick : Nat) (w : Wk) : Wk :=
  let w := ((w.set pg SREC.LAST_PASS tick).set pg (HSTR.ROGUE f) 0).count (fibPage f + 1) FB1.FR_PASS 1
  if rdb s (held (fibPage (1 - f))) HFIB.LOST then w.set pg (HSTR.PASSED f) 1 else w

/-- Clear bits among positions H − d to H − 1: the numbers that a shift by d loses. -/
def lostBits (hist h d : Nat) : Nat := ((List.range d).filter (fun i => !bit hist (h - d + i))).length

/-- Table 3.5 for a copy with sequence number q from port f; answers whether it passes. DESIGN CHOICE (log entry 104): a duplicate and a rejoin
discard end a run of rogue copies, and the run begins again after ROGUE_RUN. -/
def vectorRecover (s : State) (f pg tick q : Nat) (w : Wk) : Bool × Wk :=
  let h := rd w.v pg SREC.HIST_LEN
  let hist := rd w.v pg SREC.HISTORY
  let d := toSigned 16 ((q + 65536 - rd w.v pg SREC.RECOV_SEQ) % 65536)
  if rdb w.v pg SREC.TAKE_ANY then
    (true, passCopy s f pg tick (((w.set pg SREC.RECOV_SEQ q).set pg SREC.HISTORY 1).set pg SREC.TAKE_ANY 0))
  else if (h : Int) ≤ d ∨ d ≤ -(h : Int) then
    let n := rd w.v pg (HSTR.ROGUE f) + 1
    let w := (w.count (fibPage f + 1) FB1.FR_ROGUE 1).set pg (HSTR.ROGUE f) (if n = 16 then 0 else n)
    (false, if n = 16 then w.event (fibPage f + 1) FB1.evROGUE_RUN [pg - 0x1000000] else w)
  else if 1 ≤ d then
    let k := d.toNat
    let w := w.count pg SREC.LOST (lostBits hist h k)
    (true, passCopy s f pg tick ((w.set pg SREC.HISTORY ((hist * 2 ^ k + 1) % 2 ^ h)).set pg SREC.RECOV_SEQ q))
  else if bit hist (-d).toNat then (false, (w.count (fibPage f + 1) FB1.FR_DUP 1).set pg (HSTR.ROGUE f) 0)
  else (true, passCopy s f pg tick ((w.set pg SREC.HISTORY (setBit hist (-d).toNat true)).count (fibPage f + 1) FB1.FR_OOO 1))

/-- A copy of a protected stream: tagless, held back by a rejoin under WAIT, or judged by Table 3.5. DESIGN CHOICE (log entry 104): with TAKE_ANY
set a copy on a rejoining port ends the rejoin and passes; an entry that names a record of another type is judged on that page's fields of
a protected stream as they stand. -/
def recoverCopy (s : State) (tick : Nat) (x : Item) (w : Wk) : Bool × Wk :=
  let f := x.port - 8
  let pg := Tab.flow (x.stream - 1)
  if itemRtag x = 0 then (false, (w.count (fibPage f + 1) FB1.FR_TAGLESS 1).event (fibPage f + 1) FB1.evTAGLESS [x.xgemPort])
  else
    let q := itemRtag x - 1
    let d := toSigned 16 ((q + 65536 - rd w.v pg SREC.RECOV_SEQ) % 65536)
    if rdb w.v pg (rejoinFlag f) then
      if 1 < d ∧ !rdb w.v pg SREC.TAKE_ANY then (false, (w.count (fibPage f + 1) FB1.FR_RJ_DISCARD 1).set pg (HSTR.ROGUE f) 0)
      else vectorRecover s f pg tick q (endRejoin pg f w)
    else vectorRecover s f pg tick q w

/-! ## Edits (R160, Table 5.6, Table 6.1) -/

/-- Remove `n` bytes at an offset; put bytes in at an offset. -/
def cutBytes (d : List Byte) (at_ n : Nat) : List Byte := d.take at_ ++ d.drop (at_ + n)
def insBytes (d : List Byte) (at_ : Nat) (b : List Byte) : List Byte := d.take at_ ++ b ++ d.drop at_

/-- An R-TAG of sequence number q. -/
def rtagBytes (q : Nat) : List Byte := toBe 2 0xF1C1 ++ toBe 2 0 ++ toBe 2 q

/-- The QFI of a PDU session container that follows a GTP-U header at `g`: the first extension header, of type 0x85. -/
def setQfi (d : List Byte) (g qfi : Nat) : List Byte :=
  if bit (fieldAt d g 1) 2 ∧ fieldAt d (g + 11) 1 = 0x85 then
    let b := fieldAt d (g + 14) 1
    d.take (g + 14) ++ toBe 1 (b / 64 * 64 + qfi) ++ d.drop (g + 15)
  else d

/-- GTPU_OP of a FLOW record, on the bytes from the parse's start. -/
def gtpuEdit (v : State) (r : Nat) (x : Item) (d : List Byte) : List Byte :=
  let pg := Tab.flow r
  let op := if rd v pg FREC.TYPE = 1 then rd v pg FREC.GTPU_OP else 0
  if itemGtpAt x = 0 then d
  else if op = 1 ∧ itemIpAt x ≠ 0 ∧ itemGtpAt x ≤ x.innerStart then cutBytes d (itemIpAt x - 1) (x.innerStart - (itemIpAt x - 1))
  else if op = 2 then
    let g := itemGtpAt x - 1
    setQfi (d.take (g + 4) ++ toBe 4 (rd v pg FREC.GTPU_TEID_OUT) ++ d.drop (g + 8)) g (rd v pg FREC.GTPU_QFI)
  else d

/-- EDIT_TAGS: strip outer tags, then push, PUSH_TAG0 outermost. -/
def tagEdit (a : List Nat) (tags : Nat) (d : List Byte) : List Byte :=
  let strip := min tags (min 4 (a.getD 8 0 % 8))
  let push := min 2 (bitsOf (a.getD 8 0) 3 2)
  let new := (if 1 ≤ push then toBe 4 (a.getD 9 0) else []) ++ (if 2 ≤ push then toBe 4 (a.getD 10 0) else [])
  insBytes (cutBytes d 12 (4 * strip)) 12 new

/-- Every edit of the frame: the deepest bytes first. -/
def editFrame (v : State) (a : List Nat) (rec : Option Nat) (x : Item) (d : List Byte) : List Byte :=
  let start := itemStart x
  let body := d.drop start
  let body := match rec with | some r => gtpuEdit v r x body | none => body
  let body := if x.stream ≠ 0 ∧ rdb v (Tab.flow (x.stream - 1)) SREC.STRIP ∧ itemRtag x ≠ 0 then cutBytes body (itemRtagAt x) 6 else body
  let body := if bit (a.getD 0 0) 10 then tagEdit a (x.fields.getD 10 0) body else body
  d.take start ++ body

/-! ## The action (R160) -/

/-- The terminal action of an entry: the lowest set bit of W0 [6:0]. -/
def terminalOf (a : List Nat) : Nat := ((List.range 7).find? (bit (a.getD 0 0))).getD 4

/-- `MAX_PASSES` as applied (R164). -/
def maxPasses (s : State) : Nat := if rd s 0xC8 CLS.CLS_CTRL_MAX_PASSES = 3 then 3 else 2

/-- The policer that acts on a frame: the record's with USE_POLICER, else the entry's with POLICE. -/
def policerOf (v : State) (a : List Nat) (rec : Option Nat) : Option Nat :=
  let own := if bit (a.getD 0 0) 7 then some (a.getD 2 0 % 2 ^ 17) else none
  match rec with
  | some r => if rdb v (Tab.flow r) FREC.USE_POLICER then some (rd v (Tab.flow r) FREC.POLICER) else own
  | none => own

/-- SET_COLOUR's colour, when step 1 applies one. -/
def setColour (a : List Nat) : Option Nat := if bit (a.getD 0 0) 13 then some (mapColour (bitsOf (a.getD 12 0) 4 2)) else none

/-- The incoming colour of a policed frame (R248). -/
def incomingOf (v : State) (a : List Nat) (pol : Nat) (x : Item) : Nat :=
  match setColour a with
  | some c => c
  | none =>
    incomingColour v (rd v (Tab.pol pol) POL.PROFILE) (if bit x.present 7 then some (x.fields.getD 7 0) else none)
      (if bit x.present 23 then some (x.fields.getD 23 0 / 4) else none)

/-- Step 2: colour, policer + 1, incoming colour, and the policer's new buckets in the ledger. -/
def policeStep (a : List Nat) (rec : Option Nat) (abs : Nat) (x : Item) (w : Wk) : (Nat × Nat × Nat) × Wk :=
  match policerOf w.v a rec with
  | none => (((setColour a).getD green, 0, green), w)
  | some i =>
    let inc := incomingOf w.v a i x
    let (c, b) := usePolicer w.v i inc x.length abs
    ((c, i + 1, inc), (bucketFields b).foldl (fun w f => w.set (Tab.pol i) f.1 f.2) w)

/-- FLOW_ACTION of a record: a terminal action, or none for 0 and 4 to 7. -/
def flowAction (v : State) (rec : Option Nat) : Option Nat :=
  match rec with
  | none => none
  | some r => match rd v (Tab.flow r) FREC.FLOW_ACTION with | 1 => some 0 | 2 => some 4 | 3 => some 5 | _ => none

/-- The leaf of a FORWARD: the entry's, or the record's; the low 3 bits replaced by SET_CLASS. -/
def forwardLeaf (v : State) (a : List Nat) (rec : Option Nat) (qset : Nat) : Nat :=
  let own := a.getD 1 0 % 2 ^ 17
  let l := match rec with
    | some r => if rd v (Tab.flow r) FREC.FLOW_ACTION = 1 ∨ rdb v (Tab.flow r) FREC.USE_QUEUE then rd v (Tab.flow r) FREC.LEAF_QUEUE else own
    | none => own
  if qset = 0 then l else l / 8 * 8 + (qset - 1)

/-- The verdict of a terminal action. -/
def verdictOf (t : Nat) (a : List Nat) (leaf : Nat) (miss : Bool) : Verdict :=
  if t = 0 then .enqueue leaf
  else if t = 1 then .host (a.getD 5 0 % 64) miss
  else if t = 2 then .mews (bitsOf (a.getD 5 0) 8 8)
  else if t = 3 then .arcade (a.getD 6 0 + a.getD 7 0 * 2 ^ 32)
  else if t = 4 then .drop
  else if t = 5 then .quarantine
  else .recirc

/-- REASON of a Cul-de-sac entry by KIND (Table 5.10). -/
def reasonOf (kind : Nat) : Nat := if kind = 2 then 1 else if kind = 1 then 2 else 0

/-- The buffer for an edited frame: its own, or one that the Carriageway takes when the edit needs more bytes in front of the frame than its
buffer's headroom leaves; `grown` is this pass's growth, `rtag` what the R-TAG of its copies needs (R196, R209). -/
def editBuffer (slice : Nat) (grown : Int) (rtag len : Nat) (r : Result) (s : State) : Result × State :=
  let used := r.item.headUsed + grown
  if used + rtag ≤ headroom s then ({ r with item := { r.item with headUsed := used } }, s)
  else
    let (h, t) := askNow slice len (getBuf s r.handle).carve clCarriageway s
    if h = emptyHandle then ({ r with verdict := .drop, overflow := true }, t)
    else ({ r with handle := h, cwyBuf := true, item := { r.item with headUsed := 0 } }, t)

/-- A port that takes its replicated copy: in O5.1 and not lost (R129). -/
def copyPort (s : State) (f : Nat) : Bool := decide (actState s f = 5) && !rdb s (held (fibPage f)) HFIB.LOST

/-- Steps 4, 5 and 7 once the terminal action is known. -/
def finishFrame (s : State) (slice : Nat) (t : Nat) (rec : Option Nat) (r : Result) (w : Wk) : Result × State :=
  let x := r.item
  let a := x.action
  let stops := t = 4 ∨ t = 5
  let d := bufData s x.handle
  let d' := if stops then d else editFrame w.v a rec x d
  let repl := match rec with | some i => if t = 0 ∧ rd w.v (Tab.flow i) FREC.TYPE = 1 ∧ rdb w.v (Tab.flow i) FREC.REPLICATE then some i else none | none => none
  let pos := match repl with | some i => rd w.v (Tab.flow i) FREC.RTAG_POS | none => 0
  let seq := match repl with | some i => rd w.v (Tab.flow i) FREC.GEN_SEQ | none => 0
  let w := match repl with | some i => w.set (Tab.flow i) FREC.GEN_SEQ (seq + 1) | none => w
  let qset := if bit (a.getD 0 0) 12 then a.getD 12 0 % 8 + 1 else x.queueSet
  let xg := match rec with | some i => [rd w.v (Tab.flow i) FREC.XGEM_PORT_A, rd w.v (Tab.flow i) FREC.XGEM_PORT_B] | none => []
  let sl := match rec with | some i => [rd w.v (Tab.flow i) FREC.SLOT_A, rd w.v (Tab.flow i) FREC.SLOT_B] | none => []
  let leaf := forwardLeaf w.v a rec qset
  let r := { r with
    target := if r.target = 0 then 0 else leaf + 1, item := { x with queueSet := qset, length := x.length + d'.length - d.length }
    bytes := d', mirror := if bit (a.getD 0 0) 9 then a.getD 4 0 % 2 ^ 17 + 1 else 0,
    seqTag := if repl.isSome then 1 + seq + 65536 * (if pos = 3 then 0 else pos) else 0, xgems := xg, slots := sl,
    open_ := if repl.isSome then [0, 1].filter (copyPort s) else [], verdict := verdictOf t a leaf (itemMiss x), inner := a.getD 11 0 % 8, decap := bit (a.getD 11 0) 3,
    keepTunnel := bit (a.getD 11 0) 4 }
  let (r, s) := if stops then (r, s) else editBuffer slice ((d'.length : Int) - d.length) (if repl.isSome then 6 else 0) (d'.length + 4 - x.aux.getD 8 0) r s
  (closeWk r w, s)

/-- A slice works on a frame (R160, R177). `own` says which regions the slice owns in the block. -/
def frameWork (slice abs : Nat) (own : Nat → Bool) (x : Item) (s : State) : Result × State :=
  let tick := abs / 64 % 2 ^ 32
  let w := itemWk s slice abs x
  let (pass, w) := if x.stream ≠ 0 then recoverCopy s tick x w else (true, w)
  if !pass then (closeWk { blankResult slice x with verdict := .discardCopy } w, s)
  else
    let (rec, w) := flowLookup s tick x w
    let t := (flowAction w.v rec).getD (terminalOf x.action)
    let last := t = 6 ∧ maxPasses s ≤ x.pass + 1
    let w := if last then w.count 0xC8 CLS.RECIRC_LIMIT 1 else w
    let y := if last then { x with kind := 2, action := parseFailAction s x.port, ruleId := 0xFFFFFFFF } else x
    let a := y.action
    let t := if last then terminalOf a else t
    let fwd := decide (t = 0)
    let ((colour, pol, inc), w) := if t = 4 ∨ t = 5 then ((green, 0, green), w) else policeStep a rec abs x w
    let w := if bit (a.getD 0 0) 8 then countInto s own (a.getD 3 0 % 2 ^ 23) tick x w else w
    let firm := w.led.length
    let firmEvs := w.evs.length
    let t := if pol ≠ 0 ∧ colour = red then 4 else t
    let (lrn, w) := if bit (a.getD 0 0) 11 ∧ rec = none ∧ t ≠ 4 ∧ t ≠ 5 then flowLearn s slice tick x w else (⟨none, false, false⟩, w)
    let t := if lrn.denied then (if rdb s 0xD1 (FLP.FW_DENY x.profile) then 5 else 4) else t
    let r := { blankResult slice x with item := y, colour := colour, policer := pol, incoming := inc, target := b2n fwd, learn := lrn.desc,
                                        reason := reasonOf y.kind, firm := firm, firmEvs := firmEvs }
    finishFrame s slice t rec r w

end Sys2Proof.Machine
end

