-- ==== Sys2Proof/Machine/Fill.lean ====
section
/-! DEFINITION. Arcade's work in the owning slice: fill chunks (R418 to R422), rings (R428 to R431), directory commands (R443),
completion items (R415, R420); and what the Crossing does with each at the commit. -/

namespace Sys2Proof.Machine

/-! ## Blocks' work -/

/-- A block of a slice with nothing in it. -/
def freshBlock (slice abs : Nat) : BlockWork := ⟨slice, abs, [], 0, 0, 0, false, false, []⟩

/-- Earlier blocks, of any slice, whose ledgers the view of block `abs` reads now (R264). -/
def viewSources (s : State) (abs : Nat) : List (Nat × Nat) :=
  (s.work.filter (fun b => !b.discarded && decide (b.abs < abs) && b.results.any (fun r => !r.ledger.isEmpty))).map (fun b => (b.slice, b.abs))

/-- Change a slice's work on a block. -/
def updBlock (slice abs : Nat) (f : BlockWork → BlockWork) (s : State) : State :=
  if s.work.any (fun b => b.slice = slice ∧ b.abs = abs) then
    { s with work := s.work.map (fun b => if b.slice = slice ∧ b.abs = abs then f b else b) }
  else { s with work := s.work ++ [f (freshBlock slice abs)] }

/-- Add a result to a slice's work on a block. -/
def addResult (slice abs : Nat) (r : Result) (s : State) : State :=
  let src := viewSources s abs
  updBlock slice abs (fun b => { b with results := b.results ++ [r], readFrom := (b.readFrom ++ src).eraseDups }) s

/-- The slice that owns an object in block j (R415). -/
def objectSlice (s : State) (j id : Nat) : Nat := regionOwner (mapFor s j).1 (id % 192)

/-- The store works: on, ready. -/
def storeOn (s : State) : Bool := rdb s 0x1E0 ARC0.ARC_CTRL_EN && rdb s 0x1E0 ARC0.ARC_STATUS_READY
def storeWrites (s : State) : Bool := storeOn s && !rdb s 0x1E0 ARC0.ARC_STATUS_READ_ONLY

/-! ## The fill header (R418, Table 14.2) -/

/-- The offset of the fill header behind up to two tags; none without `FILL_ETYPE`. -/
def fillAt (s : State) (d : List Byte) : Option Nat :=
  let (off, t) := afterTags s d 2 12
  if t = rd s 0x1E0 ARC0.FILL_ETYPE then some off else none

def fillLog2 (d : List Byte) (o : Nat) : Nat := fieldAt d (o + 1) 1
def fillLast (d : List Byte) (o : Nat) : Bool := bit (fieldAt d (o + 2) 1) 0
def fillObject (d : List Byte) (o : Nat) : Nat := fieldAt d (o + 4) 8
def fillSegment (d : List Byte) (o : Nat) : Nat := fieldAt d (o + 12) 4
def fillChunk (d : List Byte) (o : Nat) : Nat := fieldAt d (o + 16) 2
def fillValid (d : List Byte) (o : Nat) : Nat := fieldAt d (o + 18) 2
def fillCrc (d : List Byte) (o : Nat) : Nat := fieldAt d (o + 20) 4

/-- Chunks per segment. -/
def chunksPer (log2 : Nat) : Nat := 2 ^ (16 - log2)

/-- A header that keeps Table 14.2, in a frame of the length it states. -/
def fillHeaderOk (d : List Byte) (o : Nat) : Bool :=
  let k := fillLog2 d o
  decide (fieldAt d o 1 = 1) && decide (10 ≤ k) && decide (k ≤ 13) && decide (fieldAt d (o + 2) 1 < 2) && decide (fieldAt d (o + 3) 1 = 0)
    && decide (fillChunk d o < chunksPer k) && decide (fieldAt d (o + 24) 8 = 0)
    && (decide (fillValid d o = 2 ^ k) || (fillLast d o && decide (1 ≤ fillValid d o) && decide (fillValid d o ≤ 2 ^ k)))
    && decide (d.length = o + 32 + fillValid d o)

/-! ## Ledger helpers -/

/-- Set an entry's extents in the ledger. -/
def setExtents (e : Nat) (l : List (Nat × Nat)) (w : Wk) : Wk :=
  let x := fun i => l.getD i (0, 0)
  let w := (w.set (Tab.dir e) DIRE.START0 (x 0).1).set (Tab.dir e) DIRE.COUNT0 (x 0).2
  let w := (w.set (Tab.dir e) DIRE.START1 (x 1).1).set (Tab.dir e) DIRE.COUNT1 (x 1).2
  (w.set (Tab.dir e) DIRE.START2 (x 2).1).set (Tab.dir e) DIRE.COUNT2 (x 2).2

/-- VALID_SEGS reaches SEGMENTS: COMPLETE, with its event (R417). -/
def completeObject (e : Nat) (w : Wk) : Wk :=
  let pg := Tab.dir e
  if (rd w.v pg DIRE.STATE = dirFilling ∨ rd w.v pg DIRE.STATE = dirRepairing) ∧ rd w.v pg DIRE.SEGMENTS ≠ 0
      ∧ rd w.v pg DIRE.VALID_SEGS = rd w.v pg DIRE.SEGMENTS then
    (w.set pg DIRE.STATE dirComplete).event 0x1E1 ARC1.evOBJECT_COMPLETE [e]
  else w

/-- Subtract from VALID_SEGS. -/
def lessValid (e n : Nat) (w : Wk) : Wk := if n = 0 then w else w.shift (Tab.dir e) DIRE.VALID_SEGS (2 ^ 32 - n)

/-! ## Opening a segment (R420, R428 to R430) -/

def noSegment : Nat := 0xFFFFFFFF

/-- The open segment is neither complete nor abandoned. -/
def openIncomplete (v : State) (e : Nat) : Bool :=
  rd v (Tab.dir e) DIRE.OPEN_SEG ≠ noSegment && !rdb v (Tab.dir e) DIRE.ABANDONED && !rdb v (Tab.dir e) DIRE.COMPLETE_SEG

/-- The gaps that opening segment n records: the segment it closes incomplete, and those it skips; none in REPAIRING. -/
def openGaps (v : State) (e n : Nat) : List (Nat × Nat × Nat) :=
  if dirState v e = dirRepairing then []
  else
    let o := rd v (Tab.dir e) DIRE.OPEN_SEG
    let first := if o = noSegment then 0 else o + 1
    (if openIncomplete v e then [(o, 1, 0)] else []) ++ (if first < n then [(first, n - first, 0)] else [])

/-- The ring's numbers whose slots are overwritten by opening n: every number from the one after the last opened, the last LEN of them. -/
def overNumbers (v : State) (e r n : Nat) : List Nat :=
  let o := rd v (Tab.dir e) DIRE.OPEN_SEG
  let len := rd v (Tab.ring r) RING.LEN
  let k := min len (if o = noSegment then 1 else n - o)
  (List.range k).map (fun i => n - i)

/-- Opening n wraps the ring to its pending length (R429). -/
def wrapsNow (v : State) (r n : Nat) : Bool :=
  let len := rd v (Tab.ring r) RING.LEN
  let p := rd v (Tab.ring r) RING.PENDING_LEN
  decide (p ≠ 0) && decide (rd v (Tab.ring r) RING.BASE ≠ noSegment)
    && decide (((n : Int) - (rd v (Tab.ring r) RING.BASE : Int)) % (max 1 len : Nat) = ((min len p % max 1 len : Nat) : Int))

/-- OLDEST after opening n without a change of length: the number after the one overwritten (R430). -/
def oldestAfter (v : State) (r n : Nat) : Nat :=
  let base := rd v (Tab.ring r) RING.BASE
  let len := rd v (Tab.ring r) RING.LEN
  let old := rd v (Tab.ring r) HRNG.OLD_LEN
  let x := if old ≠ 0 ∧ n < base + len then (if n < base + old then n + 1 - old else base) else n + 1 - len
  max (rd v (Tab.ring r) RING.OLDEST) x

/-- The ring record's change when segment n opens: segments whose contents are overwritten, the new length + 1 of a shrink, the ledger. -/
def openRing (e r n : Nat) (w : Wk) : List Nat × Nat × Wk :=
  let pg := Tab.ring r
  let v := w.v
  let len := rd v pg RING.LEN
  let p := rd v pg RING.PENDING_LEN
  let exts := extents v e
  if rd v pg RING.BASE = noSegment then ([], 0, (w.set pg RING.BASE n).set pg RING.OLDEST n)
  else
    let segs := (overNumbers v e r n).filterMap (fun m => extSeg exts (ringSlot v r m))
    if wrapsNow v r n then
      let w := ((w.set pg RING.BASE n).set pg RING.LEN p).set pg RING.PENDING_LEN 0
      let w := (w.set pg RING.WRAPS (rd v pg RING.WRAPS + 1)).set (Tab.dir e) DIRE.SEGMENTS p
      let w := w.set pg HRNG.OLD_LEN (if len < p then len else 0)
      let w := w.set pg RING.OLDEST (max (rd v pg RING.OLDEST) (n + 1 - min len p))
      let gone := extDrop exts p
      let w := if p < len then lessValid e (v.nand.filter (fun x => inExt gone x.1)).length (setExtents e (extTake exts p) w) else w
      let first := (extSeg exts 0).toList
      (segs ++ first, if p < len then p + 1 else 0, w.event 0x1E2 ARC2.evRING_RESIZED [r, p, n])
    else
      let turns := fun (m : Nat) => (m - rd v pg RING.BASE) / max 1 len
      let o := rd v (Tab.dir e) DIRE.OPEN_SEG
      let w := w.set pg RING.OLDEST (oldestAfter v r n)
      let w := w.set pg RING.WRAPS (rd v pg RING.WRAPS + (turns n - turns (if o = noSegment then n else o)))
      (segs, 0, if rd v pg RING.BASE + len ≤ n + 1 then w.set pg HRNG.OLD_LEN 0 else w)

/-! ## A fill chunk (R419, Table 14.3) -/

/-- Every chunk of the open segment, from 0 to the last, is set (R422). -/
def chunksFull (v : State) (e : Nat) : Bool :=
  let last := rd v (Tab.dir e) HDIR.LAST_CHUNK
  let n := if last ≠ 0 then last else chunksPer (rd v (Tab.dir e) DIRE.CHUNK_LOG2)
  decide (rd v (Tab.dir e) DIRE.OPEN_CHUNKS % 2 ^ n = 2 ^ n - 1)

/-- What the commit of an accepted chunk does, in `fill` of its result: entry, segment number, store segment, chunk, SEG_CRC, whether it
opened the segment, whether it completed it, the segment abandoned + 1, the new length + 1 of a shrink, the gaps, the segments
overwritten. -/
def chunkPlan (e n seg chunk crc : Nat) (opened done : Bool) (prev shrink : Nat) (gaps : List (Nat × Nat × Nat)) (ovr : List Nat) : List Nat :=
  [1, e, n, seg, chunk, crc, b2n opened, b2n done, prev, shrink, gaps.length] ++ gaps.flatMap (fun g => [g.1, g.2.1, g.2.2]) ++ ovr

/-- Set the chunk's bit and complete the segment when it is the last missing. -/
def setChunk (e : Nat) (d : List Byte) (o : Nat) (w : Wk) : Bool × Wk :=
  let pg := Tab.dir e
  let c := fillChunk d o
  let w := (w.set pg DIRE.OPEN_CHUNKS (setBit (rd w.v pg DIRE.OPEN_CHUNKS) c true)).count 0x1E0 ARC0.FILL_CHUNKS 1
  let isLast := fillLast d o && (decide (fillValid d o < 2 ^ fillLog2 d o) || decide (c + 1 = chunksPer (fillLog2 d o)))
  let w := if isLast then w.set pg HDIR.LAST_CHUNK (c + 1) else w
  if chunksFull w.v e then (true, w.set pg DIRE.COMPLETE_SEG 1) else (false, w)

/-- Open segment n of entry e with this chunk. -/
def openSegment (e : Nat) (d : List Byte) (o : Nat) (w : Wk) : List Nat × Wk :=
  let pg := Tab.dir e
  let n := fillSegment d o
  let v := w.v
  let gaps := openGaps v e n
  let prev := if openIncomplete v e then (match objSeg v e (rd v pg DIRE.OPEN_SEG) with | some g => g + 1 | none => 0) else 0
  let ring := dirState v e = dirRing
  let (ovr, shrink, w) := if ring then openRing e (rd v pg DIRE.RING) n w else ([], 0, w)
  let ovr := ovr.filter (fun g => mapped v g || (slotOf v g).isSome)
  let w := lessValid e (ovr.filter (mapped v)).length w
  let w := ((w.set pg DIRE.OPEN_SEG n).set pg DIRE.OPEN_CHUNKS 0).set pg DIRE.ABANDONED 0
  let w := ((w.set pg DIRE.COMPLETE_SEG 0).set pg HDIR.LAST_CHUNK 0).set pg DIRE.CHUNK_LOG2 (fillLog2 d o)
  let (done, w) := setChunk e d o w
  match objSeg w.v e n with
  | none => ([], w)
  | some g => (chunkPlan e n g (fillChunk d o) (fillCrc d o) true done prev shrink gaps ovr, w)

/-- Table 14.3 for an item of SOURCE 13: the result's plan is empty when the frame is dropped. -/
def fillChunkWork (s : State) (d : List Byte) (w : Wk) : List Nat × Wk :=
  let drop := fun (f : Field) => (([] : List Nat), w.count 0x1E0 f 1)
  match fillAt s d with
  | none => drop ARC0.FILL_BAD
  | some o =>
    if !fillHeaderOk d o then drop ARC0.FILL_BAD
    else
      match dirFind w.v (fillObject d o) with
      | none => drop ARC0.FILL_UNKNOWN
      | some e =>
        let pg := Tab.dir e
        let n := fillSegment d o
        let opn := rd w.v pg DIRE.OPEN_SEG
        let st := dirState w.v e
        if rd w.v pg DIRE.CHUNK_LOG2 ≠ 0 ∧ rd w.v pg DIRE.CHUNK_LOG2 ≠ fillLog2 d o then drop ARC0.FILL_BAD
        else if !storeWrites s ∨ !rdb w.v pg DIRE.FILL_OK ∨ st = dirComplete ∨ st = dirDeleting then drop ARC0.FILL_UNKNOWN
        else if st ≠ dirRing ∧ rd w.v pg DIRE.SEGMENTS ≤ n then drop ARC0.FILL_BAD
        else if n = opn ∧ (rdb w.v pg DIRE.ABANDONED ∨ rdb w.v pg DIRE.COMPLETE_SEG) then drop ARC0.FILL_BEHIND
        else if n = opn ∧ bit (rd w.v pg DIRE.OPEN_CHUNKS) (fillChunk d o) then drop ARC0.FILL_DUP
        else if n = opn then
          let (done, w) := setChunk e d o w
          match objSeg w.v e n with
          | none => ([], w)
          | some g => (chunkPlan e n g (fillChunk d o) (fillCrc d o) false done 0 0 [] [], w)
        else if opn ≠ noSegment ∧ n < opn ∧ (st = dirFilling ∨ st = dirRing) then drop ARC0.FILL_BEHIND
        else openSegment e d o w

/-- A slice works on a fill item. -/
def fillWork (slice abs : Nat) (x : Item) (s : State) : Result :=
  let d := bufData s x.handle
  let (plan, w) := fillChunkWork s d (freshWk s slice abs)
  closeWk { blankResult slice x with verdict := .drop, fill := plan } w

/-! ## Completion items and abandonment (R415, R420) -/

/-- The item of a controller's or a timeout's report about entry e: what it does to VALID_SEGS (0 nothing, 1 add, 2 subtract), whether it
abandons the open segment, and the gap. -/
def reportItem (e : Nat) : Item := { blankItem with source := 13, handle := emptyHandle, aux := [e] }

/-- Add the report of an entry to the owning slice's work on the block in progress. `valid` 1 adds a segment to VALID_SEGS, 2 takes one
off; `number` is the segment's number, `abandon` ends it while it is open, `reason` is the gap's, 15 for none. -/
def report (e number valid : Nat) (abandon : Bool) (reason : Nat) (s : State) : State :=
  let abs := now s
  let slice := objectSlice s abs (dirId s e)
  let w := freshWk s slice abs
  let pg := Tab.dir e
  let gone := dirState w.v e = dirFree ∨ dirState w.v e = dirDeleting
  let w := if gone then w else if valid = 1 then completeObject e (w.shift pg DIRE.VALID_SEGS 1) else if valid = 2 then lessValid e 1 w else w
  let hit := abandon && !decide gone && decide (rd w.v pg DIRE.OPEN_SEG = number) && !rdb w.v pg DIRE.ABANDONED
  let seg := match objSeg w.v e number with | some g => g + 1 | none => 0
  let w := if hit then w.set pg DIRE.ABANDONED 1 else w
  addResult slice abs (closeWk { blankResult slice (reportItem e) with fill := [3, e, number, reason, if hit ∧ reason ≠ 15 then seg else 0] } w) s

/-- HEAD of a ring is the highest segment taken: a completion item tells the owning slice (R415, R428). -/
def ringTaken (e n : Nat) (s : State) : State :=
  let abs := now s
  let slice := objectSlice s abs (dirId s e)
  let w := freshWk s slice abs
  let pg := Tab.ring (rd w.v (Tab.dir e) DIRE.RING)
  let h := rd w.v pg RING.HEAD
  if dirState w.v e = dirRing ∧ (h = noSegment ∨ h < n) then
    addResult slice abs (closeWk { blankResult slice (reportItem e) with fill := [3, e, n, 15, 0] } (w.set pg RING.HEAD n)) s
  else s

/-! ## Staging for a write (R212, R421) -/

/-- Give up the ARCADE_WRITE reference of a staged segment and its slot. -/
def dropStaged (seg : Nat) (s : State) : State :=
  let m := getBuf s (p4Handle seg)
  let s := if m.allocated ∧ bit m.holders clArcWrite then refDo opDec 7 clArcWrite (p4Handle seg) 0 s else s
  if (getBuf s (p4Handle seg)).allocated then s else dropSlot seg { s with segCrc := Map.put 0 s.segCrc seg 0 }

/-- INC(ARCADE_WRITE) on the handle of a segment to be written: it is staged without a read, or shares the slot that another write of the same
segment holds (R424); answers whether a slot was had. -/
def stageWrite (entry seg : Nat) (s : State) : State × Bool :=
  if !poolsOn s then (emptyResult 7 s, false)
  else if (slotOf s seg).isSome ∧ bit (getBuf s (p4Handle seg)).holders clArcWrite then (refDo opInc 7 clArcWrite (p4Handle seg) 0 s, true)
  else
    match takeSlot 7 seg true false (detachSeg entry seg s) with
    | none => (emptyResult 7 s, false)
    | some t => (refDo opInc 7 clArcWrite (p4Handle seg) 0 t, true)

/-- Forget what was staged of a segment's chunks. -/
def dropChunks (seg : Nat) (s : State) : State :=
  { s with chunkData := s.chunkData.filter (fun c => c.1 / 64 ≠ seg), segCrc := Map.put 0 s.segCrc seg 0 }

/-! ## The commit of Arcade's results -/

/-- The queue entry of a completed segment (R422). -/
def writeEnt (s : State) (e n seg k : Nat) : QEnt :=
  { blankEnt with handle := p4Handle seg, length := 65536, leaf := rd s 0x1E0 ARC0.FILL_LEAF, acc := k, holder := clArcWrite,
                  arcEntry := e, arcSeg := n }

/-- `FILL_LEAF` names a Standard leaf under port node 11 (Table 14.6). -/
def fillLeafOk (s : State) : Bool :=
  let l := rd s 0x1E0 ARC0.FILL_LEAF
  decide (leafPort s l = 11) && decide (leafClass s l = clsStandard)

/-- Enqueue a completed segment; refused, it is abandoned with a gap (R422). A `FILL_LEAF` that is no Standard leaf under port node 11 takes
none: the write counts as Refused there (DESIGN CHOICE, log entry 112). -/
def enqueueWrite (e n seg k : Nat) (s : State) : State :=
  let (s, ok) := if fillLeafOk s then takeIn (writeEnt s e n seg k) green 13 s else (countOutcome 11 clsStandard ocRefused s, false)
  if ok then refDo opHandover 0xC clArcWrite (p4Handle seg) k s
  else recordGapOf (k + 1) e n 1 4 (report e n 0 true 15 (dropStaged seg s))

/-- The gaps and the overwritten segments of a chunk's plan. -/
def planGaps (p : List Nat) : List (Nat × Nat × Nat) :=
  (List.range (p.getD 10 0)).map (fun i => (p.getD (11 + 3 * i) 0, p.getD (12 + 3 * i) 0, p.getD (13 + 3 * i) 0))
def planOver (p : List Nat) : List Nat := p.drop (11 + 3 * p.getD 10 0)

/-- Opening a segment at the commit: the abandoned one goes, gaps are recorded, old contents are trimmed, a shrink's slots wait, readers
move, and the new segment is staged. -/
def openCommit (k : Nat) (p : List Nat) (s : State) : State :=
  let e := p.getD 1 0
  let s := if p.getD 8 0 ≠ 0 then dropStaged (p.getD 8 0 - 1) s else s
  let s := forEach (planGaps p) (fun g s => recordGapOf (k + 1) e g.1 g.2.1 g.2.2 s) s
  let s := forEach (planOver p) (fun g s => trimExtents e [(g, 1)] s) s
  let s := if p.getD 9 0 = 0 then s
    else { s with shrinks := s.shrinks ++ [(e, extDrop (extents s e) (p.getD 9 0 - 1))] }
  let (s, ok) := stageWrite e (p.getD 3 0) s
  if ok then dropChunks (p.getD 3 0) s else report e (p.getD 2 0) 0 true 3 s

/-- An accepted chunk commits: HANDOVER, the copy, DEC; and on the last chunk the write's enqueue (R419 to R422). -/
def chunkCommit (k : Nat) (r : Result) (s : State) : State :=
  let p := r.fill
  let e := p.getD 1 0
  let seg := p.getD 3 0
  let d := bufData s r.handle
  let s := if p.getD 6 0 = 1 then openCommit k p s else s
  let s := refDo opHandover 0xC clArcWrite r.handle k s
  let s := match fillAt s d, slotOf s seg with
    | some o, some _ =>
      let crc := Map.get 0 s.segCrc seg
      let s := { s with chunkData := Map.put none s.chunkData (seg * 64 + p.getD 4 0) (some ((d.drop (o + 32)).take (fillValid d o))),
                        segCrc := if crc = 0 then Map.put 0 s.segCrc seg (p.getD 5 0 + 1) else s.segCrc }
      if crc ≠ 0 ∧ crc ≠ p.getD 5 0 + 1 then report e (p.getD 2 0) 0 true 2 s else s
    | _, _ => s
  let s := refDo opDec 7 clArcWrite r.handle 0 s
  let s := if dirState s e = dirFree then s else wr (Tab.dir e) HDIR.CHUNK_TICK s.clock.tick (touchDir e s)
  if p.getD 7 0 = 1 then (if (slotOf s seg).isSome then enqueueWrite e (p.getD 2 0) seg k s else s) else s

/-- A report commits: the gap, and the abandoned segment's slot (R420). -/
def reportCommit (k : Nat) (p : List Nat) (s : State) : State :=
  let e := p.getD 1 0
  let s := if p.getD 4 0 ≠ 0 then dropStaged (p.getD 4 0 - 1) s else s
  let s := if p.getD 3 0 = 15 ∨ (p.getD 4 0 = 0 ∧ p.getD 3 0 < 4 ∧ p.getD 3 0 ≠ 2) then s
    else recordGapOf (k + 1) e (p.getD 2 0) 1 (p.getD 3 0) s
  touchDir e s

/-! ## Directory commands (R413, R417, R426, R427, R440, R443) -/

/-- The fields that a command's data words give. -/
def cmdField (c : DirCmd) (f : Field) : Nat := bitsOf c.data (8 * f.off + f.lo) f.width

/-- CREATE (R413, R414, R428): result, entry, ledger. -/
def dirCreate (c : DirCmd) (w : Wk) : Nat × Nat × Wk :=
  let id := cmdField c DIRE.OBJECT_ID
  let n := cmdField c DIRE.SEGMENTS
  let ring := cmdField c DIRE.RING_KIND = 1
  let r := cmdField c DIRE.RING
  if id = 0 ∨ id = 2 ^ 64 - 1 then (5, 0, w)
  else if (dirFind w.v id).isSome then (7, 0, w)
  else if ring ∧ (n < 2 ∨ 512 ≤ r ∨ rdb w.v (Tab.ring r) RING.VALID) then (5, 0, w)
  else
    match dirSlot w.v id with
    | none => (4, 0, w)
    | some e =>
      match (if n = 0 then none else allocExtents w.v 3 n) with
      | none => (3, 0, w)
      | some l =>
        let pg := Tab.dir e
        let w := (w.set pg DIRE.OBJECT_ID id).set pg DIRE.STATE (if ring then dirRing else dirFilling)
        let w := ((w.set pg DIRE.FILL_OK (cmdField c DIRE.FILL_OK)).set pg DIRE.RING_KIND (b2n ring)).set pg DIRE.RING (if ring then r else 0xFFFF)
        let w := setExtents e l (w.set pg DIRE.SEGMENTS n)
        let w := if ring then ((w.set (Tab.ring r) RING.ENTRY e).set (Tab.ring r) RING.VALID 1).set (Tab.ring r) RING.LEN n else w
        (0, e, w)

/-- SET_STATE between FILLING and REPAIRING (R417). -/
def dirSetState (c : DirCmd) (w : Wk) : Nat × Nat × Wk :=
  let e := c.addr
  let st := dirState w.v e
  let til := cmdField c DIRE.STATE
  if st = dirFree then (2, e, w)
  else if (st = dirFilling ∧ til = dirRepairing) ∨ (st = dirRepairing ∧ til = dirFilling) then
    (0, e, completeObject e (w.set (Tab.dir e) DIRE.STATE til))
  else (5, e, w)

/-- Whether REPAIR may write a segment (R427). -/
def repairAllowed (v : State) (e n : Nat) : Bool :=
  let st := dirState v e
  let opn := rd v (Tab.dir e) DIRE.OPEN_SEG
  let r := rd v (Tab.dir e) DIRE.RING
  (decide (st = dirFilling) && decide (opn ≠ noSegment) && decide (n < opn))
    || (decide (st = dirRepairing) && decide (n < rd v (Tab.dir e) DIRE.SEGMENTS))
    || (decide (st = dirRing) && ringHolds v r n)

/-- The numbers of an object's segments: of a ring, its extent. -/
def objectNumbers (v : State) (e : Nat) : List Nat :=
  if dirState v e = dirRing then
    let r := rd v (Tab.dir e) DIRE.RING
    let lo := rd v (Tab.ring r) RING.OLDEST
    let hi := rd v (Tab.ring r) RING.HEAD
    if lo = noSegment ∨ hi = noSegment ∨ hi < lo then [] else (List.range (hi + 1 - lo)).map (lo + ·)
  else List.range (rd v (Tab.dir e) DIRE.SEGMENTS)

def numberMapped (s : State) (e n : Nat) : Bool := match objSeg s e n with | some g => mapped s g | none => false

/-- Runs of consecutive numbers: first and count. -/
def runsOf : List Nat → List (Nat × Nat)
  | [] => []
  | n :: r =>
    match runsOf r with
    | (a, c) :: t => if a = n + 1 then (n, c + 1) :: t else (n, 1) :: (a, c) :: t
    | [] => [(n, 1)]

/-- Execute a directory command in the owning slice: result, index, ledger (R443). -/
def dirExecute (s : State) (c : DirCmd) (w : Wk) : Nat × Nat × Wk :=
  if !storeOn s then (9, 0, w)
  else if c.op = 2 then
    match dirFind w.v (cmdField c DIRE.OBJECT_ID) with | some e => (0, e, w) | none => (2, 0, w)
  else if c.op = 3 then dirCreate c w
  else if c.op = 4 then
    let st := dirState w.v c.addr
    if st = dirFree then (2, c.addr, w) else if st = dirDeleting then (5, c.addr, w)
    else (0, c.addr, w.set (Tab.dir c.addr) DIRE.STATE dirDeleting)
  else if c.op = 5 then
    if rdb s 0x1E0 ARC0.ARC_STATUS_READ_ONLY then (9, c.addr, w)
    else if dirState w.v c.addr = dirFree then (2, c.addr, w)
    else if !repairAllowed w.v c.addr c.seg then (5, c.addr, w)
    else if numberMapped w.v c.addr c.seg then (6, c.addr, w) else (0, c.addr, w)
  else if c.op = 6 then dirSetState c w
  else if c.op = 7 then
    if dirState w.v c.addr = dirFree then (2, c.addr, w)
    else
      let e := c.addr
      let have_ := (objectNumbers w.v e).filter (numberMapped w.v e)
      (0, e, completeObject e (w.set (Tab.dir e) DIRE.VALID_SEGS have_.length))
  else (0, c.addr, w)

/-- The object ID whose slice runs a command; SYS_READ names none. -/
def cmdObject (s : State) (c : DirCmd) : Nat :=
  if c.op = 8 then 0 else if c.op = 2 ∨ c.op = 3 then cmdField c DIRE.OBJECT_ID else dirId s c.addr

/-- The store segment + 1 that is open and incomplete; 0 for none. -/
def openStaged (v : State) (e : Nat) : Nat :=
  if openIncomplete v e then (match objSeg v e (rd v (Tab.dir e) DIRE.OPEN_SEG) with | some g => g + 1 | none => 0) else 0

/-- Run the directory command in hand as the first block after its write begins (R443). -/
def runDirCmd (s : State) : State :=
  match s.dirCmd with
  | some c =>
    if c.ran then s
    else
      let abs := now s
      let slice := objectSlice s abs (cmdObject s c)
      let v := freshWk s slice abs
      let (res, idx, w) := dirExecute s c v
      let x := { reportItem idx with source := 14 }
      addResult slice abs (closeWk { blankResult slice x with fill := [2, c.op, res, idx, openStaged v.v c.addr] } w) { s with dirCmd := some { c with ran := true } }
  | none => s

/-- BUSY clears with a result, and COMMAND_DONE is raised in block k. -/
def dirDone (op res k : Nat) (s : State) : State :=
  raiseItem k 0x1E1 ARC1.evCOMMAND_DONE [op, res] (tblResult 0x1E1 res { s with dirCmd := none })

/-! ## The length of a ring (R429, R444) -/

/-- Free segments that follow an extent. -/
def roomBehind (v : State) (x : Nat × Nat) : Nat :=
  match (freeExtents v).find? (fun f => f.1 = x.1 + x.2) with | some f => f.2 | none => 0

/-- The extents with `n` more segments behind them: new extents in those that are unused, else the last one lengthened (R413, R429). -/
def growExtents (v : State) (l : List (Nat × Nat)) (n : Nat) : Option (List (Nat × Nat)) :=
  match allocExtents v (3 - l.length) n with
  | some x => some (l ++ x)
  | none =>
    match l.getLast? with
    | none => none
    | some x => if n ≤ roomBehind v x then some (l.dropLast ++ [(x.1, x.2 + n)]) else none

/-- A length for ring r: extra segments are allocated at once, segments that neither length needs are given back; RESULT (R429). -/
def ringLength (r n : Nat) (w : Wk) : Nat × Wk :=
  let pg := Tab.ring r
  let e := rd w.v pg RING.ENTRY
  let have_ := extents w.v e
  let need := max (rd w.v pg RING.LEN) n
  if !rdb w.v pg RING.VALID ∨ dirState w.v e ≠ dirRing then (2, w)
  else if n = 1 then (1, w)
  else if extCount have_ < need then
    match growExtents w.v have_ (need - extCount have_) with
    | none => (3, w)
    | some l => (0, setExtents e l (w.set pg RING.PENDING_LEN n))
  else (0, setExtents e (extTake have_ need) (w.set pg RING.PENDING_LEN n))

/-- Run the length written to a ring record, in the slice that owns the object, in the first block after the write (R415, R429). -/
def runRingCmd (s : State) : State :=
  match s.ringCmd with
  | some (r, n, false) =>
    let abs := now s
    let e := rd s (Tab.ring r) RING.ENTRY
    let slice := objectSlice s abs (dirId s e)
    let (res, w) := ringLength r n (freshWk s slice abs)
    let x := { reportItem e with source := 14 }
    addResult slice abs (closeWk { blankResult slice x with fill := [6, r, res, e] } w) { s with ringCmd := some (r, n, true) }
  | _ => s

/-- The table commands of Arcade as a block begins; a ring's length waits a block where a directory command runs, so that the two never
allocate the same segments. -/
def runArcCmds (s : State) : State :=
  let t := runDirCmd s
  if t.dirCmd = s.dirCmd then runRingCmd t else t

/-- The length of a ring commits. -/
def ringCommit (p : List Nat) (s : State) : State :=
  let s := tblResult 0x1E2 (p.getD 2 0) { s with ringCmd := none }
  if p.getD 2 0 = 0 then setDirCounts (touchDir (p.getD 3 0) s) else s

/-- DELETE at its commit: the open segment is unstaged, segments trimmed, readers of a deleted ring lose VALID (R440). -/
def deleteCommit (e opn : Nat) (s : State) : State :=
  let s := if opn = 0 then s else dropStaged (opn - 1) s
  let s := if rdb s (Tab.dir e) DIRE.RING_KIND then
      forEach (readersOf s (rd s (Tab.dir e) DIRE.RING)) (fun i s => wr (Tab.reader i) READER.VALID 0 s) s else s
  trimExtents e (extents s e) s

/-- REPAIR at its commit: the segment is staged, its bytes are read from the host and compared, and the write is queued; while the queue's 64
places are taken it waits as the 65th (R411, R423, R427). -/
def repairCommit (c : DirCmd) (k : Nat) (s : State) : State :=
  match objSeg s c.addr c.seg with
  | none => dirDone 5 5 k s
  | some g =>
    if !storeWrites s ∨ rdb s 0x1E0 ARC0.ARC_STATUS_FLUSHING then dirDone 5 9 k s else
    let (s, ok) := stageWrite c.addr g s
    if !ok then dirDone 5 9 k s
    else if crc32c 0xFFFFFFFF c.bytes ≠ c.crc then dirDone 5 8 k (dropStaged g (inc 0x1E0 ARC0.SEG_CRC_ERR s))
    else { s with arcWrites := s.arcWrites ++ [⟨g, c.addr, c.seg, c.bytes, true, p4Handle g⟩] }

/-- A directory command commits (R443). -/
def dirCommit (k : Nat) (p : List Nat) (s : State) : State :=
  match s.dirCmd with
  | none => s
  | some c =>
    let op := p.getD 1 0
    let res := p.getD 2 0
    let idx := p.getD 3 0
    let s := if res = 0 ∧ (op = 2 ∨ op = 3) then wr 0x1E1 TBL.RESULT_INDEX idx s else s
    if res ≠ 0 then dirDone op res k s
    else if op = 5 then repairCommit c k s
    else
      let s := if op = 4 then deleteCommit idx (p.getD 4 0) s
        else if op = 8 then { s with sysOut := some (c.addr, c.bytes) }
        else if op = 7 then forEach (runsOf ((objectNumbers s idx).filter (fun n => !numberMapped s idx n)))
          (fun r s => recordGapOf (k + 1) idx r.1 r.2 7 s) s
        else s
      dirDone op 0 k (if op = 2 ∨ op = 8 then s else touchDir idx s)

/-- A drop of a fill frame, or of a report's missing frame: DEC with the class that allocated its buffer (R207). -/
def fillDrop (k : Nat) (r : Result) (s : State) : State :=
  if r.handle = emptyHandle then s else refDo opDec 0xC (bufClass s r.handle r.cwyBuf) r.handle k s

/-- What the commit does with a result of Arcade's. -/
def arcCommit (k : Nat) (r : Result) (s : State) : State :=
  match r.fill.getD 0 0 with
  | 1 => chunkCommit k r s
  | 2 => dirCommit k r.fill s
  | 3 => reportCommit k r.fill s
  | 6 => ringCommit r.fill s
  | _ => fillDrop k r s

end Sys2Proof.Machine
end

