-- ==== Sys2Proof/Machine/Arcade.lean ====
section
/-! DEFINITION. Arcade's controller and table commands (chapter 14): takes, writes, staging reads, flushes, gaps, rings and readers;
and the reference operations, which stage P4 segments (R205, R212). -/

namespace Sys2Proof.Machine

/-! ## Staging (R212, R436) -/

/-- The entry that holds a store segment. -/
def segEntry (s : State) (seg : Nat) : Option Nat := (entriesIn s).find? (fun e => inExt (extents s e) seg)

/-- Begin staging a segment for requester r: a slot is taken and the read starts; answers whether the segment is staged or being staged. -/
def stageStart (r seg : Nat) (s : State) : State × Bool :=
  match slotOf s seg with
  | some _ => (touchSlot seg s, true)
  | none =>
    if !storeOn s ∨ !mapped s seg then (s, false)
    else match takeSlot r seg false true s with | none => (s, false) | some t => (t, true)

/-- The result code of a table operation on a buffer (Table 7.10). -/
def sqrResult (s : State) (op h : Nat) : Nat :=
  let r := refReason s op clHostSw h
  if r = 0 then 0 else if r = 4 then 3 else 1

/-- Apply an operation, or refuse it; a table command ends with its result. -/
def refGo (w : RefOp) (s : State) : State :=
  let t := (refOp w.op w.requester w.cls w.handle 0 s).1
  if w.table then tblResult 0xE2 (sqrResult s w.op w.handle) t else t

/-- An operation on a P4 handle: applied when the segment is staged, kept until it is, or answered with the empty result (R212). -/
def stageOp (w : RefOp) (s : State) : State :=
  let seg := handleIndex w.handle
  if !poolsOn s ∨ storeSegs ≤ seg then refGo w s
  else
    let (t, ok) := stageStart w.requester seg s
    if !ok then refEmpty w s
    else if (slotOf t seg).any (·.ready) then refGo w t
    else { t with p4Waits := t.p4Waits ++ [w] }

/-- A reference operation as a requester presents it: it waits for a pending commit operation on its buffer, and for its segment
(R205, R207, R212). -/
def presentRef (w : RefOp) (s : State) : State :=
  if commitPending s w.handle then { s with refWaits := s.refWaits ++ [w] }
  else if handlePool w.handle = 4 then stageOp w s
  else refGo w s

/-- The operations that waited for commit operations are presented again, in order (R207). -/
def releaseRefs (s : State) : State :=
  if s.refWaits = [] then s else arcSettle (forEach s.refWaits presentRef { s with refWaits := [] })

/-- An operation of requester r may be applied in core cycle t: in a cycle they come in the order of its ranking, one per requester, four at
most (R205; log entry 98). -/
def refTurn (s : State) (r t : Nat) : Bool :=
  let c := rd s (held 0xE0) HSQR.REF_CYCLE
  let n := rd s (held 0xE0) HSQR.REF_COUNT
  decide (c < t) || (decide (c = t) && (decide (n = 0) || (decide (n < 4) && decide (rd s (held 0xE0) HSQR.REF_RANK < rankOf t r))))

/-- Note the operation's place in its cycle. -/
def noteTurn (r t : Nat) (s : State) : State :=
  let n := if rd s (held 0xE0) HSQR.REF_CYCLE = t then rd s (held 0xE0) HSQR.REF_COUNT else 0
  wr (held 0xE0) HSQR.REF_COUNT (n + 1) (wr (held 0xE0) HSQR.REF_RANK (rankOf t r) (wr (held 0xE0) HSQR.REF_CYCLE t s))

/-- An operation in core cycle `cyc` of the block in progress; what Arcade does once references are gone follows (R205, R429, R430, R440). -/
def refCommand (w : RefOp) (cyc : Nat) (s : State) : State :=
  let t := startOf (now s) + cyc
  onlyIf (w.requester < 12 ∧ cyc < blockCycles ∧ refTurn s w.requester t) (fun s => arcSettle (presentRef w (noteTurn w.requester t s))) s

/-- INC (R205). -/
def execRefInc (requester cls handle cyc : Nat) (s : State) : Host.Outcome State Fault Refusal :=
  settle s (refCommand ⟨requester, cls, opInc, handle, false⟩ cyc s)

/-- HANDOVER (R205). -/
def execRefHandover (requester cls handle cyc : Nat) (s : State) : Host.Outcome State Fault Refusal :=
  settle s (refCommand ⟨requester, cls, opHandover, handle, false⟩ cyc s)

/-- DEC (R205). -/
def execRefDec (requester cls handle cyc : Nat) (s : State) : Host.Outcome State Fault Refusal :=
  settle s (refCommand ⟨requester, cls, opDec, handle, false⟩ cyc s)

/-- An operation on a P4 handle, which takes a slot and starts the read of a segment that is not staged (R212). -/
def execP4Stage (requester cls op segment : Nat) (s : State) : Host.Outcome State Fault Refusal :=
  settle s (onlyIf (1 ≤ op ∧ op < 4) (fun s => arcSettle (presentRef ⟨requester, cls, op, p4Handle segment, false⟩ s)) s)

/-- A table command's operation: requester 8, class HOST_SW; BUSY until it is answered (R217). -/
def tableRef (op : Nat) (s : State) : State :=
  arcSettle (presentRef ⟨8, clHostSw, op, rd s 0xE2 SQR2.TBL_ADDR, true⟩ (wr 0xE2 TBL.BUSY 1 s))

/-- TBL_CMD 3: INC (R217). -/
def execSqrTableInc (s : State) : Host.Outcome State Fault Refusal := settle s (tblCmd 0xE2 (tableRef opInc) s)

/-- TBL_CMD 4: DEC (R217). -/
def execSqrTableDec (s : State) : Host.Outcome State Fault Refusal := settle s (tblCmd 0xE2 (tableRef opDec) s)

/-- The waiting operations of a segment, in order. -/
def answerWaits (seg : Nat) (s : State) : State :=
  forEach (s.p4Waits.filter (fun w => handleIndex w.handle = seg)) refGo
    { s with p4Waits := s.p4Waits.filter (fun w => handleIndex w.handle ≠ seg) }

/-- A piece that package p cannot correct: the segment is trimmed, its object loses it, a gap is recorded (R436). -/
def segUncorr (seg p : Nat) (s : State) : State :=
  let s := loseSlot seg { s with nand := Map.erase s.nand seg }
  let s := forEach (List.range 64) (fun n s => if rd s (held 0xB1) (HHST.TX_WAIT n) = 3 + seg then wr (held 0xB1) (HHST.TX_DAMAGED n) 1 s else s)
    (inc 0x1E0 ARC0.SEG_UNCORR s)
  let s := raiseFault 0x1E0 ARC0.evSEG_UNCORR (locCode 3 8 0x1D 0 p 0xFF) false [seg] s
  match segEntry s seg with
  | none => s
  | some e =>
    match (objectNumbers s e).find? (fun n => objSeg s e n = some seg) with
    | some n => report e n 2 false 5 s
    | none => report e 0 2 false 15 s

/-- The read of a segment ends: the slot is ready and the waiting operations are answered; `bad` names a package that could not correct
its piece (R212, R436). -/
def execP4StageReady (segment : Nat) (bad : Option Nat) (s : State) : Host.Outcome State Fault Refusal :=
  settle s (onlyIf ((slotOf s segment).any (fun x => !x.ready)) (fun s =>
    let s := inc 0x1E0 ARC0.SEGMENTS_READ s
    match bad with
    | some p => segUncorr segment (p % 8) s
    | none => answerWaits segment (forEach (slotOf s segment).toList (fun x s => putSlot { x with ready := true } s) s)) s)

/-! ## Taking and writing segments (R411, R412, R423, R424) -/

/-- The staged bytes of a segment: its chunks in place, zeros elsewhere. -/
def stagedBytes (s : State) (seg log2 : Nat) : List Byte :=
  (List.range (chunksPer log2)).flatMap (fun c =>
    let b := (Map.get none s.chunkData (seg * 64 + c)).getD []
    (b ++ List.replicate (2 ^ log2) 0).take (2 ^ log2))

/-- A taken segment: SEG_CRC is checked; an unmapped segment joins the write queue, a mapped one is a duplicate (R423, R424). -/
def takeSegment (e : QEnt) (s : State) : State :=
  let seg := handleIndex e.handle
  if handlePool e.handle ≠ 4 ∨ (slotOf s seg).isNone then arcSettle (releaseEnt e s)
  else
    let data := stagedBytes s seg (rd s (Tab.dir e.arcEntry) DIRE.CHUNK_LOG2)
    let s := ringTaken e.arcEntry e.arcSeg s
    if crc32c 0xFFFFFFFF data + 1 ≠ Map.get 0 s.segCrc seg then
      recordGap e.arcEntry e.arcSeg 1 2 (dropStaged seg (inc 0x1E0 ARC0.SEG_CRC_ERR s))
    else if mapped s seg then dropStaged seg (inc 0x1E0 ARC0.WRITE_DUP s)
    else { s with arcWrites := s.arcWrites ++ [⟨seg, e.arcEntry, e.arcSeg, data, false, e.handle⟩] }

/-- A segment whose slot lies in a channel out of service is not written: a gap (R210, R425). -/
def poisonedSegment (e : QEnt) (s : State) : State :=
  let seg := handleIndex e.handle
  if handlePool e.handle ≠ 4 ∨ (slotOf s seg).isNone then arcSettle (releaseEnt e s)
  else recordGap e.arcEntry e.arcSeg 1 2 (dropStaged seg (ringTaken e.arcEntry e.arcSeg s))

/-- The controller takes the segment that port node 11 serves `cyc` cycles into the block, which delivers it (R21, R411, R423). -/
def execSegmentTake (cyc : Nat) (s : State) : Host.Outcome State Fault Refusal :=
  settle s (onlyIf (storeOn s && decide (s.arcWrites.length < 64) && !rdb s 0x1E0 ARC0.ARC_STATUS_FLUSHING) (fun s =>
    match chooseAt 11 cyc s with
    | none => s
    | some (e, urgent, t) =>
      let t := depart e (if urgent then countOverride e t else t)
      if poisoned t e then poisonedSegment e (countOutcome 11 e.cls ocContained t)
      else takeSegment e (deliver e (startOf (now s) + cyc) t)) s)

/-- WEAR_PCT of the packages, WEAR_WARN at 90 % and READ_ONLY at 100 % (R438). -/
def setWear (p v : Nat) (s : State) : State :=
  let w := rd s 0x1E0 (ARC0.WEAR_PCT (p / 4))
  let old := bitsOf w (8 * (p % 4)) 8
  let s := wr 0x1E0 (ARC0.WEAR_PCT (p / 4)) (w - old * 2 ^ (8 * (p % 4)) + v * 2 ^ (8 * (p % 4))) s
  let s := if 90 ≤ v ∧ old < 90 then raise 0x1E0 ARC0.evWEAR_WARN [p] s else s
  if 100 ≤ v ∧ !rdb s 0x1E0 ARC0.ARC_STATUS_READ_ONLY then raise 0x1E0 ARC0.evREAD_ONLY [] (wr 0x1E0 ARC0.ARC_STATUS_READ_ONLY 1 s) else s

/-- The write of a segment has ended: it is mapped, and a completion item tells the directory; REPAIR's command ends (R423, R427). A segment
that was trimmed meanwhile stays trimmed (R430, R440). -/
def writeDone (x : ArcWrite) (s : State) : State :=
  if isDetached x.handle then
    let s := serveRelease x.handle s
    if x.repair then dirDone 5 5 (now s) s else s
  else if mapped s x.segment then
    let s := dropStaged x.segment (inc 0x1E0 ARC0.WRITE_DUP s)
    if x.repair then dirDone 5 6 (now s) s else s
  else
    let s := { s with nand := Map.put none s.nand x.segment (some x.data) }
    let s := forEach (slotOf s x.segment).toList (fun y s => putSlot { y with writtenBack := true } s) s
    let s := refDo opDec 7 clArcWrite (p4Handle x.segment) 0 (inc 0x1E0 ARC0.SEGMENTS_WRITTEN s)
    let s := arcSettle (if x.repair ∧ (getBuf s (p4Handle x.segment)).allocated then s else dropChunks x.segment s)
    let s := report x.entry x.number 1 false 15 s
    if x.repair then dirDone 5 1 (now s) s else s

/-- The oldest write of the queue ends; `wear` is what the packages report (R412, R423, R438). -/
def execSegmentWriteDone (wear : List Nat) (s : State) : Host.Outcome State Fault Refusal :=
  settle s (match s.arcWrites with
    | [] => s
    | x :: r =>
      let s := writeDone x { s with arcWrites := r }
      forEach ((List.range 8).filter (fun p => p < wear.length)) (fun p s => setWear p (wear.getD p 0 % 256) s) s)

/-- At a tick boundary, in block 0's work, the open segment of an entry that no chunk has touched for `FILL_TIMEOUT` ticks is abandoned
(R420). -/
def execFillTimeout (entry : Nat) (s : State) : Host.Outcome State Fault Refusal :=
  let v := viewState s (objectSlice s (now s) (dirId s entry)) (now s)
  settle s (onlyIf (s.clock.running && decide (s.clock.block = 0) && openIncomplete v entry && decide (dirState v entry ≠ dirFree)
      && decide (rd s (Tab.dir entry) HDIR.CHUNK_TICK + max 1 (rd s 0x1E0 ARC0.FILL_TIMEOUT) ≤ s.clock.tick))
    (report entry (rd v (Tab.dir entry) DIRE.OPEN_SEG) 0 true 1) s)

/-! ## The directory's home copy (R416) -/

/-- Changed entries go to both home copies (R416, R570). -/
def execDirFlush (s : State) : Host.Outcome State Fault Refusal := settle s (onlyIf (storeOn s) dirFlush s)

/-! ## Directory commands (R443) -/

/-- TBL_CMD 1: the entry as committed. -/
def execDirRead (s : State) : Host.Outcome State Fault Refusal :=
  settle s (tblCmd 0x1E1 (fun s => tblResult 0x1E1 0 (readRecord 0x1E1 (Tab.dir (rd s 0x1E1 ARC1.TBL_ADDR)) DIRE.fields s)) s)

/-- The command that the table registers make, with an address and bytes. -/
def dirCmdNow (op addr : Nat) (bytes : List Byte) (s : State) : State :=
  { wr 0x1E1 TBL.BUSY 1 s with dirCmd := some ⟨op, addr, dataNat s 0x1E1, rd s 0x1E1 ARC1.OP_SEG, rd s 0x1E1 ARC1.OP_CRC, bytes, false⟩ }

/-- A command is written: it runs in the owning slice in the first block that begins after the write. -/
def dirPost (op : Nat) (bytes : List Byte) (s : State) : State :=
  tblCmd 0x1E1 (fun s => dirCmdNow op (rd s 0x1E1 ARC1.TBL_ADDR) bytes s) s

/-- TBL_CMD 2: LOOKUP. -/
def execDirLookup (s : State) : Host.Outcome State Fault Refusal := settle s (dirPost 2 [] s)
/-- TBL_CMD 3: CREATE (R413). -/
def execDirCreate (s : State) : Host.Outcome State Fault Refusal := settle s (dirPost 3 [] s)
/-- TBL_CMD 4: DELETE (R440). -/
def execDirDelete (s : State) : Host.Outcome State Fault Refusal := settle s (dirPost 4 [] s)
/-- TBL_CMD 5: REPAIR, with the 65 536 bytes that host memory holds at OP_ADDR (R427). -/
def execDirRepair (bytes : List Byte) (s : State) : Host.Outcome State Fault Refusal := settle s (dirPost 5 (bytes.take 65536) s)
/-- TBL_CMD 6: SET_STATE (R417). -/
def execDirSetState (s : State) : Host.Outcome State Fault Refusal := settle s (dirPost 6 [] s)
/-- TBL_CMD 7: SCAN (R426). -/
def execDirScan (s : State) : Host.Outcome State Fault Refusal := settle s (dirPost 7 [] s)

/-- The bytes in a slot of Arcade's system area. -/
def slotBytes (s : State) (slot : Nat) : List Byte := (Map.get none s.imgSlots slot).getD (Config.factoryImage slot)

/-- `n` bytes of a list from an offset on; a place beyond its end reads as a free value. -/
def sysSlice (s : State) (l : List Byte) (from_ n : Nat) : List Byte :=
  let d := (l.drop from_).take n
  d ++ (List.range (n - d.length)).map (fun i => BitVec.ofNat 8 (Config.freeValue (s.fresh + i)))

/-- 4 KiB of an item of Table 14.5. The image slots hold their images, one after the other; the layout of the other items is the firmware's,
and their bytes are free values (R441). -/
def sysBytes (s : State) : List Byte :=
  let at_ := 4096 * rd s 0x1E1 ARC1.OP_SYS_OFFSET
  if rd s 0x1E1 ARC1.OP_SYS_ITEM = 1 then sysSlice s (slotBytes s (at_ / 2 ^ 26)) (at_ % 2 ^ 26) 4096 else sysSlice s [] 0 4096

/-- TBL_CMD 8: SYS_READ, to the host address that stands in OP_ADDR (R441). -/
def execDirSysRead (s : State) : Host.Outcome State Fault Refusal :=
  settle s (tblCmd 0x1E1 (fun s =>
    dirCmdNow 8 (rd64 s 0x1E1 ARC1.OP_ADDR_LO ARC1.OP_ADDR_HI) (sysBytes s) { s with fresh := s.fresh + 4096 }) s)

/-! ## Rings and readers (R429, R444) -/

/-- The record that the table registers of page 0x1E2 name, with its fields. -/
def arcRecord (s : State) : Nat × List Field :=
  let i := rd s 0x1E2 ARC2.TBL_ADDR_INDEX
  if rdb s 0x1E2 ARC2.TBL_ADDR_TABLE then (Tab.reader i, READER.fields) else (Tab.ring i, RING.fields)

def arcIndexOk (s : State) : Bool := rdb s 0x1E2 ARC2.TBL_ADDR_TABLE || decide (rd s 0x1E2 ARC2.TBL_ADDR_INDEX < 512)

/-- TBL_CMD 1 (R444). -/
def execRingTableRead (s : State) : Host.Outcome State Fault Refusal :=
  settle s (tblCmd 0x1E2 (fun s =>
    if !arcIndexOk s then tblResult 0x1E2 1 s
    else let r := arcRecord s; tblResult 0x1E2 0 (readRecord 0x1E2 r.1 r.2 s)) s)

/-- Stage a reader record's fields for the next block boundary. -/
def stageReader (i : Nat) (s : State) : State :=
  let put := fun (f : Field) (v : Nat) (s : State) =>
    { s with staged := Map.put none s.staged (f.key (Tab.reader i)) (some (v % 2 ^ f.width, f.rst)) }
  put READER.RING (dataField s 0x1E2 READER.RING) (put READER.VALID (dataField s 0x1E2 READER.VALID) (put READER.POS (dataField s 0x1E2 READER.POS) s))

/-- TBL_CMD 2: a ring's length, which its owning slice stages, or a reader, from the next block boundary (R415, R429, R444). -/
def execRingTableWrite (s : State) : Host.Outcome State Fault Refusal :=
  settle s (tblCmd 0x1E2 (fun s =>
    let i := rd s 0x1E2 ARC2.TBL_ADDR_INDEX
    if !arcIndexOk s then tblResult 0x1E2 1 s
    else if rdb s 0x1E2 ARC2.TBL_ADDR_TABLE then
      if dataField s 0x1E2 READER.VALID = 1 ∧ !rdb s (Tab.ring (dataField s 0x1E2 READER.RING)) RING.VALID then tblResult 0x1E2 2 s
      else tblResult 0x1E2 0 (stageReader i s)
    else { wr 0x1E2 TBL.BUSY 1 s with ringCmd := some (i, dataField s 0x1E2 RING.PENDING_LEN, false) }) s)

/-- TBL_CMD 3: read and clear OVERRUN (R444). -/
def execRingTableReadClear (s : State) : Host.Outcome State Fault Refusal :=
  settle s (tblCmd 0x1E2 (fun s =>
    if !arcIndexOk s then tblResult 0x1E2 1 s
    else
      let r := arcRecord s
      let s := tblResult 0x1E2 0 (readRecord 0x1E2 r.1 r.2 s)
      if rdb s 0x1E2 ARC2.TBL_ADDR_TABLE then wr r.1 READER.OVERRUN 0 (wr r.1 READER.OVERRUNS 0 s) else s) s)

/-- READERS of every ring follows the reader records. -/
def countReaders (s : State) : State :=
  forEach ((List.range 512).filter (fun r => rdb s (Tab.ring r) RING.VALID)) (fun r s => wr (Tab.ring r) RING.READERS (readersOf s r).length s) s

/-- At a block boundary reader writes take effect, and readers below their ring's OLDEST are moved (R431, R444). -/
def arcBoundary (s : State) : State :=
  let s := if (stagedOf s 0x1E2).isEmpty then s else countReaders (applyStaged 0x1E2 s)
  arcSettle (forEach ((List.range 512).filter (fun r => rdb s (Tab.ring r) RING.VALID)) overrunReaders s)

/-! ## Loss of a package, gaps (R425, R437) -/

/-- A package silent for 8 ticks is lost: READY clears (R437). -/
def execPackageLost (package : Nat) (s : State) : Host.Outcome State Fault Refusal :=
  settle s (onlyIf (package < 8 && bit (rd s 0x1E0 ARC0.ARC_STATUS_PACKAGES_OK) package) (fun s =>
    let s := wr 0x1E0 ARC0.ARC_STATUS_PACKAGES_OK (setBit (rd s 0x1E0 ARC0.ARC_STATUS_PACKAGES_OK) package false) s
    raiseFault 0x1E0 ARC0.evPACKAGE_LOST (locDie 8) false [package] (wr 0x1E0 ARC0.ARC_STATUS_READY 0 s)) s)

/-- A gap is still open: a segment of it is not mapped, and no ring has left it behind. -/
def gapOpen (s : State) (g : Gap) : Bool :=
  let past := fun n => decide (dirState s g.entry = dirRing) && decide (n < rd s (Tab.ring (rd s (Tab.dir g.entry) DIRE.RING)) RING.OLDEST)
  decide (dirState s g.entry ≠ dirFree) && decide (dirId s g.entry = g.object)
    && (List.range g.count).any (fun i => !past (g.first + i) && !numberMapped s g.entry (g.first + i))

/-- Yunager passes the gap at a place of its list on to host software when it is still open `REPAIR_TICKS` after it was recorded; a gap
that has closed leaves the list (R425). -/
def execGapRepairTimeout (index : Nat) (s : State) : Host.Outcome State Fault Refusal :=
  settle s (match s.gaps[index]? with
    | none => s
    | some g =>
      if s.clock.tick < g.tick + rd s 0x1E0 ARC0.REPAIR_TICKS ∨ g.passed then s
      else if gapOpen s g then
        gapToRing g.object g.first g.count g.reason { s with gaps := s.gaps.set index { g with passed := true } }
      else { s with gaps := s.gaps.eraseIdx index })

/-! ## Starting and flushing the store (R437, R439, R570) -/

/-- SCAN of an object at a start (R426, R570). -/
def scanObject (e : Nat) (s : State) : State :=
  let ns := objectNumbers s e
  let s := wr (Tab.dir e) DIRE.VALID_SEGS (ns.filter (numberMapped s e)).length (touchDir e s)
  forEach (runsOf (ns.filter (fun n => !numberMapped s e n))) (fun r s => recordGap e r.1 r.2 7 s) s

/-- The open segment of an entry is not written. -/
def openLost (s : State) (e : Nat) : Bool :=
  let n := rd s (Tab.dir e) DIRE.OPEN_SEG
  decide (n ≠ noSegment) && !rdb s (Tab.dir e) DIRE.ABANDONED && !(rdb s (Tab.dir e) DIRE.COMPLETE_SEG && numberMapped s e n)
    && (decide (dirState s e = dirFilling) || decide (dirState s e = dirRepairing) || decide (dirState s e = dirRing))

/-- The store starts: every open segment is a gap with reason 6 (R439); without the clean-stop marker every object that takes fill is
scanned (R570); READY. -/
def storeStart (s : State) : State :=
  let clean := rdb s (held 0x1E0) HARC.CLEAN
  let s := forEach ((entriesIn s).filter (openLost s))
    (fun e s => recordGap e (rd s (Tab.dir e) DIRE.OPEN_SEG) 1 6 (touchDir e (wr (Tab.dir e) DIRE.ABANDONED 1 s))) s
  let s := if clean then s
    else forEach ((entriesIn s).filter (fun e => dirState s e = dirFilling ∨ dirState s e = dirRepairing ∨ dirState s e = dirRing)) scanObject s
  let s := wr 0x1E0 ARC0.ARC_STATUS_FLUSHING 0 (wr (held 0x1E0) HARC.STARTED 1 s)
  setDirCounts (wr 0x1E0 ARC0.ARC_STATUS_PACKAGES_OK 0xFF (wr 0x1E0 ARC0.ARC_STATUS_READY 1 s))

/-- The flush of R439: no further takes, the queued writes end, the directory is written with the clean-stop marker. -/
def storeFlush (s : State) : State :=
  if !rdb s (held 0x1E0) HARC.STARTED then s
  else
    let s := wr 0x1E0 ARC0.ARC_STATUS_FLUSHING 1 s
    let s := forEach (s.arcWrites.take 64) (fun x s => writeDone x s) { s with arcWrites := [] }
    wr (held 0x1E0) HARC.CLEAN 1 (dirFlush s)

end Sys2Proof.Machine
end

