-- ==== Sys2Proof/Machine/Mode.lean ====
section
/-! DEFINITION. The operating mode: what follows it, and its change (R490, R495, Table 17.13). -/

namespace Sys2Proof.Machine

/-- Causes of a mode change, as the event's detail codes them. -/
def causeRequest : Nat := 0
def causeFence : Nat := 1
def causeReturn : Nat := 2
def causeWake : Nat := 3
def causeBoot : Nat := 4

/-- The mode becomes m (R495). -/
def setMode (m cause : Nat) (s : State) : State :=
  let old := mode s
  let s := wr 0x20 PWR0.MODE_SINCE_TICK s.clock.tick (wr 0x20 PWR0.PWR_STATUS_MODE m s)
  raise 0x20 PWR0.evMODE_CHANGE [old, m, cause] (inc 0x20 PWR0.MODE_CHANGES s)

/-- Modes in which journals take items (R19). -/
def journalOpen (s : State) : Bool :=
  let m := mode s
  m = modeCommission || m = modeService || m = modeGuarded || m = modeLean

/-- A request is being carried out, a drain included (R498). -/
def inTransition (s : State) : Bool := rdb s 0x20 PWR0.PWR_STATUS_IN_PROGRESS

/-- PD_STATUS takes or loses a domain, with its event. -/
def setDomain (d : Nat) (on : Bool) (s : State) : State :=
  let v := setBit (rd s 0x20 PWR0.PD_STATUS) d on
  if v = rd s 0x20 PWR0.PD_STATUS then s else raise 0x20 PWR0.evPD_CHANGE [v] (wr 0x20 PWR0.PD_STATUS v s)

end Sys2Proof.Machine
end

