-- ==== Sys2Proof/Machine/Carriage.lean ====
section
/-! DEFINITION. The Carriageways: journals and their limits, the slices' intake (R15, R19, R260 to R266), checks, replay, fencing and
return (R270 to R282). -/

namespace Sys2Proof.Machine

/-! ## Journal entry (R15, R156 to R158, R19, R576) -/

/-- The first frame of a source's ingress buffer that may enter a journal at core cycle `at_`; receive queue 7 of a Kerb port first. -/
def pickIngress (s : State) (src at_ : Nat) : Option InFrame :=
  minBy (fun f => 7 - f.queue) (s.ingress.filter (fun f => f.src = src ∧ f.at_ ≤ at_))

/-- The bank and the epoch of block j's journal (R155, R156). -/
def bankFor (s : State) (j : Nat) : Nat × Nat :=
  let at_ := rd s (held 0xC8) HCLS.SWAP_AT
  if at_ ≠ 0 ∧ at_ ≤ j + 1 then (1 - activeBank s, rd s 0xC8 CLS.EPOCH + 1) else (activeBank s, rd s 0xC8 CLS.EPOCH)

/-- The parse status counts and events of port p (Table 5.8). -/
def parseCounts (p : Nat) (x : Parse) : List LEntry :=
  (if x.status = 1 then [countEntry 0xC0 (PRS.DEPTH_EXCEEDED p) 1] else [])
    ++ (if x.status = 2 then [countEntry 0xC0 (PRS.MALFORMED p) 1] else [])
    ++ (if bit x.flags pfLenConflict then [countEntry 0xC0 (PRS.LEN_CONFLICT p) 1] else [])
    ++ (if bit x.flags pfCsumBad then [countEntry 0xC0 (PRS.IP_CSUM_BAD p) 1] else [])
def parseRaises (p : Nat) (x : Parse) : List (Nat × Nat × List Nat) :=
  (if x.status = 1 then [(0xC0, PRS.evDEPTH_EXCEEDED, [p])] else [])
    ++ (if x.status = 2 then [(0xC0, PRS.evMALFORMED, [p])] else [])
    ++ (if bit x.flags pfLenConflict then [(0xC0, PRS.evLEN_CONFLICT, [p])] else [])

/-- What the walks made of a frame count, `redo` more made at its last byte among them (R158). -/
def walkCounts (f : InFrame) (redo : Nat) : List LEntry :=
  (if 2 ≤ f.walks.length then [countEntry 0xC8 CLS.DUAL_WALKS 1] else [])
    ++ (if redo ≠ 0 ∧ !f.walks.isEmpty then [countEntry 0xC8 CLS.EPOCH_REDO 1] else [])
    ++ (if f.walks.length + redo = 0 then [] else [countEntry 0xC8 CLS.LOOKUPS (f.walks.length + redo)])

/-- The walk an item keeps for its bank, and whether it was made again: a frame without that bank's result is walked in it (R158). -/
def keepWalk (s : State) (f : InFrame) (bank : Nat) : Walk × Nat × State :=
  match f.walks.find? (fun w => w.bank = bank) with
  | some w => (w, 0, s)
  | none => let (w, t) := walkBank s f bank; (w, 1, t)

/-- The action of a walk's result: kind, ACTION_INDEX, action entry, rule ID, whether it goes to `MISS_RING` (R148, R161, R162). -/
def walkAction (s : State) (p : Nat) (w : Walk) : Nat × Nat × List Nat × Nat × Bool :=
  if w.kind = 0 then (0, w.index, w.action, w.ruleId, false)
  else if missPort s p then (1, 0, [2, 0, 0, 0, 0, rd s 0xC8 CLS.MISS_RING], 0xFFFFFFFF, true)
  else (1, 0, noMatchAction s p, 0xFFFFFFFF, false)

/-- What that result counts and raises. -/
def walkFaults (w : Walk) : List LEntry :=
  (if w.kind = 2 then [countEntry 0xC8 CLS.TREE_FAULT 1] else []) ++ (if w.kind = 0 then [] else [countEntry 0xC8 CLS.NO_MATCH 1])
def walkRaises (w : Walk) : List (Nat × Nat × List Nat) := if w.kind = 2 then [(0xC8, CLS.evTREE_FAULT, [w.bank, w.offset])] else []

/-- Form the work item of a frame for block j: parse status, walk, action, flow placement; its counts commit with block j (R17, R143, R156,
R173). -/
def formItem (f : InFrame) (j : Nat) (entry : Int) (s : State) : Item × State :=
  if 12 ≤ f.src then ({ f.item with entry := entry, source := f.src, kind := 3 }, s)
  else
    let p := f.item.port
    let x := parseOf s f
    let (bank, epoch) := if f.item.pass = 0 then bankFor s j else (f.item.bank, f.item.epoch)
    let base := (if f.item.pass = 0 then [countEntry 0xC0 (PRS.ITEMS p) 1] else []) ++ parseCounts p x
      ++ (if f.src = 11 then [countEntry 0xC8 CLS.RECIRC_PASSES 1] else [])
    let ((kind, index, action, rule, miss), counts, raises, s) :=
      if parseFails s bank x then
        ((2, 0, parseFailAction s p, 0xFFFFFFFF, false), base ++ walkCounts f 0 ++ [countEntry 0xC8 CLS.PARSE_FAIL_DEFAULT 1], [], s)
      else
        let (w, redo, s) := keepWalk s f bank
        (walkAction s p w, base ++ walkCounts f redo ++ walkFaults w, walkRaises w, s)
    let it := { f.item with
      source := f.src, entry := entry, status := x.status, flags := x.flags, epoch := epoch, bank := bank, kind := kind,
      actionIndex := index, action := action,
      ruleId := rule, fields := catalogue x p f.item.pass f.item.length, present := x.present, innerStart := x.innerStart,
      innerType := x.innerType, tunnelId := x.tunnelId, counts := counts, raises := parseRaises p x ++ raises,
      aux := [x.rtag, x.rtagAt, x.ipAt, x.gtpAt, b2n miss, f.item.innerStart] ++ f.item.aux.drop 6 }
    (placeFlow s it, s)

/-- The 128 bytes of an item's journal record for block j, its CRC-32C last (R265, Table 9.2); numbers lowest byte first (log entry 77). -/
def journalRecord (j : Nat) (x : Item) : List Byte :=
  let b := toLe 4 x.handle ++ toLe 4 (ofSigned 12 x.entry + j % 64 * 2 ^ 12 + x.source % 16 * 2 ^ 18 + x.pass % 4 * 2 ^ 22)
    ++ toLe 4 (x.length % 2 ^ 14 + x.status % 16 * 2 ^ 14 + x.flags % 256 * 2 ^ 18) ++ toLe 4 x.epoch
    ++ toLe 4 (x.actionIndex % 2 ^ 18 + x.bank % 2 * 2 ^ 20 + x.kind % 8 * 2 ^ 21) ++ toLe 4 x.ruleId ++ toLe 4 x.h
    ++ toLe 4 (x.flow % 2 ^ 23 + x.region % 256 * 2 ^ 23) ++ toLe 48 x.key
    ++ (if 14 ≤ x.source then x.aux.flatMap (toLe 4) else toLe 2 x.innerStart ++ toLe 4 x.tunnelId ++ toLe 1 x.profile) ++ List.replicate 44 0#8
  b.take 124 ++ toLe 4 (crc32c 0xFFFFFFFF (b.take 124))

/-- The object's region of a fill item, which its header names (R174). -/
def itemRegion (s : State) (x : Item) : Nat :=
  if x.source = 13 then
    let d := bufData s x.handle
    match fillAt s d with | some o => fillObject d o % 192 | none => 0
  else x.region

/-- Items in the journal of block j that slice `slice` holds, as half 0, half 1, taken over; those not yet worked on included. -/
def journalCount (s : State) (slice j : Nat) : Nat × Nat × Nat :=
  let b := (s.work.find? (fun b => b.slice = slice ∧ b.abs = j)).getD (freshBlock slice j)
  let (map, _) := mapFor s j
  let mine := if j = now s + 1 then s.early.filter (fun x => regionOwner map (itemRegion s x) = slice) else []
  let own := mine.filter (fun x => itemRegion s x % 3 = slice)
  (b.n0 + (own.filter (fun x => inH0 (itemRegion s x))).length, b.n1 + (own.filter (fun x => !inH0 (itemRegion s x))).length,
   b.taken + (mine.length - own.length))

/-- Room in the journal of block j for an item of region r (R19, R262). -/
def journalRoom (s : State) (slice j r : Nat) : Bool :=
  let (map, post) := mapFor s j
  let (n0, n1, t) := journalCount s slice j
  if map = 3 then (if inH0 r then decide (n0 < 304) else decide (n1 < 303))
  else if post then
    if r % 3 = slice then decide (n0 + n1 < 607) else decide (t < if inH0 r then 304 else 303)
  else decide (n0 + n1 + t < 1215)

/-- Records that a slice's ledger of block j touches (R266). -/
def ledgerRecords (s : State) (slice j : Nat) : Nat :=
  match s.work.find? (fun b => b.slice = slice ∧ b.abs = j) with
  | none => 0
  | some b => ((b.results.flatMap (fun r => (r.ledger.map (·.page)).filter (fun p => 0x10000 ≤ p))).eraseDups).length

/-- Take an item in and work on it. -/
def workItem (slice j : Nat) (x : Item) (s : State) : State :=
  let (map, _) := mapFor s j
  let r := itemRegion s x
  let home := decide (r % 3 = slice)
  let s := if x.lookup then touchFlowCache x.flow s else s
  let (res, s) := if x.source = 13 then (fillWork slice j x s, s) else frameWork slice j (fun r => regionOwner map r = slice) x s
  updBlock slice j (fun b => { b with
    n0 := b.n0 + b2n (home && inH0 r), n1 := b.n1 + b2n (home && !inH0 r), taken := b.taken + b2n (!home) }) (addResult slice j res s)

/-! ## Faults of a slice (R270 to R276, R280 to R282) -/

/-- Subsystem code of a slice, and its location code at level 4. -/
def sliceLoc (slice unit : Nat) : Nat := locUnit (0x18 + slice) unit
def sliceSub (slice : Nat) : Nat := locSub (0x18 + slice)

/-- The other two slices, lower first. -/
def survivors (x : Nat) : Nat × Nat := if x = 0 then (1, 2) else if x = 1 then (0, 2) else (0, 1)

/-- The counter of a failed check (Table 9.4): 0 residue, 1 parity, 2 CRC, 3 duplicate compare, 4 completion count, 5 watchdog. -/
def failCounter (slice check : Nat) : Field :=
  if check = 0 then CWY.FAIL_RESIDUE slice else if check = 1 then CWY.FAIL_PARITY slice else if check = 2 then CWY.FAIL_CRC slice
  else if check = 3 then CWY.FAIL_DUP slice else if check = 4 then CWY.FAIL_COUNT slice else CWY.FAIL_WATCHDOG slice

/-- Schedule a map from block j on. -/
def planMap (j map : Nat) (post : Bool) (s : State) : State := { s with maps := s.maps.filter (fun m => m.1 < j) ++ [(j, map, post)] }

/-- A replay is in progress. -/
def replaying (s : State) : Bool := rdb s 0x190 XNG.XNG_STATUS_REPLAY

/-- Occurrences of a slice in the last 8 000 ticks before tick t (R275). -/
def recentOcc (s : State) (slice t : Nat) : Nat :=
  ((List.range 3).filter (fun i => rd s (held 0x180) (HCWY.OCC slice i) ≠ 0 ∧ t + 1 < rd s (held 0x180) (HCWY.OCC slice i) + 8000)).length

/-- Count an occurrence at tick t; answers whether it is the third within 8 000 ticks. -/
def countOcc (slice t : Nat) (s : State) : State × Bool :=
  let o := fun i => rd s (held 0x180) (HCWY.OCC slice i)
  let s := wr (held 0x180) (HCWY.OCC slice 2) (o 1) (wr (held 0x180) (HCWY.OCC slice 1) (o 0) (wr (held 0x180) (HCWY.OCC slice 0) (t + 1) s))
  let n := recentOcc s slice t
  (wr 0x180 (CWY.SLICE_OCCURRENCES slice) n s, decide (3 ≤ n))

/-- The event of a Carriageway fault in block f: it comes last in its block's records (R284). -/
def raiseSlice (b f loc : Nat) (masked : Bool) (d : List Nat) (s : State) : State :=
  let first := earlierFault s
  let s := pushEv { mkEv s 0x180 b loc masked d with abs := f, cls := 2 } s
  let s := if first = 0 then s
    else countLate 0x190 XNG.DOUBLE_FAULTS 1 (pushEv (mkEv s 0x180 CWY.evDOUBLE_FAULT loc false [first]) s)
  { s with blockFault := if s.blockFault = 0 then loc else s.blockFault }

/-- Slice x is fenced for a fault in block f: its fallback map stays, the test begins, GUARDED follows at f + 2 (R276, R277). -/
def fenceSlice (x f : Nat) (manual : Bool) (s : State) : State :=
  let s := wr 0x180 CWY.CWY_STATUS_FENCED x (wr 0x180 (CWY.SLICE_TEST_PASSED x) 0 (wr 0x180 (CWY.SLICE_STATE x) 3 s))
  let s := wr (held 0x180) (HCWY.FENCE_TICK x) (s.clock.tick + 1) (wr (held 0x180) (HCWY.TEST_TICK x) (s.clock.tick + 1) s)
  let s := if mode s = modeService then wr (held 0x180) HCWY.GUARD_AT (f + 3) s else s
  let s := wr (held 0x180) (HCWY.FAULT_AT x) 0 (inc 0x180 (CWY.FENCES x) s)
  let loc := sliceSub x
  if manual then raise 0x180 CWY.evSLICE_FENCED [1] (openFault Tag.fence loc s)
  else openFault Tag.fence loc (pushEv (mkEv s 0x180 CWY.evSLICE_FENCED loc true [0]) s)

/-- Free what a discarded result allocated (R209). -/
def dropResult (r : Result) (s : State) : State := if r.cwyBuf ∧ r.handle ≠ r.item.handle then discardFree r.handle s else s

/-- Discard slice x's block j: nothing of it commits (R264, R281). -/
def discardBlock (x j : Nat) (s : State) : State :=
  let b := (s.work.find? (fun b => b.slice = x ∧ b.abs = j)).getD (freshBlock x j)
  if b.discarded then s
  else
    let s := forEach b.results dropResult s
    let s := countLate 0x180 (CWY.CONTAINED_BLOCKS x) 1 (countLate 0x190 XNG.DISCARDED_BLOCKS 1 s)
    updBlock x j (fun b => { b with discarded := true, replayed := false }) s

/-- Discard every block that read a discarded ledger, as long as one does (R264). -/
def discardReaders : Nat → State → State
  | 0, s => s
  | n + 1, s =>
    match s.work.find? (fun b => !b.discarded && b.readFrom.any (fun r => s.work.any (fun c => c.discarded && decide ((c.slice, c.abs) = r)))) with
    | none => s
    | some b => discardReaders n (countLate 0x190 XNG.DISCARD_DEPENDENT 1 (discardBlock b.slice b.abs s))

/-- Do slice x's block f again: the survivors' results take the place of x's (R272). -/
def replayBlock (x f : Nat) (s : State) : State :=
  match s.work.find? (fun b => b.slice = x ∧ b.abs = f) with
  | none => updBlock x f (fun b => { b with replayed := true }) s
  | some b =>
    let s := forEach b.results dropResult s
    let s := updBlock x f (fun b => { b with results := [], n0 := 0, n1 := 0, taken := 0, readFrom := [], replayed := true }) s
    forEach b.results (fun r s =>
      if r.fill.getD 0 0 = 1 ∨ r.item.source < 14 ∧ r.fill.getD 0 0 ≠ 3 then workItem x f r.orig s else addResult x f r s) s

/-- Note a fault of slice x in its registers. -/
def noteFault (x f loc check : Nat) (s : State) : State :=
  let s := wr 0x180 (CWY.LAST_TICK x) (f / 64) (wr 0x180 (CWY.LAST_BLOCK x) (f % 64) (wr 0x180 (CWY.LAST_LOC x) loc s))
  countLate 0x180 (failCounter x check) 1 s

/-- A masked fault of slice x in block f; the third within 8 000 ticks fences it from the start of block f + 1 (R272, R275, R276). -/
def maskFault (x f loc check : Nat) (inj : Bool) (s : State) : State :=
  let s := raiseSlice CWY.evMASKED_FAULT f loc true [x, check, 0, if inj then 2 ^ 31 else 0] s
  let s := openFault Tag.replay loc (countLate 0x180 (CWY.MASKED x) 1 s)
  let s := wr 0x190 XNG.XNG_STATUS_REPLAY 1 (wr 0x190 XNG.XNG_STATUS_REPLAY_SLICE x (wr 0x190 XNG.XNG_STATUS_REPLAY_BLOCK (f % 64) s))
  let s := wr (held 0x180) HCWY.REPLAY_AT (f + 1) (countLate 0x190 XNG.DISCARDED_BLOCKS 2 s)
  let s := wr 0x180 (CWY.SLICE_STATE x) 1 (wr (held 0x180) (HCWY.FAULT_AT x) (f + 1) (wr (held 0x180) (HCWY.FAULT_MASKED x) 1 s))
  let s := planMap (f + 2) 3 false (planMap (f + 1) x true s)
  let (s, third) := countOcc x (f / 64) (replayBlock x f s)
  if third then planMap (f + 2) x false (wr (held 0x180) (HCWY.FENCE_AT x) (f + 1) s) else s

/-- A fault that is not masked: slice x's items of blocks f and f + 1 are contained, and x resets (R281, Table 9.7). -/
def containFault (x f loc : Nat) (inj : Bool) (s : State) : State :=
  let s := raiseSlice CWY.evCONTAINED_FAULT f loc false [2 ^ x, f % 2 ^ 32, 0, if inj then 2 ^ 31 else 0] s
  let s := discardReaders 8 (discardBlock x (f + 1) (discardBlock x f s))
  wr 0x180 (CWY.SLICE_STATE x) 1 (wr (held 0x180) (HCWY.FAULT_AT x) (f + 1) (wr (held 0x180) (HCWY.FAULT_MASKED x) 0 s))

/-- The slice whose block `f` is being replayed, if any. -/
def replaySlice (s : State) (f : Nat) : Option Nat :=
  if replaying s ∧ rd s (held 0x180) HCWY.REPLAY_AT = f + 1 then some (rd s 0x190 XNG.XNG_STATUS_REPLAY_SLICE) else none

/-- The replay of slice y's block f is given up: a second slice found the same faulty block (Table 9.7). -/
def cancelReplay (y f : Nat) (s : State) : State :=
  let s := closeFault Tag.replay (planMap (f + 1) 3 false s)
  let s := wr 0x190 XNG.XNG_STATUS_REPLAY 0 (wr (held 0x180) HCWY.REPLAY_AT 0 s)
  let s := { s with evq := s.evq.map (fun e => if e.page = 0x180 ∧ e.bit = CWY.evMASKED_FAULT ∧ e.abs = f then
    { e with bit := CWY.evCONTAINED_FAULT, masked := false, d0 := 2 ^ y, d1 := f % 2 ^ 32 } else e) }
  wr (held 0x180) (HCWY.FAULT_MASKED y) 0 (discardBlock y (f + 1) (discardBlock y f s))

/-- Contain the replay half that survivor y has done of another slice's block (Table 9.7). -/
def containHalf (x f y : Nat) (s : State) : State :=
  let half := decide (y = (survivors x).1)
  updBlock x f (fun b => { b with results := b.results.map (fun r =>
    if inH0 (itemRegion s r.item) = half then
      { r with verdict := .contained, ledger := [], evs := [], inserted := [], exports := [], learn := false, fill := [] } else r) }) s

/-- Contain one item of a replayed block: its journal record failed (Table 9.7). -/
def containRecord (x f i : Nat) (s : State) : State :=
  updBlock x f (fun b => { b with results := b.results.zipIdx.map (fun (r, n) =>
    if n = i then { r with verdict := .contained, ledger := [], evs := [], inserted := [], exports := [], learn := false, fill := [] } else r) }) s

/-- A failed check of slice x in the block in progress: masked while the home map is in force and both other slices work (R271, R272, R280,
R281). -/
def sliceFault (x check unit : Nat) (inj : Bool) (s : State) : State :=
  let f := now s
  let loc := sliceLoc x unit
  let (map, post) := mapFor s f
  let s := noteFault x f loc check s
  match replaySlice s f with
  | some y =>
    if y = x then s
    else containFault x f loc inj (cancelReplay y f s)
  | none =>
    let (lo, hi) := survivors x
    let able := decide (rd s 0x180 (CWY.SLICE_STATE lo) = 0) && decide (rd s 0x180 (CWY.SLICE_STATE hi) = 0)
    if map = 3 ∧ able ∧ !replaying s ∧ (mode s = modeService ∨ mode s = modeCommission) then maskFault x f loc check inj s
    else
      let half := post && decide (map < 3) && replaying s
      let s := if half ∧ f ≠ 0 then containHalf map (f - 1) x s else s
      let s := containFault x f loc inj s
      if map < 3 ∧ !half then
        let (s, third) := countOcc x (f / 64) s
        if third ∧ mode s = modeGuarded then wr (held 0x180) HCWY.DEGRADED 1 (raise 0x180 CWY.evSLICE_DEGRADED [x] s) else s
      else s

/-- A check of a Carriageway fails in the block in progress; during a replay a failed journal record, named by its place in the replayed
journal, contains that item (R270 to R274). -/
def execSliceCheckFailed (slice check unit : Nat) (record : Option Nat) (s : State) : Host.Outcome State Fault Refusal :=
  settle s (onlyIf (slice < 3 ∧ check < 6 ∧ s.clock.running ∧ journalOpen s ∧ rd s 0x180 (CWY.SLICE_STATE slice) = 0) (fun s =>
    match record, replaying s with
    | some i, true =>
      let f := rd s (held 0x180) HCWY.REPLAY_AT - 1
      let x := rd s 0x190 XNG.XNG_STATUS_REPLAY_SLICE
      let s := noteFault slice (now s) (sliceLoc slice 0) 2 s
      containRecord x f i (raiseSlice CWY.evCONTAINED_FAULT (now s) (sliceLoc slice 0) false [2 ^ x, f % 2 ^ 32, 1, 0] s)
    | _, _ => sliceFault slice check unit false s) s)

/-- The reset check of a slice ends in the block after its fault: it owns its regions again from the next journal, or is fenced
(R272, R275, Table 9.7). -/
def execSliceResetCheck (slice : Nat) (passed : Bool) (cyc : Nat) (s : State) : Host.Outcome State Fault Refusal :=
  settle s (onlyIf (slice < 3 ∧ rd s 0x180 (CWY.SLICE_STATE slice) = 1 ∧ rd s (held 0x180) (HCWY.FAULT_AT slice) = now s) (fun s =>
    if passed ∧ cyc ≤ 1944 then wr (held 0x180) (HCWY.FAULT_AT slice) 0 (wr 0x180 (CWY.SLICE_STATE slice) 0 s)
    else if rdb s (held 0x180) (HCWY.FAULT_MASKED slice) then
      planMap (now s + 1) slice false (fenceSlice slice (now s - 1) false s)
    else wr (held 0x180) (HCWY.FAULT_AT slice) 0 (wr 0x180 (CWY.SLICE_STATE slice) 0 s)) s)

/-- GUARDED is entered at the boundary after the replay has committed (R47, R276, R279). -/
def execEnterGuarded (s : State) : Host.Outcome State Fault Refusal :=
  settle s (onlyIf (rd s (held 0x180) HCWY.GUARD_AT ≠ 0 ∧ rd s (held 0x180) HCWY.GUARD_AT ≤ now s + 1) (fun s =>
    let s := wr (held 0x180) HCWY.GUARD_AT 0 s
    if mode s = modeService then setMode modeGuarded causeFence s else s) s)

/-! ## Test and return (R277 to R279) -/

def rtsResult (r : Nat) (s : State) : State := wr 0x180 CWY.RTS_RESULT r s
def rtsRefuse (r : Nat) (s : State) : State := raise 0x180 CWY.evRTS_REFUSED [r] (rtsResult r s)

/-- A replay, a drain, or another return or fence is pending. -/
def rtsBusy (s : State) : Bool := replaying s || inTransition s || decide (rd s (held 0x180) HCWY.RTS_OP ≠ 0) || decide (rd s (held 0x180) HCWY.GUARD_AT ≠ 0)

/-- The test of a fenced slice ends after 4 000 ticks (R277). -/
def execSliceTestDone (slice : Nat) (passed : Bool) (s : State) : Host.Outcome State Fault Refusal :=
  settle s (onlyIf (slice < 3 ∧ rd s 0x180 (CWY.SLICE_STATE slice) = 3 ∧ rd s (held 0x180) (HCWY.TEST_TICK slice) + 3999 ≤ s.clock.tick) (fun s =>
    let s := if passed then wr 0x180 (CWY.SLICE_STATE slice) 2 (wr 0x180 (CWY.SLICE_TEST_PASSED slice) 1 s)
      else setDomain (7 + slice) false (wr 0x180 (CWY.SLICE_STATE slice) 4 s)
    raise 0x180 CWY.evTEST_DONE [slice, b2n passed] s) s)

/-- A return or a manual fence is decided: boundary b is the first at least 2 blocks on (R279). -/
def decideRts (op slice : Nat) (s : State) : State :=
  let b := now s + 3
  let s := wr (held 0x180) HCWY.RTS_OP op (wr (held 0x180) HCWY.RTS_SLICE slice (wr (held 0x180) HCWY.RTS_AT (b + 1) s))
  if op = 2 then planMap b 3 false s else planMap (b + 1) slice false (planMap b slice true s)

/-- Returns of a slice in the last 24 h. -/
def recentReturns (s : State) (slice : Nat) : Nat :=
  ((List.range 15).filter (fun i => rd s (held 0x180) (HCWY.RET slice i) ≠ 0
    ∧ s.clock.tick < rd s (held 0x180) (HCWY.RET slice i) - 1 + 691200000)).length

/-- Hardware mode returns a tested slice once RTS_HOLD has passed, at most RTS_MAX times in 24 h (R278). -/
def execSliceAutoReturn (slice : Nat) (s : State) : Host.Outcome State Fault Refusal :=
  settle s (onlyIf (slice < 3 ∧ !rtsHost s ∧ mode s = modeGuarded ∧ rd s 0x180 CWY.CWY_STATUS_FENCED = slice
      ∧ rdb s 0x180 (CWY.SLICE_TEST_PASSED slice) ∧ rd s (held 0x180) (HCWY.FENCE_TICK slice) + rd s 0x180 CWY.RTS_HOLD ≤ s.clock.tick + 1
      ∧ recentReturns s slice < rd s 0x180 CWY.RTS_MAX ∧ !rtsBusy s) (decideRts 2 slice) s)

/-- RTS_CMD TEST: a fenced slice is tested again (R277). -/
def execRtsTest (slice : Nat) (s : State) : Host.Outcome State Fault Refusal :=
  settle s (hostCmd 0x180 0x50 (fun s =>
    let st := rd s 0x180 (CWY.SLICE_STATE slice)
    if rtsBusy s ∨ st = 3 then rtsRefuse 4 s
    else if 3 ≤ slice ∨ (st ≠ 2 ∧ st ≠ 4) then rtsRefuse 5 s
    else
      let s := setDomain (7 + slice) true (wr 0x180 (CWY.SLICE_STATE slice) 3 (wr 0x180 (CWY.SLICE_TEST_PASSED slice) 0 s))
      rtsResult 1 (wr (held 0x180) (HCWY.TEST_TICK slice) (s.clock.tick + 1) s)) s)

/-- RTS_CMD RETURN (R279). -/
def rtsReturn (slice : Nat) (s : State) : State :=
  if mode s ≠ modeGuarded then rtsRefuse 2 s
  else if rtsBusy s then rtsRefuse 4 s
  else if 3 ≤ slice ∨ rd s 0x180 CWY.CWY_STATUS_FENCED ≠ slice then rtsRefuse 5 s
  else if !rdb s 0x180 (CWY.SLICE_TEST_PASSED slice) then rtsRefuse 3 s
  else rtsResult 1 (decideRts 2 slice s)

/-- RTS_CMD RETURN (R278, R279). -/
def execRtsReturn (slice : Nat) (s : State) : Host.Outcome State Fault Refusal := settle s (hostCmd 0x180 0x50 (rtsReturn slice) s)

/-- RTS_CMD FENCE (R279). -/
def execRtsFence (slice : Nat) (s : State) : Host.Outcome State Fault Refusal :=
  settle s (hostCmd 0x180 0x50 (fun s =>
    if mode s ≠ modeService ∨ 3 ≤ slice then rtsRefuse 2 s
    else if rtsBusy s then rtsRefuse 4 s
    else rtsResult 1 (decideRts 3 slice s)) s)

/-- The return of a slice is done at boundary b: ACTIVE again, nothing fenced. -/
def returnSlice (x : Nat) (s : State) : State :=
  let s := forEach ((List.range 14).map (fun i => 14 - i)) (fun i s => wr (held 0x180) (HCWY.RET x i) (rd s (held 0x180) (HCWY.RET x (i - 1))) s) s
  let s := wr (held 0x180) (HCWY.RET x 0) (s.clock.tick + 1) (closeFault Tag.fence s)
  let s := wr 0x180 CWY.CWY_STATUS_FENCED 3 (wr 0x180 (CWY.SLICE_STATE x) 0 (wr 0x180 (CWY.SLICE_TEST_PASSED x) 0 s))
  raise 0x180 CWY.evSLICE_RETURNED [x, now s % 2 ^ 32] (inc 0x180 (CWY.RETURNS x) s)

/-- Whether a decided operation has come to its boundary. -/
def rtsDue (s : State) (op : Nat) : Bool := decide (rd s (held 0x180) HCWY.RTS_OP = op) && decide (rd s (held 0x180) HCWY.RTS_AT ≤ now s + 1)

/-- At boundary b the home map applies and the mode becomes SERVICE (R279). -/
def execSliceReturned (s : State) : Host.Outcome State Fault Refusal :=
  settle s (onlyIf (rtsDue s 2) (fun s =>
    let x := rd s (held 0x180) HCWY.RTS_SLICE
    let s := returnSlice x (wr (held 0x180) HCWY.RTS_OP 0 s)
    if mode s = modeGuarded then setMode modeService causeReturn s else s) s)

/-- At boundary b the fallback map applies; the slice is tested and GUARDED follows at b + 1 (R279). -/
def execManualFenceEffect (s : State) : Host.Outcome State Fault Refusal :=
  settle s (onlyIf (rtsDue s 3) (fun s =>
    let x := rd s (held 0x180) HCWY.RTS_SLICE
    let b := rd s (held 0x180) HCWY.RTS_AT - 1
    fenceSlice x (b - 1) true (wr (held 0x180) HCWY.RTS_OP 0 s)) s)

/-- FAULT_INJ is written with ARM: the chosen check fails on the slice's next item; ignored while INJ_ALLOW is clear (Table 9.8). -/
def execFaultInjArm (value : Nat) (s : State) : Host.Outcome State Fault Refusal :=
  settle s (hostCmd 0x180 0x58 (fun s =>
    let s := wr 0x180 CWY.FAULT_INJ_SLICE (value % 4) (wr 0x180 CWY.FAULT_INJ_CHECK (value / 16 % 4) s)
    if bit value 31 ∧ rdb s 0x180 CWY.CWY_CTRL_INJ_ALLOW then wr 0x180 CWY.FAULT_INJ_ARM 1 s else s) s)

/-- The unit of an injected check. -/
def injUnit (check : Nat) : Nat := if check = 2 then 6 else if check = 3 then 7 else 1

/-- An armed injection fails its check on the item just taken in. -/
def injectFault (slice : Nat) (s : State) : State :=
  if rdb s 0x180 CWY.FAULT_INJ_ARM ∧ rd s 0x180 CWY.FAULT_INJ_SLICE = slice ∧ rd s 0x180 (CWY.SLICE_STATE slice) = 0 then
    let c := rd s 0x180 CWY.FAULT_INJ_CHECK
    sliceFault slice c (injUnit c) true (wr 0x180 CWY.FAULT_INJ_ARM 0 s)
  else s

/-! ## Entry -/

/-- Place of a source in the journal port's Roundabout of core cycle c of the block in progress: it starts at source c mod 16 (R574). -/
def journalRank (c src : Nat) : Nat := (src + 16 - c % 16) % 16

/-- The items that a slice's journal of block j holds. -/
def journalItems (s : State) (slice j : Nat) : List Item :=
  let b := (s.work.find? (fun b => b.slice = slice ∧ b.abs = j)).getD (freshBlock slice j)
  b.results.map (·.item)
    ++ if j = now s + 1 then s.early.filter (fun x => regionOwner (mapFor s j).1 (itemRegion s x) = slice) else []

/-- No source that ranks behind `src` has entered the slice's journal in the same cycle (R574). -/
def entersInRank (s : State) (slice j src : Nat) (entry : Int) : Bool :=
  let c := ((entry + 2430) % 2430).toNat
  (journalItems s slice j).all (fun x => decide (14 ≤ x.source) || decide (x.entry ≠ entry) || decide (journalRank c x.source ≤ journalRank c src))

/-- A frame that a journal's limit turns away waits; the wait counts once for the journal of block j (R262, R266). -/
def noteWait (f : InFrame) (j : Nat) (c : Field) (s : State) : State :=
  if f.waits = j + 1 then s
  else countLate 0x180 c 1 { s with ingress := s.ingress.map (fun g => if g = f then { g with waits := j + 1 } else g) }

/-- Enter a frame into the journal of block j with this ENTRY (R15, R19, R262, R266, R574). -/
def enterJournal (f : InFrame) (j : Nat) (entry : Int) (s : State) : State :=
  let (x, t) := formItem f j entry s
  let r := itemRegion t x
  let slice := regionOwner (mapFor s j).1 r
  if !entersInRank s slice j x.source entry then s
  else if 2040 ≤ ledgerRecords s slice j then
    let s := noteWait f j (CWY.LEDGER_FULL slice) s
    if firstKey 0x180 CWY.evLEDGER_FULL 0 ∈ s.firsts then s else raiseFirst 0x180 CWY.evLEDGER_FULL [slice] s
  else if !journalRoom s slice j r then noteWait f j (CWY.LIMIT_WAITS slice) s
  else
    let t := { t with ingress := dropFirst (fun g => g = f) t.ingress }
    let t := if f.src = 11 then wr 0xC8 CLS.RECIRC_LEVEL (rd t 0xC8 CLS.RECIRC_LEVEL - 1) t else t
    if j = now s then injectFault slice (workItem slice j x t) else { t with early := t.early ++ [x] }

/-- The first frame of a source enters a journal `cyc` core cycles into the block in progress: that block's, or from cycle 1 944 on the
next one's (R15). -/
def execJournalEntry (src cyc : Nat) (s : State) : Host.Outcome State Fault Refusal :=
  settle s (onlyIf (src < 14 ∧ cyc < blockCycles ∧ s.clock.running ∧ journalOpen s) (fun s =>
    match pickIngress s src (startOf (now s) + cyc) with
    | none => s
    | some f =>
      if cyc < 1944 then enterJournal f (now s) cyc s else enterJournal f (now s + 1) ((cyc : Int) - 2430) s) s)

/-- The items that entered early are worked on as their block begins. -/
def runEarly (s : State) : State :=
  let l := s.early
  forEach l (fun x s =>
    let slice := regionOwner (mapFor s (now s)).1 (itemRegion s x)
    injectFault slice (workItem slice (now s) x s)) { s with early := [] }

/-! ## Block boundaries -/

/-- At a block boundary: a replay that is done, slices whose reset ended without a passed check, map changes that are past. -/
def carriageBoundary (s : State) : State :=
  let b := now s
  let s := if replaying s ∧ rd s (held 0x180) HCWY.REPLAY_AT + 1 ≤ b then
      closeFault Tag.replay (wr 0x190 XNG.XNG_STATUS_REPLAY 0 (wr (held 0x180) HCWY.REPLAY_AT 0 s)) else s
  let s := forEach (List.range 3) (fun x s =>
    let f := rd s (held 0x180) (HCWY.FENCE_AT x)
    if f ≠ 0 ∧ f ≤ b then fenceSlice x (f - 1) false (wr (held 0x180) (HCWY.FENCE_AT x) 0 s) else s) s
  let s := forEach (List.range 3) (fun x s =>
    let at_ := rd s (held 0x180) (HCWY.FAULT_AT x)
    if rd s 0x180 (CWY.SLICE_STATE x) = 1 ∧ at_ ≠ 0 ∧ at_ + 1 ≤ b then
      if rdb s (held 0x180) (HCWY.FAULT_MASKED x) then planMap b x false (fenceSlice x (at_ - 1) false s)
      else wr (held 0x180) (HCWY.FAULT_AT x) 0 (wr 0x180 (CWY.SLICE_STATE x) 0 s)
    else s) s
  let old := (s.maps.filter (fun m => m.1 ≤ b)).dropLast
  { s with maps := s.maps.filter (fun m => m ∉ old) }

/-- At a tick boundary OCCURRENCES shows the last 8 000 ticks. -/
def carriageTick (s : State) : State :=
  forEach (List.range 3) (fun x s => wr 0x180 (CWY.SLICE_OCCURRENCES x) (recentOcc s x s.clock.tick) s) s

/-! ## Work that time brings to a slice (R94, R183) -/

/-- A stream that has passed no copy for RESET_TICKS ticks is reset, in the owning slice's work of block 0 (R94). -/
def execRecovReset (stream : Nat) (s : State) : Host.Outcome State Fault Refusal :=
  let slice := regionOwner (mapFor s (now s)).1 (stream % 192)
  let v := viewState s slice (now s)
  let pg := Tab.flow stream
  let t := rd v pg SREC.RESET_TICKS
  settle s (onlyIf (s.clock.running ∧ s.clock.block = 0 ∧ rd v pg FREC.TYPE = 2 ∧ t ≠ 0 ∧ !rdb v pg SREC.TAKE_ANY
      ∧ t ≤ (s.clock.tick % 2 ^ 32 + 2 ^ 32 - rd v pg SREC.LAST_PASS) % 2 ^ 32) (fun s =>
    let w := freshWk s slice (now s)
    let w := (w.set pg SREC.TAKE_ANY 1).count pg SREC.RESETS 1
    let w := [0, 1].foldl (fun (w : Wk) f => (endRejoin pg f w).event (fibPage f + 1) FB1.evRECOV_RESET [stream]) w
    addResult slice (now s) (closeWk (blankResult slice { blankItem with source := 15, handle := emptyHandle }) w) s) s)

/-- The ageing engine visits a hashed record and proposes its removal as work of the owning slice (R183). -/
def execAgeingVisit (record : Nat) (s : State) : Host.Outcome State Fault Refusal :=
  let slice := regionOwner (mapFor s (now s)).1 (bucketRegion s (record / 8))
  settle s (onlyIf (s.clock.running ∧ rdb s 0xD0 FLW.FLW_CTRL_EN ∧ record < flowBase s ∧ agedOut (viewState s slice (now s)) (s.clock.tick % 2 ^ 32) record) (fun s =>
    let x := { blankItem with source := 15, handle := emptyHandle, aux := [record] }
    addResult slice (now s) { blankResult slice x with proposal := record + 1 } s) s)

end Sys2Proof.Machine
end

