-- ==== Sys2Proof/Machine/Framer.lean ====
section
/-! DEFINITION. The framers of Tramlines (R354 to R360): alignment, multiframes, defects, the slip buffer. -/

namespace Sys2Proof.Machine

/-- A tributary before anything was received. -/
def tribBlank : TribSt :=
  { hist := [], offset := 0, phase := 0, cands := [], fasErr := 0, fpsBad := [], mf := false, mfWait := 0, mfRestart := 0, smf := [],
    frames := [], zeroRun := 0, aisBits := 0, aisZeros := 0, aisLow := 0, aisHigh := 0, aRun := 0, aBit := false, dl := 0, dlGap := 64,
    slip := [], last := 0, gather := [], jb := [], rdPos := 0, refSeq := 0, refPos := 0, hasRef := false, playing := false,
    slipped := false, missRun := 0, payRun := 0, rtpLast := 0, rtpStep := 0, rtpSent := 0, played := [], again := [], txNo := 0, txOld := [], eBits := 3,
    errBlocks := 0, fasSeen := false, defect := false, severe := false, suspect := false, secs := [], sesRun := 0, okRun := 0,
    unavail := false }

def trib (s : State) (n : Nat) : TribSt := (Map.get none s.tribs n).getD tribBlank
def putTrib (n : Nat) (t : TribSt) (s : State) : State :=
  { s with tribs := Map.put none s.tribs n (if t = tribBlank then none else some t) }

def tribOn (s : State) (n : Nat) : Bool := rdb s (Tab.trib n) TRIB.ENABLE
def framing (s : State) (n : Nat) : Nat := rd s (Tab.trib n) TRIB.FRAMING
/-- T1 formats; framed formats. -/
def isT1 (s : State) (n : Nat) : Bool := framing s n = 3 || framing s n = 4
def isFramed (s : State) (n : Nat) : Bool := framing s n = 1 || framing s n = 2 || framing s n = 4
/-- Bits of a frame (R355). -/
def frameBits (s : State) (n : Nat) : Nat := if isT1 s n then 193 else 256

/-- Bit `i` of a `w`-bit frame, the first bit being bit 0; `k` bits from `i` on. -/
def fbit (w v i : Nat) : Nat := (v / 2 ^ (w - 1 - i)) % 2
def fbits (w v i k : Nat) : Nat := (v / 2 ^ (w - i - k)) % 2 ^ k

/-- Bits from offset `o` on of the frame before the newest, running on into the newest. -/
def spanBits (w : Nat) (h : List Nat) (o k : Nat) : Nat := fbits (2 * w) (h.getD 1 0 * 2 ^ w + h.getD 0 0) o k

/-! ## Defects (Table 12.2) -/

/-- A defect bit changes: its event, and the second it spoils (R359, R372). -/
def setDefect (n : Nat) (f : Field) (code : Nat) (v : Bool) (s : State) : State :=
  if rdb s (Tab.trib n) f = v then s
  else raise 0x1A0 TRM0.evDEFECT [n, code, b2n v] (wrb (Tab.trib n) f v s)

/-- Any defect; one of LOS, AIS, LOF. -/
def anyDefect (s : State) (n : Nat) : Bool :=
  [TRIB.LOS, TRIB.AIS, TRIB.LOF, TRIB.LOMF, TRIB.RAI].any (rdb s (Tab.trib n))
def severeDefect (s : State) (n : Nat) : Bool := [TRIB.LOS, TRIB.AIS, TRIB.LOF].any (rdb s (Tab.trib n))

/-- Take one bit into the zero run and the 512-bit period. -/
def lineBit (t : TribSt) (b : Nat) : TribSt :=
  let zeros := t.aisZeros + (1 - b)
  let run := if b = 0 then t.zeroRun + 1 else 0
  if t.aisBits = 511 then
    if zeros < 3 then { t with zeroRun := run, aisBits := 0, aisZeros := 0, aisLow := t.aisLow + 1, aisHigh := 0 }
    else { t with zeroRun := run, aisBits := 0, aisZeros := 0, aisLow := 0, aisHigh := t.aisHigh + 1 }
  else { t with zeroRun := run, aisBits := t.aisBits + 1, aisZeros := zeros }

/-- Ones among the last 255 bits received. -/
def onesIn255 (w : Nat) (h : List Nat) : Nat :=
  let v := h.getD 1 0 * 2 ^ w + h.getD 0 0
  ((List.range 255).filter (fun i => bit v i)).length

/-- LOS and AIS from the line. -/
def lineDefects (n : Nat) (s : State) : State :=
  let t := trib s n
  let w := frameBits s n
  let bad := s.framerBad.contains (n / 16) || !rdb s 0x1A0 (TRM0.HWY_STATUS_CLK_OK (n / 16))
  let s := if bad ∨ 255 ≤ t.zeroRun then setDefect n TRIB.LOS 0 true s
    else if 32 ≤ onesIn255 w t.hist then setDefect n TRIB.LOS 0 false s else s
  if 2 ≤ t.aisLow then setDefect n TRIB.AIS 1 true s else if 2 ≤ t.aisHigh then setDefect n TRIB.AIS 1 false s else s

/-! ## E1 alignment (Table 12.1, R358) -/

/-- TS0 of the frame at an offset: FAS in bits 2 to 8; bit 2. -/
def isFas (ts0 : Nat) : Bool := ts0 % 128 = 0x1B
def isNfas (ts0 : Nat) : Bool := bit ts0 6

/-- One search step: every candidate is tested, every FAS becomes a candidate; the offset that aligns, the first one on from the bit after
offset `from_` where several do (R358), the candidates, and how many were false. -/
def e1Search (from_ : Nat) (h : List Nat) (cands : List (Nat × Nat × Nat)) : Option Nat × List (Nat × Nat × Nat) × Nat :=
  let at_ := fun o => spanBits 256 h o 8
  let win := (cands.find? (fun c => c.2.1 = 2 ∧ isFas (at_ c.1))).map (·.1)
  let keep := (cands.filter (fun c => c.2.1 = 1 ∧ isNfas (at_ c.1))).map (fun c => (c.1, 2, 0))
  let lost := (cands.filter (fun c => if c.2.1 = 1 then !isNfas (at_ c.1) else !isFas (at_ c.1))).length
  let new := ((List.range 256).filter (fun o => isFas (at_ o) ∧ !(keep.any (fun c => c.1 = o)))).map (fun o => (o, 1, 0))
  (win, (List.range 256).flatMap (fun i => (keep ++ new).filter (fun c => decide (c.1 = (from_ + 1 + i) % 256))), lost)

/-- CRC of `w` check bits over `k` bits of a number, first bit first; `poly` without its leading term. -/
def bitCrc (w poly : Nat) (v k : Nat) : Nat :=
  (List.range k).foldl (fun c i =>
    let top := (c / 2 ^ (w - 1)) % 2
    let c := (c * 2) % 2 ^ w + fbit k v i
    if top = 1 then c ^^^ poly else c) 0

/-- Append `w` zero bits before the division. -/
def crcOf (w poly v k : Nat) : Nat := bitCrc w poly (v * 2 ^ w) (k + w)

/-- Frames as one number, the oldest first. -/
def joinFrames (w : Nat) (l : List Nat) : Nat := l.foldl (fun a f => a * 2 ^ w + f) 0

/-- An E1 frame with bit 1 of TS0 as zero. -/
def clearBit1 (f : Nat) : Nat := f % 2 ^ 255

/-- CRC-4 of a submultiframe of eight frames, oldest first, the C bits as zero. -/
def crc4 (l : List Nat) : Nat :=
  crcOf 4 3 (joinFrames 256 ((List.range l.length).map (fun i => if i % 2 = 0 then clearBit1 (l.getD i 0) else l.getD i 0))) 2048

/-- Bit 1 of the frames i of a list, oldest first. -/
def bit1s (l idx : List Nat) : Nat := idx.foldl (fun a i => a * 2 + fbit 256 (l.getD i 0) 0) 0

/-- The last sixteen frames, oldest first, hold the multiframe alignment signal in the NFAS frames 1, 3, … 11. -/
def mfas (fr : List Nat) : Bool := bit1s ((fr.take 16).reverse) [1, 3, 5, 7, 9, 11] = 0xB

/-- A submultiframe's verdict: its CRC-4 against the C bits of the next one. `fr` holds frames newest first, the newest ending a
submultiframe. -/
def smfBad (fr : List Nat) : Bool :=
  let cur := (fr.take 8).reverse
  let old := ((fr.drop 8).take 8).reverse
  crc4 old ≠ bit1s cur [0, 2, 4, 6]

/-- Lose alignment: SEARCH with LOF, or LOMF for a lost CRC-4 multiframe. -/
def loseAlign (n : Nat) (t : TribSt) (s : State) : State :=
  wr (Tab.trib n) TRIB.ALIGN_STATE 0 (putTrib n { t with cands := [], fasErr := 0, fpsBad := [], mf := false, smf := [], mfWait := 0, eBits := 3 } s)

/-- The A bit of an NFAS word: RAI after three in a row alike. -/
def raiE1 (n ts0 : Nat) (s : State) : State :=
  let t := trib s n
  let a := bit ts0 5
  let run := if a = t.aBit then t.aRun + 1 else 1
  let s := putTrib n { t with aRun := run, aBit := a } s
  if 3 ≤ run then setDefect n TRIB.RAI 4 a s else s

/-- `LOF_M` as applied. -/
def lofM (s : State) : Nat := if rd s 0x1A0 TRM0.LOF_M = 4 then 4 else 3

/-- A submultiframe ends: its verdict counts, an E bit is due, and LOMF follows 915 bad ones of 1 000 (R358, R362). -/
def smfEnd (n : Nat) (s : State) : State :=
  let t := trib s n
  let bad := smfBad t.frames
  let smf := (bad :: t.smf).take 1000
  let t := { t with smf := smf, errBlocks := t.errBlocks + b2n bad, eBits := (t.eBits * 2 + b2n (!bad)) % 4 }
  if smf.length = 1000 ∧ 915 ≤ (smf.filter id).length then setDefect n TRIB.LOMF 3 true (loseAlign n t s) else putTrib n t s

/-- The multiframe search of E1 CRC-4 at an NFAS frame, every second frame: two signals 16 frames apart within 64 frames; else the alignment
was false, until 3 200 frames have gone by in restarts (R358). -/
def mfSearch (n : Nat) (s : State) : State :=
  let t := trib s n
  if mfas t.frames ∧ mfas (t.frames.drop 16) ∧ 32 ≤ t.frames.length then
    setDefect n TRIB.LOMF 3 false (putTrib n { t with mf := true, phase := 15, mfWait := 0, mfRestart := 0 } s)
  else if 64 ≤ t.mfWait then
    let r := t.mfRestart + t.mfWait
    if 3200 ≤ r then putTrib n { t with mfWait := 0, mfRestart := r } s
    else loseAlign n { t with mfRestart := r } s
  else putTrib n { t with mfWait := t.mfWait + 2 } s

/-- One frame of an aligned E1 tributary. -/
def e1Aligned (n : Nat) (s : State) : State :=
  let t := trib s n
  let fr := spanBits 256 t.hist t.offset 256
  let ts0 := fr / 2 ^ 248
  let phase := (t.phase + 1) % 16
  let t := { t with frames := (fr :: t.frames).take 48, phase := phase }
  if phase % 2 = 0 then
    let err := !isFas ts0
    let t := { t with fasErr := if err then t.fasErr + 1 else 0, fasSeen := t.fasSeen || err }
    if lofM s ≤ t.fasErr then setDefect n TRIB.LOF 2 true (loseAlign n { t with mfRestart := 0 } s) else putTrib n t s
  else
    let s := raiE1 n ts0 (putTrib n t s)
    if framing s n = 2 ∧ !rdb s (Tab.trib n) TRIB.CRC4_INTERWORK then
      if !(trib s n).mf then mfSearch n s else if phase % 8 = 7 then smfEnd n s else s
    else s

/-- One frame of an E1 tributary in search. -/
def e1Seek (n : Nat) (s : State) : State :=
  let t := trib s n
  let (win, cands, lost) := e1Search t.offset t.hist t.cands
  match win with
  | some o =>
    let fr := spanBits 256 t.hist o 256
    let s := putTrib n { t with cands := [], offset := o, phase := 0, fasErr := 0, frames := [fr], mf := false, mfWait := 0 } s
    setDefect n TRIB.LOF 2 false (wr (Tab.trib n) TRIB.ALIGN_STATE 3 (addc (held 0x1A0) (HTRM.FALSE_ALIGN n) lost s))
  | none =>
    let st := if cands.any (fun c => c.2.1 = 2) then 2 else if cands.isEmpty then 0 else 1
    wr (Tab.trib n) TRIB.ALIGN_STATE st (addc (held 0x1A0) (HTRM.FALSE_ALIGN n) lost (putTrib n { t with cands := cands } s))

/-! ## T1 ESF alignment (Table 12.1) -/

/-- The F bits at an offset of the last 24 frames, from `k` frames back, oldest first, as a number of 24 bits. -/
def fBits (h : List Nat) (o k : Nat) : Nat := (((h.drop k).take 24).reverse).foldl (fun a f => a * 2 + fbit 193 f o) 0

/-- The FPS bits of frames 4, 8, … 24 of 24 F bits; the CRC-6 bits of frames 2, 6, … 22. -/
def fpsOf (f : Nat) : Nat := [3, 7, 11, 15, 19, 23].foldl (fun a i => a * 2 + fbit 24 f i) 0
def crcBitsOf (f : Nat) : Nat := [1, 5, 9, 13, 17, 21].foldl (fun a i => a * 2 + fbit 24 f i) 0

/-- The 24 frames from `k` frames back, from offset `o` on, oldest first, with their F bits as ones: what the CRC-6 of the next
multiframe covers. -/
def esfData (h : List Nat) (o k : Nat) : Nat :=
  let l := (h.drop k).take 25
  (List.range 24).foldl (fun a i =>
    let j := 23 - i
    a * 2 ^ 193 + (2 ^ 192 + fbits 386 (l.getD j 0 * 2 ^ 193 + (if j = 0 then (if k = 0 then 0 else h.getD (k - 1) 0) else l.getD (j - 1) 0)) o 193 % 2 ^ 192)) 0

/-- The CRC-6 of the multiframe before the one just ended checks. -/
def esfCrcOk (h : List Nat) (o : Nat) : Bool := crcOf 6 3 (esfData h o 24) 4632 = crcBitsOf (fBits h o 0)

/-- Search at every phase; a candidate is tested 24 frames on. -/
def t1Seek (n : Nat) (s : State) : State :=
  let t := trib s n
  let aged := t.cands.map (fun c => (c.1, c.2.1, c.2.2 + 1))
  let due := aged.filter (fun c => 24 ≤ c.2.2)
  let wait := aged.filter (fun c => c.2.2 < 24)
  let ok := fun (o : Nat) => fpsOf (fBits t.hist o 0) = 0xB
  let win := due.find? (fun c => ok c.1 ∧ esfCrcOk t.hist c.1)
  let s := addc (held 0x1A0) (HTRM.FALSE_ALIGN n) (due.length - (if win.isSome then 1 else 0)) s
  match win with
  | some c =>
    let s := putTrib n { t with cands := [], offset := c.1, phase := 23, fpsBad := [], frames := [] } s
    setDefect n TRIB.LOF 2 false (wr (Tab.trib n) TRIB.ALIGN_STATE 3 s)
  | none =>
    let new := if 24 ≤ t.hist.length then ((List.range 193).filter (fun o => ok o)).map (fun o => (o, 1, 0)) else []
    let cands := wait ++ new
    wr (Tab.trib n) TRIB.ALIGN_STATE (if cands.isEmpty then 0 else 1) (putTrib n { t with cands := cands } s)

/-- A data-link bit: RAI on the codeword 0xFF00 four times over; it clears when 64 bits pass without one. -/
def raiT1 (n b : Nat) (s : State) : State :=
  let t := trib s n
  let dl := (t.dl * 2 + b) % 2 ^ 64
  let gap := if dl % 65536 = 0xFF00 then 0 else t.dlGap + 1
  let s := putTrib n { t with dl := dl, dlGap := min 64 gap } s
  if dl = 0xFF00FF00FF00FF00 then setDefect n TRIB.RAI 4 true s else if 64 ≤ gap then setDefect n TRIB.RAI 4 false s else s

/-- One frame of an aligned T1 tributary. -/
def t1Aligned (n : Nat) (s : State) : State :=
  let t := trib s n
  let phase := (t.phase + 1) % 24
  let f := fbit 193 (t.hist.getD 0 0) t.offset
  let fr := spanBits 193 t.hist t.offset 193
  let t := { t with phase := phase, frames := (fr :: t.frames).take 48 }
  if phase % 4 = 3 then
    let want := fbit 6 0xB (phase / 4)
    let bad := (decide (f ≠ want) :: t.fpsBad).take 4
    let t := { t with fpsBad := bad }
    if 2 ≤ (bad.filter id).length then setDefect n TRIB.LOF 2 true (loseAlign n t s)
    else
      let t := if phase = 23 ∧ 48 ≤ t.hist.length then { t with errBlocks := t.errBlocks + b2n (!esfCrcOk t.hist t.offset) } else t
      putTrib n t s
  else if phase % 2 = 0 then raiT1 n f (putTrib n t s)
  else putTrib n t s

/-! ## The receive path (R357, R360) -/

/-- A complete frame enters the slip buffer: while both held frames are unread the older is dropped (R360). -/
def slipIn (n fr : Nat) (s : State) : State :=
  let t := trib s n
  if 2 ≤ t.slip.length then
    let s := putTrib n { t with slip := t.slip.drop 1 ++ [fr] } s
    raiseFirst 0x1A0 TRM0.evSLIP [n, 0] (inc (Tab.trib n) TRIB.RX_DROP s)
  else putTrib n { t with slip := t.slip ++ [fr] } s

/-- The tick's read: the next frame, or the last one again (R360). -/
def slipOut (n : Nat) (s : State) : Nat × State :=
  let t := trib s n
  match t.slip with
  | fr :: r => (fr, putTrib n { t with slip := r, last := fr } s)
  | [] => (t.last, raiseFirst 0x1A0 TRM0.evSLIP [n, 1] (inc (Tab.trib n) TRIB.RX_REPEAT s))

/-- A tributary takes its slot of a highway frame; in an unframed format the slot is the frame, and there is no frame to lose (R357). -/
def tribReceive (n slot : Nat) (s : State) : State :=
  let w := frameBits s n
  let v := if isT1 s n then slot / 2 ^ 63 else slot
  let t := trib s n
  let t := { (List.range w).foldl (fun t i => lineBit t (fbit w v i)) t with hist := (v :: t.hist).take 49 }
  let s := lineDefects n (putTrib n t s)
  if !isFramed s n then slipIn n v (setDefect n TRIB.LOF 2 false s)
  else
    let s := if rd s (Tab.trib n) TRIB.ALIGN_STATE = 3 then (if isT1 s n then t1Aligned n s else e1Aligned n s)
      else (if isT1 s n then t1Seek n s else e1Seek n s)
    let t := trib s n
    let s := slipIn n (spanBits w t.hist t.offset w) s
    let t := trib s n
    putTrib n { t with defect := t.defect || anyDefect s n, severe := t.severe || severeDefect s n } s

/-- The first bit of a frame most significant: bytes to a number. -/
def slotOfBytes (d : List Byte) (slot : Nat) : Nat := beNat ((d.drop (32 * slot)).take 32 ++ List.replicate (32 - ((d.drop (32 * slot)).take 32).length) 0)

/-- Enabled tributaries of a highway. -/
def tribsOf (s : State) (h : Nat) : List Nat := ((List.range 16).map (fun i => 16 * h + i)).filter (tribOn s)

end Sys2Proof.Machine
end

