-- ==== Sys2Proof/Machine/Lpddr.lean ====
section
/-! DEFINITION. The LPDDR6 channels: stripes and check area, regions, mirror pairs, where the terminal places its data (R59 to R65, R193). -/

namespace Sys2Proof.Machine

/-! ## Raw layout of a channel (R59) -/

/-- Raw bytes of a channel, the stripes of 10 KiB that they hold, and the unused tail. -/
def rawBytes : Nat := 2 ^ 32
def stripes : Nat := 419430
def stripeRaw : Nat := 10240
def tailBytes : Nat := 4096

/-- Data bytes and words of a stripe; bytes of its check area, those that hold check bits, and the reserved ones. -/
def stripeData : Nat := 8192
def stripeWords : Nat := 2048
def checkArea : Nat := 2048
def checkUsed : Nat := 1792
def checkReserved : Nat := 256

/-- Data bytes of a channel: addresses 0x0000_0000 to 0xCCCC_BFFF. -/
def channelData : Nat := stripes * stripeData

/-- The raw byte of a data address. -/
def rawOf (addr : Nat) : Nat := addr / stripeData * stripeRaw + addr % stripeData

/-- The raw bit at which the 7 check bits of the word at a data address start: bits [7w + 6:7w] of the stripe's check area. -/
def checkBitOf (addr : Nat) : Nat := (addr / stripeData * stripeRaw + stripeData) * 8 + 7 * (addr % stripeData / 4)

/-- What a raw byte of a channel is: a byte of a data word, part of the check bits, reserved and zero, or the unused tail. -/
inductive RawKind where
  | data (addr : Nat)
  | check (stripe byte : Nat)
  | zero
  | tail
  deriving DecidableEq, Repr

def rawKind (r : Nat) : RawKind :=
  let stripe := r / stripeRaw
  let b := r % stripeRaw
  if stripes * stripeRaw ≤ r then .tail
  else if b < stripeData then .data (stripe * stripeData + b)
  else if b < stripeData + checkUsed then .check stripe (b - stripeData)
  else .zero

/-- The content of a raw byte of a channel whose data words are `word`, by word index; the tail holds nothing that the spec states. -/
def rawByte (word : Nat → Nat) (r : Nat) : Option Nat :=
  match rawKind r with
  | .data a => some (word (a / 4) / 2 ^ (8 * (a % 4)) % 256)
  | .check st b =>
    some (((List.range 8).filter (fun i =>
      let n := 8 * b + i
      bit (Config.checkBits (word (st * stripeWords + n / 7))) (n % 7))).map (2 ^ ·)).sum
  | .zero => some 0
  | .tail => none

/-! ## Regions of a channel (R64, Table 2.8) -/

/-- A region: its address in every channel, its size per channel, whether it is mirrored. -/
structure Region where
  base : Nat
  size : Nat
  mirrored : Bool
  deriving DecidableEq, Repr

def mib : Nat := 1048576
def regFlow : Region := ⟨0x00000000, 160 * mib, true⟩
def regBankA : Region := ⟨0x0A000000, 128 * mib, true⟩
def regBankB : Region := ⟨0x12000000, 128 * mib, true⟩
def regDir : Region := ⟨0x1A000000, 64 * mib, true⟩
def regTown : Region := ⟨0x1E000000, 64 * mib, true⟩
def regTramMews : Region := ⟨0x22000000, 16 * mib, false⟩
def regSpill : Region := ⟨0x23000000, 256 * mib, false⟩
def regP3 : Region := ⟨0x33000000, 1216 * mib, false⟩
def regP4 : Region := ⟨0x7F000000, 1232 * mib, false⟩
def regReserved : Region := ⟨0xCC000000, channelData - 0xCC000000, false⟩

def regions : List Region := [regFlow, regBankA, regBankB, regDir, regTown, regTramMews, regSpill, regP3, regP4, regReserved]

/-- The region of a data address. -/
def regionAt (addr : Nat) : Option Region := regions.find? (fun g => g.base ≤ addr ∧ addr < g.base + g.size)

/-- A data address of a mirrored region. -/
def isMirrored (addr : Nat) : Bool := (regionAt addr).any (·.mirrored)

/-! ## Mirror pairs (R61 to R63) -/

/-- The partner of a channel; channels 0 to 3 hold the primary copies. -/
def partnerOf (c : Nat) : Nat := (c + 4) % 8
def isPrimary (c : Nat) : Bool := decide (c < 4)

def inService (s : State) (c : Nat) : Bool := bit (rd s 0 GEN.GEN_STATUS_CHAN_IN_SERVICE) c
def rebuilding (s : State) (c : Nat) : Bool := bit (rd s 0 GEN.GEN_STATUS_CHAN_REBUILDING) c

/-- The mirrored regions of a channel can be read: it is in service and its rebuild is complete (R63). -/
def readable (s : State) (c : Nat) : Bool := inService s c && !rebuilding s c

/-- The channel that reads of a mirrored word with primary `c` go to: the primary, or the mirror when the primary cannot be read; none when
neither can (R62, R63). -/
def readsFrom (s : State) (c : Nat) : Option Nat :=
  if readable s c then some c else if readable s (partnerOf c) then some (partnerOf c) else none

/-! ## Places (R65, R193) -/

/-- A place: channel and data address. -/
structure Place where
  channel : Nat
  addr : Nat
  deriving DecidableEq, Repr

/-- The mirror of a place: the same address of the partner. -/
def mirrorOf (p : Place) : Place := ⟨partnerOf p.channel, p.addr⟩

/-- The primary copy of flow record r. -/
def flowPlace (r : Nat) : Place := ⟨r % 4, regFlow.base + r / 4 * 128⟩

/-- The primary copy of byte a of rule-tree bank b. -/
def treePlace (b a : Nat) : Place := ⟨a / 4096 % 4, (if b = 0 then regBankA else regBankB).base + a / 16384 * 4096 + a % 4096⟩

/-- P3 buffer i, and staging slot i. -/
def p3Place (i : Nat) : Place := ⟨i % 8, regP3.base + i / 8 * 9728⟩
def slotPlace (i : Nat) : Place := ⟨i % 8, regP4.base + i / 8 * 65536⟩

/-- The channel of the jitter buffer of tributary n. -/
def jitterChannel (n : Nat) : Nat := n % 8

/-- SBASE_p and OBASE_p: where pool p's spill and on-die buffers start. -/
def spillBase (s : State) (p : Nat) : Nat := ((List.range p).map (fun q => rd s 0xE0 (SQR0.POOL_SPILL_MIB q))).sum * mib
def ondieBase (s : State) (p : Nat) : Nat := ((List.range p).map (fun q => rd s 0xE0 (SQR0.POOL_ONDIE_MIB q))).sum * mib

/-- The place of a buffer in LPDDR6: a spill buffer of P0 to P2, a P3 buffer, a staged P4 segment. -/
def bufferPlace (s : State) (h : Nat) : Option Place :=
  let p := handlePool h
  let i := handleIndex h
  if isDetached h ∨ p = 4 then (slotIndex s h).map slotPlace
  else if p = 3 then some (p3Place i)
  else
    let j := i - poolOndie s p
    if i < poolOndie s p then none else some ⟨j % 8, regSpill.base + spillBase s p + j / 8 * poolSize p⟩

/-- The SRAM bank and the bank offset of an on-die buffer. -/
def ondiePlace (s : State) (h : Nat) : Option (Nat × Nat) :=
  let p := handlePool h
  let i := handleIndex h
  if p < 3 ∧ i < poolOndie s p then some (i % 4, ondieBase s p + i / 4 * poolSize p) else none

/-! ## Protected words of a channel -/

/-- The channel of a protected word, by its SUBSYSTEM (Table 1.8). -/
def wordChannel (w : WordAt) : Option Nat := if 0x30 ≤ w.sub ∧ w.sub < 0x38 then some (w.sub - 0x30) else none

/-- A word lies in `size` bytes from a place, or from its mirror. -/
def wordIn (c addr size : Nat) (mirrored : Bool) (p : Place) : Bool :=
  (decide (c = p.channel) || (mirrored && decide (c = partnerOf p.channel))) && decide (p.addr ≤ addr) && decide (addr < p.addr + size)

/-- A word that the scrubber or a read can meet: any word on the die; in a channel in service, one of its data words, which lies where what it
is said to hold lies. The address of an LPDDR6 word is its channel's data address (log entry 99). -/
def wordThere (s : State) (w : WordAt) : Bool :=
  match wordChannel w with
  | none => true
  | some c =>
    inService s c && decide (w.addr < channelData) && (match w.kind with
      | .mirrored _ => isMirrored w.addr
      | .flowRecord i _ => wordIn c w.addr 128 true (flowPlace i)
      | .frameData h => (bufferPlace s h).any (wordIn c w.addr (poolSize (if isDetached h then 4 else handlePool h)) false)
      | _ => true)

/-- The other copy of a mirrored word can give its value: its channel can be read, and its own word is good (R62). A word that lies in no
channel has its copies elsewhere. -/
def copyGood (s : State) (w : WordAt) (mirrorBad : Bool) : Bool := !mirrorBad && (wordChannel w).all (fun c => readable s (partnerOf c))

/-- Location codes of a word and of a cell: DIE names the package of a channel's device (Table 1.6, Table 1.8). -/
def wordDie (w : WordAt) : Nat := match wordChannel w with | some c => 4 + c / 2 | none => 0
def wordLoc (w : WordAt) : Nat := locCode 2 (wordDie w) w.sub w.unit w.array 0xFF
def cellLoc (w : WordAt) (b : Nat) : Nat := locCode 1 (wordDie w) w.sub w.unit w.array b

end Sys2Proof.Machine
end

