-- ==== Sys2Proof/Machine/Tram.lean ====
section
/-! DEFINITION. Tramlines (R360 to R372): packets from and to tributaries, jitter buffers, highways, performance data. -/

namespace Sys2Proof.Machine

def tr (s : State) (n : Nat) (f : Field) : Nat := rd s (Tab.trib n) f

/-- CESoPSN. -/
def isCes (s : State) (n : Nat) : Bool := tr s n TRIB.CE_MODE = 2
/-- Timeslots of `TS_MAP`. -/
def mapSlots (s : State) (n : Nat) : List Nat := (List.range 32).filter (bit (tr s n TRIB.TS_MAP))

/-! ## Record rules (R363, R366, R371) -/

/-- Payload bytes of a packet of the record in staging or in effect, as `g` reads its fields. -/
def payloadLen (g : Field → Nat) : Nat :=
  let t1 := g TRIB.FRAMING = 3 ∨ g TRIB.FRAMING = 4
  if g TRIB.CE_MODE = 2 then ((List.range 32).filter (bit (g TRIB.TS_MAP))).length * g TRIB.FRAMES
  else if t1 then 193 * g TRIB.FRAMES / 8 else 32 * g TRIB.FRAMES

/-- RESULT of a record write (Table 12.8). -/
def tribCheck (s : State) (g : Field → Nat) : Nat :=
  let fr := g TRIB.FRAMING
  let ce := g TRIB.CE_MODE
  let t1 := fr = 3 ∨ fr = 4
  let f := g TRIB.FRAMES
  let direct := fun (i : Nat) => decide (max 8 (8 * (rd s 0xD0 FLW.DIRECT_BASE / 8)) ≤ i) && decide (i < 5242880)
  if 4 < fr ∨ ce = 3 ∨ (ce = 2 ∧ (fr = 0 ∨ fr = 3)) then 1
  else if f = 0 ∨ 64 < f ∨ 768 < payloadLen g ∨ (ce = 1 ∧ t1 ∧ f % 8 ≠ 0) ∨ (g TRIB.CR_MODE = 2 ∧ g TRIB.RTP_EN = 0)
      ∨ (ce = 2 ∧ (bit (g TRIB.TS_MAP) 0 ∨ (t1 ∧ 2 ^ 25 ≤ g TRIB.TS_MAP))) then 2
  else if g TRIB.JB_DEPTH < 2 ∨ 512 < g TRIB.JB_DEPTH ∨ g TRIB.JB_DEPTH < f + 1 then 3
  else if ce ≠ 0 ∧ (!direct (g TRIB.TX_FLOW) ∨ !direct (g TRIB.RX_FLOW)) then 4
  else if g TRIB.HDR_LEN < 14 ∨ 48 < g TRIB.HDR_LEN ∨ g TRIB.HDR_KIND = 3 then 5
  else 0

/-- TBL_CMD 1: read a record (R371). -/
def execTribRead (s : State) : Host.Outcome State Fault Refusal :=
  settle s (tblCmd 0x1A1 (fun s => tblResult 0x1A1 0 (readRecord 0x1A1 (Tab.trib (rd s 0x1A1 TRM1.TBL_ADDR)) TRIB.fields s)) s)

/-- TBL_CMD 2: write a record to staging; a bad one is refused (R371). `FREQ_PPB` is taken in host mode only. -/
def execTribWrite (s : State) : Host.Outcome State Fault Refusal :=
  settle s (tblCmd 0x1A1 (fun s =>
    let n := rd s 0x1A1 TRM1.TBL_ADDR
    let r := tribCheck s (dataField s 0x1A1)
    if r ≠ 0 then raise 0x1A1 TRM1.evRECORD_REFUSED [n, r] (tblResult 0x1A1 r s)
    else
      let host := dataField s 0x1A1 TRIB.CR_MODE = 3
      tblResult 0x1A1 0 (stageRecord 0x1A1 (Tab.trib n) (TRIB.fields.filter (fun f => f ≠ TRIB.FREQ_PPB ∨ host)) s)) s)

/-- The counters of a record (Table 12.9). -/
def tribCounters : List Field :=
  [TRIB.TX_PACKETS, TRIB.RX_PACKETS, TRIB.RX_LOST, TRIB.RX_LATE, TRIB.RX_DUP, TRIB.RX_MALFORMED, TRIB.RX_DROP, TRIB.RX_REPEAT, TRIB.TX_DROP,
   TRIB.TX_REPEAT, TRIB.UNDERRUN, TRIB.RESYNC, TRIB.RX_L, TRIB.TX_LOST]

/-- TBL_CMD 3: read a record and clear its counters (R371). -/
def execTribReadClear (s : State) : Host.Outcome State Fault Refusal :=
  settle s (tblCmd 0x1A1 (fun s =>
    let pg := Tab.trib (rd s 0x1A1 TRM1.TBL_ADDR)
    let s := readRecord 0x1A1 pg TRIB.fields s
    tblResult 0x1A1 0 (forEach tribCounters (fun f s => wr pg f 0 s) s)) s)

/-- TBL_CMD 1 of page 0x1A2: read a performance bin (Table 12.10). -/
def execPerfBinRead (s : State) : Host.Outcome State Fault Refusal :=
  settle s (tblCmd 0x1A2 (fun s =>
    tblResult 0x1A2 0 (readRecord 0x1A2 (Tab.pbin (rd s 0x1A2 TRM2.TBL_ADDR_TRIB) (rd s 0x1A2 TRM2.TBL_ADDR_BIN)) PBIN.fields s)) s)

/-- The jitter buffer is emptied and playout waits for D again. -/
def jbEmpty (t : TribSt) : TribSt := { t with jb := [], again := [], hasRef := false, playing := false, missRun := 0, payRun := 0 }

/-- After page 0x1A1's copies apply to `old`: a record whose format changed starts again (R371); its second is not counted (R362). -/
def tribCommit (old s : State) : State :=
  forEach (List.range 64) (fun n s =>
    let changed := fun (f : Field) => decide (rd old (Tab.trib n) f ≠ rd s (Tab.trib n) f)
    let s := if TRIB.fields.any (fun f => changed f) then putTrib n { trib s n with suspect := true } s else s
    if changed TRIB.FRAMING || changed TRIB.CE_MODE || changed TRIB.FRAMES || changed TRIB.TS_MAP then
      let s := wr (Tab.trib n) TRIB.TX_SEQ 1 (wr (Tab.trib n) TRIB.JB_FILL 0 s)
      loseAlign n { jbEmpty (trib s n) with gather := [], frames := [], hist := [] } s
    else s) s

/-! ## Packets from tributaries (R363, R364) -/

/-- The packet's frames as payload bytes: SAToP takes the bits in order, CESoPSN the mapped timeslots. -/
def payloadOf (s : State) (n : Nat) (frames : List Nat) : List Byte :=
  if isCes s n then
    frames.flatMap (fun f => (mapSlots s n).map (fun i =>
      BitVec.ofNat 8 (if isT1 s n then fbits 193 f (1 + 8 * (i - 1)) 8 else fbits 256 f (8 * i) 8)))
  else
    let w := frameBits s n
    toBe (w * frames.length / 8) (joinFrames w frames)

/-- L and M of the control word. -/
def ctlL (s : State) (n : Nat) : Bool := severeDefect s n
def ctlM (s : State) (n : Nat) : Nat := if !ctlL s n ∧ rdb s (Tab.trib n) TRIB.RAI then 2 else 0

/-- Fill in the IPv4 total length and checksum and the UDP length of a header that ends in IPv4 and UDP (`HDR_KIND` 2). -/
def fillIpUdp (hdr : List Byte) (rest : Nat) : List Byte :=
  let ip := hdr.length - 28
  let h := hdr.take (ip + 2) ++ toBe 2 (28 + rest) ++ (hdr.drop (ip + 4)).take 6 ++ toBe 2 0 ++ (hdr.drop (ip + 12)).take 8
    ++ (hdr.drop (ip + 20)).take 4 ++ toBe 2 (8 + rest) ++ toBe 2 0
  h.take (ip + 10) ++ toBe 2 (65535 - onesSum (h.drop ip) 10) ++ h.drop (ip + 12)

/-- The packet of the gathered frames (Table 12.5). -/
def tribPacket (s : State) (n : Nat) (frames : List Nat) : List Byte :=
  let g := fun f => tr s n f
  let seq := g TRIB.TX_SEQ
  let pay := if ctlL s n then List.replicate (payloadLen g) 0xFF else payloadOf s n frames
  let rtp := if rdb s (Tab.trib n) TRIB.RTP_EN then
      toBe 1 0x80 ++ toBe 1 (rd s 0x1A0 TRM0.RTP_PT) ++ toBe 2 seq ++ toBe 4 ((trib s n).rtpSent % 2 ^ 32) ++ toBe 4 0
    else []
  let hdr := (toLe 48 (rd s (Tab.flow (g TRIB.TX_FLOW)) FREC.KEY)).take (g TRIB.HDR_LEN)
  let rest := 4 + rtp.length + pay.length
  let len := if hdr.length + rest < 64 then rest else 0
  let cw := b2n (ctlL s n) * 2 ^ 27 + b2n (rdb s (Tab.trib n) TRIB.LOSS_STATE) * 2 ^ 26 + ctlM s n * 2 ^ 24 + len * 2 ^ 16 + seq
  let hdr := if g TRIB.HDR_KIND = 2 ∧ 28 ≤ hdr.length then fillIpUdp hdr rest else hdr
  hdr ++ toBe 4 cw ++ rtp ++ pay

/-- Sequence numbers run 1 to 65 535. -/
def nextSeq (q : Nat) : Nat := if q = 65535 then 1 else q + 1

/-- The packetiser's step once F frames are there: a packet in Tramlines' queue, or TX_LOST; the number is used either way (R364). -/
def packetise (n : Nat) (s : State) : State :=
  let f := tr s n TRIB.FRAMES
  let t := trib s n
  let d := tribPacket s n (t.gather.take f)
  let after := putTrib n { t with gather := t.gather.drop f, rtpSent := t.rtpSent + 2430 * f } (wr (Tab.trib n) TRIB.TX_SEQ (nextSeq (tr s n TRIB.TX_SEQ)) s)
  let full := 64 ≤ (s.ingress.filter (fun x => x.src = 12)).length
  let (h, after) := if full then (emptyHandle, after) else askNow 10 d.length carveExpress clTram after
  if h = emptyHandle then inc (Tab.trib n) TRIB.TX_LOST after
  else
    let x := tr s n TRIB.TX_FLOW
    let it := { blankItem with
      handle := h, source := 12, port := 15, length := d.length + 4, kind := 3, direct := true, flow := x, region := x % 192,
      action := [1, rd s (Tab.flow x) FREC.LEAF_QUEUE] }
    let after := putData h d (inc (Tab.trib n) TRIB.TX_PACKETS after)
    { after with ingress := after.ingress ++ [⟨12, n, false, startOf (now s / 64 * 64 + n + 1), d, [], it, 0⟩] }

/-- TRIB_PACKETISE: the tributary's packet is complete, and the terminal admits subscriber traffic (R364). -/
def execTribPacketise (index : Nat) (s : State) : Host.Outcome State Fault Refusal :=
  settle s (onlyIf (index < 64 ∧ tribOn s index ∧ tr s index TRIB.CE_MODE ≠ 0 ∧ tr s index TRIB.FRAMES ≠ 0
      ∧ tr s index TRIB.FRAMES ≤ (trib s index).gather.length ∧ admissionOpen s 0) (packetise index) s)

/-! ## Packets to tributaries (R365, R366) -/

/-- The tributary whose `RX_FLOW` a COUNT names (R365). -/
def tribByFlow (s : State) (i : Nat) : Option Nat := (List.range 64).find? (fun n => tribOn s n ∧ tr s n TRIB.CE_MODE ≠ 0 ∧ tr s n TRIB.RX_FLOW = i)

/-- Filler: all ones for SAToP, the idle code for CESoPSN. -/
def fillerFrame (s : State) (n : Nat) : Nat :=
  if isCes s n then joinFrames 8 (List.replicate (mapSlots s n).length (tr s n TRIB.IDLE_CODE)) else 2 ^ frameBits s n - 1

/-- Frames of a payload: the jitter buffer holds mapped timeslots for CESoPSN, whole frames for SAToP. -/
def payloadFrames (s : State) (n : Nat) (pay : List Byte) : List Nat :=
  let f := tr s n TRIB.FRAMES
  let w := if isCes s n then 8 * (mapSlots s n).length else frameBits s n
  (List.range f).map (fun i => fbits (8 * pay.length) (beNat pay) (w * i) w)

/-- Frames from the read position to the last one written. -/
def jbFill (t : TribSt) : Nat := t.jb.foldl (fun m x => max m (x.1 + 1 - t.rdPos)) 0

def showFill (n : Nat) (s : State) : State := wr (Tab.trib n) TRIB.JB_FILL (jbFill (trib s n)) s

/-- Difference of two sequence numbers that run 1 to 65 535. -/
def seqDiff (a b : Nat) : Int := let d := (a + 65535 - b) % 65535; if d < 32768 then d else (d : Int) - 65535

/-- A bit that follows the packets: REMOTE when it changes. -/
def remoteBit (n : Nat) (f : Field) (v : Bool) (s : State) : State :=
  if rdb s (Tab.trib n) f = v then s else raise 0x1A1 TRM1.evREMOTE [n] (wrb (Tab.trib n) f v s)

/-- Write a packet's frames at a position. -/
def jbWrite (n pos : Nat) (l : List Nat) (s : State) : State :=
  let t := trib s n
  let jb := (List.range l.length).foldl (fun m i => Map.put 0 m (pos + i) (l.getD i 0 + 1)) t.jb
  let t := { t with jb := jb }
  showFill n (putTrib n { t with playing := t.playing || decide (tr s n TRIB.JB_DEPTH ≤ jbFill t) } s)

/-- Empty the buffer and take this packet as the first (Table 12.6). -/
def jbResync (n seq : Nat) (l : List Nat) (s : State) : State :=
  let t := trib s n
  jbWrite n t.rdPos l (putTrib n { jbEmpty t with hasRef := true, refSeq := seq, refPos := t.rdPos } s)

/-- Table 12.6 for a packet's frames, its number `seq` not 0; with L set they are filler. -/
def jbPlace (n seq : Nat) (lSet : Bool) (l : List Nat) (s : State) : State :=
  let t := trib s n
  let counted := fun s => if lSet then inc (Tab.trib n) TRIB.RX_L s else s
  if !t.hasRef then jbResync n seq l (counted s)
  else
    let p : Int := t.refPos + seqDiff seq t.refSeq * l.length
    if p < t.rdPos then inc (Tab.trib n) TRIB.RX_LATE s
    else if Map.get 0 t.jb p.toNat ≠ 0 then inc (Tab.trib n) TRIB.RX_DUP s
    else if (t.rdPos : Int) + 1024 < p + l.length then
      jbResync n seq l (raiseFirst 0x1A1 TRM1.evJB_EVENT [n, 1] (inc (Tab.trib n) TRIB.RESYNC s))
    else jbWrite n p.toNat l (putTrib n { t with refSeq := seq, refPos := p.toNat } (counted s))

/-- A packet handed to Tramlines at a commit: `d` is the frame without its FCS (R365). -/
def tribDeliver (n : Nat) (d : List Byte) (s : State) : State :=
  let g := fun f => tr s n f
  let s := inc (Tab.trib n) TRIB.RX_PACKETS s
  let b := d.drop (g TRIB.HDR_LEN)
  let cw := fieldAt b 0 4
  let rtp := if rdb s (Tab.trib n) TRIB.RTP_EN then 12 else 0
  let len := bitsOf cw 16 6
  let want := 4 + rtp + payloadLen g
  let have_ := if len = 0 then b.length else min len b.length
  let seq := cw % 65536
  if have_ ≠ want ∨ seq = 0 then inc (Tab.trib n) TRIB.RX_MALFORMED s
  else
    let s := remoteBit n TRIB.REMOTE_RAI (bitsOf cw 24 2 = 2) (remoteBit n TRIB.REMOTE_LOSS (bit cw 26) s)
    let t := trib s n
    let ts := fieldAt b 8 4
    let s := if rtp = 0 then s else putTrib n { t with rtpLast := ts, rtpStep := (ts + 2 ^ 32 - t.rtpLast) % 2 ^ 32 } s
    let s := wr (Tab.trib n) TRIB.RX_NEXT (nextSeq seq) s
    let pay := (b.drop (4 + rtp)).take (payloadLen g)
    let l := if bit cw 27 then List.replicate (g TRIB.FRAMES) (fillerFrame s n) else payloadFrames s n pay
    jbPlace n seq (bit cw 27) l s

/-! ## Playout (R361, R366, R367) -/

/-- LOSS_SET and LOSS_CLEAR as applied. -/
def lossRun (s : State) (n : Nat) (f : Field) : Nat := max 1 (tr s n f)

/-- A packet was played as missing, or from payload: the packet-loss state follows (R366). -/
def playedPacket (n : Nat) (missing : Bool) (s : State) : State :=
  let t := trib s n
  let t := if missing then { t with missRun := t.missRun + 1, payRun := 0 } else { t with payRun := t.payRun + 1, missRun := 0 }
  let s := putTrib n t (if missing then inc (Tab.trib n) TRIB.RX_LOST s else s)
  let in_ := rdb s (Tab.trib n) TRIB.LOSS_STATE
  if !in_ ∧ lossRun s n TRIB.LOSS_SET ≤ t.missRun then raise 0x1A1 TRM1.evLOSS_STATE [n, 1] (wr (Tab.trib n) TRIB.LOSS_STATE 1 s)
  else if in_ ∧ lossRun s n TRIB.LOSS_CLEAR ≤ t.payRun then raise 0x1A1 TRM1.evLOSS_STATE [n, 0] (wr (Tab.trib n) TRIB.LOSS_STATE 0 s)
  else s

/-- Whether the buffer's channel is in service (R369). -/
def jbChannelOk (s : State) (n : Nat) : Bool := !chanParked s (jitterChannel n)

/-- Read the frame at the read position and move on; the first position of a packet decides whether it was missing. -/
def jbTake (n : Nat) (s : State) : Nat × State :=
  let t := trib s n
  let v := Map.get 0 t.jb t.rdPos
  let f := max 1 (tr s n TRIB.FRAMES)
  let first := ((t.rdPos : Int) - t.refPos) % (f : Int) = 0
  let s := putTrib n { t with rdPos := t.rdPos + 1, jb := Map.put 0 t.jb t.rdPos 0 } s
  let s := if first then playedPacket n (v = 0) s else s
  let x := if v = 0 then fillerFrame s n else v - 1
  (x, putTrib n { trib s n with played := (x :: (trib s n).played).take 24 } s)

/-- Frames that one slip moves: a multiframe where framing is regenerated over multiframes (R361). -/
def slipSize (s : State) (n : Nat) : Nat := if isCes s n ∧ framing s n = 2 then 16 else if isCes s n ∧ framing s n = 4 then 24 else 1

/-- One read of the jitter buffer with the slip rules (R361). -/
def jbRead (n : Nat) (s : State) : Nat × State :=
  let t := trib s n
  let fill := jbFill t
  let d := tr s n TRIB.JB_DEPTH
  let w := tr s n TRIB.JB_WINDOW
  let k := slipSize s n
  if !t.playing ∨ !jbChannelOk s n then (fillerFrame s n, s)
  else if fill = 0 then
    (fillerFrame s n, playedPacket n true
      (raiseFirst 0x1A1 TRM1.evJB_EVENT [n, 0] (inc (Tab.trib n) TRIB.UNDERRUN (putTrib n { t with playing := false } s))))
  else if t.again ≠ [] then (t.again.headD 0, putTrib n { t with again := t.again.drop 1 } s)
  else if d + w < fill ∧ !t.slipped then
    let s := raiseFirst 0x1A0 TRM0.evSLIP [n, 2] (addc (Tab.trib n) TRIB.TX_DROP k s)
    let t := trib s n
    jbTake n (putTrib n { t with slipped := true, rdPos := t.rdPos + k, jb := t.jb.filter (fun x => t.rdPos + k ≤ x.1) } s)
  else if fill + w < d ∧ !t.slipped then
    let s := raiseFirst 0x1A0 TRM0.evSLIP [n, 3] (addc (Tab.trib n) TRIB.TX_REPEAT k s)
    let old := (List.range k).map (fun i => t.played.getD (k - 1 - i) (fillerFrame s n))
    (old.headD 0, putTrib n { trib s n with slipped := true, again := old.drop 1 } s)
  else jbTake n (putTrib n { t with slipped := false } s)

/-- The timeslots of a transmitted CESoPSN frame: mapped ones from the buffer, the idle code elsewhere; `count` slots from `from_`. -/
def cesSlots (s : State) (n v from_ count : Nat) : List Nat :=
  let m := mapSlots s n
  (List.range count).map (fun i =>
    let ts := from_ + i
    match m.idxOf? ts with
    | some j => fbits (8 * m.length) v (8 * j) 8
    | none => tr s n TRIB.IDLE_CODE)

/-- TS0 of E1 frame `no` of the multiframe: FAS with the C bits, NFAS with the multiframe signal, the E bits and the A bit (R358, R367). -/
def txTs0 (s : State) (n no crc : Nat) : Nat :=
  let a := rdb s (Tab.trib n) TRIB.REMOTE_RAI || rdb s (Tab.trib n) TRIB.LOS || rdb s (Tab.trib n) TRIB.LOF
  let crc4On := framing s n = 2
  if no % 2 = 0 then (if crc4On then fbit 4 crc (no % 8 / 2) else 1) * 128 + 0x1B
  else
    let e := (trib s n).eBits
    let b1 := if !crc4On then 1 else if no = 13 then e / 2 % 2 else if no = 15 then e % 2 else fbit 6 0xB (no / 2)
    b1 * 128 + 64 + b2n a * 32 + 31

/-- The F bit of T1 frame `no` of 24: FPS in every fourth, CRC-6 in frames 2, 6, …, the data link elsewhere (R367). -/
def txFbit (s : State) (n no crc : Nat) : Nat :=
  let rai := rdb s (Tab.trib n) TRIB.REMOTE_RAI || rdb s (Tab.trib n) TRIB.LOS || rdb s (Tab.trib n) TRIB.LOF
  if no % 4 = 3 then fbit 6 0xB (no / 4)
  else if no % 4 = 1 then fbit 6 crc (no / 4)
  else if rai then fbit 16 0xFF00 ((trib s n).txNo / 2 % 16) else 1

/-- The frame that goes to the highway (R367). -/
def txFrame (n v : Nat) (s : State) : Nat × State :=
  let t := trib s n
  let (fr, t) :=
    if !isCes s n then (v, t)
    else if isT1 s n then
      let no := t.txNo % 24
      let crc := crcOf 6 3 (joinFrames 193 ((t.txOld.drop no |>.take 24).reverse.map (fun f => 2 ^ 192 + f % 2 ^ 192))) 4632
      let f := txFbit s n no crc * 2 ^ 192 + joinFrames 8 (cesSlots s n v 1 24)
      (f, { t with txOld := (f :: t.txOld).take 48, txNo := t.txNo + 1 })
    else
      let no := t.txNo % 16
      let crc := crc4 ((t.txOld.drop (no % 8)).take 8).reverse
      let f := txTs0 s n no crc * 2 ^ 248 + joinFrames 8 (cesSlots s n v 1 31)
      (f, { t with txOld := (f :: t.txOld).take 48, txNo := t.txNo + 1 })
  (fr, putTrib n { t with last := t.last } s)

/-- The slot of a highway frame: a T1 frame followed by ones (R355). -/
def slotBits (s : State) (n fr : Nat) : Nat := if isT1 s n then fr * 2 ^ 63 + (2 ^ 63 - 1) else fr

/-- One transmitted slot; a tributary that is off sends ones. -/
def txSlot (n : Nat) (s : State) : Nat × State :=
  if !tribOn s n then (2 ^ 256 - 1, s)
  else
    let (v, s) := jbRead n s
    let (f, s) := txFrame n v s
    (slotBits s n f, showFill n s)

/-- A highway frame is sent: each tributary reads one frame (R361). The frame is kept as node 32 + h of what went out. -/
def hwyTx (h : Nat) (s : State) : State :=
  let (d, s) := (List.range 16).foldl (fun (a : List Byte × State) i =>
    let (v, s) := txSlot (16 * h + i) a.2
    (a.1 ++ toBe 32 v, s)) ([], s)
  { s with wire := Map.put none s.wire (32 + h) (some d) }

def hwyOn (s : State) (h : Nat) : Bool := decide (h < 4) && rdb s 0x1A0 (TRM0.HWY_CTRL_EN h)

/-! ## Highways (R356, R360, R369) -/

/-- TIMING as applied: 0 SYSTEM, 1 RECOVERED, 2 EXTERNAL. -/
def hwyTiming (s : State) (h : Nat) : Nat := let t := rd s 0x1A0 (TRM0.HWY_CTRL_TIMING h); if t = 3 then 0 else t

/-- The core cycle of the tick at which highway h's frame sync falls under SYSTEM: `FS_OFFSET` periods of 32.768 MHz (R356). -/
def frameSyncCycle (s : State) (h : Nat) : Nat := rd s 0x1A0 (TRM0.HWY_CTRL_FS_OFFSET h) * 1215 / 32

/-- A frame of the highway may start, and the one before it end, `cyc` cycles into the block: under SYSTEM at its frame sync alone. -/
def frameMayStart (s : State) (h cyc : Nat) : Bool :=
  hwyTiming s h ≠ 0 || decide (s.clock.block * blockCycles + cyc = frameSyncCycle s h)

/-- HWY_TX_FRAME (R361). -/
def execHwyTxFrame (hwy cyc : Nat) (s : State) : Host.Outcome State Fault Refusal :=
  settle s (onlyIf (hwyOn s hwy ∧ frameMayStart s hwy cyc) (hwyTx hwy) s)

/-- A highway frame has been received (R360). `syncOk` is false under EXTERNAL for a frame sync out of its place: the frame count starts again
there, and no complete frame has come (R356). -/
def execHwyRxFrame (hwy : Nat) (data : List Byte) (syncOk : Bool) (cyc : Nat) (s : State) : Host.Outcome State Fault Refusal :=
  settle s (onlyIf (hwyOn s hwy ∧ frameMayStart s hwy cyc) (fun s =>
    let s := wr 0x1A0 (TRM0.HWY_STATUS_CLK_OK hwy) 1 s
    if hwyTiming s hwy = 2 ∧ !syncOk then inc 0x1A0 (TRM0.FS_ERR hwy) s
    else forEach (tribsOf s hwy) (fun n s => tribReceive n (slotOfBytes data (n % 16)) s) s) s)

/-- A highway's clock has stopped for 4 ticks: its tributaries declare LOS (R356). -/
def execHwyClockLost (hwy : Nat) (s : State) : Host.Outcome State Fault Refusal :=
  settle s (onlyIf (hwyOn s hwy ∧ rdb s 0x1A0 (TRM0.HWY_STATUS_CLK_OK hwy)) (fun s =>
    let s := raise 0x1A0 TRM0.evCLOCK_LOST [hwy] (wr 0x1A0 (TRM0.HWY_STATUS_CLK_OK hwy) 0 s)
    forEach (tribsOf s hwy) (setDefect · TRIB.LOS 0 true) s) s)

/-- A framer unit is in fault, or the fault is cleared: its 16 tributaries are held in LOS meanwhile (R369). -/
def execFramerFault (hwy : Nat) (cleared : Bool) (s : State) : Host.Outcome State Fault Refusal :=
  settle s (onlyIf (hwy < 4) (fun s =>
    if cleared then { s with framerBad := s.framerBad.filter (fun h => decide (h ≠ hwy)) }
    else
      let s := raiseFault 0x1A0 TRM0.evFRAMER_FAULT (locUnit 0x1C hwy) false [] { s with framerBad := s.framerBad ++ [hwy] }
      forEach (tribsOf s hwy) (setDefect · TRIB.LOS 0 true) s) s)

/-- 400 ms of multiframe restarts: basic alignment is kept and CRC-4 monitoring stops (R358). -/
def execCrc4Interwork (index : Nat) (s : State) : Host.Outcome State Fault Refusal :=
  settle s (onlyIf (index < 64 ∧ tribOn s index ∧ framing s index = 2 ∧ tr s index TRIB.ALIGN_STATE = 3
      ∧ !rdb s (Tab.trib index) TRIB.CRC4_INTERWORK ∧ !(trib s index).mf ∧ 3200 ≤ (trib s index).mfRestart)
    (fun s => raise 0x1A0 TRM0.evCRC4_INTERWORK [index] (wr (Tab.trib index) TRIB.CRC4_INTERWORK 1 s)) s)

/-- The highway rate under RECOVERED: towards the reference tributary's frequency by `MAX_SLEW`, within ±100 ppm (R356). -/
def slewHwy (h : Nat) (s : State) : State :=
  let n := 16 * h + rd s 0x1A0 (TRM0.HWY_CTRL_REF_TRIB h)
  let bad := tr s n TRIB.CR_MODE = 0 ∨ !rdb s (Tab.trib n) TRIB.FREQ_VALID
  let was := rdb s 0x1A0 (TRM0.HWY_STATUS_REF_INVALID h)
  let s := wrb 0x1A0 (TRM0.HWY_STATUS_REF_INVALID h) (decide bad) s
  let s := if bad ∧ !was then raise 0x1A0 TRM0.evCLOCK_LOST [h] s else s
  if bad then s
  else
    let raw := rdS s (Tab.trib n) TRIB.FREQ_PPB
    let goal := max (-100000) (min 100000 raw)
    let cur := rdS s 0x1A0 (TRM0.HWY_FREQ_PPB h)
    let m : Int := rd s 0x1A0 TRM0.MAX_SLEW
    wrb 0x1A0 (TRM0.HWY_STATUS_CLAMPED h) (decide (goal ≠ raw)) (wrS 0x1A0 (TRM0.HWY_FREQ_PPB h) (cur + max (-m) (min m (goal - cur))) s)

/-- A highway at a tick boundary: under SYSTEM it runs at the reference; under EXTERNAL its rate is measured (R356). -/
def hwyTick (h : Nat) (s : State) : State :=
  if !hwyOn s h then wr 0x1A0 (TRM0.HWY_STATUS_CLK_OK h) 0 s
  else
    match hwyTiming s h with
    | 0 => wr 0x1A0 (TRM0.HWY_FREQ_PPB h) 0 (wr 0x1A0 (TRM0.HWY_STATUS_CLK_OK h) 1 s)
    | 1 => slewHwy h (wr 0x1A0 (TRM0.HWY_STATUS_CLK_OK h) 1 s)
    | _ => wrS 0x1A0 (TRM0.HWY_FREQ_PPB h) (Config.sensor 0x100 h s.clock.tick) s

/-- Write bytes into the data memory of a core. -/
def dmemWrite (c addr : Nat) (d : List Byte) (s : State) : State :=
  { s with dmem := (List.range d.length).foldl (fun m i => Map.put 0 m (c * 2 ^ 18 + (addr + i) % 2 ^ 18) (d.getD i 0).toNat) s.dmem }

/-- The samples of a highway's tributaries for its TRIB_CLOCK role: 16 records in the last 256 bytes of the partition, then the message
(Table 13.5). -/
def tribSamples (h : Nat) (s : State) : State :=
  let r := 4 + h
  if roleState s r ≠ roleRunning then s
  else
    let at_ := rd s (Tab.role r) ROLE.DATA_BASE + rd s (Tab.role r) ROLE.DATA_SIZE - 256
    let d := (List.range 16).flatMap (fun i => toLe 8 (jbFill (trib s (16 * h + i))) ++ toLe 8 (trib s (16 * h + i)).rtpStep)
    sendHw reqTram r tagTrib [at_] (dmemWrite (rd s (Tab.role r) ROLE.CORE) at_ d s)

/-- A tributary at a tick boundary: LOS while its highway has no clock, one frame to the packetiser, and FREQ_VALID (R359, R360, R368). -/
def tribTick (n : Nat) (s : State) : State :=
  let s := if rdb s 0x1A0 (TRM0.HWY_STATUS_CLK_OK (n / 16)) then s else setDefect n TRIB.LOS 0 true s
  let (fr, s) := slipOut n s
  let t := trib s n
  let s := if tr s n TRIB.CE_MODE = 0 ∨ !admissionOpen s 0 then s else putTrib n { t with gather := (t.gather ++ [fr]).take 128 } s
  wrb (Tab.trib n) TRIB.FREQ_VALID (t.playing && !rdb s (Tab.trib n) TRIB.LOSS_STATE) s

/-- Tramlines at a tick boundary. -/
def tramTick (s : State) : State :=
  let s := forEach (List.range 4) hwyTick s
  let s := forEach ((List.range 64).filter (tribOn s)) tribTick s
  forEach (List.range 4) tribSamples s

/-- A channel has come back: its jitter buffers start again (R369). -/
def tramChannelBack (c : Nat) (s : State) : State :=
  forEach ((List.range 64).filter (fun n => n % 8 = c ∧ tribOn s n))
    (fun n s => raiseFirst 0x1A1 TRM1.evJB_EVENT [n, 1] (inc (Tab.trib n) TRIB.RESYNC (showFill n (putTrib n (jbEmpty (trib s n)) s)))) s

/-! ## Performance data (R362) -/

/-- ES, SES, BBE of the second that has ended (Table 12.4). -/
def secondOf (s : State) (n : Nat) : Nat × Nat × Nat :=
  let t := trib s n
  let crc := framing s n = 2 ∨ framing s n = 4
  let limit := if framing s n = 4 then 100 else 300
  let es := t.defect ∨ (crc ∧ 0 < t.errBlocks) ∨ (!crc ∧ t.fasSeen)
  let ses := t.severe ∨ (crc ∧ limit ≤ t.errBlocks)
  (b2n (decide es), b2n (decide ses), if crc ∧ !ses then t.errBlocks else 0)

/-- The bin, current or previous, that holds the second that began at tick `st`: `b` is 0 for the 15-minute bins, 2 for the 24-hour ones. -/
def binOf (s : State) (n b st : Nat) : Nat :=
  if s.clock.tick - st ≤ (s.clock.tick + 2 ^ 32 - rd s (Tab.pbin n b) PBIN.START_TICK) % 2 ^ 32 then b else b + 1

/-- Add to a tributary's bins of the second that began at `st`, or take away: the closed bin's while it waits to be copied (R362). -/
def binAdd (n st : Nat) (f : Field) (v : Int) (s : State) : State :=
  forEach [0, 2] (fun b s => wr (Tab.pbin n (binOf s n b st)) f (((rd s (Tab.pbin n (binOf s n b st)) f : Int) + v).toNat) s) s

/-- Count a second's ES, SES and BBE with a sign, and its unavailable second with the other. -/
def binSecond (n : Nat) (sign : Int) (x : Nat × Nat × Nat × Nat) (s : State) : State :=
  binAdd n x.1 PBIN.BBE (sign * x.2.2.2) (binAdd n x.1 PBIN.SES (sign * x.2.2.1) (binAdd n x.1 PBIN.ES (sign * x.2.1) s))

/-- Unavailable time begins with the first of 10 severe seconds and ends with the first of 10 that are not: the last nine are revised. -/
def reviseSecond (n : Nat) (x : Nat × Nat × Nat × Nat) (s : State) : State :=
  let t := trib s n
  let sesRun := if x.2.2.1 = 1 then t.sesRun + 1 else 0
  let okRun := if x.2.2.1 = 1 then 0 else t.okRun + 1
  let t' := { t with sesRun := sesRun, okRun := okRun, secs := (x :: t.secs).take 9 }
  if !t.unavail ∧ 10 ≤ sesRun then
    let s := forEach t.secs (fun y s => binAdd n y.1 PBIN.UAS 1 (binSecond n (-1) y s)) s
    binAdd n x.1 PBIN.UAS 1 (putTrib n { t' with unavail := true } s)
  else if t.unavail ∧ 10 ≤ okRun then
    let s := forEach t.secs (fun y s => binAdd n y.1 PBIN.UAS (-1) (binSecond n 1 y s)) s
    binSecond n 1 x (putTrib n { t' with unavail := false } s)
  else if t.unavail then binAdd n x.1 PBIN.UAS 1 (putTrib n t' s)
  else binSecond n 1 x (putTrib n t' s)

/-- The end of a second for one tributary; a second without power or with a record change counts nowhere and marks the bins SUSPECT. -/
def perfSecond (powered : Bool) (n : Nat) (s : State) : State :=
  let t := trib s n
  let x := (s.clock.tick - 8000, secondOf s n)
  let s := if t.suspect ∨ !powered then
      forEach [0, 2] (fun b s => wr (Tab.pbin n (binOf s n b x.1)) PBIN.SUSPECT 1 s) s
    else reviseSecond n x s
  let s := forEach [0, 2] (fun b s => wr (Tab.pbin n (binOf s n b x.1)) PBIN.VALID 1 s) s
  putTrib n { trib s n with errBlocks := 0, fasSeen := false, defect := anyDefect s n, severe := severeDefect s n, suspect := false } s

/-- PD17, Tramlines' power domain, is on. -/
def tramPowered (s : State) : Bool := pdOn s 17

/-- Tributaries with performance data. -/
def perfTribs (s : State) : List Nat := (List.range 64).filter (fun n => tribOn s n ∧ isFramed s n)

/-- The closed 15-minute bins are copied to Arcade once no second can revise them any more: nine seconds on (R362); a store that is READ_ONLY
takes no history (R438). -/
def copyBins (s : State) : State :=
  let g := fun n f => rd s (Tab.pbin n 1) f
  if rdb s 0x1E0 ARC0.ARC_STATUS_READ_ONLY then s else
  { s with perfLog := s.perfLog ++ (perfTribs s).map (fun n =>
    [n, g n PBIN.ES, g n PBIN.SES, g n PBIN.UAS, g n PBIN.BBE, g n PBIN.START_TICK, g n PBIN.SUSPECT]) }

/-- PERF_SECOND: at a tick number that is a multiple of 8 000 (R362). -/
def execPerfSecond (s : State) : Host.Outcome State Fault Refusal :=
  settle s (onlyIf (s.clock.tick % 8000 = 0) (fun s =>
    let s := forEach (perfTribs s) (perfSecond (tramPowered s)) s
    if s.clock.tick % 7200000 = 72000 then copyBins s else s) s)

/-- Move a current bin to its previous one and start a new one. -/
def closeBin (n b : Nat) (s : State) : State :=
  let cp := fun (s : State) (f : Field) => wr (Tab.pbin n (b + 1)) f (rd s (Tab.pbin n b) f) s
  let s := PBIN.fields.foldl cp s
  wr (Tab.pbin n b) PBIN.START_TICK s.clock.tick (resetPage (Tab.pbin n b) s)

/-- BIN_CLOSED: at a 15-minute boundary the closing bin becomes the previous one; the 24-hour bin turns at its own boundary (R362). -/
def execBinClosed (s : State) : Host.Outcome State Fault Refusal :=
  settle s (onlyIf (s.clock.tick % 7200000 = 0) (fun s =>
    let ns := perfTribs s
    let suspects := ns.foldl (fun v n => setBit v n (rdb s (Tab.pbin n 0) PBIN.SUSPECT)) 0
    let s := forEach ns (fun n s => closeBin n 0 (if s.clock.tick % 691200000 = 0 then closeBin n 2 s else s)) s
    raise 0x1A2 TRM2.evBIN_CLOSED [suspects % 2 ^ 32, suspects / 2 ^ 32] s) s)

end Sys2Proof.Machine
end

