-- ==== Sys2Proof/Machine/Crossing.lean ====
section
/-! DEFINITION. The Crossing: what the commit of a block does with the slices' results, in the order of R284. -/

namespace Sys2Proof.Machine

/-! ## Decision order (R237) -/

/-- Place of a result in decision order: by the cycle of journal entry, then the Roundabout ranking from slice c mod 3. Commands and
proposals come before the block's items. -/
def decisionKey (slice : Nat) (r : Result) : Nat :=
  if 14 ≤ r.item.source then 0
  else
    let c := (r.item.entry + 486).toNat
    1 + c * 3 + (slice + 3 - c % 3) % 3

/-- Put a pair into a list ordered by key, after those of the same key. -/
def insertKeyed {α : Type} (k : Nat) (x : α) : List (Nat × α) → List (Nat × α)
  | [] => [(k, x)]
  | y :: l => if k < y.1 then (k, x) :: y :: l else y :: insertKeyed k x l

/-- The results of block k with the work each belongs to, in decision order. -/
def ordered (s : State) (k : Nat) : List (BlockWork × Result) :=
  ((s.work.filter (fun b => b.abs = k)).flatMap (fun b => b.results.map (fun r => (decisionKey b.slice r, b, r)))).foldl
    (fun a x => insertKeyed x.1 x.2 a) [] |>.map (·.2)

/-! ## Buffers (R207, R209) -/

/-- DEC of a frame's present buffer by the class that allocated it, and of a serve's segment (R207, R209, R432). -/
def giveUp (k h : Nat) (cwy : Bool) (x : Item) (s : State) : State :=
  serveRelease (x.aux.getD 6 0) (if h = emptyHandle then s else refDo opDec 0xC (bufClass s h cwy) h k s)
def giveUpResult (k : Nat) (r : Result) (s : State) : State := giveUp k r.handle r.cwyBuf r.item s

/-- HANDOVER of a frame's buffer, and of a serve's segment, to a class. -/
def handTo (k cls : Nat) (r : Result) (s : State) : State :=
  let s := refDo opHandover 0xC cls r.handle k s
  let h2 := r.item.aux.getD 6 0
  if handlePool h2 = 4 then refDo opHandover 0xC cls h2 k s else s

/-- The edited frame goes to the buffer that carries it from commit on; the old one, if another, is given up. -/
def settleBuffer (k : Nat) (r : Result) (s : State) : State :=
  if r.handle = emptyHandle then s
  else
    let s := putData r.handle r.bytes s
    if r.handle = r.item.handle then s else refDo opDec 0xC (bufClass s r.item.handle r.item.cwyBuf) r.item.handle k s

/-! ## Enqueues (R237 to R242, R127 to R129) -/

/-- The queue entry of a committed frame. -/
def frameEnt (r : Result) (k leaf colour : Nat) (rm : Remark) : QEnt :=
  let x := r.item
  { blankEnt with
    handle := r.handle, bytes := r.bytes, length := x.length, leaf := leaf, colour := colour, remark := rm, acc := k,
    twoStep := x.twoStep, tsId := x.tsId, ruleId := if x.kind = 0 then x.ruleId else 0xFFFFFFFF, tsValid := x.tsValid,
    tsResumed := x.tsResumed, tsNs := x.tsNs, tsSec := x.tsSec,
    handle2 := x.aux.getD 6 0, payOffset := x.aux.getD 7 0, payLen := x.aux.getD 8 0 }

/-- The XGEM port-ID of a frame on fibre port f: the record's, or a free value where no record gives one. -/
def xgemFor (r : Result) (f : Nat) (s : State) : Nat × State :=
  match r.xgems with
  | [] => freeBits 16 s
  | l => (l.getD f 0, s)

/-- The leaf of the replicated copy on fibre port f, in the record's Alloc-ID slot of that port: the one the rule names where it lies
there, else the lowest enabled leaf of the same class under the slot's service node. -/
def copyLeaf (s : State) (r : Result) (leaf f : Nat) : Option Nat :=
  let svc := slotService s f (r.slots.getD f 0)
  if leafPort s leaf = 8 + f ∧ svcOf s leaf = svc then some leaf
  else minBy (fun q => q) ((leavesIn s).filter (fun q => leafOn s q ∧ svcOf s q = svc ∧ leafPort s q = 8 + f ∧ leafClass s q = leafClass s leaf))

/-- A frame that was put in a fibre port's queue wakes the port at the next boundary (R115). -/
def noteWake (leaf : Nat) (s : State) : State :=
  let p := leafPort s leaf
  if isFibre p then wr (held (fibPage (p - 8))) HFIB.LOCAL_WAKE 1 s else s

/-- The receive ring that names a leaf (R462). -/
def ringOfLeaf (s : State) (leaf : Nat) : Option Nat :=
  (List.range 64).find? (fun n =>
    !rdb s 0xB1 (HST1.RING_CFG_KIND n) && rdb s 0xB1 (HST1.LEAF_EN n) && decide (rd s 0xB1 (HST1.LEAF n) = leaf))

/-- Decide an enqueue with the XGEM port-ID of its port; a leaf under the host port delivers to the ring that names it. -/
def decide1 (r : Result) (k leaf colour : Nat) (rm : Remark) (seq : Nat) (s : State) : State × Bool :=
  let p := leafPort s leaf
  let (xg, s) := if isFibre p then xgemFor r (p - 8) s else (r.item.port, s)
  let e := { frameEnt r k leaf colour rm with xgemPort := xg, seqTag := seq }
  if p ≠ 10 then
    let (s, ok) := takeIn e colour r.item.port s
    (if ok then noteWake leaf s else s, ok)
  else
    match ringOfLeaf s leaf with
    | none => (countRefusal (placeEnt s e) r.item.port s, false)
    | some n => takeIn { e with ring := n + 1, ndesc := ringNeeds s n r.item.length } colour r.item.port s

/-- The port takes the frame's copy: it did when the frame was processed, and is neither lost nor out of O5.1 since (R129). -/
def copyOpen (s : State) (r : Result) (f : Nat) : Bool := r.open_.contains f && copyPort s f

/-- The copy on fibre port f is decided: accepted, or the frame is single-homed on it. A copy whose slot has no leaf of the frame's class is
refused on its port (R25, R128, R129). -/
def copyOn (r : Result) (k leaf colour : Nat) (rm : Remark) (f : Nat) (s : State) : State × Bool :=
  let (s, ok) := if !copyOpen s r f then (s, false)
    else
      match copyLeaf s r leaf f with
      | none => (countOutcome (8 + f) (leafClass s leaf) ocRefused s, false)
      | some q => decide1 r k q colour rm r.seqTag s
  (if ok then s else inc (fibN f 3) FB3.SINGLE_HOMED s, ok)

/-- Replicated copies, one per fibre port that takes one; answers how many were accepted. A frame that neither port takes is refused as it
stands (R25, R127 to R129). -/
def replicate (r : Result) (k leaf colour : Nat) (rm : Remark) (s : State) : State × Nat :=
  let order := if leafPort s leaf = 9 then [1, 0] else [0, 1]
  let none_ := !copyOpen s r 0 && !copyOpen s r 1
  let (s, n) := order.foldl (fun (a : State × Nat) f => let (s, ok) := copyOn r k leaf colour rm f a.1; (s, a.2 + b2n ok)) (s, 0)
  if none_ then (countRefusal (placeEnt s (frameEnt r k leaf colour rm)) r.item.port s, 0) else (s, n)

/-- The mirror copy: a decision of its own right after the original's; accepted, INC with its egress class (R160, R207). -/
def mirrorCopy (r : Result) (k colour : Nat) (rm : Remark) (s : State) : State :=
  if r.mirror = 0 then s
  else
    let leaf := r.mirror - 1
    let e := placeEnt s { frameEnt r k leaf colour rm with handle2 := 0 }
    if refReason s opInc e.holder r.handle ≠ 0 ∧ admits s e colour then
      countRefusal e r.item.port (refDo opInc 0xC e.holder r.handle k s)
    else
      let (s, ok) := decide1 { r with item := { r.item with aux := r.item.aux.take 6 } } k leaf colour rm 0 s
      if ok then refDo opInc 0xC e.holder r.handle k s else s

/-- A FORWARD: admission, the mirror copy, HANDOVER or DEC; a packet for a tributary is handed to Tramlines (R207, R237, R365). -/
def commitForward (r : Result) (k leaf colour : Nat) (rm : Remark) (s : State) : State :=
  let w3 := r.item.action.getD 3 0 % 2 ^ 23
  let trib := if r.item.kind = 0 ∧ bit (r.item.action.getD 0 0) 8 then tribByFlow s w3 else none
  match trib with
  | some n =>
    let s := mirrorCopy r k colour rm (handTo k clTram r s)
    serveRelease (r.item.aux.getD 6 0) (refDo opDec 0xC clTram r.handle k (tribDeliver n r.bytes s))
  | none =>
    if r.seqTag ≠ 0 then
      let (s, n) := replicate r k leaf colour rm s
      let s := mirrorCopy r k colour rm s
      if n = 0 then giveUpResult k r s
      else forEach (List.range (n - 1)) (fun _ s => refDo opInc 0xC clFibre r.handle k s) (handTo k clFibre r s)
    else
      let cls := egressClass (leafPort s leaf)
      let (s, ok) := decide1 r k leaf colour rm 0 s
      let s := mirrorCopy r k colour rm s
      if ok then handTo k cls r s else giveUpResult k r s

/-! ## Frames that are dropped -/

/-- The frame's outcome is Dropped: against the leaf that a FORWARD named, or against its ingress port (R253). -/
def countDropped (r : Result) (s : State) : State :=
  if r.target ≠ 0 ∧ leafHasPort s (r.target - 1) then
    countOutcome (leafPort s (r.target - 1)) (leafClass s (r.target - 1)) ocDropped s
  else dropUnqueued r.item.port s

/-- DROP, with the mirror copy made first. -/
def commitDrop (r : Result) (k colour : Nat) (rm : Remark) (s : State) : State :=
  giveUpResult k r (mirrorCopy r k colour rm (countDropped r s))

/-- QUARANTINE: an entry of the Cul-de-sac, with the tick and block of its commit at the start of k + 2 (R167). -/
def commitQuarantine (r : Result) (k colour : Nat) (rm : Remark) (s : State) : State :=
  let x := r.item
  let e : CulEnt := ⟨0, r.handle, x.length, x.port, x.pass, r.reason, x.status, x.ruleId, x.epoch, k + 2, x.flags⟩
  culEnter e r.cwyBuf k (mirrorCopy r k colour rm (dropUnqueued x.port s))

/-! ## Host software and the Mews (R162, R397, R462) -/

/-- The prefix of a MISS entry (Table 15.5). -/
def missPrefix (s : State) (x : Item) : List Byte :=
  toBe 48 (buildKey (image s x.bank) x.fields) ++ toLe 4 (x.status + x.flags * 2 ^ 8) ++ toLe 4 x.epoch ++ List.replicate 8 0

/-- Enqueue a frame to the leaf of a host ring; a ring without one refuses it against its ingress port (R253, R462). -/
def commitHost (r : Result) (k ring typ colour : Nat) (rm : Remark) (s : State) : State :=
  let x := r.item
  if !ringHasLeaf s ring then
    giveUpResult k r (mirrorCopy r k colour rm (if x.port ≤ 10 then inc 0x100 (SCH0.REFUSED_UNQUEUED x.port) s else s))
  else
    let pre := if typ = 1 then missPrefix s x else []
    let (s, ok) := takeIn { hostEnt s ring typ pre x r.handle r.bytes x.length k with colour := colour, handle2 := x.aux.getD 6 0 } colour x.port s
    let s := mirrorCopy r k colour rm s
    if ok then handTo k clHost r s else giveUpResult k r s

/-- STEER_MEWS: a FRAME message to the role, or the frame is dropped (R397). -/
def commitMews (r : Result) (k role colour : Nat) (rm : Remark) (s : State) : State :=
  let s := mirrorCopy r k colour rm s
  if canSteer s role r.handle then
    serveRelease (r.item.aux.getD 6 0) (acceptMsg (steerMsg s role r.handle) (countDelivery 0 (refDo opHandover 0xC clMews r.handle k s)))
  else giveUpResult k r (dropUnqueued r.item.port (inc 0x1C0 MEW0.STEER_DROPPED s))

/-! ## Recirculation (R163 to R166) -/

/-- The inner start of the next pass, counted in the edited frame. -/
def nextStart (s : State) (r : Result) : Nat :=
  let old := (bufData s r.item.handle).length
  if r.item.innerStart = 0 then itemStart r.item else itemStart r.item + r.item.innerStart + r.bytes.length - old

/-- The frame of the next pass. -/
def nextPass (r : Result) (at_ start : Nat) : InFrame :=
  let x := r.item
  let cut := if r.decap then start else 0
  ⟨11, 0, false, at_, r.bytes.drop cut, [],
   { x with handle := r.handle, cwyBuf := r.cwyBuf, pass := x.pass + 1, innerStart := start - cut, length := x.length - cut, headUsed := x.headUsed - cut,
            innerType := if r.inner = 0 ∨ 4 < r.inner then x.innerType else r.inner, tunnelId := if r.keepTunnel then x.tunnelId else 0,
            stream := 0, aux := List.replicate 6 0 ++ (x.aux.drop 6).take 3 }, 0⟩

/-- The final pass of a recirculated frame commits (R166). -/
def passDone (x : Item) (s : State) : State :=
  if x.pass = 0 then s else wr 0xC8 (drainCount x.bank) (rd s 0xC8 (drainCount x.bank) - 1) s

/-- RECIRC: the frame joins the recirculation queue, or is dropped when it is full. -/
def commitRecirc (r : Result) (k start colour : Nat) (rm : Remark) (s : State) : State :=
  let x := r.item
  let s := mirrorCopy r k colour rm s
  let n := rd s 0xC8 CLS.RECIRC_LEVEL
  if 16384 ≤ n then
    let s := raiseFirstItem k 0xC8 CLS.evRECIRC_FULL [] (inc 0xC8 CLS.RECIRC_FULL s)
    passDone x (giveUpResult k r (dropUnqueued x.port s))
  else
    let s := wr 0xC8 CLS.RECIRC_LEVEL (n + 1) (refDo opHandover 0xC clRecirc r.handle k s)
    let s := if x.pass = 0 then addc 0xC8 (drainCount x.bank) 1 s else s
    let f := nextPass r (startOf (k + 2)) start
    { putData r.handle f.bytes s with ingress := s.ingress ++ [f] }

/-! ## One result -/

/-- Events that are first in a tick (Tables 3.10, 5.12, 6.5). -/
def firstOnly (pg b : Nat) : Bool :=
  pg = 0xC0 || (pg = 0xC8 && decide (4 ≤ b ∧ b ≤ 6)) || (pg = 0xD0 && decide (b ≤ 3)) || ((pg = 0x41 || pg = 0x61) && b = 7)

def raiseEvs (k : Nat) (l : List (Nat × Nat × List Nat)) (s : State) : State :=
  forEach l (fun e s => if firstOnly e.1 e.2.1 then raiseFirstItem k e.1 e.2.1 e.2.2 s else raiseItem k e.1 e.2.1 e.2.2 s) s

/-- A host frame's transmit descriptor returns at the commit of its first pass (R465). -/
def returnTx (x : Item) (s : State) : State := if x.aux.getD 9 0 = 0 then s else txReturn (x.aux.getD 9 0 - 1) (x.aux.getD 10 0) 0 s

/-- A table command whose block is discarded changes no record; BUSY clears at the commit, with a RESULT that the spec leaves open. -/
def commandLost (k : Nat) (r : Result) (s : State) : State :=
  let (v, t) := freeBits 4 s
  match r.fill.getD 0 0 with
  | 4 => tblResult 0xD0 v { t with flushList := if r.fill.getD 1 0 = 7 then [] else t.flushList }
  | 2 => if s.dirCmd.isSome then dirDone (r.fill.getD 1 0) v k t else s
  | 6 => tblResult 0x1E2 (v % 8) { t with ringCmd := none }
  | _ => s

/-- An item of a discarded block, or one that the Crossing cannot vote on: Fault-contained (R281, R283). -/
def containItem (k : Nat) (kept : Bool) (r : Result) (s : State) : State :=
  let x := r.item
  if x.source = 14 then commandLost k r s
  else if 14 ≤ x.source ∨ x.handle = emptyHandle then s
  else
    let s := if kept then dropResult r s else s
    passDone x (returnTx x (giveUp k x.handle x.cwyBuf x (containUnqueued x.port s)))

/-- What a confirmed red does to a result: DROP, with the frame as it came (R160, R251). -/
def redResult (s : State) (r : Result) : Result :=
  { r with verdict := .drop, red := true, bytes := bufData s r.item.handle, item := { r.item with length := r.orig.length } }

/-- The no-match default in place of MISS_RING (R162): its terminal action, mirror and counter. -/
def missDefault (s : State) (k : Nat) (r : Result) : Result :=
  let a := noMatchAction s r.item.port
  let leaf := forwardLeaf s a none r.item.queueSet
  let t := terminalOf a
  let w : Wk := ⟨s, r.ledger, r.evs, r.inserted, r.exports⟩
  let w := if bit (a.getD 0 0) 8 then countInto s (fun _ => true) (a.getD 3 0 % 2 ^ 23) (k / 64 % 2 ^ 32) r.orig w else w
  { r with verdict := verdictOf t a leaf false, target := if t = 0 then leaf + 1 else 0, reason := 2,
           mirror := if bit (a.getD 0 0) 9 then a.getD 4 0 % 2 ^ 17 + 1 else 0, ledger := w.led }

/-- Whether a miss frame finds room on MISS_RING. -/
def missRoom (s : State) (r : Result) (ring : Nat) : Bool :=
  ringTakes s ring && decide (ringNeeds s ring (64 + r.item.length) ≤ ringRoom s ring)

/-- Carry out a verdict. -/
def carryOut (r : Result) (k start colour : Nat) (rm : Remark) (s : State) : State :=
  match r.verdict with
  | .enqueue leaf => commitForward r k leaf colour rm s
  | .host ring miss => commitHost r k ring (if miss then 1 else 0) colour rm s
  | .mews role => commitMews r k role colour rm s
  | .arcade _ => commitForward { r with seqTag := 0, item := { r.item with action := [] } } k (rd s 0x1E0 ARC0.FILL_LEAF) colour rm s
  | .drop => commitDrop r k colour rm s
  | .quarantine => commitQuarantine r k colour rm s
  | .recirc => commitRecirc r k start colour rm s
  | .tramlines _ | .none | .contained | .discardCopy => s

/-- An enqueued frame of the recirculation queue keeps counting as draining; every other end is its final pass. -/
def isRecirc (v : Verdict) : Bool := match v with | .recirc => true | _ => false

/-- Bollard's confirmation of a frame, on FRAME_LENGTH as the slice used it (R250, R251). -/
def confirmFrame (k : Nat) (r : Result) (s : State) : Nat × State :=
  if r.policer = 0 then (r.colour, s) else confirmColour (r.policer - 1) r.incoming r.orig.length r.colour k s

/-- Commit a frame's result: its colour is confirmed, its verdict carried out; answers the result as it took effect. Of a frame that the
confirmation makes red, the events that LEARN raised are not raised (R251, R284). -/
def commitFrame (k : Nat) (r : Result) (s : State) : Result × State :=
  let x := r.item
  let turns := decide (r.policer ≠ 0) && decide (r.colour ≠ red) && decide ((confirmFrame k r s).1 = red)
  let (colour, s) := confirmFrame k r (raiseEvs k (if turns then r.evs.take r.firmEvs else r.evs) s)
  let rm := if r.policer = 0 then ⟨false, false, 0⟩ else remarkOf s (rd s (Tab.pol (r.policer - 1)) POL.PROFILE) colour
  let r := if turns then redResult s r else r
  let (r, s) := match r.verdict with
    | .host ring true =>
      if missRoom s r ring then (r, s)
      else (missDefault s k r, raiseFirstItem k 0xC8 CLS.evMISS_RING_FULL [ring] (inc 0xC8 CLS.MISS_RING_FULL s))
    | _ => (r, s)
  let start := nextStart s r
  let s := carryOut r k start colour rm (settleBuffer k r s)
  (r, returnTx x (if isRecirc r.verdict then s else passDone x s))

/-- The overflow of an edit that found no buffer: counted, and the frame dropped (R209). -/
def commitOverflow (k : Nat) (r : Result) (s : State) : State :=
  let x := r.item
  let s := if x.source = 10 then inc 0xB0 HST0.INGRESS_OVERFLOW (dropUnqueued x.port s)
    else if x.source < 10 then countOverflow x.source s else dropUnqueued x.port s
  passDone x (returnTx x (giveUp k x.handle x.cwyBuf x s))

/-- Journals later than the boundary that follows FEED_FAIL_N are dropped (R510). -/
def feedDrops (s : State) (k : Nat) : Bool :=
  let at_ := rd s (held 0x20) HPWR.FEED_AT
  rdb s (held 0x20) HPWR.FAILED && decide (at_ ≠ 0) && decide (at_ ≤ k + 1)

/-- A frame that the feed failure drops. -/
def feedDropped (r : Result) : Result := { r with verdict := .drop, target := 0, mirror := 0, learn := false, fill := [], seqTag := 0 }

/-- A frame that its slice gave a verdict on. -/
def hasVerdict (v : Verdict) : Bool := match v with | .none | .discardCopy | .contained => false | _ => true

/-- Commit one result that its block keeps: what the frame, the command or the report does. -/
def commitResult (k : Nat) (r : Result) (s : State) : Result × State :=
  let t := raiseEvs k r.evs s
  match r.fill.getD 0 0 with
  | 4 => (r, t)
  | 5 => (r, { t with flushList := t.flushList.erase (r.fill.getD 1 0) })
  | _ =>
    if feedDrops s k ∧ r.item.source < 14 ∧ r.item.handle ≠ emptyHandle ∧ !r.overflow ∧ hasVerdict r.verdict then
      commitFrame k (feedDropped r) (inc 0x20 PWR0.FEED_DROPPED s)
    else if r.item.source = 13 ∨ r.fill ≠ [] then (r, arcCommit k r t)
    else
      match r.verdict with
      | .none => (r, t)
      | .discardCopy => (r, giveUp k r.item.handle r.item.cwyBuf r.item t)
      | .contained => (r, containItem k true r t)
      | _ => if r.overflow then (r, commitOverflow k r t) else commitFrame k r s

/-! ## Ledgers (R185, R251) -/

/-- Whether another result of blocks k and k + 1 updates the record that `r` inserted: the insert then stays. -/
def insertUsed (s : State) (k : Nat) (r : Result) (i : Nat) : Bool :=
  s.work.any (fun b => (b.abs = k || b.abs = k + 1) && !b.discarded
    && b.results.any (fun q => decide (q.item.handle ≠ r.item.handle) && touches q.ledger (Tab.flow i)))

/-- The ledger entries of a result that apply: policers stay as confirmed; a frame that became red at its commit learns nothing and takes no
sequence number, unless another item's ledger already rests on the record that it inserted. -/
def keptLedger (s : State) (k : Nat) (r : Result) : Result :=
  let own := fun (l : List LEntry) => l.filter (fun e => ownerOf e.page ≠ 0x140)
  if !r.red then { r with ledger := own r.ledger }
  else if r.inserted.any (insertUsed s k r) then
    { r with ledger := own (r.ledger.filter (fun e => decide (FREC.GEN_SEQ.key e.page ≠ e.key))), learn := false }
  else { r with ledger := own (r.ledger.take r.firm), inserted := [], exports := [], learn := false }

/-- Inserts of a slice in the tick of block k (R179). -/
def countInserts (slice k n : Nat) (s : State) : State :=
  if n = 0 then s
  else
    let old := if rd s (held 0xD0) (HFLW.INSERT_TICK slice) = k / 64 then rd s (held 0xD0) (HFLW.INSERTS slice) else 0
    wr (held 0xD0) (HFLW.INSERTS slice) (old + n) (wr (held 0xD0) (HFLW.INSERT_TICK slice) (k / 64) s)

/-- Apply a result's ledger: images of removed records go out first; then the entries, the learn descriptor. -/
def applyResult (k slice : Nat) (r : Result) (s : State) : State :=
  let s := forEach r.exports (fun e s => exportFlow (e.getD 0 0) (e.getD 1 0) k s) s
  let s := applyLedger r.ledger s
  let s := countInserts slice k r.inserted.length
    (if rd s (held 0xD0) HFLW.FLUSH_AT ≤ k then { s with flushList := s.flushList.filter (fun i => i ∉ r.inserted) } else s)
  if r.learn then sendLearn slice r.item k s else s

/-- An ageing proposal: the record goes when no ledger entry of k or k + 1 touches it and the slice's block k + 1 is not being replayed (R183). -/
def ageRecord (k : Nat) (r : Result) (s : State) : State :=
  if r.proposal = 0 then s
  else
    let i := r.proposal - 1
    let used := s.work.any (fun b => (b.abs = k || b.abs = k + 1) && !b.discarded && b.results.any (fun q => touches q.ledger (Tab.flow i)))
    let redo := replaying s && decide (rd s (held 0x180) HCWY.REPLAY_AT = k + 2) && decide (rd s 0x190 XNG.XNG_STATUS_REPLAY_SLICE = r.by_)
    if used || redo || decide (rd s (Tab.flow i) FREC.TYPE ≠ 1) then s
    else inc 0xD0 FLW.AGED (dropRecord i (exportFlow 0 i k s))

/-- After the ledgers a flow-table command is done: a READ shows the record as committed, the frees of a FLUSH begin (R187). -/
def flushCommit (r : Result) (s : State) : State :=
  let s := if r.fill.getD 0 0 = 4 then flowCmdCommit (r.fill.getD 1 0) (r.fill.getD 2 0) (r.fill.getD 3 0) s else s
  if r.fill.getD 0 0 = 4 ∧ r.fill.getD 1 0 = 7 ∧ r.fill.getD 2 0 = 0 then
    wr (held 0xD0) HFLW.FLUSHING 1 s
  else s

/-- The last stream rejoining on a port has ended its rejoin (Table 3.10); the port is in service for every stream again (R96). -/
def rejoinSettle (old : State) (s : State) : State :=
  forEach [0, 1] (fun f s =>
    let n := rd s (fibN f 1) FB1.RJ_STREAMS
    if n = 0 ∧ rd old (fibN f 1) FB1.RJ_STREAMS ≠ 0 then
      let s := wr (fibPage f) FB0.DS_STATUS_REJOIN 0 s
      let s := if rdb s (held (fibPage f)) HFIB.LOST then s else closeFault (Tag.fibre f) s
      raise (fibN f 1) FB1.evREJOIN_END [] s
    else s) s

/-! ## The vote (R283) -/

/-- A fault of the Crossing found while block k commits; `shown` says whether it has an event of its own. -/
def crossingFault (k b unit : Nat) (masked shown : Bool) (d : List Nat) (s : State) : State :=
  let loc := locUnit 0x1B unit
  let first := earlierFault s
  let s := if shown then pushEv { mkEv s 0x190 b loc masked d with abs := k, cls := 0 } s else s
  let s := if first = 0 then s
    else countLate 0x190 XNG.DOUBLE_FAULTS 1 (pushEv { mkEv s 0x180 CWY.evDOUBLE_FAULT loc false [first] with abs := k } s)
  { s with blockFault := if s.blockFault = 0 then loc else s.blockFault }

/-- A copy that disagrees is outvoted and reloaded; its event is first in a tick (R283). -/
def voteMasked (k c : Nat) (s : State) : State :=
  let s := inc 0x190 (if c = 0 then XNG.VOTE_MASKED_0 else if c = 1 then XNG.VOTE_MASKED_1 else XNG.VOTE_MASKED_2) s
  let key := firstKey 0x190 XNG.evVOTE_MASKED 0
  if key ∈ s.firsts then crossingFault k XNG.evVOTE_MASKED (min c 2) true false [] s
  else crossingFault k XNG.evVOTE_MASKED (min c 2) true true [] { s with firsts := key :: s.firsts }

/-- No two copies agree on a word of item `n`. -/
def voteFailed (k n : Nat) (s : State) : State :=
  crossingFault k XNG.evVOTE_FAILED 3 false true [k, n] (inc 0x190 XNG.VOTE_FAILED s)

/-! ## The commit of a block -/

/-- The detail words of block k's MASKED_FAULT and CONTAINED_FAULT records: items replayed per survivor, items discarded. -/
def faultDetails (k : Nat) (s : State) : State :=
  let res := fun x j => ((s.work.filter (fun b => b.slice = x ∧ b.abs = j)).flatMap (·.results)).filter (fun r => r.item.source < 14)
  { s with evq := s.evq.map (fun e =>
      if e.page = 0x180 ∧ e.abs = k ∧ e.bit = CWY.evMASKED_FAULT then
        let l := res e.d0 k
        let h0 := (l.filter (fun r => inH0 (itemRegion s r.item))).length
        { e with d2 := h0, d3 := e.d3 / 2 ^ 31 * 2 ^ 31 + (l.length - h0) }
      else if e.page = 0x180 ∧ e.abs = k ∧ e.bit = CWY.evCONTAINED_FAULT ∧ e.d1 = k % 2 ^ 32 then
        let xs := (List.range 3).filter (bit e.d0)
        { e with d2 := (xs.map (fun x => (res x k).length)).sum, d3 := e.d3 / 2 ^ 31 * 2 ^ 31 + (xs.map (fun x => (res x (k + 1)).length)).sum }
      else e) }

/-- Items taken in by the slices in block k, replay items counted with the survivors (Table 9.8). -/
def countItems (k : Nat) (s : State) : State :=
  forEach (s.work.filter (fun b => b.abs = k)) (fun b s =>
    let l := b.results.filter (fun r => r.item.source < 14)
    if b.replayed then
      let n0 := (l.filter (fun r => inH0 (itemRegion s r.item))).length
      let (lo, hi) := survivors b.slice
      let s := addc 0x180 (CWY.ITEMS lo) n0 (addc 0x180 (CWY.REPLAY_ITEMS lo) n0 s)
      addc 0x180 (CWY.ITEMS hi) (l.length - n0) (addc 0x180 (CWY.REPLAY_ITEMS hi) (l.length - n0) s)
    else addc 0x180 (CWY.ITEMS b.slice) l.length s) s

/-- Step 2 for one result, the `n`-th in decision order; what step 3 will apply is gathered. -/
def commitStep (k : Nat) (failed : List (Nat × Bool)) (a : State × List (Nat × Result)) (x : (BlockWork × Result) × Nat) :
    State × List (Nat × Result) :=
  let (s, led) := a
  let ((b, r), n) := x
  let s := if failed.any (fun f => f.1 = n) then voteFailed k n s else s
  if b.discarded then (containItem k false r s, led)
  else if failed.any (fun f => f.1 = n ∧ !f.2) then (containItem k true r s, led)
  else
    let (q, s) := commitResult k r s
    (s, if failed.any (fun f => f.1 = n) ∨ q.verdict = .contained then led else led ++ [(b.slice, keptLedger s k q)])

/-- Steps 2 and 3 of R284 for block k. -/
def commitItems (k : Nat) (failed : List (Nat × Bool)) (s : State) : State :=
  let old := s
  let (s, led) := (ordered s k).zipIdx.foldl (commitStep k failed) (s, [])
  let s := forEach led (fun x s => applyResult k x.1 x.2 s) s
  let s := forEach led (fun x s => flushCommit x.2 (ageRecord k x.2 s)) s
  arcSettle (rejoinSettle old s)

/-- What the work of block k and of earlier ones counted shows (R285). -/
def commitCounts (k : Nat) (s : State) : State :=
  { applyLedger ((s.lateCounts.filter (fun c => c.1 ≤ k)).map (·.2)) s with lateCounts := s.lateCounts.filter (fun c => k < c.1) }

/-- Steps 4 and 5, and the counts of the Crossing. -/
def commitEnd (k cycles : Nat) (s : State) : State :=
  let s := countItems k (faultDetails k s)
  let s := commitCounts k (ringWriteBacks (commitEvents k s))
  let s := if s.work.any (fun b => b.abs = k ∧ b.replayed ∧ !b.discarded) then inc 0x190 XNG.REPLAYED_COMMITS s else s
  let s := wr 0x190 XNG.XNG_STATUS_LAST_TICK (k / 64 % 2 ^ 32) (wr 0x190 XNG.XNG_STATUS_LAST_BLOCK (k % 64) (inc 0x190 XNG.COMMITS s))
  let s := wrMax 0x190 XNG.COMMIT_CYCLES_MAX (min 512 cycles) s
  { s with work := s.work.filter (fun b => k < b.abs), nextCommit := k + 1 }

/-- The Crossing commits the next block, at the start of the second block after it. `masked` names the copies outvoted on some word,
`failed` the items, by their place in decision order, for which no two copies agree, with a mark when the word is a ledger word;
`cycles` is how long the commit took (R283, R284). -/
def execBlockCommit (masked : List Nat) (failed : List (Nat × Bool)) (cycles : Nat) (s : State) : Host.Outcome State Fault Refusal :=
  let k := s.nextCommit
  settle s (onlyIf (s.clock.running ∧ k + 2 ≤ now s) (fun s =>
    releaseRefs (assemble 0 (assemble 1 (commitEnd k cycles (commitItems k failed (forEach masked (voteMasked k) { s with nextCommit := k + 1 })))))) s)

end Sys2Proof.Machine
end

