-- ==== Sys2Proof/Machine/Upstream.lean ====
section
/-! DEFINITION. Upstream bursts: reconciling a BWmap, serialising, the laser, the Alloc-ID slots (R103, R113, R116 to R126, R130, R132). -/

namespace Sys2Proof.Machine

/-- The response time of 35.0 µs, and 4.0 µs and 2.0 µs, in core cycles (R108, R118, R124). -/
def respCycles : Nat := nsCycles 35000
def cutCycles : Nat := nsCycles 4000
def serCycles : Nat := nsCycles 2000

/-- Upstream bits in a core cycle at a port's rate. -/
def bitsPerCycle (s : State) (f : Nat) : Nat :=
  let r := rd s (fibN f 3) FB3.US_STATUS_RATE
  if r = 0 then 10 else if r = 1 then 20 else 40

/-- Core cycles of a port's EqD: 10, 20 or 40 upstream bits a cycle (R108). -/
def eqdCycles (s : State) (f : Nat) : Nat :=
  rd s (fibN f 2) FB2.EQD / bitsPerCycle s f

/-- The low 32 bits of a port's SFC. -/
def sfcLow (s : State) (f : Nat) : Nat := rd s (fibPage f) FB0.SFC_LO

/-- An Alloc-ID assigned to the port: the default one, or one that the head end assigned (R116). -/
def assigned (s : State) (f alloc : Nat) : Bool :=
  (decide (alloc = rd s (fibN f 2) FB2.ONU_ID) && decide (alloc ≠ 0x3FF)) || s.allocs.any (fun a => a = f * 16384 + alloc)

/-- The slot to which an Alloc-ID is bound (R132). -/
def slotOfAlloc (s : State) (f alloc : Nat) : Option Nat :=
  (List.range 64).find? (fun n => rdb s (Tab.asl f n) ASL.BOUND ∧ rd s (Tab.asl f n) ASL.ALLOC_ID = alloc)

/-! ## The BWmap (R116, R117, R120, R122) -/

/-- Bytes of a PLOAMu, and of a DBRu (R116, Table 15.5). -/
def ploamuBytes : Nat := 48
def dbruLen : Nat := Config.ponStandard 10

/-- An allocation in core cycles and bytes: the room is what burst overhead, PLOAMu and DBRu leave (R116). -/
def grantOf (s : State) (f : Nat) (g : AllocIn) : Grant :=
  let r := rd s (fibN f 3) FB3.US_STATUS_RATE
  let bytes := g.size * Config.ponStandard (6 + r)
  ⟨g.alloc, g.start * Config.ponStandard (2 + r) / bitsPerCycle s f, 8 * bytes / bitsPerCycle s f,
   bytes - rd s (fibHeld f) HACT.OVERHEAD - (if g.ploamu then ploamuBytes else 0) - (if g.dbru then dbruLen else 0), g.ploamu, g.dbru⟩

/-- Two allocations overlap in time. -/
def overlaps (a b : Grant) : Bool := decide (a.start < b.start + b.dur) && decide (b.start < a.start + a.dur)

/-- Bytes queued under the service node of a slot, at the present instant (R120). -/
def dbruBytes (s : State) (f n : Nat) : Nat :=
  (s.leafq.filter (fun e => e.port = 8 + f ∧ e.node = slotService s f n)).foldl (fun a e => a + (queueLen e.port e.length - e.sentBytes)) 0

/-- The report of a DBRu: rounded up to the standard's unit, and saturated (R120). -/
def dbruReport (s : State) (f n : Nat) : Nat :=
  let unit := max 1 (Config.ponStandard 11)
  min (Config.ponStandard 12) ((dbruBytes s f n + unit - 1) / unit)

/-- The burst of an allocation, with its build list still empty. -/
def newBurst (s : State) (f slot : Nat) (g : Grant) : Burst :=
  ⟨f, slot, g.alloc, rd s (fibHeld f) HUPS.PSBD + respCycles + eqdCycles s f + g.start, g.dur, g.room, g.ploamu, g.dbru,
   if g.dbru ∧ slot ≠ 0 then dbruReport s f (slot - 1) else 0, rd s (fibHeld f) HFIB.SFC, false, 0, [], [], []⟩

/-- A burst joins the list. -/
def addBurst (b : Burst) (s : State) : State := { s with bursts := s.bursts ++ [b] }

/-- Reconcile an allocation of slot `n` with its prediction; `first` in this BWmap (Table 4.4). -/
def reconcile (f n : Nat) (first : Bool) (g : Grant) (s : State) : State :=
  let old := rd s (Tab.asl f n) ASL.PREDICTED_ROOM
  let b := newBurst s f (n + 1) g
  let s := if s.clock.tick < rd s (fibHeld f) (HUPS.FROM n) then s
    else wr (fibHeld f) (HUPS.GRANTED n) (rd s (fibHeld f) (HUPS.GRANTED n) + g.room) s
  if !first ∨ !predicts s f n ∨ old < g.room then
    let l := if first then predOf s f n else []
    let b := { b with extend := true, entries := l }
    let s := if first then setPred f n [] s else s
    extendBurst b (addBurst b (inc (fibN f 3) FB3.GRANT_EXTEND s))
  else if g.room = old then
    addBurst { b with entries := predOf s f n } (setPred f n [] (inc (fibN f 3) FB3.GRANT_MATCH s))
  else
    let l := predOf s f n
    let (kept, s) := trimTo f n g.room l (setPred f n [] (inc (fibN f 3) FB3.GRANT_TRIM s))
    syncBuild f (addBurst { b with entries := kept } s)

/-- An allocation to an Alloc-ID that no slot holds: idle frames fill it (R117). -/
def unboundBurst (f : Nat) (g : Grant) (s : State) : State :=
  let key := f * 16384 + g.alloc
  let s := inc (fibN f 3) FB3.UNBOUND_FILL (addBurst (newBurst s f 0 g) s)
  if key ∈ s.unboundSeen then s else raise (fibN f 3) FB3.evUNBOUND_GRANT [g.alloc] { s with unboundSeen := key :: s.unboundSeen }

/-- Take the allocations in BWmap order: `taken` are those to be sent, and the slots they named. -/
def takeAllocs (f : Nat) : List Grant → List Grant → List Nat → State → State
  | [], _, _, s => s
  | g :: l, taken, seen, s =>
    match taken.find? (overlaps g) with
    | some h => takeAllocs f l taken seen (raise (fibN f 3) FB3.evGRANT_OVERLAP [h.alloc, g.alloc] (inc (fibN f 3) FB3.GRANT_OVERLAP s))
    | none =>
      match slotOfAlloc s f g.alloc with
      | none => takeAllocs f l (taken ++ [g]) seen (unboundBurst f g s)
      | some n => takeAllocs f l (taken ++ [g]) (n :: seen) (reconcile f n (decide (n ∉ seen)) g s)

/-- After reconciliation the predicted room is that of the slot's last allocation in this BWmap. DESIGN CHOICE (log entry 104): an
allocation that is skipped for an overlap is none of them. -/
def nextRooms (f : Nat) (l : List Grant) (s : State) : State :=
  forEach l (fun g s => match slotOfAlloc s f g.alloc with
    | some n => wr (fibHeld f) (HUPS.SEEN n) 1 (wr (Tab.asl f n) ASL.PREDICTED_ROOM g.room s)
    | none => s) s

/-- Allocations that are sent: those of `l` that overlap none taken before them. -/
def sentAllocs (l : List Grant) : List Grant := l.foldl (fun a g => if a.any (overlaps g) then a else a ++ [g]) []

/-- A sample of each allocation used: from the map's decoding, `cyc` cycles into the block, to the burst's start, in ns (Table 18.6). -/
def grantLeads (f cyc : Nat) (l : List Grant) (s : State) : State :=
  forEach l (fun g s =>
    let start := rd s (fibHeld f) HUPS.PSBD + respCycles + eqdCycles s f + g.start
    monSample 0x02 f ((((start : Int) - (startOf (now s) + cyc : Nat)) * 100000) / 124416) s) s

/-- The port's transmitter may light: in O5.1, and not in LowPower (R104, R115). -/
def transmits (s : State) (f : Nat) : Bool := decide (actState s f = 5) && decide (rd s (fibN f 2) FB2.PM_STATUS_STATE ≠ 3)

/-- A BWmap of fibre port `port` has been decoded; `ok` says that it was read correctly. -/
def execBwmapDecoded (port : Nat) (ok : Bool) (grants : List AllocIn) (cyc : Nat) (s : State) : Host.Outcome State Fault Refusal :=
  settle s (onlyIf (port < 2 ∧ transmits s port ∧ rdb s (fibN port 3) FB3.US_CTRL_TX_EN) (fun s =>
    if !ok then
      let s := raiseFirst (fibN port 3) FB3.evBWMAP_LOST [sfcLow s port] (inc (fibN port 3) FB3.BWMAP_LOST s)
      returnAllPredicted port s
    else
      let mine := (grants.filter (fun g => assigned s port g.alloc)).map (grantOf s port)
      let s := takeAllocs port mine [] [] (grantLeads port cyc (sentAllocs mine) s)
      assemble port (nextRooms port (sentAllocs mine) s)) s)

/-! ## The life of a burst (R119, R124) -/

/-- The first burst of a port at a stage that has come to an instant. -/
def burstAt (s : State) (f stage t ahead : Nat) : Option Burst := s.bursts.find? (fun b => b.fibre = f ∧ b.stage = stage ∧ b.start ≤ t + ahead)

/-- Bytes that OMCI messages take in a burst, with their XGEM headers. -/
def omciRoom (l : List (List Byte)) : Nat := (l.map (fun d => d.length + 8)).sum

/-- The messages at the front of a queue that fit a room. -/
def omciFit : Nat → List (List Byte) → List (List Byte)
  | _, [] => []
  | room, d :: l => if d.length + 8 ≤ room then d :: omciFit (room - 8 - d.length) l else []

/-- A burst of Alloc-ID slot 0 takes the waiting OMCI messages ahead of the frames, which keep the rest of the room (R465). -/
def takeOmci (b : Burst) (s : State) : State :=
  let mine := s.upOmci.filter (fun m => m.fibre = b.fibre)
  let l := omciFit b.room (mine.map (·.bytes))
  if b.slot ≠ 1 ∨ l.isEmpty then s
  else
    let s := { s with upOmci := s.upOmci.filter (fun m => m.fibre ≠ b.fibre) ++ mine.drop l.length }
    let (kept, s) := trimTo b.fibre 0 (b.room - omciRoom l) b.entries s
    syncBuild b.fibre (setBurst b (fun c => { c with entries := kept, omci := l }) s)

/-- The extension cut-off of the next burst: its build list is fixed. -/
def execExtensionCutoff (port cyc : Nat) (s : State) : Host.Outcome State Fault Refusal :=
  settle s (onlyIf (port < 2) (fun s =>
    match burstAt s port 0 (startOf (now s) + cyc) cutCycles with
    | none => s
    | some b => setBurst b (fun c => { c with stage := 1, extend := false }) (takeOmci b s)) s)

/-- Offset of the R-TAG in a frame: after the source MAC address, or after one or two VLAN tags (R128). -/
def rtagOffset (s : State) (d : List Byte) (pos : Nat) : Nat := (afterTags s d (min 2 pos) 12).1 - 2

/-- A frame as the port sends it: remarked, with its R-TAG and its FCS. -/
def upBytes (s : State) (e : QEnt) : List Byte :=
  let d := remarkBytes s e.remark e.bytes
  withFcs (if e.seqTag = 0 then d
    else insBytes d (rtagOffset s d ((e.seqTag - 1) / 65536)) (rtagBytes ((e.seqTag - 1) % 65536)))

/-- Bytes of the cipher stream of a data key: 16 a block, from the superframe and the position (R85, R113). -/
def cipher (s : State) (f idx sfc pos : Nat) (d : List Byte) : List Byte :=
  let key := Map.get 0 s.dataKeys (8 * f + idx) - 1
  (List.range d.length).map (fun i =>
    d.getD i 0 ^^^ BitVec.ofNat 8 (Config.aes 1 key (toBe 8 sfc ++ toBe 4 (pos + i / 16)) / 256 ^ (15 - i % 16)))

/-- The XGEM frames of a burst, encrypted with the key in use upstream under the superframe of the burst's own frame (R113). -/
def xgemOuts (s : State) (b : Burst) : List XgemOut :=
  let f := b.fibre
  let idx := rd s (fibN f 2) FB2.KEY_STATUS_ACTIVE
  let send := fun portId (last : Bool) pos d => (⟨portId, idx, last, if idx = 0 then d else cipher s f idx b.sfc (pos / 16) d⟩ : XgemOut)
  b.omci.zipIdx.map (fun (d, i) => send (rd s (fibN f 2) FB2.ONU_ID) true (omciRoom (b.omci.take i)) d)
    ++ b.entries.zipIdx.filterMap (fun (x, i) => ((entOf s x.id).filter (fun e => !poisoned s e)).map (fun e =>
      send e.xgemPort x.last (omciRoom b.omci + usedRoom (b.entries.take i)) (((upBytes s e).drop x.off).take x.len)))

/-- A burst of the port stands in its window at core cycle t: from its preamble on to its end (R103, R119). -/
def inWindow (s : State) (f t : Nat) (b : Burst) : Bool :=
  decide (b.fibre = f) && (decide (b.stage = 3) || (decide (b.stage = 2) && decide (b.start ≤ t + rd s (fibHeld f) HACT.PREAMBLE)))

/-- Burst-enable and the laser at core cycle t (Table 4.3). -/
def showLaser (f t : Nat) (s : State) : State :=
  if transmits s f ∧ s.bursts.any (inWindow s f t) then
    let s := if rd s (fibHeld f) HUPS.ENABLE_AT = 0 then wr (fibHeld f) HUPS.ENABLE_AT (t + 1) s else s
    wrb (fibN f 3) FB3.US_STATUS_LASER_ON (!rdb s (fibN f 3) FB3.US_STATUS_ROGUE_SHUT) s
  else wr (fibHeld f) HUPS.ENABLE_AT 0 (wr (fibN f 3) FB3.US_STATUS_LASER_ON 0 s)

/-- Serialisation starts: framing, encryption, FEC. The laser is dark, unless the preamble is longer than the time left (Table 4.3). -/
def execBurstSerialiseStart (port cyc : Nat) (s : State) : Host.Outcome State Fault Refusal :=
  settle s (onlyIf (port < 2) (fun s =>
    match burstAt s port 1 (startOf (now s) + cyc) serCycles with
    | none => s
    | some b => showLaser port (startOf (now s) + cyc)
        (setBurst b (fun c => { c with stage := 2 }) { s with upWire := Map.put [] s.upWire port (xgemOuts s b) })) s)

/-- An entry's bytes have gone; with its last byte a frame is delivered and leaves its queue, its buffer kept until the burst ends;
a frame in a parked buffer is not sent and ends Fault-contained (R210). -/
def sendEntryUp (f t : Nat) (a : State × List QEnt) (x : BuildEnt) : State × List QEnt :=
  let (s, sent) := a
  match entOf s x.id with
  | none => (s, sent)
  | some e =>
    if x.last ∧ poisoned s e then (depart e (countOutcome e.port e.cls ocContained s), sent ++ [e])
    else if x.last then
      let s := if e.seqTag = 0 then s else inc (fibN f 3) FB3.REPL_COPIES s
      let s := if x.urgent then countOverride e s else s
      (depart e (deliver e t s), sent ++ [e])
    else ({ s with leafq := s.leafq.map (fun q => if q.id = x.id then { q with sentBytes := q.sentBytes + x.len } else q) }, sent)

/-- An upstream PLOAM with the integrity code that the security block computes under the port's key; with that key invalid the code is a
free value (R107, R486). -/
def sealPloam (f : Nat) (msg : List Byte) (s : State) : List Byte × State :=
  let body := (msg ++ List.replicate 40 0).take 40
  match Map.get 0 s.dataKeys (8 * f + 3) with
  | 0 => let (v, s) := freeBits 64 s; (body ++ toBe 8 v, s)
  | k + 1 => (body ++ toBe 8 (Config.aes 0 k body), s)

/-- A message leaves on the fibre. -/
def ploamOut (f : Nat) (msg : List Byte) (s : State) : State :=
  let (m, s) := sealPloam f msg s
  inc (fibN f 2) FB2.PLOAM_TX { s with lastPloam := Map.put [] s.lastPloam f m }

/-- The Dying_Gasp of a port with its present ONU-ID and key is prepared (R130). -/
def prepareGasp (f : Nat) (s : State) : State :=
  let (m, s) := sealPloam f (toBe 40 (Config.aes 0x109 0 (toBe 8 (rd s (fibN f 2) FB2.ONU_ID)))) s
  { s with gaspMsg := Map.put [] s.gaspMsg f m }

/-- The PLOAMu of a burst: the prepared Dying_Gasp first, then the oldest waiting message (R110, R130). -/
def sendPloamu (f : Nat) (s : State) : State :=
  let gasp := Map.get [] s.gaspMsg f
  if rdb s (fibN f 3) FB3.US_STATUS_GASP ∧ !rdb s (fibHeld f) HACT.GASP_SENT ∧ !gasp.isEmpty then
    let s := wr (fibHeld f) HACT.GASP_SENT 1 (inc (fibN f 3) FB3.GASP_SENT (inc (fibN f 2) FB2.PLOAM_TX s))
    let s := { s with lastPloam := Map.put [] s.lastPloam f gasp }
    let at_ := rd s (fibHeld f) HACT.GASP_AT
    raise (fibN f 3) FB3.evGASP [at_ / 64, at_ % 64] s
  else
    match s.upPloam.find? (fun m => m.fibre = f) with
    | none => s
    | some m => ploamOut f m.bytes { s with upPloam := dropFirst (fun x => x.fibre = f) s.upPloam }

/-- The next burst starts: its frames are delivered, shapers charged, entries freed, the rest of its room idle, its header with the
dying-gasp indication (R21, R119, R121, R130). DESIGN CHOICE (log entry 104): IDLE_BYTES counts the unused room of every burst. -/
def execBurstStart (port cyc : Nat) (s : State) : Host.Outcome State Fault Refusal :=
  settle s (onlyIf (port < 2) (fun s =>
    let t := startOf (now s) + cyc
    match burstAt s port 2 t 0 with
    | none => s
    | some b =>
      let (s, sent) := b.entries.foldl (sendEntryUp port b.start) (s, [])
      let s := setBurst b (fun c => { c with stage := 3, entries := [], sent := sent }) s
      let s := addc (fibN port 3) FB3.IDLE_BYTES (b.room - usedRoom b.entries - omciRoom b.omci) (inc (fibN port 3) FB3.BURSTS s)
      let s := if b.ploamu then sendPloamu port s else s
      let s := wrS (fibN port 3) FB3.TX_POWER (Config.sensor 0x102 port s.clock.tick) s
      let s := wrb (fibHeld port) HUPS.IND (rdb s (fibN port 3) FB3.US_STATUS_GASP) s
      syncBuild port (showLaser port t s)) s)

/-- The burst on the fibre ends: the laser goes dark and the buffers of the sent frames are freed. -/
def execBurstEnd (port cyc : Nat) (s : State) : Host.Outcome State Fault Refusal :=
  settle s (onlyIf (port < 2) (fun s =>
    let t := startOf (now s) + cyc
    match s.bursts.find? (fun b => b.fibre = port ∧ b.stage = 3 ∧ b.start + b.dur ≤ t) with
    | none => s
    | some b =>
      let s := { s with bursts := dropFirst (fun c => c.fibre = port ∧ c.stage = 3) s.bursts }
      showLaser port t (forEach b.sent releaseEnt s)) s)

/-! ## The rogue monitor (R103) -/

/-- Burst-enable is low. -/
def burstLow (s : State) (f : Nat) : Bool := decide (rd s (fibHeld f) HUPS.ENABLE_AT = 0)

/-- What the optical monitor acts on at core cycle t: light for 64 cycles, `light` of them so far, with burst-enable low, or burst-enable high
for longer than a tick. -/
def isRogue (s : State) (f light t : Nat) : Bool :=
  if burstLow s f then decide (64 ≤ light) else decide (rd s (fibHeld f) HUPS.ENABLE_AT + tickCycles ≤ t)

/-- The optical monitor removes laser bias. -/
def execRogueShut (port light cyc : Nat) (s : State) : Host.Outcome State Fault Refusal :=
  settle s (onlyIf (port < 2 ∧ !rdb s (fibN port 3) FB3.US_STATUS_ROGUE_SHUT ∧ isRogue s port light (startOf (now s) + cyc)) (fun s =>
    let s := wr (fibN port 3) FB3.US_STATUS_LASER_ON 0 (wr (fibN port 3) FB3.US_STATUS_ROGUE_SHUT 1 s)
    markContained (8 + port) (raiseFault (fibN port 3) FB3.evROGUE_SHUT (locUnit (6 + port) 0x3F) false [] s)) s)

/-- ROGUE_CLEAR restores bias while burst-enable is low; else it reads 1 until it is. -/
def execRogueClear (port : Nat) (s : State) : Host.Outcome State Fault Refusal :=
  settle s (onlyIf (port < 2) (hostCmd (fibN port 3) 0x40 (fun s =>
    if burstLow s port then wr (fibN port 3) FB3.US_CTRL_ROGUE_CLEAR 0 (wr (fibN port 3) FB3.US_STATUS_ROGUE_SHUT 0 s)
    else wr (fibN port 3) FB3.US_CTRL_ROGUE_CLEAR 1 s)) s)

/-! ## Alloc-ID slots (R132) -/

/-- A slot's record with its ASSIGNED bit as the head end's assignments stand. -/
def showSlot (f n : Nat) (s : State) : State :=
  let view := rdb s (fibN f 3) COM.PAGE_CTRL_VIEW_STAGED
  let a := if view then rdStaged s (Tab.asl f n) ASL.ALLOC_ID else rd s (Tab.asl f n) ASL.ALLOC_ID
  wrb (Tab.asl f n) ASL.ASSIGNED (assigned s f a) s

/-- TBL_CMD 1 reads a slot; SHORTFALL_BYTES is read and cleared. -/
def execAllocSlotRead (port : Nat) (s : State) : Host.Outcome State Fault Refusal :=
  settle s (onlyIf (port < 2) (tblCmd (fibN port 3) (fun s =>
    let n := rd s (fibN port 3) FB3.TBL_ADDR
    let s := readRecord (fibN port 3) (Tab.asl port n) ASL.fields (showSlot port n s)
    tblResult (fibN port 3) 0 (wr (Tab.asl port n) ASL.SHORTFALL_BYTES 0 s))) s)

/-- Result of a slot write: the conditions in the order of the codes. -/
def slotResult (s : State) (f n : Nat) : Nat :=
  let a := dataField s (fibN f 3) ASL.ALLOC_ID
  let on := dataField s (fibN f 3) ASL.BOUND = 1
  if on ∧ (List.range 64).any (fun m => m ≠ n ∧ rdStaged s (Tab.asl f m) ASL.BOUND = 1 ∧ rdStaged s (Tab.asl f m) ASL.ALLOC_ID = a) then 1
  else if n = 0 then 2
  else if on ∧ !assigned s f a then 3
  else 0

/-- TBL_CMD 2 writes a slot to staging. -/
def execAllocSlotWrite (port : Nat) (s : State) : Host.Outcome State Fault Refusal :=
  settle s (onlyIf (port < 2) (tblCmd (fibN port 3) (fun s =>
    let n := rd s (fibN port 3) FB3.TBL_ADDR
    let r := slotResult s port n
    tblResult (fibN port 3) r (if r = 0 then stageRecord (fibN port 3) (Tab.asl port n) ASL.fields s else s))) s)

/-- TBL_CMD 3 unbinds a slot in staging. -/
def execAllocSlotUnbind (port : Nat) (s : State) : Host.Outcome State Fault Refusal :=
  settle s (onlyIf (port < 2) (tblCmd (fibN port 3) (fun s =>
    let n := rd s (fibN port 3) FB3.TBL_ADDR
    if n = 0 then tblResult (fibN port 3) 2 s
    else tblResult (fibN port 3) 0 (wrStaged (fibN port 3) (Tab.asl port n) ASL.BOUND 0 s))) s)

/-- Page 0x043 has committed: a slot whose binding changed returns its predicted burst first, and predicts from 0 again. -/
def slotsCommitted (f : Nat) (old s : State) : State :=
  forEach (List.range 64) (fun n s =>
    let key := fun (t : State) => (rd t (Tab.asl f n) ASL.BOUND, rd t (Tab.asl f n) ASL.ALLOC_ID, rd t (Tab.asl f n) ASL.PREDICT)
    if key old = key s then s
    else wr (Tab.asl f n) ASL.PREDICTED_ROOM 0 (if predOf s f n = [] then s else returnPredicted f n s)) s

/-! ## The ticks (R125) -/

/-- At the end of a grant interval: the bytes that the head end failed to grant, and the frames that its shortfall touches (R31). -/
def shortfallTick (f n : Nat) (s : State) : State :=
  if !slotValid s f n ∨ !rdb s (Tab.asl f n) ASL.BOUND ∨ s.clock.tick < rd s (fibHeld f) (HUPS.FROM n) + slotG s f n then s
  else
    let got := rd s (fibHeld f) (HUPS.GRANTED n)
    let due := slotWindow s f n
    let s := wr (fibHeld f) (HUPS.FROM n) s.clock.tick (wr (fibHeld f) (HUPS.GRANTED n) 0 s)
    if due ≤ got then s
    else
      let s := addc (Tab.asl f n) ASL.SHORTFALL_BYTES (due - got) s
      { s with leafq := s.leafq.map (fun e => if e.port = 8 + f ∧ e.node = slotService s f n then { e with shortfall := true } else e) }

/-- Page 0x150 has committed: after a change of G the first grant window starts at the first tick boundary whose number is a multiple of
the new G (R258). -/
def windowsCommitted (old s : State) : State :=
  forEach [0, 1] (fun f s => forEach (List.range 64) (fun n s =>
    let g := slotG s f n
    if slotG old f n = g then s
    else
      let t := if s.clock.block = 0 then s.clock.tick else s.clock.tick + 1
      wr (fibHeld f) (HUPS.FROM n) ((t + g - 1) / g * g) (wr (fibHeld f) (HUPS.GRANTED n) 0 s)) s) s

/-- The upstream assembler's share of a tick boundary; the Dying_Gasp of a new ONU-ID or key is prepared (R130). -/
def upTick (f : Nat) (s : State) : State :=
  let at_ := rd s (fibHeld f) HACT.GASP_READY
  let s := if at_ ≠ 0 ∧ at_ ≤ s.clock.tick + 2 then wr (fibHeld f) HACT.GASP_READY 0 (prepareGasp f s) else s
  if actState s f = 5 then forEach (List.range 64) (shortfallTick f) s else s

/-- The upstream MAC's share of a block boundary: a preamble that begins, a ROGUE_CLEAR that waits. -/
def upBoundary (f : Nat) (s : State) : State :=
  let s := if s.bursts.any (inWindow s f (startOf (now s))) then showLaser f (startOf (now s)) s else s
  if rdb s (fibN f 3) FB3.US_CTRL_ROGUE_CLEAR ∧ burstLow s f then
    wr (fibN f 3) FB3.US_CTRL_ROGUE_CLEAR 0 (wr (fibN f 3) FB3.US_STATUS_ROGUE_SHUT 0 s)
  else s

/-- The port enters O5.1: no allocation has come since, and the grant intervals start (R121). -/
def enterO51 (f : Nat) (s : State) : State :=
  forEach (List.range 64) (fun n s =>
    wr (fibHeld f) (HUPS.FROM n) s.clock.tick (wr (fibHeld f) (HUPS.GRANTED n) 0
      (wr (fibHeld f) (HUPS.SEEN n) 0 (wr (Tab.asl f n) ASL.PREDICTED_ROOM 0 s)))) s

/-- The port leaves O5.1: every pre-assembled frame returns, and the laser is dark. -/
def leaveO51 (f : Nat) (s : State) : State :=
  wr (fibHeld f) HUPS.ENABLE_AT 0 (wr (fibN f 3) FB3.US_STATUS_LASER_ON 0 (returnAll f s))

end Sys2Proof.Machine
end

