-- ==== Sys2Proof/Machine/Activate.lean ====
section
/-! DEFINITION. Activation, PLOAM messages, keys, watchful sleep (R104 to R115). -/

namespace Sys2Proof.Machine

/-- States of the activation machine (Table 4.2). -/
def actDisabled : Nat := 0
def actO11 : Nat := 1
def actO12 : Nat := 2
def actO23 : Nat := 3
def actO4 : Nat := 4
def actO51 : Nat := 5
def actO6 : Nat := 6
def actO7 : Nat := 7

/-- Kinds of an upstream message: from the host, Serial_Number_ONU, Registration, Key_Report, Acknowledgement, Sleep_Request (Sleep and
Awake), the rejection of Tuning_Control, OMCI. -/
def umHost : Nat := 0
def umSerial : Nat := 1
def umRegistration : Nat := 2
def umKeyReport : Nat := 3
def umAck : Nat := 4
def umSleep : Nat := 5
def umAwake : Nat := 6
def umTuning : Nat := 7
def umOmci : Nat := 8

/-- The bytes that G.9804.2 gives a message of a kind from its values, ahead of their integrity code, which is added as it leaves (R107). -/
def upMessage (kind : Nat) (vals : List Nat) : List Byte := toBe 40 (Config.aes (0x100 + kind) 0 (vals.flatMap (toBe 8)))

/-- An upstream PLOAM waits for a PLOAMu. -/
def queuePloam (f kind : Nat) (vals : List Nat) (s : State) : State := { s with upPloam := s.upPloam ++ [⟨f, kind, upMessage kind vals⟩] }

/-- The random-number generator refuses draws (R487). -/
def rngFailed (s : State) : Bool := rdb s 0x12 SEC2.RNG_STATUS_RNG_FAIL

/-! ## Modes of the port's functions (R111, R452) -/

/-- Function bits of port f: activation, PLOAM, OMCI, equaliser (Table 15.6). -/
def hostAct (s : State) (f : Nat) : Bool := bit (rd s 8 THL.FUNC_EFFECTIVE) f
def hostPloam (s : State) (f : Nat) : Bool := bit (rd s 8 THL.FUNC_EFFECTIVE) (2 + f)
def hostOmci (s : State) (f : Nat) : Bool := bit (rd s 8 THL.FUNC_EFFECTIVE) (4 + f)
def hostEq (s : State) (f : Nat) : Bool := bit (rd s 8 THL.FUNC_EFFECTIVE) (6 + f)

/-- Activation, PLOAM and OMCI modes take effect while the port is in Disabled, O1.1 or O7; until then MODE_PENDING reads 1. DESIGN CHOICE
(log entry 104): it reads 1 for a pending change of any of the three. -/
def takeFuncPort (f : Nat) (s : State) : State :=
  let want := rd s 8 THL.FUNC_MODE
  let eff := rd s 8 THL.FUNC_EFFECTIVE
  let st := actState s f
  let new := [f, 2 + f, 4 + f].foldl (fun v b => setBit v b (bit want b)) eff
  let s := if (st = actDisabled ∨ st = actO11 ∨ st = actO7) ∧ new ≠ eff then
      raise 8 THL.evFUNC_CHANGED [eff, new] (wr 8 THL.FUNC_EFFECTIVE new s)
    else s
  let eff := rd s 8 THL.FUNC_EFFECTIVE
  let pend := [f, 2 + f, 4 + f].any (fun b => bit want b ≠ bit eff b)
  wrb (fibN f 2) FB2.ACT_STATUS_MODE_PENDING pend (wrb (fibN f 2) FB2.ACT_STATUS_HOST_ASSIST (bit eff f) s)

/-! ## State changes (Table 4.2, R109, R486) -/

/-- Erase a port's keys (R112, R486). -/
def eraseKeys (f : Nat) (s : State) : State :=
  let pg := fibN f 2
  let s := { s with dataKeys := s.dataKeys.filter (fun p => decide (p.1 / 8 ≠ f)), nextKeys := s.nextKeys.filter (fun p => decide (p.1 / 8 ≠ f)) }
  let s := wr (held 0x10) HSEC.KEY_BAD (rd s (held 0x10) HSEC.KEY_BAD / 2 ^ (8 * (1 - f)) % 256 * 2 ^ (8 * (1 - f))) s
  wr pg FB2.KEY_STATUS_VALID 0 (wr pg FB2.KEY_STATUS_ACTIVE 0 (wr pg FB2.KEY_STATUS_SWITCH_PENDING 0 s))

/-- Discard the ONU-ID; slot 0 loses the default Alloc-ID (R132). -/
def discardOnu (f : Nat) (s : State) : State :=
  let s := wr (Tab.asl f 0) ASL.BOUND 0 (wr (Tab.asl f 0) ASL.ALLOC_ID 0 s)
  wr (fibHeld f) HACT.GASP_READY 0 (wr (fibN f 2) FB2.ONU_ID 0x3FF { s with gaspMsg := Map.erase s.gaspMsg f })

/-- Discard the burst profiles. -/
def discardProfile (f : Nat) (s : State) : State :=
  wr (fibHeld f) HACT.PROFILE 0 (wr (fibHeld f) HACT.PREAMBLE 0 (wr (fibHeld f) HACT.OVERHEAD 0 (wr (fibN f 3) FB3.US_STATUS_RATE 3 s)))

/-- Discard ONU-ID, EqD, keys and Alloc-IDs. -/
def discardAll (f : Nat) (s : State) : State :=
  let s := wr (fibHeld f) HACT.EQD_AT 0 (wr (fibN f 2) FB2.EQD 0 (eraseKeys f (discardOnu f s)))
  { s with allocs := s.allocs.filter (fun a => decide (a / 16384 ≠ f)), unboundSeen := s.unboundSeen.filter (fun a => decide (a / 16384 ≠ f)) }

/-- Take the ONU-ID: slot 0 is bound to the default Alloc-ID, and the Dying_Gasp is rebuilt within a tick (R130, R132). -/
def takeOnu (f id : Nat) (s : State) : State :=
  let s := wr (Tab.asl f 0) ASL.BOUND 1 (wr (Tab.asl f 0) ASL.ALLOC_ID id (wr (fibN f 2) FB2.ONU_ID id s))
  wr (fibHeld f) HACT.GASP_READY (s.clock.tick + 2) s

/-- Record O7 in both copies, or clear the record (R109). -/
def recordO7 (f : Nat) (b : Bool) (s : State) : State := wrb (fibHeld f) HACT.O7_SRAM b (wrb (fibHeld f) HACT.O7_ARC b s)

/-- The registration ID is taken at entry into O1.1, and the port's keys are derived from it: PLOAM integrity, key-encryption and OMCI
integrity key (R107, R486, Table 4.5). -/
def takeRegId (f : Nat) (s : State) : State :=
  let s := forEach (List.range 9) (fun i s => wr (fibHeld f) (HACT.REG_ID i) (rd s (fibN f 2) (FB2.REG_ID i)) s) s
  let seed := (List.range 9).flatMap (fun i => toLe 4 (rd s (fibHeld f) (HACT.REG_ID i))) ++ toBe 4 (rd s (fibN f 2) FB2.SN_VENDOR) ++ toBe 4 (vssn s f)
  forEach [(3, 3), (0, 4), (4, 5)] (fun (x : Nat × Nat) s =>
    { s with dataKeys := Map.put 0 s.dataKeys (8 * f + x.1) (Config.aes x.2 0 seed % 2 ^ 128 + 1) }) s

/-- What leaving and entering a state brings with it. -/
def actEntry (f old new : Nat) (s : State) : State :=
  let s := if old = actO51 then leaveO51 f s else s
  let s := if new = actO51 then enterO51 f s else s
  let s := if new = actO7 then recordO7 f true s else if old = actO7 ∧ new = actO11 then recordO7 f false s else s
  let s := if new = actO7 ∨ old = actO7 then raise (fibN f 2) FB2.evEMERGENCY_STOP [] s else s
  let s := if new = actO4 then s else wr (fibHeld f) HACT.TO1 0 s
  let s := if new = actO6 then s else wr (fibHeld f) HACT.TO2 0 s
  let s := if new = actO11 ∨ new = actDisabled then eraseKeys f s else s
  if new = actO11 then takeRegId f s else s

/-- Move the activation machine (Table 4.8). -/
def setAct (f new : Nat) (s : State) : State :=
  let old := actState s f
  if old = new then s
  else
    let s := wr (fibN f 2) FB2.ACT_STATUS_STATE new s
    takeFuncPort f (actEntry f old new (raise (fibN f 2) FB2.evSTATE_CHANGE [old, new] s))

/-- Start TO1 and TO2: 0 is applied as 1 (R104). -/
def startTO1 (f : Nat) (s : State) : State := wr (fibHeld f) HACT.TO1 (s.clock.tick + 1 + max 1 (rd s (fibN f 2) FB2.TO1_TICKS)) s
def startTO2 (f : Nat) (s : State) : State := wr (fibHeld f) HACT.TO2 (s.clock.tick + 1 + max 1 (rd s (fibN f 2) FB2.TO2_TICKS)) s

/-- Take an EqD, in effect at the first downstream frame boundary at least 1 tick later: it came after the present frame's PSBd, so that the
next PSBd but one is that boundary (R108). -/
def takeEqd (f v : Nat) (s : State) : State :=
  wr (fibHeld f) HACT.EQD_AT (rd s (fibHeld f) HFIB.FRAME_NO + 2) (wr (fibHeld f) HACT.EQD_NEW v s)

/-- The EqD that a relative one changes: the pending one, else the one in effect (R108). -/
def lastEqd (s : State) (f : Nat) : Nat :=
  if rd s (fibHeld f) HACT.EQD_AT = 0 then rd s (fibN f 2) FB2.EQD else rd s (fibHeld f) HACT.EQD_NEW

/-- O4 to O5.1 with an EqD. -/
def activate (f v : Nat) (s : State) : State :=
  let s := takeEqd f v (setAct f actO51 s)
  raise (fibN f 2) FB2.evACTIVATED [rd s (fibN f 2) FB2.ONU_ID, v] s

/-- The port is lost in O5.1, or is back in O6 (Table 4.2). -/
def actLost (f : Nat) (s : State) : State := if actState s f = actO51 ∧ !hostAct s f then startTO2 f (setAct f actO6 s) else s
def actReturn (f : Nat) (s : State) : State := if actState s f = actO6 ∧ !hostAct s f then setAct f actO51 s else s

/-- ACT_EN as committed (Table 4.2). -/
def actEnCommitted (f : Nat) (old s : State) : State :=
  let was := rdb old (fibN f 2) FB2.ACT_CTRL_ACT_EN
  let is := rdb s (fibN f 2) FB2.ACT_CTRL_ACT_EN
  if is ∧ !was ∧ actState s f = actDisabled then setAct f actO11 s
  else if was ∧ !is then setAct f actDisabled (discardProfile f (discardAll f s))
  else s

/-- ACT_EN is written: staged, in effect at the page's commit (R520). -/
def execActEnWrite (port : Nat) (en : Bool) (s : State) : Host.Outcome State Fault Refusal :=
  settle s (onlyIf (port < 2) (hostCmd (fibN port 2) 0x40 (wrStaged (fibN port 2) (fibN port 2) FB2.ACT_CTRL_ACT_EN (b2n en))) s)

/-! ## Downstream PLOAMs (R107, R110, R451) -/

/-- The message goes to the host ring: SFC, then the 48 bytes (Table 15.5). -/
def ploamEntry (f : Nat) (msg : List Byte) (s : State) : State :=
  (sendEntry (rd s 8 THL.PLOAM_RING) 6 f (toLe 4 (sfcLow s f) ++ List.replicate 12 0 ++ (msg ++ List.replicate 48 0).take 48) s).1

/-- A port takes messages while it is not lost and its activation machine is on. -/
def ploamOpen (s : State) (f : Nat) : Bool := decide (f < 2) && decide (mode s ≠ modeDormant) && !rdb s (fibHeld f) HFIB.LOST && decide (actState s f ≠ actDisabled)

/-- The result of a message's check: with the PLOAM integrity key invalidated no check passes (R486). -/
def micOf (s : State) (f : Nat) (mic : Option Bool) : Option Bool :=
  if rd s (held 0x10) HSEC.KEY_BAD / 2 ^ (8 * f) / 8 % 2 = 1 then mic.map (fun _ => false) else mic

/-- A downstream PLOAM: `mic` is the result of a unicast message's check, none for a broadcast; `host` says that host software decides;
octet 3 of a message is its type. -/
def ploamIn (f : Nat) (host : Bool) (mic : Option Bool) (msg : List Byte) (act : State → State) (s : State) : State :=
  onlyIf (ploamOpen s f) (fun s =>
    match micOf s f mic with
    | some false => raiseFirst (fibN f 2) FB2.evMIC_ERR [fieldAt msg 2 1] (inc (fibN f 2) FB2.PLOAM_MIC_ERR s)
    | _ =>
      let s := if mic = some true then inc (fibN f 2) FB2.PLOAM_RX s else s
      if host then ploamEntry f msg s else act s) s

/-- Whether a message names the port's serial number. -/
def namesPort (s : State) (f vendor vssn : Nat) : Bool :=
  decide (vendor = rd s (fibN f 2) FB2.SN_VENDOR) && decide (vssn = Machine.vssn s f)

/-- Store the profile of a supported rate: rate, preamble, burst overhead (Table 4.2). -/
def storeProfile (f rate preamble overhead : Nat) (s : State) : State :=
  if actState s f = actO12 ∧ rate < 3 then
    wr (fibHeld f) HACT.PROFILE 1 (wr (fibHeld f) HACT.PREAMBLE preamble (wr (fibHeld f) HACT.OVERHEAD overhead (wr (fibN f 3) FB3.US_STATUS_RATE rate s)))
  else s

/-- Burst_Profile, its preamble in core cycles and its burst overhead in bytes: a supported rate is stored in either mode (R110), and O1.2
goes to O2-3. -/
def execBurstProfile (port rate preamble overhead : Nat) (mic : Option Bool) (msg : List Byte) (s : State) : Host.Outcome State Fault Refusal :=
  settle s (onlyIf (ploamOpen s port) (fun s =>
    let s := if micOf s port mic = some false then s else storeProfile port rate preamble overhead s
    ploamIn port (hostAct s port) mic msg (fun s => if actState s port = actO12 ∧ rate < 3 then setAct port actO23 s else s) s) s)

/-- Delays that the other port has drawn in a downstream frame that overlaps the present one of port f: in its own present frame, or since
port f's frame began (R106). DESIGN CHOICE (log entry 106): the head ends' frames have no common number. -/
def rivalDelays (s : State) (f : Nat) : List Nat :=
  let o := 1 - f
  ((s.snDraws.filter (fun d => decide (d.fibre = o)
    && (decide (d.frame = rd s (fibHeld o) HFIB.FRAME_NO) || decide (rd s (fibHeld f) HUPS.PSBD ≤ d.at_)))).map (·.delay)).eraseDups

/-- The number `v` of those from 0 on that are not in the rising list. -/
def skipTaken (l : List Nat) (v : Nat) : Nat := l.foldl (fun d x => if x ≤ d then d + 1 else d) v

/-- A delay for a serial-number grant: uniform over the range without those the other port drew in the same frame (R106). -/
def serialDelay (f : Nat) (s : State) : Nat × State :=
  let taken := sortBy id (rivalDelays s f)
  let range := max (taken.length + 1) (Config.ponStandard 1)
  let (v, s) := draw 64 s
  let d := skipTaken taken (v % (range - taken.length))
  (d, { s with snDraws := s.snDraws.filter (fun x => decide (rd s (fibHeld x.fibre) HFIB.FRAME_NO ≤ x.frame + 1))
                            ++ [⟨f, d, rd s (fibHeld f) HFIB.FRAME_NO, startOf (now s + 1)⟩] })

/-- A message of the terminal's own leaves on the fibre. -/
def ploamSent (f kind : Nat) (vals : List Nat) (s : State) : State := ploamOut f (upMessage kind vals) s

/-- Serial-number grant: Serial_Number_ONU after a fresh delay, unless the generator refuses draws (R106, R487). -/
def execSerialNumberGrant (port : Nat) (s : State) : Host.Outcome State Fault Refusal :=
  settle s (onlyIf (ploamOpen s port ∧ actState s port = actO23 ∧ rdb s (fibN port 3) FB3.US_CTRL_TX_EN ∧ !rngFailed s) (fun s =>
    let (d, s) := serialDelay port s
    inc (fibN port 2) FB2.SN_RESPONSES (ploamSent port umSerial [rd s (fibN port 2) FB2.SN_VENDOR, vssn s port, d] s)) s)

/-- Assign_ONU-ID. -/
def execAssignOnuId (port vendor vssn onuId : Nat) (mic : Option Bool) (msg : List Byte) (s : State) : Host.Outcome State Fault Refusal :=
  settle s (ploamIn port (hostAct s port) mic msg (fun s =>
    if actState s port = actO23 ∧ namesPort s port vendor vssn then startTO1 port (setAct port actO4 (takeOnu port onuId s)) else s) s)

/-- Ranging grant: Registration with the registration ID (R107). -/
def execRangingGrant (port : Nat) (s : State) : Host.Outcome State Fault Refusal :=
  settle s (onlyIf (ploamOpen s port ∧ actState s port = actO4 ∧ rdb s (fibN port 3) FB3.US_CTRL_TX_EN)
    (fun s => ploamSent port umRegistration ((List.range 9).map (fun i => rd s (fibHeld port) (HACT.REG_ID i))) s) s)

/-- Ranging_Time, absolute or relative (R108). -/
def execRangingTime (port : Nat) (relative : Bool) (value : Int) (mic : Option Bool) (msg : List Byte) (s : State) : Host.Outcome State Fault Refusal :=
  settle s (ploamIn port (hostAct s port) mic msg (fun s =>
    let v := ofSigned 32 ((if relative then (lastEqd s port : Int) else 0) + value)
    if actState s port = actO4 then activate port v s
    else if actState s port = actO51 then takeEqd port v s else s) s)

/-- The downstream frame boundary at which the EqD that came takes effect (R108). -/
def execEqdApply (port : Nat) (s : State) : Host.Outcome State Fault Refusal :=
  settle s (onlyIf (port < 2 ∧ rd s (fibHeld port) HACT.EQD_AT ≠ 0 ∧ rd s (fibHeld port) HACT.EQD_AT ≤ rd s (fibHeld port) HFIB.FRAME_NO) (fun s =>
    wr (fibHeld port) HACT.EQD_AT 0 (wr (fibN port 2) FB2.EQD (rd s (fibHeld port) HACT.EQD_NEW) s)) s)

/-- Deactivate_ONU-ID. -/
def execDeactivateOnuId (port : Nat) (mic : Option Bool) (msg : List Byte) (s : State) : Host.Outcome State Fault Refusal :=
  settle s (ploamIn port (hostAct s port) mic msg (fun s =>
    if actState s port = actO51 then setAct port actO11 (discardAll port (leaveO51 port s)) else s) s)

/-- Disable_Serial_Number, or its enable (R109). -/
def execDisableSerialNumber (port vendor vssn : Nat) (enable : Bool) (mic : Option Bool) (msg : List Byte) (s : State) : Host.Outcome State Fault Refusal :=
  settle s (ploamIn port (hostAct s port) mic msg (fun s =>
    let st := actState s port
    if !namesPort s port vendor vssn then s
    else if enable then (if st = actO7 then setAct port actO11 s else s)
    else if actO23 ≤ st ∧ st ≤ actO6 then setAct port actO7 s else s) s)

/-- Tuning_Control is answered with the rejection, and the state is kept (R104). -/
def execTuningControl (port : Nat) (mic : Option Bool) (msg : List Byte) (s : State) : Host.Outcome State Fault Refusal :=
  settle s (ploamIn port (hostAct s port) mic msg (queuePloam port umTuning []) s)

/-! ## Keys (R112) -/

/-- A new data key for the free index, to be valid from superframe `sfc`, reported under the key-encryption key; a key that waits is
discarded. -/
def newKey (f sfc : Nat) (s : State) : State :=
  let pg := fibN f 2
  let idx := if rd s pg FB2.KEY_STATUS_ACTIVE = 1 then 2 else 1
  let (k, s) := draw 128 s
  let s := { s with nextKeys := [(8 * f + idx, k + 1)] ++ s.nextKeys.filter (fun p => decide (p.1 / 8 ≠ f)),
                    dataKeys := Map.erase s.dataKeys (8 * f + idx) }
  let s := wr pg FB2.KEY_STATUS_VALID (setBit (rd s pg FB2.KEY_STATUS_VALID) (idx - 1) false) (wr pg FB2.KEY_STATUS_SWITCH_PENDING 1 s)
  let s := wr (fibHeld f) HACT.SWITCH_SFC sfc (wr (fibHeld f) HACT.SWITCH_KEY idx (wr pg FB2.KEY_SWITCH_SFC sfc s))
  { s with upPloam := s.upPloam ++ [⟨f, umKeyReport, toBe 40 (Config.aes 2 (Map.get 0 s.dataKeys (8 * f) - 1) (toBe 1 idx ++ toBe 16 k))⟩] }

/-- Key_Control that requests a new key: the security block serves it in either mode, unless draws are refused (R110, R112, R487). -/
def execKeyControl (port sfc : Nat) (mic : Option Bool) (msg : List Byte) (s : State) : Host.Outcome State Fault Refusal :=
  settle s (onlyIf (ploamOpen s port) (fun s =>
    let s := if micOf s port mic = some false ∨ rngFailed s then s else newKey port sfc s
    ploamIn port (hostPloam s port) mic msg id s) s)

/-- The pending key becomes valid at its superframe. -/
def execKeySwitch (port : Nat) (s : State) : Host.Outcome State Fault Refusal :=
  settle s (onlyIf (port < 2 ∧ rdb s (fibN port 2) FB2.KEY_STATUS_SWITCH_PENDING
      ∧ rd s (fibHeld port) HACT.SWITCH_SFC ≤ rd s (fibHeld port) HFIB.SFC) (fun s =>
    let pg := fibN port 2
    let idx := rd s (fibHeld port) HACT.SWITCH_KEY
    let k := Map.get 0 s.nextKeys (8 * port + idx)
    let s := { s with dataKeys := Map.put 0 s.dataKeys (8 * port + idx) k, nextKeys := s.nextKeys.filter (fun p => decide (p.1 / 8 ≠ port)) }
    let s := wr pg FB2.KEY_STATUS_VALID (setBit (rd s pg FB2.KEY_STATUS_VALID) (idx - 1) true) (wr pg FB2.KEY_STATUS_SWITCH_PENDING 0 s)
    raise pg FB2.evKEY_SWITCHED [idx] (wr pg FB2.KEY_STATUS_ACTIVE idx s)) s)

/-! ## Other PLOAMs (R114, R115, R451) -/

/-- Assign_Alloc-ID marks an Alloc-ID as assigned to the port, or takes it away. -/
def execAssignAllocId (port alloc : Nat) (assign : Bool) (mic : Option Bool) (msg : List Byte) (s : State) : Host.Outcome State Fault Refusal :=
  settle s (onlyIf (ploamOpen s port) (fun s =>
    let key := port * 16384 + alloc % 16384
    let rest := s.allocs.filter (fun a => decide (a ≠ key))
    let s := if micOf s port mic = some false then s else { s with allocs := if assign then rest ++ [key] else rest }
    ploamIn port (hostPloam s port) mic msg id s) s)

/-- The conditions of watchful sleep on a port, `interval` being the low-power interval set through OMCI (R114). -/
def sleepOk (s : State) (f interval : Nat) : Bool :=
  let m := rd s (fibN f 2) FB2.PM_CTRL_ILOWPOWER_MAX
  let lim := if 1 ≤ m ∧ m ≤ 95 then m else 95
  let svcs := (List.range 64).filterMap (fun n => if rdb s (Tab.asl f n) ASL.BOUND ∧ slotValid s f n then some (slotService s f n) else none)
  rdb s (fibN f 2) FB2.PM_CTRL_WSL_ALLOW && decide (interval ≤ lim)
    && !((leavesIn s).any (fun q => decide (leafOn s q) && decide (svcOf s q ∈ svcs) && decide (leafClass s q ≠ clsStandard)))

/-- Enter a power-management state. -/
def setPm (f new : Nat) (s : State) : State :=
  if rd s (fibN f 2) FB2.PM_STATUS_STATE = new then s
  else raise (fibN f 2) FB2.evPM_CHANGE [new] (wr (fibN f 2) FB2.PM_STATUS_STATE new s)

/-- Sleep_Allow: with the conditions of R114 the port moves as G.9804.2's machine does, to state `next`; without them it stays in ActiveHeld. -/
def execSleepAllow (port : Nat) (allow : Bool) (interval next : Nat) (mic : Option Bool) (msg : List Byte) (s : State) : Host.Outcome State Fault Refusal :=
  settle s (ploamIn port (hostPloam s port) mic msg (fun s =>
    if allow ∧ sleepOk s port interval then
      let s := if 2 ≤ next ∧ rd s (fibN port 2) FB2.PM_STATUS_STATE < 2 then queuePloam port umSleep [] s else s
      showLaser port (startOf (now s)) (setPm port (min 3 next) (wr (fibHeld port) HACT.PM_INTERVAL interval s))
    else setPm port 0 s) s)

/-- Change_Power_Level: Yunager answers it in hardware mode. -/
def execChangePowerLevel (port : Nat) (mic : Option Bool) (msg : List Byte) (s : State) : Host.Outcome State Fault Refusal :=
  settle s (ploamIn port (hostPloam s port) mic msg (queuePloam port umAck []) s)

/-- Power management at a block boundary: a frame put in a queue of a sleeping port wakes it, and its Sleep_Request (Awake) goes first; while a
condition of R114 fails it is in ActiveHeld. -/
def pmBoundary (f : Nat) (s : State) : State :=
  let wake := rdb s (fibHeld f) HFIB.LOCAL_WAKE ∧ rd s (fibN f 2) FB2.PM_STATUS_STATE = 3
  let s := wr (fibHeld f) HFIB.LOCAL_WAKE 0 s
  if wake then setPm f 0 { s with upPloam := ⟨f, umAwake, upMessage umAwake []⟩ :: s.upPloam }
  else if sleepOk s f (rd s (fibHeld f) HACT.PM_INTERVAL) then s else setPm f 0 s

/-! ## Timers (R104) -/

/-- TO1 expires in O4. -/
def execTo1Expiry (port : Nat) (s : State) : Host.Outcome State Fault Refusal :=
  settle s (onlyIf (port < 2 ∧ actState s port = actO4 ∧ rd s (fibHeld port) HACT.TO1 ≠ 0 ∧ rd s (fibHeld port) HACT.TO1 ≤ s.clock.tick + 1) (fun s =>
    setAct port actO11 (discardProfile port (discardOnu port (raise (fibN port 2) FB2.evTO_EXPIRED [1] s)))) s)

/-- TO2 expires in O6. -/
def execTo2Expiry (port : Nat) (s : State) : Host.Outcome State Fault Refusal :=
  settle s (onlyIf (port < 2 ∧ actState s port = actO6 ∧ rd s (fibHeld port) HACT.TO2 ≠ 0 ∧ rd s (fibHeld port) HACT.TO2 ≤ s.clock.tick + 1) (fun s =>
    setAct port actO11 (discardAll port (raise (fibN port 2) FB2.evTO_EXPIRED [2] s))) s)

/-! ## ACT_CMD (R110) -/

/-- A command: 3 in hardware mode, 2 when refused, else 1 and its effect. -/
def actCmd (f : Nat) (ok : State → Bool) (act : State → State) (s : State) : State :=
  hostCmd (fibN f 2) 0x48 (fun s =>
    let res := fun r => wr (fibN f 2) FB2.ACT_CMD_RESULT r
    if !rdb s (fibN f 2) FB2.ACT_STATUS_HOST_ASSIST then res 3 s
    else if ok s then res 1 (act s) else res 2 s) s

/-- ACT_CMD 1: to O1.1 from O4, O5.1 or O6, with what Table 4.2 discards. DESIGN CHOICE (log entry 104): in O7 it is refused, since O7 is left
by command 7. -/
def execActCmdO11 (port : Nat) (s : State) : Host.Outcome State Fault Refusal :=
  settle s (onlyIf (port < 2) (actCmd port (fun s => decide (actO4 ≤ actState s port ∧ actState s port ≤ actO6)) (fun s =>
    if actState s port = actO4 then setAct port actO11 (discardProfile port (discardOnu port s))
    else setAct port actO11 (discardAll port (leaveO51 port s)))) s)

/-- ACT_CMD 2: O1.2 to O2-3. -/
def execActCmdO23 (port : Nat) (s : State) : Host.Outcome State Fault Refusal :=
  settle s (onlyIf (port < 2) (actCmd port (fun s => decide (actState s port = actO12)) (setAct port actO23)) s)

/-- ACT_CMD 3: O2-3 to O4 with `ACT_DATA.ONU_ID`. -/
def execActCmdO4 (port : Nat) (s : State) : Host.Outcome State Fault Refusal :=
  settle s (onlyIf (port < 2) (actCmd port (fun s => decide (actState s port = actO23 ∧ rd s (fibN port 2) FB2.ACT_DATA_ONU_ID ≠ 0x3FF)) (fun s =>
    startTO1 port (setAct port actO4 (takeOnu port (rd s (fibN port 2) FB2.ACT_DATA_ONU_ID) s)))) s)

/-- ACT_CMD 4: O4, or O6 with the port no longer lost, to O5.1 with `ACT_EQD`. -/
def execActCmdO51 (port : Nat) (s : State) : Host.Outcome State Fault Refusal :=
  settle s (onlyIf (port < 2) (actCmd port
    (fun s => decide (actState s port = actO4) || (decide (actState s port = actO6) && !rdb s (fibHeld port) HFIB.LOST)) (fun s =>
    let v := rd s (fibN port 2) FB2.ACT_EQD
    if actState s port = actO4 then activate port v s else takeEqd port v (setAct port actO51 s))) s)

/-- ACT_CMD 5: O5.1 to O6, with TO2. -/
def execActCmdO6 (port : Nat) (s : State) : Host.Outcome State Fault Refusal :=
  settle s (onlyIf (port < 2) (actCmd port (fun s => decide (actState s port = actO51)) (fun s => startTO2 port (setAct port actO6 s))) s)

/-- ACT_CMD 6: to O7 from O2-3, O4, O5.1 or O6. -/
def execActCmdO7 (port : Nat) (s : State) : Host.Outcome State Fault Refusal :=
  settle s (onlyIf (port < 2) (actCmd port (fun s => decide (actO23 ≤ actState s port ∧ actState s port ≤ actO6)) (setAct port actO7)) s)

/-- ACT_CMD 7: O7 to O1.1. -/
def execActCmdLeaveO7 (port : Nat) (s : State) : Host.Outcome State Fault Refusal :=
  settle s (onlyIf (port < 2) (actCmd port (fun s => decide (actState s port = actO7)) (setAct port actO11)) s)

/-- APPLY_EQD in O5.1. -/
def execApplyEqd (port : Nat) (s : State) : Host.Outcome State Fault Refusal :=
  settle s (onlyIf (port < 2) (actCmd port (fun s => decide (actState s port = actO51)) (fun s =>
    takeEqd port (rd s (fibN port 2) FB2.ACT_EQD) s)) s)

/-! ## Dying gasp (R130) -/

/-- FEED_FAIL_N is asserted: a port in O5.1 starts its gasp. -/
def gaspStart (f : Nat) (s : State) : State :=
  if actState s f = actO51 then
    wr (fibN f 3) FB3.US_STATUS_GASP 1 (wr (fibHeld f) HACT.GASP_SENT 0 (wr (fibHeld f) HACT.GASP_AT (now s) s))
  else s

end Sys2Proof.Machine
end

