-- ==== Sys2Proof/Machine/Host.lean ====
section
/-! DEFINITION. The host port: rings as host software drives them, transmit descriptors, the link, resets, MSI-X (R454 to R467). -/

namespace Sys2Proof.Machine

/-! ## Rings (R458 to R461) -/

/-- Settle a ring command with its RING_RESULT; 2, 3 and 5 raise RING_REFUSED. -/
def ringResult (n r : Nat) (s : State) : State :=
  let s := wr 0xB1 (HST1.RING_CTRL_RING_RESULT n) r s
  if r = 2 ∨ r = 3 ∨ r = 5 then raise 0xB1 HST1.evRING_REFUSED [n, r] s else s

def ringState (s : State) (n : Nat) : Nat := rd s 0xB1 (HST1.RING_CTRL_STATE n)

/-- RING_TAIL_WRITE (R458). -/
def execRingTailWrite (ring value : Nat) (s : State) : Host.Outcome State Fault Refusal :=
  settle s (onlyIf (ring < 64) (hostCmd 0xB1 (0x118 + 0x20 * ring) (fun s =>
    if ringLen s ring < (value + 65536 - rd s 0xB1 (HST1.HEAD ring)) % 65536 then
      raise 0xB1 HST1.evTAIL_ERR [ring] (ringResult ring 4 s)
    else wr 0xB1 (HST1.TAIL ring) value s)) s)

/-- A ring's configuration breaks R460 or R462. -/
def ringConfigBad (s : State) (n : Nat) : Bool :=
  decide (rd s 0xB1 (HST1.RING_CFG_LOG2_LEN n) < 6) || decide (rd s 0xB1 (HST1.WB_LO n) % 8 ≠ 0)
    || (!rdb s 0xB1 (HST1.RING_CFG_KIND n) && rdb s 0xB1 (HST1.LEAF_EN n)
        && (decide (leafPort s (rd s 0xB1 (HST1.LEAF n)) ≠ 10)
            || (List.range 64).any (fun m => m ≠ n ∧ rdb s 0xB1 (HST1.LEAF_EN m) ∧ rd s 0xB1 (HST1.LEAF m) = rd s 0xB1 (HST1.LEAF n))))

/-- RING_CTRL.START (R459). -/
def execRingStart (ring : Nat) (s : State) : Host.Outcome State Fault Refusal :=
  settle s (onlyIf (ring < 64) (hostCmd 0xB1 (0x11C + 0x20 * ring) (fun s =>
    if ringState s ring ≠ ringStopped then ringResult ring 5 s
    else if ringConfigBad s ring then ringResult ring 3 s
    else
      let s := wr 0xB1 (HST1.HEAD ring) 0 (wr 0xB1 (HST1.TAIL ring) 0 s)
      let s := wr (held 0xB1) (HHST.TX_DAMAGED ring) 0 s
      let s := wr (held 0xB1) (HHST.TX_WAIT ring) 0 (wr (held 0xB1) (HHST.RSVD ring) 0 (wr (held 0xB1) (HHST.FETCHED ring) 0 s))
      ringResult ring 1 (wr 0xB1 (HST1.RING_CTRL_STATE ring) ringRunning s))) s)

/-- RING_CTRL.STOP: the ring is STOPPING from the first block boundary at least 2 blocks after (R461). -/
def execRingStop (ring : Nat) (s : State) : Host.Outcome State Fault Refusal :=
  settle s (onlyIf (ring < 64) (hostCmd 0xB1 (0x11C + 0x20 * ring) (fun s =>
    if ringState s ring = ringRunning ∧ rd s (held 0xB1) (HHST.STOP_AT ring) = 0 then
      ringResult ring 1 (wr (held 0xB1) (HHST.STOP_AT ring) (now s + 4) s)
    else s)) s)

/-- A STOPPING receive ring with no accepted frame left returns what is posted, flushed, and is STOPPED (R461). -/
def rxStopCheck (n : Nat) (s : State) : State :=
  if ringState s n = ringStopping ∧ !rdb s 0xB1 (HST1.RING_CFG_KIND n) ∧ rd s (held 0xB1) (HHST.RSVD n) = 0 then
    let k := ringPosted s n
    let s := forEach (List.range k) (fun i s =>
      { s with rxSlots := Map.put none s.rxSlots (descAddr s n (rd s 0xB1 (HST1.HEAD n) + i)) (some ⟨0, 0xF, 0, false, 9, 0, 0, 0, false, false, now s, []⟩) }) s
    let s := wr 0xB1 (HST1.HEAD n) (rd s 0xB1 (HST1.TAIL n)) (addc 0xB2 (HST2.DONE n) k s)
    let s := if k = 0 then s else wr (held 0xB1) (HHST.RETURNED n) 1 s
    raise 0xB1 HST1.evRING_STOPPED [n] (wr 0xB1 (HST1.RING_CTRL_STATE n) ringStopped s)
  else s

/-- RING_STOPPED (R461). -/
def execRingStopped (ring : Nat) (s : State) : Host.Outcome State Fault Refusal :=
  settle s (onlyIf (ring < 64) (fun s => txStopCheck ring (rxStopCheck ring s)) s)

/-- Rings whose stop has come are STOPPING from this block boundary on (R461). -/
def ringBoundary (s : State) : State :=
  forEach (List.range 64) (fun n s =>
    let a := rd s (held 0xB1) (HHST.STOP_AT n)
    if a = 0 ∨ now s + 1 < a then s
    else
      let s := wr (held 0xB1) (HHST.STOP_AT n) 0 s
      if ringState s n = ringRunning then txStopCheck n (wr 0xB1 (HST1.RING_CTRL_STATE n) ringStopping s) else s) s

/-- A write of BASE, RING_CFG, LEAF or WB: only while the ring is STOPPED (R459). -/
def ringCfgWrite (n : Nat) (f : State → State) (s : State) : State := if ringState s n = ringStopped then ringResult n 1 (f s) else ringResult n 2 s

/-! ## Transmit descriptors (R432 to R435, R465) -/

/-- Fields of a descriptor's eight words (Table 15.4). -/
def txLen (d : List Nat) : Nat := bitsOf (d.getD 2 0) 0 14
def txType (d : List Nat) : Nat := bitsOf (d.getD 2 0) 14 3
def txObject (d : List Nat) : Nat := d.getD 4 0 + 2 ^ 32 * d.getD 5 0
def txOffset (d : List Nat) : Nat := bitsOf (d.getD 7 0) 0 16
def txPay (d : List Nat) : Nat := bitsOf (d.getD 7 0) 16 14

/-- Frames that the engine has fetched and no journal has taken (R465). -/
def txHeld (s : State) : Nat := (s.ingress.filter (fun f => f.src = 10)).length

/-- A fetched frame waits at parser port 10. -/
def txEnter (n pos h : Nat) (d : List Nat) (bytes : List Byte) (seg off pay at_ : Nat) (s : State) : State :=
  let it := { blankItem with handle := h, source := 10, port := 10, length := bytes.length + 4, twoStep := bit (d.getD 2 0) 19, tsId := d.getD 3 0 % 65536,
                             aux := [0, 0, 0, 0, 0, 0, seg, off, pay, n + 1, pos] }
  putData h bytes { s with ingress := s.ingress ++ [⟨10, 0, false, at_, bytes, [], it, 0⟩] }

/-- No buffer for a host frame: an ingress overflow with outcome Dropped, STATUS 6 (R203, R465, R576). -/
def txNoBuffer (n pos : Nat) (s : State) : State := txReturn n pos 6 (inc 0xB0 HST0.INGRESS_OVERFLOW (dropUnqueued 10 s))

/-- Carve of a descriptor's buffer. -/
def txCarve (d : List Nat) : Nat := if bit (d.getD 2 0) 17 then carveExpress else carveShared

/-- FRAME: a buffer, the frame, the parser (R465). -/
def hostFrame (n pos : Nat) (d : List Nat) (bytes : List Byte) (at_ : Nat) (s : State) : State :=
  if txLen d = 0 ∨ 9600 < txLen d ∨ bytes.length ≠ txLen d then txReturn n pos 8 s
  else
    let (h, s) := askFor 8 (txLen d) (txCarve d) clIngress at_ s
    if h = emptyHandle then txNoBuffer n pos s else txEnter n pos h d bytes 0 0 0 at_ s

/-- The directory entry of ring record r. -/
def ringEntry (s : State) (r : Nat) : Option Nat :=
  if rdb s (Tab.ring r) RING.VALID then some (rd s (Tab.ring r) RING.ENTRY) else none

/-- What a serve names: a status other than 0, or the store segment (R434); the reader that an overrun moves. -/
def serveFind (s : State) (d : List Nat) : Nat × Nat :=
  let find := fun e n =>
    if dirState s e = dirFree ∨ dirState s e = dirDeleting then (5, 0)
    else if dirState s e = dirRing ∧ !ringHolds s (rd s (Tab.dir e) DIRE.RING) n then (3, 0)
    else
      match objSeg s e n with
      | none => (3, 0)
      | some g => if mapped s g then (0, g) else (3, 0)
  if !rdb s 0x1E0 ARC0.ARC_STATUS_READY then (4, 0)
  else if bit (d.getD 7 0) 30 then
    let i := txObject d % 16384
    let r := rd s (Tab.reader i) READER.RING
    if !rdb s (Tab.reader i) READER.VALID then (5, 0)
    else if readerBehind s r i then (2, i)
    else if rd s (Tab.ring r) RING.HEAD = 0xFFFFFFFF ∨ rd s (Tab.ring r) RING.HEAD < rd s (Tab.reader i) READER.POS then (1, 0)
    else match ringEntry s r with | none => (5, 0) | some e => find e (rd s (Tab.reader i) READER.POS)
  else match dirFind s (txObject d) with | none => (5, 0) | some e => find e (d.getD 6 0)

/-- A serve that sends no frame (R431, R434, R436, R437). -/
def serveRefuse (n pos : Nat) (d : List Nat) (st x : Nat) (s : State) : State :=
  let s := if st = 2 then overrunReader (rd s (Tab.reader x) READER.RING) x s
    else s
  let s := if st = 2 then raiseFirst 0x1E2 ARC2.evREADER_OVERRUN [rd s (Tab.reader (txObject d % 16384)) READER.RING, 1] s else s
  txReturn n pos st s

/-- A serve whose segment is staged and can take a reference: header buffer, INC(ARCADE_SERVE), the frame (R432). -/
def serveSend (n pos : Nat) (d : List Nat) (bytes : List Byte) (g at_ : Nat) (s : State) : State :=
  let (h, s) := askFor 8 (txLen d) (txCarve d) clIngress at_ s
  if h = emptyHandle then txNoBuffer n pos s
  else
    let s := refDo opInc 7 clArcServe (p4Handle g) 0 (touchSlot g s)
    let pay := (((Map.get none s.nand g).getD []).drop (txOffset d)).take (txPay d)
    let i := txObject d % 16384
    let s := if bit (d.getD 7 0) 30 ∧ bit (d.getD 7 0) 31 then wr (Tab.reader i) READER.POS (rd s (Tab.reader i) READER.POS + 1) s else s
    inc 0x1E0 ARC0.SERVES (txEnter n pos h d (bytes ++ pay) (p4Handle g) (txOffset d) (txPay d) at_ s)

/-- The engine takes no serve descriptors in LEAN and while SERVE_EN is clear (R435). -/
def serveOpen (s : State) : Bool := rdb s 0x1E0 ARC0.ARC_CTRL_SERVE_EN && decide (mode s ≠ modeLean)

/-- A message for the fibre joins its queue, or finds it full (R465). -/
def txMessage (n pos : Nat) (d : List Nat) (bytes : List Byte) (s : State) : State :=
  let f := bitsOf (d.getD 2 0) 18 1
  if txType d = 2 then
    if txLen d ≠ 48 ∨ bytes.length ≠ 48 then txReturn n pos 8 s
    else if !hostAct s f ∧ !hostPloam s f then txReturn n pos 0 (inc 8 THL.HANDOFF_DISCARDS s)
    else if 8 ≤ (s.upPloam.filter (fun m => m.fibre = f ∧ m.kind = umHost)).length then txReturn n pos 7 s
    else txReturn n pos 0 { s with upPloam := s.upPloam ++ [⟨f, umHost, bytes⟩] }
  else if txLen d = 0 ∨ 9600 < txLen d ∨ bytes.length ≠ txLen d then txReturn n pos 8 s
  else if !hostOmci s f then txReturn n pos 0 (inc 8 THL.HANDOFF_DISCARDS s)
  else if 16 ≤ (s.upOmci.filter (fun m => m.fibre = f)).length then txReturn n pos 7 s
  else txReturn n pos 0 { s with upOmci := s.upOmci ++ [⟨f, umOmci, bytes⟩] }

/-- The descriptor is fetched: counted, and its place on the ring taken. -/
def txTake (n : Nat) (s : State) : State :=
  let pos := rd s 0xB1 (HST1.HEAD n) + rd s (held 0xB1) (HHST.FETCHED n)
  let s := { s with txSlots := Map.put 0 s.txSlots (descAddr s n pos) 0 }
  let s := wr (held 0xB1) (HHST.TX_DAMAGED n) 0 s
  let s := wr (held 0xB1) (HHST.TX_WAIT n) 0 (wr (held 0xB1) (HHST.FETCHED n) (rd s (held 0xB1) (HHST.FETCHED n) + 1) s)
  wr (held 0xB1) HHST.TX_TICK (rd s (held 0xB1) HHST.TX_TICK + 1) (inc 0xB0 HST0.TX_FETCHED s)

/-- The descriptor stays on its ring, waiting for `w` (`HHST.TX_WAIT`). -/
def txHold (n w : Nat) (s : State) : State := wr (held 0xB1) (HHST.TX_WAIT n) w s

/-- Ring r's next descriptor is known to wait, and does so still (R432, R433, R435, R465). -/
def txWaits (s : State) (r : Nat) : Bool :=
  let w := rd s (held 0xB1) (HHST.TX_WAIT r)
  if w = 0 then false
  else if w = 1 then decide (256 ≤ txHeld s)
  else
    !serveOpen s || decide (256 ≤ txHeld s)
      || (decide (3 ≤ w) && (slotOf s (w - 3)).any (fun x => !x.ready || decide (255 ≤ (getBuf s (p4Handle (w - 3))).count)))

/-- A RUNNING transmit ring with a descriptor that the engine has not fetched. -/
def txPosted (s : State) (r : Nat) : Bool :=
  decide (ringState s r = ringRunning) && rdb s 0xB1 (HST1.RING_CFG_KIND r) && decide (rd s (held 0xB1) (HHST.FETCHED r) < ringPosted s r)

/-- Core cycle of the tick in which cycle `cyc` of the block falls. -/
def tickCycle (s : State) (cyc : Nat) : Nat := s.clock.block * blockCycles + cyc

/-- Place of ring r in the Roundabout of core cycle c of the tick: the ranking starts at ring c mod 64 (R465). -/
def txRank (c r : Nat) : Nat := (r + 64 - c % 64) % 64

/-- Ring n is the first in Roundabout order that has a descriptor the engine can fetch (R465). -/
def txFirst (s : State) (n cyc : Nat) : Bool :=
  let c := tickCycle s cyc
  (List.range 64).all (fun r => decide (txRank c n ≤ txRank c r) || !txPosted s r || txWaits s r)

/-- A serve descriptor: fetched when it can be answered; held while its segment is being staged or its count is full (R432, R433). -/
def txServe (n pos : Nat) (d : List Nat) (bytes : List Byte) (at_ : Nat) (s : State) : State :=
  let (st, x) := serveFind s d
  if txLen d = 0 ∨ bytes.length ≠ txLen d ∨ 9600 < txLen d + txPay d ∨ 65536 < txOffset d + txPay d then txReturn n pos 8 (txTake n s)
  else if rdb s (held 0xB1) (HHST.TX_DAMAGED n) then serveRefuse n pos d 4 x (txTake n s)
  else if st ≠ 0 then serveRefuse n pos d st x (txTake n s)
  else if !(slotOf s x).any (·.ready) then
    let (t, ok) := stageStart 7 x s
    if ok then txHold n (3 + x) t else txNoBuffer n pos (emptyResult 7 (txTake n s))
  else if 255 ≤ (getBuf s (p4Handle x)).count then
    txHold n (3 + x) (inc 0x1E0 ARC0.SERVE_WAITS (refDo opInc 7 clArcServe (p4Handle x) 0 (touchSlot x s)))
  else serveSend n pos d bytes x at_ (txTake n s)

/-- TX_DESCRIPTOR_FETCH: `desc` is the descriptor's eight words, `bytes` what BUF_ADDR holds (R465). -/
def execTxDescriptorFetch (ring : Nat) (desc : List Nat) (bytes : List Byte) (cyc : Nat) (s : State) : Host.Outcome State Fault Refusal :=
  let d := desc.map (· % 2 ^ 32)
  settle s (onlyIf (ring < 64 ∧ txPosted s ring ∧ rdb s 0xB0 HST0.HST_CTRL_EN ∧ rdb s 0xB0 HST0.HST_STATUS_LINK_UP
      ∧ rd s (held 0xB1) HHST.TX_TICK < 2000 ∧ !txWaits s ring ∧ txFirst s ring cyc) (fun s =>
    let pos := rd s 0xB1 (HST1.HEAD ring) + rd s (held 0xB1) (HHST.FETCHED ring)
    let at_ := startOf (now s) + cyc
    match txType d with
    | 0 => if 256 ≤ txHeld s then txHold ring 1 s else hostFrame ring pos d bytes at_ (txTake ring s)
    | 1 => if !serveOpen s ∨ 256 ≤ txHeld s then txHold ring 2 s else txServe ring pos d bytes at_ s
    | 2 => txMessage ring pos d bytes (txTake ring s)
    | 3 => txMessage ring pos d bytes (txTake ring s)
    | _ => txReturn ring pos 8 (txTake ring s)) s)

/-! ## The link (R454, R466, R467) -/

def linkFields (s : State) : List Nat := [rd s 0xB0 HST0.HST_STATUS_LINK_UP, rd s 0xB0 HST0.HST_STATUS_WIDTH, rd s 0xB0 HST0.HST_STATUS_SPEED]

def setLink (up width speed : Nat) (s : State) : State :=
  let s := wr 0xB0 HST0.HST_STATUS_LINK_UP up (wr 0xB0 HST0.HST_STATUS_WIDTH width (wr 0xB0 HST0.HST_STATUS_SPEED speed s))
  wr 0xB0 HST0.HST_STATUS_ASPM 0 (wr 0xB0 HST0.HST_STATUS_DSTATE 0 s)

/-- HOST_LINK_DOWN (R466). -/
def execHostLinkDown (s : State) : Host.Outcome State Fault Refusal :=
  settle s (onlyIf (rdb s 0xB0 HST0.HST_STATUS_LINK_UP) (fun s =>
    let s := wr (held 0xB1) HHST.LINK_LOST 1 (inc 0xB0 HST0.LINK_DOWNS (setLink 0 0 0 s))
    raise 0xB0 HST0.evLINK_CHANGE (linkFields s) s) s)

/-- HOST_LINK_UP: the link trains with a width and a speed (R454). -/
def execHostLinkUp (width speed : Nat) (s : State) : Host.Outcome State Fault Refusal :=
  settle s (onlyIf (!rdb s 0xB0 HST0.HST_STATUS_LINK_UP ∧ !rdb s 0xB0 HST0.HST_CTRL_LINK_HOLD ∧ (width = 1 ∨ width = 2 ∨ width = 4) ∧ (speed = 1 ∨ speed = 2)) (fun s =>
    let s := setLink 1 width speed s
    raise 0xB0 HST0.evLINK_CHANGE (linkFields s) s) s)

/-- FUNCTION_LEVEL_RESET (R467). -/
def execFunctionLevelReset (s : State) : Host.Outcome State Fault Refusal :=
  settle s (onlyIf (rdb s 0xB0 HST0.HST_STATUS_LINK_UP) (fun s =>
    wr (held 0xB1) HHST.FLR_DUE 1 (raise 0xB0 HST0.evFLR [] (inc 0xB0 HST0.FLRS s))) s)

/-- D3HOT_ENTRY: as a link loss while any ring is RUNNING (R467). -/
def execD3hotEntry (s : State) : Host.Outcome State Fault Refusal :=
  settle s (onlyIf (rdb s 0xB0 HST0.HST_STATUS_LINK_UP ∧ rd s 0xB0 HST0.HST_STATUS_DSTATE = 0) (fun s =>
    let s := wr 0xB0 HST0.HST_STATUS_DSTATE 3 s
    if (List.range 64).any (fun n => ringState s n = ringRunning) then wr (held 0xB1) HHST.LINK_LOST 1 s else s) s)

/-- HOST_LINK_ERROR: 0 replayed, 1 correctable, 2 uncorrectable (R39, Table 1.7). A replay's masked record has a BIT that no table gives it: a
free value, and no bit of PAGE_EVENT. -/
def execHostLinkError (kind : Nat) (s : State) : Host.Outcome State Fault Refusal :=
  settle s (match kind with
    | 0 =>
      let (v, s) := freeBits 5 (inc 0xB0 HST0.REPLAYS s)
      raiseFault 0xB0 (32 + v) (locUnit 0x10 0x3F) true [] s
    | 1 => inc 0xB0 HST0.CORRECTABLE s
    | 2 => raiseFault 0xB0 HST0.evUNCORRECTABLE (locUnit 0x10 0x3F) false [] (inc 0xB0 HST0.UNCORRECTABLE s)
    | _ => s)

/-- The descriptor that an item came from is forgotten. -/
def forgetTx (x : Item) : Item := { x with aux := x.aux.set 9 0 }

/-- At the first block boundary after a loss of the link: rings STOPPED, host-bound frames contained, fetched frames abandoned (R466). -/
def linkLost (s : State) : State :=
  let gone := s.ingress.filter (fun f => f.src = 10)
  let s := { s with ingress := s.ingress.filter (fun f => f.src ≠ 10) }
  let s := forEach gone (fun f s => serveRelease (f.item.aux.getD 6 0) (refDo opDec 8 clIngress f.item.handle 0 s)) s
  let s := { s with early := s.early.map forgetTx,
                    work := s.work.map (fun w => { w with results := w.results.map (Result.mapItem forgetTx) }) }
  containPort 10 (forEach (List.range 64) ringDrop s)

/-- Reset the pages HST and 0x0B1, the link's own state apart (R467). -/
def flrReset (s : State) : State :=
  let l := [HST0.HST_STATUS_LINK_UP, HST0.HST_STATUS_WIDTH, HST0.HST_STATUS_SPEED, HST0.HST_STATUS_ASPM, HST0.HST_STATUS_DSTATE]
  let t := resetPage 0xB1 (resetPage (held 0xB1) (resetPage 0xB0 s))
  forEach l (fun f t => wr 0xB0 f (rd s 0xB0 f) t) t

/-- A frame that the engine has written to host memory: its descriptors return and it is delivered (R21, R462, R463); one in a parked
buffer is not written and ends Fault-contained (R210). -/
def hostReturn (x : MacEnt) (s : State) : State :=
  let e := x.ent
  if poisoned s e ∨ e.ring = 0 then endMac ocContained e s
  else
    let h : RxHead := ⟨e.entType, e.xgemPort, e.ruleId, e.tsNs, e.tsSec, e.tsValid, e.tsResumed⟩
    let data := remarkBytes s e.remark e.bytes
    rxStopCheck (e.ring - 1) (releaseEnt e (removeMac e (deliver e (startOf (now s)) (ringWrite (e.ring - 1) h (e.prefixBytes ++ data) (now s) s))))

/-- At a block boundary the frames that were handed to the host engine before it return. -/
def hostReturns (s : State) : State :=
  forEach (s.macs.filter (fun x => x.port = 10 ∧ x.at_ < startOf (now s))) hostReturn s

/-- The host port at a block boundary. -/
def hostBoundary (s : State) : State :=
  let flr := rdb s (held 0xB1) HHST.FLR_DUE
  let s := if flr ∨ rdb s (held 0xB1) HHST.LINK_LOST then wr (held 0xB1) HHST.LINK_LOST 0 (linkLost s) else s
  ringBoundary (if flr then flrReset s else hostReturns s)

/-- The host port at a tick boundary. -/
def hostTick (s : State) : State := wr (held 0xB1) HHST.TX_TICK 0 s

/-- MSIX_VECTOR_UNMASK: a vector whose pending bit is set sends its message (R456). -/
def execMsixVectorUnmask (vector : Nat) (s : State) : Host.Outcome State Fault Refusal :=
  settle s (onlyIf (vector < 64 ∧ rdb s 0xB0 HST0.HST_STATUS_LINK_UP) (fun s =>
    let x := vec s vector
    if x.pendingBit then sendVec vector x.itr (setVec vector { x with masked := false, pendingBit := false } s)
    else setVec vector { x with masked := false } s) s)

end Sys2Proof.Machine
end

