-- ==== Sys2Proof/Machine/Bundle.lean ====
section
/-! DEFINITION. One bundle of a Mews core: slot formats, opcodes, registers, accumulators, the search unit (R377 to R388). -/

namespace Sys2Proof.Machine

/-! ## Fields of a slot word (Table 13.3) -/

def slOp (w : Nat) : Nat := bitsOf w 26 6
def slD (w : Nat) : Nat := bitsOf w 20 6
def slA (w : Nat) : Nat := bitsOf w 14 6
def slB (w : Nat) : Nat := bitsOf w 8 6
def slF (w : Nat) : Nat := bitsOf w 0 8
def slImm (w : Nat) : Int := toSigned 14 (bitsOf w 0 14)
def slTgt (w : Nat) : Nat := bitsOf w 0 12

/-- Slot i of a 128-bit bundle (R381). -/
def slotWord (b i : Nat) : Nat := bitsOf b (32 * i) 32

/-! ## Registers (R377 to R379) -/

/-- The physical register of a name under ring position `rp`. -/
def physReg (rp n : Nat) : Nat := if n < 32 then n else 32 + (n - 32 + rp) % 32

/-- The value of a named register. -/
def regW (m : MCore) (n : Nat) : Int := Map.get 0 m.w (physReg m.rp n)

/-- Saturation to `n` signed bits, and whether it changed the value. -/
def satTo (n : Nat) (v : Int) : Int := satSigned n v
def satNew (n : Nat) (v : Int) : Bool := decide (satSigned n v ≠ v)

/-- The 48-bit pattern of a value, and the value of a pattern. -/
def pat48 (v : Int) : Nat := ofSigned 48 v
def val48 (n : Nat) : Int := toSigned 48 (n % 2 ^ 48)

/-- The FLAGS word: GOV0 to GOV3, SAT, XERR. -/
def flagSat : Nat := 4
def flagXerr : Nat := 5

/-! ## What a slot asks for -/

/-- What a slot does: a trap (0 none); results with their latency and physical register; an X register, a loop counter; saturation; a ring
advance; a taken branch with its bubbles; a store; a port write; elements for the search unit (1 step, 2 start); the return stack (1 push, 2 pop);
a control request with its arguments. -/
structure SlotAct where
  trap : Nat := 0
  dst : List (Nat × Nat × Int) := []
  x : Option (Nat × Nat) := none
  lc : Option (Nat × Nat) := none
  sat : Bool := false
  adv : Bool := false
  jump : Option Nat := none
  bubbles : Nat := 0
  store : Option (Nat × List Byte) := none
  out : Option (Nat × Int) := none
  search : Option (Nat × Int) := none
  stack : Nat := 0
  ctl : Nat := 0
  args : List Int := []

/-- Control requests. -/
def ctlRep : Nat := 1
def ctlWait : Nat := 2
def ctlCkpt : Nat := 3
def ctlXwait : Nat := 4
def ctlRecv : Nat := 5
def ctlSend : Nat := 6
def ctlBalloc : Nat := 7
def ctlFree : Nat := 8
def ctlFlags : Nat := 9
def ctlRclr : Nat := 10
def ctlXfer : Nat := 11

/-- What a task may do, and what it meets (R374, R388, R393, R398, R402): its partition, its capture buffers, its code length, REP and CKPT
allowed, the ports it may write, its bulk bytes, its handles, the head messages of its two queues (header and payload), an epoch per role, and a free value
below 2⁴⁸. -/
structure TaskCtx where
  lo : Nat
  hi : Nat
  capLo : Nat
  capHi : Nat
  code : Nat
  repOk : Bool
  ckptMax : Option Nat
  port : Nat → Bool
  bulk : Nat
  handles : List Nat
  rx : Option Msg
  ret : Option Msg
  epoch : Nat → Nat
  free : Int
  byte : Nat → Nat

def slTrap (n : Nat) : SlotAct := { trap := n }

/-- A result visible to the next bundle. -/
def slDst (m : MCore) (n : Nat) (v : Int) : SlotAct := { dst := [(1, physReg m.rp n, v)] }

/-- A saturated result. -/
def slSat (m : MCore) (n : Nat) (v : Int) : SlotAct := { slDst m n (satTo 48 v) with sat := satNew 48 v }

/-! ## ALU operations, in S0 and S1 -/

/-- Leading redundant sign bits of a value of `n` bits (R386). -/
def expBits (n : Nat) (v : Int) : Nat :=
  ((List.range n).find? (fun k => !(decide (-(2 ^ (n - 2 - k) : Int) ≤ v) && decide (v < (2 ^ (n - 2 - k) : Int))))).getD (n - 1) |> min (n - 1)

/-- The operand of EXP and NORM: all of it, or its low 32 bits. -/
def expArg (w : Nat) (v : Int) : Nat × Int := if bit (slF w) 0 then (32, toSigned 32 (pat48 v % 2 ^ 32)) else (48, v)

/-- Opcodes 0x01 to 0x15 (Table 13.4). -/
def aluSlot (c : TaskCtx) (m : MCore) (w : Nat) : SlotAct :=
  let a := regW m (slA w)
  let b := regW m (slB w)
  let d := slD w
  let n := bitsOf w 0 6
  match slOp w with
  | 0x01 => slSat m d (a + b)
  | 0x02 => slSat m d (a - b)
  | 0x03 => slSat m d (a + slImm w)
  | 0x04 => slDst m d (slImm w)
  | 0x05 => slDst m d (val48 (pat48 a * 2 ^ 14 + bitsOf w 0 14))
  | 0x06 => slDst m d (val48 (pat48 a &&& pat48 b))
  | 0x07 => slDst m d (val48 (pat48 a ||| pat48 b))
  | 0x08 => slDst m d (val48 (pat48 a ^^^ pat48 b))
  | 0x09 => slSat m d (a * 2 ^ n)
  | 0x0A => slDst m d (val48 (pat48 a / 2 ^ n))
  | 0x0B => slDst m d (a / 2 ^ n)
  | 0x0C => slDst m d (min a b)
  | 0x0D => slDst m d (max a b)
  | 0x0E => slSat m d a.natAbs
  | 0x0F => slSat m d (-a)
  | 0x10 => if 2 ≤ n ∧ n ≤ 48 then { slDst m d (satTo n a) with sat := satNew n a } else slDst m d c.free
  | 0x11 => let (k, v) := expArg w a; slDst m d (expBits k v : Nat)
  | 0x12 => let (k, v) := expArg w a; slDst m d (v * 2 ^ expBits k v)
  | 0x13 => { lc := some (d % 2, if slImm w = 0 then pat48 a % 65536 else ofSigned 16 (slImm w)) }
  | 0x14 => if 2 ^ 24 ≤ m.sCount then slTrap 13 else { search := some (1, a) }
  | 0x15 => { search := some (2, slF w % 4) }
  | _ => slTrap 1

/-! ## S0: control -/

/-- A taken branch: a target at or beyond the code's end traps (R383). -/
def slJump (c : TaskCtx) (t bubbles : Nat) : SlotAct := if c.code ≤ t then slTrap 5 else { jump := some t, bubbles := bubbles }

/-- A branch, when its condition holds. -/
def slBranch (c : TaskCtx) (w : Nat) (b : Bool) : SlotAct := if b then slJump c (slTgt w) 2 else {}

/-- Opcodes of S0 from 0x30 on. -/
def ctlSlot (c : TaskCtx) (m : MCore) (w : Nat) : SlotAct :=
  let r := regW m (slD w)
  if bitsOf w 12 4 ≠ 0 then slTrap 1
  else match slOp w with
  | 0x30 => slBranch c w true
  | 0x31 => slBranch c w (decide (r = 0))
  | 0x32 => slBranch c w (decide (r ≠ 0))
  | 0x33 => slBranch c w (decide (r < 0))
  | 0x34 => slBranch c w (decide (0 ≤ r))
  | 0x35 => if 4 ≤ m.stack.length then slTrap 8 else { slBranch c w true with stack := 1 }
  | 0x36 => match m.stack with
    | [] => slTrap 8
    | t :: _ => { slJump c t 2 with stack := 2 }
  | 0x37 =>
    let k := bitsOf w 16 1
    let v := ((if k = 0 then m.lc0 else m.lc1) + 65535) % 65536
    if bit w 17 then slTrap 1
    else if v = 0 then { lc := some (k, v) } else { slJump c (slTgt w) 0 with lc := some (k, v) }
  | 0x38 => { adv := true }
  | 0x39 => if c.repOk then { ctl := ctlRep, args := [slTgt w + 1] } else slTrap 2
  | 0x3A => { ctl := ctlWait }
  | 0x3B =>
    let n := bitsOf w 0 10 * 16
    let at_ := m.x.getD (bitsOf w 23 3) 0
    if c.ckptMax.all (· < n) then slTrap 9
    else if at_ < c.lo ∨ c.hi < at_ + n then slTrap 5
    else { ctl := ctlCkpt, args := [at_, n] }
  | 0x3C => { ctl := ctlXwait }
  | 0x3D => slTrap (bitsOf w 0 8)
  | _ => slTrap 1

def slot0 (c : TaskCtx) (m : MCore) (w : Nat) : SlotAct :=
  if slOp w = 0 then {} else if slOp w ≤ 0x15 then aluSlot c m w else ctlSlot c m w

/-! ## S1: accumulator read, ports, messages -/

/-- EXT on an accumulator as it stood three bundles ago (R380, R382). -/
def extSlot (m : MCore) (w : Nat) : SlotAct :=
  let sh := bitsOf w 12 6
  let v := (m.accOld.getD 2 []).getD (bitsOf w 18 2) 0
  let v := (if bit w 11 ∧ 0 < sh then v + 2 ^ (sh - 1) else v) / 2 ^ sh
  if bitsOf w 0 11 ≠ 0 then slTrap 1
  else if 56 < sh then slTrap 12
  else { dst := [(2, physReg m.rp (slD w), satTo 48 v)], sat := satNew 48 v }

/-- RECV of the head message, or of none (R395). -/
def recvSlot (c : TaskCtx) (m : MCore) (w : Nat) : SlotAct :=
  let d := slD w
  if 56 < d then slTrap 14
  else
    match (if bit (slF w) 1 then c.ret else c.rx) with
    | none => slDst m d 0
    | some g =>
      let ws := g.header :: g.words
      { dst := (List.range 8).map (fun i => (1, physReg m.rp (d + i), val48 (ws.getD i 0))), ctl := ctlRecv, args := [if bit (slF w) 1 then 1 else 0] }

/-- SEND: the header and LEN payload words. -/
def sendSlot (m : MCore) (w : Nat) : SlotAct :=
  let a := slA w
  let n := bitsOf (pat48 (regW m a)) 32 3
  if 63 < a + n then slTrap 14 else { ctl := ctlSend, args := (List.range (n + 1)).map (fun i => regW m (a + i)) }

/-- Opcodes of S1 from 0x18 on. -/
def portSlot (c : TaskCtx) (m : MCore) (w : Nat) : SlotAct :=
  let a := regW m (slA w)
  let b := regW m (slB w)
  match slOp w with
  | 0x18 => extSlot m w
  | 0x19 => if bitsOf w 20 3 ≠ 0 then slTrap 1 else { x := some (bitsOf w 23 3, ofSigned 18 (a + slImm w)) }
  | 0x1A =>
    if slD w = 63 then slTrap 6
    else
      let held := if m.sCount = 0 then c.free else m.sHeld
      { dst := [(1, physReg m.rp (slD w), held), (1, physReg m.rp (slD w + 1), if m.sCount = 0 then c.free else m.sIndex)] }
  | 0x1B => let p := pat48 a % 256; if c.port p then { out := some (p, b) } else slTrap 7
  | 0x1C => recvSlot c m w
  | 0x1D => sendSlot m w
  | 0x1E => slDst m (slD w) (c.epoch (pat48 a % 256) : Nat)
  | 0x1F => if 64 ≤ c.handles.length then slTrap 10 else { ctl := ctlBalloc, args := [physReg m.rp (slD w), a] }
  | 0x20 => if (pat48 a % 2 ^ 32) ∈ c.handles ∧ 0 ≤ a ∧ a < 2 ^ 32 then { ctl := ctlFree, args := [a] } else slTrap 10
  | 0x21 => { slDst m (slD w) m.flags with ctl := if bit (slF w) 0 then ctlFlags else 0 }
  | 0x22 => { ctl := ctlRclr, args := [(slF w % 4 + 1 : Nat)] }
  | _ => slTrap 1

/-- The element count that S1's SSTEP meets: S0's search operation comes first (R385). -/
def searchCount (m : MCore) (w0 : Nat) : Nat := if slOp w0 = 0x15 then 0 else if slOp w0 = 0x14 then m.sCount + 1 else m.sCount

/-- Slot S1, behind the word `w0` of S0. -/
def slot1 (c : TaskCtx) (m : MCore) (w0 w : Nat) : SlotAct :=
  if slOp w = 0 then {} else if slOp w ≤ 0x15 then aluSlot c { m with sCount := searchCount m w0 } w else portSlot c m w

/-! ## S2: memory -/

/-- Address of an access, and the X register as it leaves it (R384). -/
def memX (w : Nat) : Nat := bitsOf w 17 3
def memAm (w : Nat) : Nat := bitsOf w 15 2
def memAddr (m : MCore) (w : Nat) : Nat :=
  let x := m.x.getD (memX w) 0
  if bit (memAm w) 0 then x else ofSigned 18 ((x : Int) + toSigned 15 (bitsOf w 0 15))
def memPost (m : MCore) (w : Nat) : Option (Nat × Nat) :=
  if bit (memAm w) 0 then some (memX w, ofSigned 18 ((m.x.getD (memX w) 0 : Int) + toSigned 15 (bitsOf w 0 15))) else none

/-- Little-endian bytes of data memory. -/
def memLoad (c : TaskCtx) (at_ n : Nat) : Nat := (List.range n).foldl (fun a i => a + c.byte (at_ + i) * 256 ^ i) 0

/-- The checks of an access: alignment, then the allowed regions (R374, R384). -/
def memTrap (c : TaskCtx) (at_ size align : Nat) (store : Bool) : Nat :=
  if at_ % align ≠ 0 then 4
  else if c.lo ≤ at_ ∧ at_ + size ≤ c.hi then 0
  else if !store ∧ c.capLo ≤ at_ ∧ at_ + size ≤ c.capHi then 0
  else 5

/-- A load of `size` bytes split into items of `item` bytes, each sign-extended, to R, R + 1. -/
def loadSlot (c : TaskCtx) (m : MCore) (w size item align : Nat) : SlotAct :=
  let at_ := memAddr m w
  let r := slD w
  let t := memTrap c at_ size align false
  if size ≠ item ∧ r = 63 then slTrap 6
  else if t ≠ 0 then slTrap t
  else { dst := (List.range (size / item)).map (fun i => (3, physReg m.rp (r + i), toSigned (8 * item) (memLoad c (at_ + item * i) item))),
         x := memPost m w, adv := bit (memAm w) 1 }

/-- A store of R, or of R and R + 1, cut to `item` bytes each by saturation. -/
def storeSlot (c : TaskCtx) (m : MCore) (w size item align : Nat) : SlotAct :=
  let at_ := memAddr m w
  let r := slD w
  let t := memTrap c at_ size align true
  let v := (List.range (size / item)).map (fun i => regW m (r + i))
  if size ≠ item ∧ r = 63 then slTrap 6
  else if t ≠ 0 then slTrap t
  else { store := some (at_, v.flatMap (fun x => toLe item (ofSigned (8 * item) (satTo (8 * item) x)))), sat := v.any (satNew (8 * item)),
         x := memPost m w, adv := bit (memAm w) 1 }

/-- XFER: the descriptor in R to R + 2 (R376). -/
def xferSlot (c : TaskCtx) (m : MCore) (w : Nat) : SlotAct :=
  let r := slD w
  let loc := regW m r
  let off := regW m (r + 1)
  let d := pat48 (regW m (r + 2))
  let n := bitsOf d 0 13
  if 61 < r then slTrap 6
  else if n < 16 ∨ 4096 < n ∨ loc < c.lo ∨ (c.hi : Int) < loc + n then slTrap 5
  else if bit d 14 then (if pat48 off ∈ c.handles then { ctl := ctlXfer, args := [loc, off, d] } else slTrap 10)
  else if off < 0 ∨ (c.bulk : Int) < off + n then slTrap 5
  else { ctl := ctlXfer, args := [loc, off, d] }

def slot2 (c : TaskCtx) (m : MCore) (w : Nat) : SlotAct :=
  match slOp w with
  | 0x00 => {}
  | 0x01 => loadSlot c m w 2 2 2
  | 0x02 => loadSlot c m w 4 4 4
  | 0x03 => loadSlot c m w 6 6 2
  | 0x04 => loadSlot c m w 4 2 4
  | 0x05 => loadSlot c m w 12 6 2
  | 0x08 => storeSlot c m w 2 2 2
  | 0x09 => storeSlot c m w 4 4 4
  | 0x0A => storeSlot c m w 6 6 2
  | 0x0B => storeSlot c m w 12 6 2
  | 0x10 => xferSlot c m w
  | _ => slTrap 1

/-! ## S3: multiply and accumulate (R379) -/

/-- Add to an accumulator: the result, and whether it left the range. -/
def accClamp (v : Int) : Int × Bool := (satSigned 104 v, decide (satSigned 104 v ≠ v))

/-- Add `l` to the accumulators, item i to accumulator i; answers them and the GOV bits to set. -/
def accAdd (acc l : List Int) : List Int × Nat :=
  let r := (List.range 4).map (fun i => accClamp (acc.getD i 0 + l.getD i 0))
  (r.map (·.1), (List.range 4).foldl (fun a i => a + (if ((r.getD i (0, false)).2 = true) then 2 ^ i else 0)) 0)

/-- The accumulators after S3: a trap, the accumulators, GOV bits to set. -/
def slot3 (m : MCore) (w : Nat) : Nat × List Int × Nat :=
  let na := slD w
  let nb := slA w
  let a := regW m na
  let b := regW m nb
  let k := bitsOf w 12 2
  let one := fun v => (List.range 4).map (fun i => if i = k then v else (0 : Int))
  let add := fun l => let (r, g) := accAdd m.acc l; (0, r, g)
  let set := fun v => let (r, g) := accClamp v; (0, (List.range 4).map (fun i => if i = k then r else m.acc.getD i 0), if g then 2 ^ k else 0)
  let a1 := regW m (na + 1)
  let b1 := regW m (nb + 1)
  let pair := decide (na = 63) || decide (nb = 63)
  let trap := fun (t : Nat) => (t, m.acc, 0)
  match slOp w with
  | 0x00 => trap 0
  | 0x01 => set (a * b)
  | 0x02 => add (one (a * b))
  | 0x03 => add (one (-(a * b)))
  | 0x04 => if 60 < nb then trap 6 else add ((List.range 4).map (fun i => a * regW m (nb + i)))
  | 0x05 => if pair then trap 6 else add [a * b - a1 * b1, a * b1 + a1 * b]
  | 0x06 => if pair then trap 6 else add [a * b + a1 * b1, a1 * b - a * b1]
  | 0x07 => if pair then trap 6 else add [a * b, a * b1, a1 * b, a1 * b1]
  | 0x08 => (0, (List.range 4).map (fun i => if bit (bitsOf w 0 4) i then 0 else m.acc.getD i 0), 0)
  | 0x09 => set (a * 2 ^ bitsOf w 0 6)
  | 0x0A => set (m.acc.getD k 0 / 2 ^ bitsOf w 0 7)
  | _ => trap 1

/-! ## The bundle -/

/-- Results that become visible now, the later-issued one last (R381, R382). -/
def land (m : MCore) : MCore :=
  let l := m.pend.map (fun p => { p with left := p.left - 1 })
  { m with w := (l.filter (fun p => p.left = 0)).foldl (fun w p => Map.put 0 w p.reg p.value) m.w, pend := l.filter (fun p => p.left ≠ 0) }

/-- Two slots name one destination. -/
def dupDest (l : List SlotAct) : Bool :=
  let ws := l.flatMap (fun a => a.dst.map (·.2.1) ++ (if a.ctl = ctlBalloc then [(a.args.getD 0 0).toNat] else []))
  let xs := l.filterMap (fun a => a.x.map (·.1))
  let lcs := l.filterMap (fun a => a.lc.map (·.1))
  decide (ws.eraseDups.length ≠ ws.length) || decide (xs.eraseDups.length ≠ xs.length) || decide (lcs.eraseDups.length ≠ lcs.length)

/-- The search unit takes an element, or is emptied (R385). -/
def searchStep (m : MCore) (e : Nat × Int) : MCore :=
  if e.1 = 2 then { m with sMin := bit e.2.toNat 0, sMag := bit e.2.toNat 1, sCount := 0, sHeld := 0, sIndex := 0 }
  else
    let key := fun (v : Int) => if m.sMag then (v.natAbs : Int) else v
    let better := m.sCount = 0 ∨ (if m.sMin then key e.2 < key m.sHeld else key m.sHeld < key e.2)
    let m := if better then { m with sHeld := e.2, sIndex := m.sCount } else m
    { m with sCount := m.sCount + 1 }

/-- Whether a word of S0 branches (R388). -/
def isBranch (w : Nat) : Bool := decide (0x30 ≤ slOp w) && decide (slOp w ≤ 0x37)

/-- The core waits in this bundle: RECV on an empty queue, XWAIT with transfers in progress (R395). -/
def bundleStalls (c : TaskCtx) (m : MCore) (b : Nat) : Bool :=
  let w1 := slotWord b 1
  (decide (slOp (slotWord b 0) = 0x3C) && !m.xfers.isEmpty)
    || (decide (slOp w1 = 0x1C) && !bit (slF w1) 0 && (if bit (slF w1) 1 then c.ret else c.rx).isNone)

/-- The registers of a core after its bundle. -/
def bundleRegs (m : MCore) (l : List SlotAct) (acc : List Int) (gov : Nat) : MCore :=
  let m := { m with pend := m.pend ++ l.flatMap (fun (a : SlotAct) => a.dst.map (fun (d : Nat × Nat × Int) => (⟨d.1, d.2.1, d.2.2⟩ : PendRes))) }
  let m := { m with x := (l.filterMap (fun (a : SlotAct) => a.x)).foldl (fun (x : List Nat) (p : Nat × Nat) => x.set p.1 p.2) m.x }
  let m := (l.filterMap (fun (a : SlotAct) => a.lc)).foldl (fun (m : MCore) (p : Nat × Nat) => if p.1 = 0 then { m with lc0 := p.2 } else { m with lc1 := p.2 }) m
  let m := (l.filterMap (fun (a : SlotAct) => a.search)).foldl searchStep m
  let fl := if l.any (fun a => a.ctl = ctlFlags) then 0 else m.flags
  let fl := fl ||| gov ||| (if l.any (·.sat) then 2 ^ flagSat else 0)
  { m with acc := acc, accOld := acc :: m.accOld.take 2, flags := fl, outs := m.outs ++ l.filterMap (·.out) }

/-- Ring and program counter after the bundle: RCLR, an advance, a repetition, a branch (R377, R388). -/
def bundleFlow (m : MCore) (l : List SlotAct) (s0 : SlotAct) : MCore :=
  let m := match l.find? (fun a => a.ctl = ctlRclr) with
    | some a => { m with pend := m.pend ++ (List.range 32).map (fun i => (⟨1, 32 + i, 0⟩ : PendRes)), rp := 0, ringStep := (a.args.getD 0 1).toNat }
    | none => m
  let m := if l.any (·.adv) then { m with rp := (m.rp + m.ringStep) % 32 } else m
  let m := if s0.stack = 1 then { m with stack := (m.pc + 1) :: m.stack } else if s0.stack = 2 then { m with stack := m.stack.drop 1 } else m
  let next := s0.jump.getD (m.pc + 1)
  if s0.ctl = ctlWait then { m with waiting := true }
  else if 1 < m.rep then { m with rep := m.rep - 1 }
  else if s0.ctl = ctlRep then { m with rep := (s0.args.getD 0 1).toNat, pc := next }
  else { m with rep := 0, pc := next }

end Sys2Proof.Machine
end

