-- ==== Sys2Proof/Machine/Fibre.lean ====
section
/-! DEFINITION. Fibre ports downstream: receiver, synchronisation, FEC, XGEM frames, the timing port, rejoins (chapter 3). -/

namespace Sys2Proof.Machine

/-- SYNC_STATE of a port. -/
def syHunt : Nat := 0
def syPre : Nat := 1
def sySync : Nat := 2
def syResync : Nat := 3
def syncState (s : State) (f : Nat) : Nat := rd s (fibPage f) FB0.DS_STATUS_SYNC_STATE
def setSync (f v : Nat) (s : State) : State := wr (fibPage f) FB0.DS_STATUS_SYNC_STATE v s

def rxEn (s : State) (f : Nat) : Bool := rdb s (fibPage f) FB0.DS_CTRL_RX_EN

/-- A port delivers codewords: in SYNC or RE-SYNC (Table 3.2). -/
def delivers (s : State) (f : Nat) : Bool := decide (sySync ≤ syncState s f)

/-- A port is lost (R77). -/
def fibLost (s : State) (f : Nat) : Bool := rdb s (fibHeld f) HFIB.LOST

/-- `LOSS_M` as applied. -/
def lossM (s : State) (f : Nat) : Nat := let m := rd s (fibPage f) FB0.DS_CTRL_LOSS_M; if 2 ≤ m ∧ m ≤ 4 then m else 4

/-! ## The reference PLL (R51, R87) -/

def pllState (s : State) : Nat := rd s 0x40 FB0.TP_STATUS_PLL_STATE

/-- An earlier fault than the loss of fibre port p itself. -/
def faultBefore (s : State) (p : Nat) : Nat :=
  match s.openFaults.filter (fun x => decide (x.1 ≠ Tag.fibre p)) with
  | (_, l) :: _ => l
  | [] => if s.blockFault = locSub (6 + p) then 0 else s.blockFault

/-- The reference is lost with its timing port p: a masked fault of the Lamplighter's level 5 until it is back (R13, R36, Table 1.7). -/
def loseReference (p : Nat) (s : State) : State :=
  let loc := locSub 0x05
  openFault Tag.reference loc (noteDouble (faultBefore s p) loc (pushEv (mkEv s 0x40 FB0.evHOLDOVER loc true [1]) s))

/-- The PLL's frequency averaged over the last 8 000 ticks (R53). -/
def pllAverage (s : State) : Int :=
  if s.pllHist.isEmpty then rdS s (held 0x40) HTP.FREQ else s.pllHist.sum.tdiv s.pllHist.length

/-- The PLL's frequency is to stand still: in HOLDOVER, and from LOS of the timing port on (R53, R70). -/
def pllStill (s : State) : Bool :=
  decide (pllState s = 2) || (decide (pllState s = 1) && rdb s (fibPage (timingPort s)) FB0.DS_STATUS_LOS)

/-- Freeze the PLL at the averaged frequency, or let it go (R53, R70). -/
def freezePll (s : State) : State :=
  let h := held 0x40
  if pllStill s = rdb s h HTP.FROZEN then s
  else if pllStill s then wr h HTP.FROZEN 1 (wrS h HTP.PULL 0 (wrS h HTP.FREQ (pllAverage s) s))
  else wr h HTP.FROZEN 0 s

/-- At most 100 ppb either way (R54). -/
def limitPull (x : Int) : Int := max (-100) (min 100 x)

/-- How far the timing port's frame stands after the offset of R12, in core cycles, from −77 760 to 77 759. -/
def phaseError (s : State) : Int :=
  let d := (rd s (fibPage (timingPort s)) FB0.FRAME_OFFSET + tickCycles - rd s (held 0x40) HTP.OFFSET % tickCycles) % tickCycles
  if 2 * d < tickCycles then d else (d : Int) - tickCycles

/-- One tick of a PLL that is locked and not frozen: its frequency moves to the timing port's by at most 0.1 ppm, and a pull of 0.1 ppm
stands while the tick does not start at the offset of R12 (R54, R89). DESIGN CHOICE (log entry 102): the limit holds per tick. -/
def trackPll (s : State) : State :=
  let h := held 0x40
  if pllState s ≠ 1 ∨ rdb s h HTP.FROZEN then s
  else
    let v := rdS s h HTP.FREQ + limitPull (rdS s (fibHeld (timingPort s)) HFIB.PPB)
    let e := if rd s (fibPage (timingPort s)) FB0.FRAME_OFFSET = 0x3FFFF then 0 else phaseError s
    let s := wrS h HTP.PULL (limitPull (-100 * e)) (wrS h HTP.FREQ v s)
    let l := s.pllHist ++ [v]
    { s with pllHist := l.drop (l.length - 8000) }

/-- The PLL's state follows the timing port: HOLDOVER while it is lost, LOCKED when it is back; FREE-RUN before the first lock (R51, R52). -/
def lockPll (s : State) : State :=
  let p := timingPort s
  let lost := fibLost s p
  let st := pllState s
  if st = 0 then
    if lost then s
    else
      let s := wr (held 0x40) HTP.OFFSET (rd s (fibPage p) FB0.FRAME_OFFSET) (wr 0x40 FB0.TP_STATUS_PLL_STATE 1 s)
      followSource (if rdb s (held 0x40) HTP.ALIGNED then s else wr (held 0x40) HTP.ALIGN 1 s)
  else if st = 1 ∧ lost then
    followSource (loseReference p (wr 0x40 FB0.TP_STATUS_PLL_STATE 2 s))
  else if st = 2 ∧ !lost then
    followSource (closeFault Tag.reference (raise 0x40 FB0.evHOLDOVER [0] (wr 0x40 FB0.TP_STATUS_PLL_STATE 1 s)))
  else s

/-- The PLL follows the timing port in state and in frequency (R51 to R53). -/
def followPll (s : State) : State := freezePll (lockPll s)

/-! ## A port is lost and returns (R77, R96) -/

/-- Flow records whose `PASSED` or rejoin mark for port `f` is set. -/
def recordsWith (s : State) (fld : Field) : List Nat :=
  (s.regs.filter (fun e => decide (0x1000000 ≤ e.1 / 32768) && decide (e.1 / 32768 < 0x2000000) && decide (e.1 % 32768 = fld.key 0) && decide (e.2 ≠ 0))).map
    (fun e => e.1 / 32768)

/-- End the rejoin of every stream on a port. -/
def endRejoins (f : Nat) (s : State) : State :=
  if rd s (fibN f 1) FB1.RJ_STREAMS = 0 then s
  else
    let s := forEach (recordsWith s (rejoinFlag f)) (fun pg s => wr pg (rejoinFlag f) 0 s) s
    let s := wr (fibPage f) FB0.DS_STATUS_REJOIN 0 (wr (fibN f 1) FB1.RJ_STREAMS 0 s)
    let s := if fibLost s f then s else closeFault (Tag.fibre f) s
    raise (fibN f 1) FB1.evREJOIN_END [] s

/-- A frame that fibre port f discards before its last byte: it counts as squashed, its buffer is freed at once (R55, R157). -/
def fibSquash (f h : Nat) (s : State) : State :=
  let s := inc 0xC0 (PRS.FCS_SQUASH (8 + f)) s
  if h = emptyHandle then s else refDo opDec (3 + f) clIngress h 0 s

/-- A discard under R84, counted. -/
def reasmAbort (f h : Nat) (s : State) : State := fibSquash f h (inc (fibN f 1) FB1.REASM_ABORT s)

/-- Take the frames being reassembled on a port that satisfy `p` out, and do `g` with each. -/
def takeReasm (f : Nat) (p : Reasm → Bool) (g : Reasm → State → State) (s : State) : State :=
  forEach (s.reasm.filter (fun r => decide (r.fibre = f) && p r)) g
    { s with reasm := s.reasm.filter (fun r => !(decide (r.fibre = f) && p r)) }

/-- Discard the frames being reassembled on a port that satisfy `p` (R84). -/
def dropReasm (f : Nat) (p : Reasm → Bool) (s : State) : State := takeReasm f p (fun r => reasmAbort f r.handle) s

/-- The port is lost: the incumbent of the other port's rejoins is gone, and passes of the other port from now on are noted (R77, R96).
DESIGN CHOICE (log entry 104): the streams that were rejoining on this port keep their rejoin flags. -/
def loseFibre (f : Nat) (s : State) : State :=
  if fibLost s f then s
  else
    let o := 1 - f
    let s := wr (fibHeld f) HFIB.SYNC_TICK 0 (wr (fibHeld f) HFIB.LOST 1 s)
    let s := endRejoins o s
    let s := forEach (recordsWith s (HSTR.PASSED o)) (fun pg s => wr pg (HSTR.PASSED o) 0 s) s
    let s := openFault (Tag.fibre f) (locSub (6 + f)) (dropReasm f (fun _ => true) s)
    followPll (actLost f (markContained (8 + f) s))

/-- The port leaves the lost state: streams that the other port passed in the meantime rejoin, under WAIT (R96). -/
def returnFibre (f : Nat) (s : State) : State :=
  if !fibLost s f then s
  else
    let o := 1 - f
    let s := wr (fibHeld f) HFIB.STALLED 0 (wr (fibHeld f) HFIB.RET_TICK s.clock.tick (wr (fibHeld f) HFIB.LOST 0 s))
    let l := (recordsWith s (HSTR.PASSED o)).filter (fun pg => !rdb s pg SREC.REJOIN_MODE)
    let s := forEach l (fun pg s => wr pg (rejoinFlag f) 1 s) s
    let n := (recordsWith s (rejoinFlag f)).length
    let s := wrb (fibPage f) FB0.DS_STATUS_REJOIN (decide (n ≠ 0)) (wr (fibN f 1) FB1.RJ_STREAMS (min 0xFFFF n) s)
    let s := if n = 0 then closeFault (Tag.fibre f) s else raise (fibN f 1) FB1.evREJOIN_START [n] s
    followPll (actReturn f (markContained (8 + f) s))

/-- In SYNC with signal fail clear: no longer lost. -/
def checkReturn (f : Nat) (s : State) : State :=
  if syncState s f = sySync ∧ !rdb s (fibPage f) FB0.DS_STATUS_SF then returnFibre f s else s

/-! ## Receiver (R70 to R73) -/

/-- LOS is asserted: the reference PLL freezes when the port is the timing port (R53, R70). -/
def execLosAsserted (port : Nat) (s : State) : Host.Outcome State Fault Refusal :=
  settle s (onlyIf (port < 2 ∧ !rdb s (fibPage port) FB0.DS_STATUS_LOS) (fun s =>
    freezePll (raise (fibPage port) FB0.evLOS_CHANGE [1] (wr (fibPage port) FB0.DS_STATUS_LOS 1 s))) s)

/-- LOS deasserts after 8 ticks above the level (R70). -/
def execLosDeasserted (port : Nat) (s : State) : Host.Outcome State Fault Refusal :=
  settle s (onlyIf (port < 2 ∧ rdb s (fibPage port) FB0.DS_STATUS_LOS) (fun s =>
    freezePll (raise (fibPage port) FB0.evLOS_CHANGE [0] (wr (fibPage port) FB0.DS_STATUS_LOS 0 s))) s)

/-- A swap request, by host software or by the port's role (R72). -/
def swapRequest (f cyc : Nat) (s : State) : State :=
  wr (fibPage f) FB0.EQ_CTRL_SWAP 1 (if rdb s (fibPage f) FB0.EQ_CTRL_SWAP then s else wr (fibHeld f) HFIB.SWAP_AT (startOf (now s) + cyc + 1) s)

/-- EQ_CTRL.SWAP is written (R72). -/
def execEqSwapRequest (port cyc : Nat) (s : State) : Host.Outcome State Fault Refusal :=
  settle s (onlyIf (port < 2) (hostCmd (fibPage port) 0x80 (swapRequest port cyc)) s)

/-- Exchange the two coefficient sets. -/
def swapSets (f : Nat) (s : State) : State :=
  forEach (List.range 18) (fun i t => wr (fibPage f) (FB0.EQ_ACTIVE i) (rd s (fibPage f) (FB0.EQ_SHADOW i))
    (wr (fibPage f) (FB0.EQ_SHADOW i) (rd s (fibPage f) (FB0.EQ_ACTIVE i)) t)) s

/-- The first PSBd at least 2 048 symbols, 52 core cycles, after the request begins `cyc` cycles into the block (R72). -/
def execEqSwapped (port cyc : Nat) (s : State) : Host.Outcome State Fault Refusal :=
  settle s (onlyIf (port < 2 ∧ rdb s (fibPage port) FB0.EQ_CTRL_SWAP ∧ rd s (fibHeld port) HFIB.SWAP_AT + 51 ≤ startOf (now s) + cyc) (fun s =>
    let pg := fibPage port
    let s := wr pg FB0.EQ_CTRL_SWAP 0 s
    let cursor := rdS s pg (FB0.EQ_SHADOW 7)
    if cursor.natAbs < 0x1000 then raise pg FB0.evEQ_REFUSED [rd s pg (FB0.EQ_SHADOW 7)] s
    else
      let new := 1 - rd s pg FB0.EQ_CTRL_ACTIVE_SET
      raise pg FB0.evEQ_SWAPPED [new] (wr pg FB0.EQ_CTRL_ACTIVE_SET new (swapSets port s))) s)

/-- A sample as R375 lays it out: slicer error sign-extended, and the decision. -/
def sampleWord (x : Bool × Int) : List Byte := toLe 2 (ofSigned 16 x.2) ++ toLe 2 (if x.1 then 1 else 0xFFFF)

/-- A capture of the tick's samples is complete: to the buffer of the EQ_ADAPT role with a CAPTURE message, or to the host ring (R73, R375). -/
def execEqCapture (port : Nat) (samples : List (Bool × Int)) (s : State) : Host.Outcome State Fault Refusal :=
  let pg := fibPage port
  settle s (onlyIf (port < 2 ∧ syncState s port = sySync ∧ rdb s pg FB0.EQ_CTRL_CAPTURE_EN ∧ !rdb s pg FB0.EQ_CTRL_FREEZE
      ∧ !rdb s pg FB0.DS_STATUS_LOS ∧ samples.length = 1024 ∧ rd s (fibHeld port) HFIB.CAP_TICK ≠ s.clock.tick + 1) (fun s =>
    let s := wr (fibHeld port) HFIB.CAP_TICK (s.clock.tick + 1) s
    let d := samples.flatMap sampleWord
    if hostEq s port then
      let off := min 3037 (rd s pg FB0.EQ_CTRL_CAPTURE_OFFSET)
      (sendEntry (rd s 8 THL.EQ_RING) 8 port (toLe 4 s.clock.tick ++ toLe 4 off ++ toLe 8 0 ++ d) s).1
    else
      let r := 1 + port
      if roleState s r ≠ roleRunning then inc 0x1C0 MEW0.CAPTURE_DROPPED s
      else
        let at_ := 0x3C000 + 0x2000 * port + 0x1000 * (s.clock.tick % 2)
        sendHw (reqFibre port) r tagCapture [at_] (dmemWrite (rd s (Tab.role r) ROLE.CORE) at_ d s)) s)

/-- 16 consecutive ticks in HUNT: both sets take the reset set (R73). -/
def execEqHuntReset (port : Nat) (s : State) : Host.Outcome State Fault Refusal :=
  settle s (onlyIf (port < 2 ∧ syncState s port = syHunt ∧ rxEn s port ∧ !rdb s (fibHeld port) HFIB.HUNT_RESET
      ∧ rd s (fibHeld port) HFIB.HUNT_TICK + 16 ≤ s.clock.tick) (fun s =>
    forEach (List.range 18) (fun i s => wr (fibPage port) (FB0.EQ_ACTIVE i) (FB0.EQ_ACTIVE i).rst (wr (fibPage port) (FB0.EQ_SHADOW i) (FB0.EQ_SHADOW i).rst s))
      (wr (fibHeld port) HFIB.HUNT_RESET 1 s)) s)

/-! ## Synchronisation (R74 to R77) -/

/-- Show an SFC; FRAME_OFFSET is shown in SYNC. -/
def showSfc (f sfc : Nat) (s : State) : State :=
  wr64 (fibPage f) FB0.SFC_LO FB0.SFC_HI sfc (wr (fibHeld f) HFIB.SFC sfc s)
def showOffset (f cyc : Nat) (s : State) : State :=
  wr (fibPage f) FB0.FRAME_OFFSET (if syncState s f = sySync then s.clock.block * blockCycles + cyc else 0x3FFFF) s

/-- Back to HUNT. -/
def toHunt (f : Nat) (s : State) : State :=
  wr (fibHeld f) HFIB.HUNT_RESET 0 (wr (fibHeld f) HFIB.HUNT_TICK s.clock.tick (setSync f syHunt s))

/-- The hunter finds a match with `errs` bits wrong and an SFC (R74, R76). DESIGN CHOICE (log entry 104): the hunter matches with the limit of
HUNT, one bit, while candidates wait in PRE-SYNC too. -/
def execPsyncCandidate (port pos errs sfc : Nat) (sfcOk : Bool) (s : State) : Host.Outcome State Fault Refusal :=
  settle s (onlyIf (port < 2 ∧ rxEn s port ∧ syncState s port ≤ syPre ∧ errs ≤ 1 ∧ sfcOk) (fun s =>
    if 4 ≤ (s.cands.filter (fun c => c.1 = port)).length then inc (fibPage port) FB0.HUNT_COUNTS_CAND_OVERFLOW s
    else setSync port syPre { s with cands := s.cands ++ [(port, pos % 6220800, sfc % 2 ^ 51)] }) s)

/-- The port enters SYNC (Table 3.2). -/
def gainSync (f pos sfc : Nat) (s : State) : State :=
  let s := { s with cands := s.cands.filter (fun c => c.1 ≠ f) }
  let s := wr (fibHeld f) HFIB.POS pos (wr (fibHeld f) HFIB.BAD_RUN 0 (setSync f sySync s))
  let s := wr (fibHeld f) HFIB.SYNC_TICK (s.clock.tick + 1) s
  let s := if rd s (fibHeld f) HFIB.FIRST_SYNC = 0 then wr (fibHeld f) HFIB.FIRST_SYNC (s.clock.tick + 1) s else s
  raise (fibPage f) FB0.evSYNC_GAINED [sfc % 2 ^ 32] (wr (fibPage f) FB0.DS_STATUS_LODS 0 (showSfc f sfc s))

/-- A candidate's next frame (Table 3.2, PRE-SYNC). -/
def preSync (f pos : Nat) (psOk : Bool) (sfc : Nat) (s : State) : State :=
  match s.cands.find? (fun c => c.1 = f ∧ c.2.1 = pos) with
  | none => s
  | some c =>
    if psOk ∧ sfc = (c.2.2 + 1) % 2 ^ 51 then gainSync f pos sfc s
    else
      let s := inc (fibPage f) FB0.HUNT_COUNTS_CAND_REJECTED { s with cands := s.cands.filter (fun x => !(decide (x.1 = f) && decide (x.2.1 = pos))) }
      if s.cands.any (fun x => x.1 = f) then s else toHunt f s

/-- The port declares LODS (R75, R77). -/
def declareLods (f : Nat) (s : State) : State :=
  let s := toHunt f (inc (fibPage f) FB0.SYNC_COUNTS_LODS_COUNT (wr (fibPage f) FB0.DS_STATUS_LODS 1 s))
  let s := wr (fibPage f) FB0.FRAME_OFFSET 0x3FFFF (wr (fibHeld f) HFIB.SYNC_TICK 0 s)
  loseFibre f (raiseFault (fibPage f) FB0.evLODS (locSub (6 + f)) false [] s)

/-- A bad frame: RE-SYNC, or the LOSS_M-th in a row (Table 3.2). -/
def badFrame (f cyc : Nat) (s : State) : State :=
  let n := rd s (fibHeld f) HFIB.BAD_RUN + 1
  let s := wr (fibHeld f) HFIB.BAD_RUN n (showSfc f ((rd s (fibHeld f) HFIB.SFC + 1) % 2 ^ 51) s)
  if syncState s f = syResync ∧ lossM s f ≤ n then declareLods f s
  else showOffset f cyc (wr (fibHeld f) HFIB.SYNC_TICK 0 (setSync f syResync (inc (fibPage f) FB0.SYNC_COUNTS_BAD_FRAMES s)))

/-- A good frame. -/
def goodFrame (f sfc cyc : Nat) (s : State) : State :=
  let s := wr (fibHeld f) HFIB.BAD_RUN 0 (setSync f sySync (showSfc f sfc s))
  let s := if rd s (fibHeld f) HFIB.SYNC_TICK = 0 then wr (fibHeld f) HFIB.SYNC_TICK (s.clock.tick + 1) s else s
  showOffset f cyc s

/-- What every frame of a port in SYNC brings: the time measurement, and activation past O1.1 (R330, Table 4.2). -/
def frameInSync (f sfc cyc : Nat) (s : State) : State :=
  if syncState s f ≠ sySync then s
  else
    let s := checkReturn f (showOffset f cyc s)
    let s := if timingPort s = f then latchPsbd sfc cyc s else s
    if actState s f = actO11 ∧ mode s ≠ modeDormant then setAct f actO12 s else s

/-- A frame is expected at a position: a candidate's, or the flywheel's. -/
def frameDue (s : State) (f pos : Nat) : Bool :=
  if syncState s f = syHunt then false
  else if syncState s f = syPre then s.cands.any (fun c => c.1 = f ∧ c.2.1 = pos)
  else decide (pos = rd s (fibHeld f) HFIB.POS)

/-- A PSBd arrives at position `pos` of fibre port `port`, `cyc` cycles into the block: `errs` PSync bits wrong, the SFC as read; `ppb` is the
port's frequency against the reference. -/
def execDownstreamFrame (port pos errs sfc : Nat) (sfcOk : Bool) (ppb : Int) (cyc : Nat) (s : State) : Host.Outcome State Fault Refusal :=
  settle s (onlyIf (port < 2 ∧ rxEn s port ∧ frameDue s port (pos % 6220800)) (fun s =>
    let psOk := decide (errs ≤ 2) && sfcOk
    let s := if syncState s port = syPre then preSync port (pos % 6220800) psOk (sfc % 2 ^ 51) s
      else if psOk ∧ sfc % 2 ^ 51 = (rd s (fibHeld port) HFIB.SFC + 1) % 2 ^ 51 then goodFrame port (sfc % 2 ^ 51) cyc s
      else badFrame port cyc s
    let s := wr (fibHeld port) HFIB.DEAD 0 (wr (fibHeld port) HFIB.FRAME_NO (rd s (fibHeld port) HFIB.FRAME_NO + 1) s)
    let s := wr (fibHeld port) HUPS.PSBD (startOf (now s) + cyc) (wrS (fibHeld port) HFIB.PPB ppb s)
    frameInSync port (sfc % 2 ^ 51) cyc s) s)

/-! ## Forward error correction (R78, R79) -/

/-- The iterations the decoder runs; MAX_ITER 0 is applied as 1. -/
def maxIter (s : State) (f : Nat) : Nat := max 1 (rd s (fibN f 1) FB1.FEC_CTRL_MAX_ITER)

/-- A codeword is decoded: it converges after `iters` iterations with `bits` corrected, or is uncorrectable when that is past the last. -/
def execFecCodeword (port iters bits : Nat) (s : State) : Host.Outcome State Fault Refusal :=
  settle s (onlyIf (port < 2 ∧ delivers s port) (fun s =>
    let pg := fibN port 1
    let s := inc pg FB1.FEC_CW s
    if maxIter s port < iters then addc (fibHeld port) HFIB.UC_TICK 1 (inc pg FB1.FEC_UNCORR_CW s)
    else if bits = 0 then s
    else addc (fibHeld port) HFIB.CB_TICK bits (addc (fibHeld port) HFIB.SD_BITS bits (addc pg FB1.FEC_CORR_BITS bits (inc pg FB1.FEC_CORR_CW s)))) s)

/-- The end of a window of 8 000 ticks: SD is declared or cleared (R79). -/
def execSignalDegradeWindow (port : Nat) (s : State) : Host.Outcome State Fault Refusal :=
  settle s (onlyIf (port < 2 ∧ rd s (fibHeld port) HFIB.SD_TICK + 8000 ≤ s.clock.tick) (fun s =>
    let sd := decide (rd s (fibN port 1) FB1.SD_THRESH ≤ rd s (fibHeld port) HFIB.SD_BITS)
    let s := wr (fibHeld port) HFIB.SD_BITS 0 (wr (fibHeld port) HFIB.SD_TICK s.clock.tick s)
    if rdb s (fibPage port) FB0.DS_STATUS_SD = sd then s
    else raise (fibPage port) FB0.evSD [b2n sd] (wrb (fibPage port) FB0.DS_STATUS_SD sd s)) s)

/-- The record of a declared SF: the fault of the port's loss, unless the port was lost already (R35, R77). -/
def sfRecord (f : Nat) (s : State) : State :=
  let loc := locSub (6 + f)
  if fibLost s f then pushEv (mkEv s (fibPage f) FB0.evSF loc false [1]) s else raiseFault (fibPage f) FB0.evSF loc false [1] s

/-- SF is declared after `LOSS_M` ticks over the threshold, or cleared after 8 below it (R79). -/
def execSignalFailChange (port : Nat) (s : State) : Host.Outcome State Fault Refusal :=
  settle s (onlyIf (port < 2) (fun s =>
    let pg := fibPage port
    if !rdb s pg FB0.DS_STATUS_SF ∧ lossM s port ≤ rd s (fibHeld port) HFIB.SF_RUN then
      loseFibre port (sfRecord port (wr (fibHeld port) HFIB.SYNC_TICK 0 (wr pg FB0.DS_STATUS_SF 1 s)))
    else if rdb s pg FB0.DS_STATUS_SF ∧ 8 ≤ rd s (fibHeld port) HFIB.SF_OK then
      let s := raise pg FB0.evSF [0] (wr pg FB0.DS_STATUS_SF 0 s)
      checkReturn port (if syncState s port = sySync then wr (fibHeld port) HFIB.SYNC_TICK (s.clock.tick + 1) s else s)
    else s) s)

/-! ## XGEM frames (R80 to R85) -/

/-- The filter entry that a port-ID matches (R82). -/
def filterOf (s : State) (f portId : Nat) : Option Nat :=
  (List.range 1024).find? (fun i => rdb s (Tab.xgf f i) XGF.VALID ∧ rd s (Tab.xgf f i) XGF.PORT_ID = portId)

/-- Frames of a fibre port waiting in its ingress buffer, DATA and FILL together (Table 1.10). -/
def fibWaiting (s : State) (f : Nat) : Nat :=
  (s.ingress.filter (fun x => x.src = 8 + f ∨ (x.src = 13 ∧ x.item.port = 8 + f))).length

/-- A whole frame leaves the decryption unit: to the front end with the walks made already, or to Town Hall or the host (R81, R82). -/
def fibFrame (f portId kind stream h : Nat) (d : List Byte) (walks : List Walk) (s : State) : State :=
  if portM s (8 + f) < d.length then fibSquash f h (inc (fibN f 1) FB1.OVERSIZE s)
  else if kind = 2 then
    if h = emptyHandle then countOverflow (8 + f) s
    else
      let s := refDo opDec (3 + f) clIngress h 0 s
      if hostOmci s f then
        (sendEntry (rd s 8 THL.OMCI_RING) 7 f (toLe 4 portId ++ toLe 4 (sfcLow s f) ++ toLe 8 0 ++ d) s).1
      else { s with thIn := s.thIn ++ [⟨1, f, d⟩] }
  else
    let crowded := 4096 ≤ fibWaiting s f ∧ h ≠ emptyHandle
    let s := if crowded then refDo opDec (3 + f) clIngress h 0 s else s
    let h := if crowded then emptyHandle else h
    let it := { blankItem with handle := h, source := if kind = 1 then 13 else 8 + f, port := 8 + f, length := d.length,
                               stream := stream, fibre := f, xgemPort := portId }
    { s with front := s.front ++ [⟨if kind = 1 then 13 else 8 + f, 0, decide (h = emptyHandle), 0, d.take (d.length - 4), walks, it, 0⟩] }

/-- The carve that a fibre MAC's request names: Express for a protected stream and for the port's Express port-IDs, else Shared (Table 7.2).
`stream` is the filter entry's stream + 1, 0 when PROTECTED is clear. -/
def xgemCarve (s : State) (f portId stream : Nat) : Nat :=
  let lo := rd s 0xE1 (if f = 0 then SQR1.XPID_A_XPID_LO else SQR1.XPID_B_XPID_LO)
  let hi := rd s 0xE1 (if f = 0 then SQR1.XPID_A_XPID_HI else SQR1.XPID_B_XPID_HI)
  if stream ≠ 0 ∨ (lo ≤ portId ∧ portId ≤ hi) then carveExpress else carveShared

/-- A fragment or a whole frame, decrypted (R84). -/
def reassemble (f portId kind stream : Nat) (lf : Bool) (d : List Byte) (s : State) : State :=
  let frame := rd s (fibHeld f) HFIB.FRAME_NO
  match s.reasm.find? (fun r => r.fibre = f ∧ r.portId = portId) with
  | some r =>
    let rest := s.reasm.filter (fun x => !(decide (x.fibre = f) && decide (x.portId = portId)))
    if lf then fibFrame f portId r.kind r.stream r.handle (r.bytes ++ d) r.walks { s with reasm := rest }
    else { s with reasm := rest ++ [{ r with bytes := r.bytes ++ d, frame := frame }] }
  | none =>
    if lf then
      let (h, s) := askNow (3 + f) d.length (xgemCarve s f portId stream) clIngress s
      fibFrame f portId kind stream h d [] s
    else if 64 ≤ (s.reasm.filter (fun r => r.fibre = f)).length then reasmAbort f emptyHandle s
    else
      let (h, s) := askNow (3 + f) (portM s (8 + f)) (xgemCarve s f portId stream) clIngress s
      { s with reasm := s.reasm ++ [⟨f, portId, h, kind, stream, frame, d, []⟩] }

/-- Whether key `idx` is installed and valid (R85). -/
def keyValid (s : State) (f idx : Nat) : Bool := decide (idx = 1 ∨ idx = 2) && bit (rd s (fibN f 2) FB2.KEY_STATUS_VALID) (idx - 1)

/-- An XGEM frame whose header and payload are good (R80, R82, R85): `pos` is its position in the downstream frame in cipher blocks. -/
def xgemIn (f portId idx : Nat) (lf : Bool) (pos : Nat) (bytes : List Byte) (s : State) : State :=
  let pg := fibN f 1
  match filterOf s f portId with
  | none => inc pg FB1.FILTER_MISS s
  | some i =>
    let e := Tab.xgf f i
    if rdb s e XGF.ENC_REQ ∧ idx = 0 then inc pg FB1.ENC_REQ_VIOL s
    else if idx ≠ 0 ∧ !keyValid s f idx then raise pg FB1.evKEY_ERR [portId, idx] (inc pg FB1.KEY_ERR s)
    else
      let d := if idx = 0 then bytes else cipher s f idx (rd s (fibHeld f) HFIB.SFC) pos bytes
      reassemble f portId (rd s e XGF.KIND) (if rdb s e XGF.PROTECTED then rd s e XGF.STREAM + 1 else 0) lf d s

/-- The HEC [12:0] of a 64-bit structure checks. -/
def hecOk (h : Nat) : Bool := decide (Config.hec (h / 2 ^ 13) % 2 ^ 13 = h % 2 ^ 13)

/-- The structure as it stands when its HEC checks, or with the one bit wrong that makes it check; none otherwise (R80). -/
def hecFix (h : Nat) : Option Nat :=
  if hecOk h then some h else ((List.range 64).find? (fun i => hecOk (h ^^^ 2 ^ i))).map (fun i => h ^^^ 2 ^ i)

/-- The fields of an XGEM header (R80): PLI, key index, XGEM port-ID, LF. -/
def xgPli (h : Nat) : Nat := bitsOf h 50 14
def xgKey (h : Nat) : Nat := bitsOf h 48 2
def xgPort (h : Nat) : Nat := bitsOf h 32 16
def xgLast (h : Nat) : Bool := bit h 13

/-- A header that cannot be used: the rest of the downstream frame's payload is discarded (R80). -/
def xgemDead (f : Nat) (s : State) : State :=
  let s := wr (fibHeld f) HFIB.DEAD 1 (inc (fibN f 1) FB1.HEC_UNCORR s)
  raiseFirst (fibN f 1) FB1.evHEC_UNCORR [sfcLow s f] s

/-- An XGEM frame with a payload byte in an uncorrectable codeword: it is discarded, and what is reassembled of its frame with it; it
counts as squashed alone (R80, R157; log entry 103). -/
def xgemSpoilt (f portId : Nat) (s : State) : State :=
  if s.reasm.any (fun r => decide (r.fibre = f) && decide (r.portId = portId)) then
    takeReasm f (fun r => decide (r.portId = portId)) (fun r => fibSquash f r.handle) s
  else fibSquash f emptyHandle s

/-- An XGEM frame of the downstream payload: its header, whether a byte of the header or of the payload lies in an uncorrectable codeword;
`bytes` is the payload as it stands on the fibre (R80). -/
def execXgemFrame (port header : Nat) (hdrUncorr uncorr : Bool) (pos : Nat) (bytes : List Byte) (s : State) : Host.Outcome State Fault Refusal :=
  settle s (onlyIf (port < 2 ∧ delivers s port ∧ !fibLost s port ∧ !rdb s (fibHeld port) HFIB.DEAD) (fun s =>
    match if hdrUncorr then none else hecFix header with
    | none => xgemDead port s
    | some h =>
      if xgPort h = 0xFFFF then s
      else if uncorr then xgemSpoilt port (xgPort h) s
      else xgemIn port (xgPort h) (xgKey h) (xgLast h) pos (bytes.take (xgPli h)) s) s)

/-- A frame that is not complete by the end of the downstream frame after its last fragment's is discarded (R84). -/
def execReasmTimeout (port portId : Nat) (s : State) : Host.Outcome State Fault Refusal :=
  settle s (onlyIf (port < 2) (fun s =>
    dropReasm port (fun r => decide (r.portId = portId) && decide (r.frame + 2 ≤ rd s (fibHeld port) HFIB.FRAME_NO)) s) s)

/-! ## The XGEM port filter (R83, R100) -/

/-- TBL_CMD 1. -/
def execXgemFilterRead (port : Nat) (s : State) : Host.Outcome State Fault Refusal :=
  settle s (onlyIf (port < 2) (tblCmd (fibN port 1) (fun s =>
    tblResult (fibN port 1) 0 (readRecord (fibN port 1) (Tab.xgf port (rd s (fibN port 1) FB1.TBL_ADDR)) XGF.fields s))) s)

/-- The result of a filter write: the conditions in the order of the codes. -/
def filterResult (s : State) (f i : Nat) : Nat :=
  let p := fibN f 1
  let id := dataField s p XGF.PORT_ID
  if dataField s p XGF.VALID = 1 ∧ (List.range 1024).any (fun j => j ≠ i ∧ rdStaged s (Tab.xgf f j) XGF.VALID = 1 ∧ rdStaged s (Tab.xgf f j) XGF.PORT_ID = id) then 1
  else if dataField s p XGF.KIND = 3 ∨ (dataField s p XGF.PROTECTED = 1 ∧ dataField s p XGF.KIND ≠ 0) then 2
  else if 5242880 ≤ dataField s p XGF.STREAM then 3
  else 0

/-- TBL_CMD 2. -/
def execXgemFilterWrite (port : Nat) (s : State) : Host.Outcome State Fault Refusal :=
  settle s (onlyIf (port < 2) (tblCmd (fibN port 1) (fun s =>
    let i := rd s (fibN port 1) FB1.TBL_ADDR
    let r := filterResult s port i
    tblResult (fibN port 1) r (if r = 0 then stageRecord (fibN port 1) (Tab.xgf port i) XGF.fields s else s))) s)

/-- TBL_CMD 3. -/
def execXgemFilterInvalidate (port : Nat) (s : State) : Host.Outcome State Fault Refusal :=
  settle s (onlyIf (port < 2) (tblCmd (fibN port 1) (fun s =>
    tblResult (fibN port 1) 0 (wrStaged (fibN port 1) (Tab.xgf port (rd s (fibN port 1) FB1.TBL_ADDR)) XGF.VALID 0 s))) s)

/-! ## The timing port (R86 to R89) -/

/-- POLICY, 3 applied as NON-REVERTIVE. -/
def tpPolicy (s : State) : Nat := let p := rd s 0x40 FB0.TP_CTRL_POLICY; if p = 3 then 1 else p

/-- A port qualifies as timing port (R86). -/
def qualifies (s : State) (f : Nat) : Bool :=
  let t := rd s (fibHeld f) HFIB.SYNC_TICK
  decide (t ≠ 0) && decide (t + 7999 ≤ s.clock.tick) && !rdb s (fibPage f) FB0.DS_STATUS_SD && !rdb s (fibPage f) FB0.DS_STATUS_SF
    && decide ((rdS s (fibHeld f) HFIB.PPB).natAbs ≤ 2000)

/-- The timing port becomes `p` (R89, R331). -/
def changePort (p : Nat) (s : State) : State :=
  let s := wr 0x40 FB0.TP_STATUS_CURRENT p (wr (fibPage p) FB0.DS_STATUS_TIMING 1 (wr (fibPage (1 - p)) FB0.DS_STATUS_TIMING 0 s))
  let off := rd s (fibPage p) FB0.FRAME_OFFSET
  let s := wr (held 0x40) HTP.MOVED 1 (wr (held 0x40) HTP.FORCE 0 (wr (held 0x40) HTP.OFFSET off (inc 0x40 FB0.TP_CHANGES s)))
  followPll (followSource (dropMeasurement (raise 0x40 FB0.evTP_CHANGED [p, off] s)))

/-- The timing port is lost and the other qualifies, under a policy that changes (Table 3.3). -/
def lossChange (s : State) : Bool :=
  decide (tpPolicy s ≠ 0) && decide (pllState s ≠ 0) && fibLost s (timingPort s) && qualifies s (1 - timingPort s)

/-- The preferred port has qualified for `TP_WTR` ticks under REVERTIVE. -/
def wtrDue (s : State) : Bool :=
  let p := rd s 0x40 FB0.TP_CTRL_PREFERRED
  let t := rd s (held 0x40) HTP.QUAL_TICK
  decide (tpPolicy s = 2) && decide (timingPort s ≠ p) && decide (t ≠ 0) && decide (t + rd s 0x40 FB0.TP_WTR ≤ s.clock.tick + 1)

/-- At a tick boundary: an automatic change first, then a forced one (R87 to R89). -/
def execTimingPortChange (s : State) : Host.Outcome State Fault Refusal :=
  settle s (onlyIf s.clock.tickOpen (fun s =>
    let o := 1 - timingPort s
    if lossChange s then changePort o s
    else if rdb s (held 0x40) HTP.FORCE then wr 0x40 FB0.TP_STATUS_FORCE_RESULT 1 (changePort o s)
    else s) s)

/-- At tick `t` the other port takes over at start-up: 80 000 ticks after it reached SYNC without the preferred one (R87). -/
def startupDue (s : State) (t : Nat) : Bool :=
  let p := timingPort s
  let first := rd s (fibHeld (1 - p)) HFIB.FIRST_SYNC
  decide (pllState s = 0) && decide (tpPolicy s ≠ 0) && decide (rd s (fibHeld p) HFIB.FIRST_SYNC = 0) && decide (first ≠ 0) && decide (first + 79999 ≤ t)

/-- TP_FORCE.FORCE (R88). -/
def execTpForce (s : State) : Host.Outcome State Fault Refusal :=
  settle s (hostCmd 0x40 0x204 (fun s =>
    let refuse := fun r s => raise 0x40 FB0.evTP_REFUSED [r] (wr 0x40 FB0.TP_STATUS_FORCE_RESULT r s)
    if lossChange s ∨ wtrDue s ∨ startupDue s (s.clock.tick + 1) then refuse 3 s
    else if !qualifies s (1 - timingPort s) then refuse 2 s
    else wr (held 0x40) HTP.FORCE 1 s) s)

/-- Under REVERTIVE the preferred port takes over (Table 3.3). -/
def execTpWtrExpiry (s : State) : Host.Outcome State Fault Refusal :=
  settle s (onlyIf (s.clock.tickOpen ∧ wtrDue s ∧ pllState s ≠ 0) (fun s => changePort (rd s 0x40 FB0.TP_CTRL_PREFERRED) s) s)

/-- At start-up the other port becomes timing port (R87). -/
def execTpStartupTimeout (s : State) : Host.Outcome State Fault Refusal :=
  settle s (onlyIf (s.clock.tickOpen ∧ startupDue s s.clock.tick) (changePort (1 - timingPort s)) s)

/-! ## Rejoins (R97) -/

/-- Streams still rejoin `RJ_WARN` ticks after the port returned. -/
def execRejoinStalled (port : Nat) (s : State) : Host.Outcome State Fault Refusal :=
  settle s (onlyIf (port < 2 ∧ rd s (fibN port 1) FB1.RJ_STREAMS ≠ 0 ∧ !fibLost s port ∧ !rdb s (fibHeld port) HFIB.STALLED
      ∧ rd s (fibHeld port) HFIB.RET_TICK + rd s (fibN port 1) FB1.RJ_WARN ≤ s.clock.tick) (fun s =>
    raise (fibN port 1) FB1.evREJOIN_STALLED [rd s (fibN port 1) FB1.RJ_STREAMS] (wr (fibHeld port) HFIB.STALLED 1 s)) s)

/-- RJ_CTRL.END: the rejoins end at the next block boundary. -/
def execRejoinEndCmd (port : Nat) (s : State) : Host.Outcome State Fault Refusal :=
  settle s (onlyIf (port < 2) (hostCmd (fibN port 1) 0xA0 (fun s =>
    wr (fibHeld port) HFIB.RJ_END 1 (wr (fibN port 1) FB1.RJ_CTRL_END 1 s))) s)

/-! ## Boundaries -/

/-- A fibre port's share of a block boundary. -/
def fibBoundary (f : Nat) (s : State) : State :=
  let s := if rdb s (fibHeld f) HFIB.RJ_END then
      wr (fibHeld f) HFIB.RJ_END 0 (wr (fibN f 1) FB1.RJ_CTRL_END 0 (endRejoins f s)) else s
  upBoundary f (pmBoundary f s)

/-- RX_EN as committed: with the receiver off the port hunts for nothing and is lost. -/
def rxEnCommitted (f : Nat) (old s : State) : State :=
  if rxEn old f ∧ !rxEn s f then
    let s := { s with cands := s.cands.filter (fun c => c.1 ≠ f) }
    loseFibre f (wr (fibPage f) FB0.FRAME_OFFSET 0x3FFFF (wr (fibPage f) FB0.DS_STATUS_LODS 1 (toHunt f s)))
  else if rxEn s f ∧ !rxEn old f then toHunt f s
  else s

/-- A fibre port's share of a tick boundary: SF runs, LowPower ticks, received power. -/
def fibTick (f : Nat) (s : State) : State :=
  let ovr := decide (delivers s f) && decide (rd s (fibN f 1) FB1.FEC_CTRL_SF_THRESH ≤ rd s (fibHeld f) HFIB.UC_TICK)
  let s := if ovr then wr (fibHeld f) HFIB.SF_OK 0 (addc (fibHeld f) HFIB.SF_RUN 1 s)
    else wr (fibHeld f) HFIB.SF_RUN 0 (addc (fibHeld f) HFIB.SF_OK 1 s)
  let s := wr (fibHeld f) HFIB.UC_TICK 0 s
  let s := if rd s (fibN f 2) FB2.PM_STATUS_STATE = 3 then inc (fibN f 2) FB2.PM_LOWPOWER_TICKS s else s
  let s := if rxEn s f then wrS (fibPage f) FB0.RX_POWER (Config.sensor 0x101 f s.clock.tick) s else s
  upTick f s

/-- Both ports, and what their comparison shows: QUAL, TP_FREQ_DIFF, how long the preferred port has qualified; before the first lock the
preferred port is the timing port (R86, R87). -/
def fibreTick (s : State) : State :=
  let s := trackPll (fibTick 1 (fibTick 0 s))
  let s := wr 0x40 FB0.TP_STATUS_QUAL (b2n (qualifies s 0) + 2 * b2n (qualifies s 1)) s
  let s := wrS 0x40 FB0.TP_FREQ_DIFF (rdS s (fibHeld 1) HFIB.PPB - rdS s (fibHeld 0) HFIB.PPB) s
  let p := rd s 0x40 FB0.TP_CTRL_PREFERRED
  let s := if !qualifies s p then wr (held 0x40) HTP.QUAL_TICK 0 s
    else if rd s (held 0x40) HTP.QUAL_TICK = 0 then wr (held 0x40) HTP.QUAL_TICK (s.clock.tick + 1) s else s
  if pllState s = 0 ∧ !rdb s (held 0x40) HTP.MOVED then
    followPll (wr 0x40 FB0.TP_STATUS_CURRENT p (wr (fibPage p) FB0.DS_STATUS_TIMING 1 (wr (fibPage (1 - p)) FB0.DS_STATUS_TIMING 0 s)))
  else s

end Sys2Proof.Machine
end

