-- ==== Sys2Proof/Machine/Mews.lean ====
section
/-! DEFINITION. The Mews cores and roles: dispatch, bundles, checks, faults and restarts, role records (chapter 13). -/

namespace Sys2Proof.Machine

/-! ## Cores -/

/-- A core between tasks, with the roles still to run. -/
def mcoreIdle (todo : List Nat) : MCore :=
  { role := 0, pc := 0, w := [], acc := [0, 0, 0, 0], accOld := List.replicate 3 [0, 0, 0, 0], x := List.replicate 8 0, lc0 := 0, lc1 := 0, rp := 0,
    ringStep := 1, stack := [], flags := 0, sMin := false, sMag := false, sCount := 0, sHeld := 0, sIndex := 0, pend := [], rep := 0, cycles := 0,
    outs := [], xfers := [], ckptRun := none, ckptDone := none, waiting := false, stalled := none, todo := todo }

def coreOf (s : State) (c : Nat) : MCore := (Map.get none s.mcores c).getD (mcoreIdle [])
def putCore (c : Nat) (m : MCore) (s : State) : State :=
  { s with mcores := Map.put none s.mcores c (if m = mcoreIdle [] then none else some m) }

/-- STATE of a core (Table 13.11). -/
def coreIdle : Nat := 0
def coreRunning : Nat := 1
def coreFaulted : Nat := 2
def coreTesting : Nat := 3
def coreOff : Nat := 4
def coreState (s : State) (c : Nat) : Nat := rd s 0x1C0 (MEW0.CORE_STATE c)
def setCoreState (c st : Nat) (s : State) : State := wr 0x1C0 (MEW0.CORE_STATE c) st s
def coreWorks (s : State) (c : Nat) : Bool := decide (coreState s c = coreIdle) || decide (coreState s c = coreRunning)

/-- The running role of a core. -/
def taskRole (m : MCore) : Nat := m.role - 1

/-- Bytes of a core's data memory. -/
def dmemByte (s : State) (c at_ : Nat) : Nat := Map.get 0 s.dmem (c * 2 ^ 18 + at_ % 2 ^ 18)
def dmemRead (s : State) (c at_ n : Nat) : List Byte := (List.range n).map (fun i => BitVec.ofNat 8 (dmemByte s c (at_ + i)))

/-! ## Roles -/

def rosanegRole (r : Nat) : Bool := decide (1 ≤ r) && decide (r < 0x20)
def customerRole (r : Nat) : Bool := decide (0x20 ≤ r) && decide (r < 0xFF)
def roleF (s : State) (r : Nat) (f : Field) : Nat := rd s (Tab.role r) f
def roleCore (s : State) (r : Nat) : Nat := roleF s r ROLE.CORE
def roleOn (s : State) (r : Nat) : Bool := roleF s r ROLE.ENABLE ≠ 0
def setRole (r : Nat) (f : Field) (v : Nat) (s : State) : State := wr (Tab.role r) f v s
def roleImage (s : State) (r : Nat) : Option MewImage := Map.get none s.images r

/-- All roles of the table. -/
def allRoles : List Nat := List.range 256

/-- A Rosaneg role's standby core, when it has one (R400). -/
def roleStandby (s : State) (r : Nat) : Option Nat :=
  if rosanegRole r ∧ roleOn s r ∧ roleF s r ROLE.STANDBY_EN ≠ 0 then some (roleF s r ROLE.STANDBY) else none

/-- The page on which a committed role record waits for the tick boundary (R390). -/
def roleNext (r : Nat) : Nat := Tab.role r + 0x100

/-- Customer roles run only with CUSTOMER_EN and in four modes (R391). -/
def customerMay (s : State) : Bool := rdb s 0x1C0 MEW0.MEW_CTRL_CUSTOMER_EN && journalOpen s

/-- The role's task may be dispatched on core c. -/
def roleRuns (s : State) (c r : Nat) : Bool :=
  decide (roleState s r = roleRunning) && roleOn s r && decide (roleCore s r = c) && (rosanegRole r || (customerRole r && customerMay s))

/-- The counts of roles run and stood by for, as the core registers show them. -/
def showCores (s : State) : State :=
  forEach (List.range 8) (fun c t =>
    wr 0x1C0 (MEW0.CORE_ROLES c) (min 15 ((allRoles.filter (fun r => roleOn s r ∧ roleCore s r = c)).length))
      (wr 0x1C0 (MEW0.CORE_STANDBY_FOR c) (min 3 ((allRoles.filter (fun r => roleStandby s r = some c)).length)) t)) s

/-- The role loses its standby and its checkpoints (R400). -/
def dropStandby (r : Nat) (s : State) : State :=
  { setRole r ROLE.STANDBY_EN 0 s with ckpts := Map.put none s.ckpts r none }

/-- The masking of a core fault ends when no role waits for its first task (R404). -/
def mewsMaskEnd (s : State) : State :=
  if allRoles.any (fun r => rdb s (Tab.role r) HROLE.MASKING) then s else closeFault Tag.mews s

/-- A role leaves RUNNING: its handles go back and its tasks end (R398). -/
def parkRole (r st : Nat) (s : State) : State :=
  let s := setRole r ROLE.STATE st (wr (Tab.role r) HROLE.MASKING 0 (wr (Tab.role r) HROLE.STOP_REQ 0 s))
  mewsMaskEnd (freeHandles r { s with roleDue := s.roleDue.filter (fun x => x ≠ r) })

/-- The role becomes HELD (R400, R403). -/
def holdRole (r : Nat) (s : State) : State := raise 0x1C0 MEW0.evROLE_HELD [r] (parkRole r roleHeld s)

/-- The role becomes STOPPED, for a trap code, an overrun (0x100) or a core fault (0x101). -/
def stopRole (r code : Nat) (s : State) : State := raise 0x1C0 MEW0.evROLE_STOPPED [r, code] (parkRole r roleStopped s)

/-- The role restarts at the next tick boundary. -/
def dueRole (r : Nat) (s : State) : State :=
  let s := setRole r ROLE.STATE roleRestarting s
  if r ∈ s.roleDue then s else { s with roleDue := s.roleDue ++ [r] }

/-! ## Tasks -/

/-- The task on a core ends in any way: its cycles are counted, and the core waits for the next dispatch (R391, R407). -/
def endTask (c : Nat) (s : State) : State :=
  let m := coreOf s c
  if m.role = 0 then s
  else
    let n := rd s (held 0x1C0) (HMEW.CYCLES c) + m.cycles
    let s := wrMax 0x1C0 (MEW0.CYCLES_MAX c) n (wr (held 0x1C0) (HMEW.CYCLES c) n s)
    let s := setRole (taskRole m) ROLE.CYCLES_LAST (min (2 ^ 18 - 1) m.cycles) s
    let s := putCore c (mcoreIdle m.todo) s
    if coreState s c = coreRunning then setCoreState c coreIdle s else s

/-- The roles a core runs in this tick: by PRIORITY, then by number (R391). -/
def dispatchList (s : State) (c : Nat) : List Nat :=
  let l := allRoles.filter (roleRuns s c)
  (List.range 256).flatMap (fun p => l.filter (fun r => roleF s r ROLE.PRIORITY = p))

/-- A task's state at its start (R391). -/
def startTask (s : State) (r : Nat) (todo : List Nat) : MCore :=
  let base := roleF s r ROLE.DATA_BASE
  { mcoreIdle todo with role := r + 1, pc := ((roleImage s r).map (·.entry)).getD 0, w := Map.put 0 [] 30 (base : Int), x := List.replicate 7 0 ++ [base] }

/-- MEWS_DISPATCH: the core starts its next task (R391). -/
def execMewsDispatch (core : Nat) (s : State) : Host.Outcome State Fault Refusal :=
  settle s (onlyIf (core < 8 ∧ rdb s 0x1C0 MEW0.MEW_CTRL_EN ∧ coreWorks s core ∧ (coreOf s core).role = 0
      ∧ !(s.clock.tickOpen && !s.roleDue.isEmpty)) (fun s =>
    let s := if rd s (held 0x1C0) (HMEW.DISP core) = s.clock.tick + 1 then s
      else putCore core (mcoreIdle (dispatchList s core)) (wr (held 0x1C0) (HMEW.CYCLES core) 0 (wr (held 0x1C0) (HMEW.DISP core) (s.clock.tick + 1) s))
    match (coreOf s core).todo.filter (roleRuns s core) with
    | [] => putCore core (mcoreIdle []) s
    | r :: rest => setCoreState core coreRunning (putCore core (startTask s r rest) s)) s)

/-- Ports that a role may write (Table 13.5). -/
def portAllowed (r p : Nat) : Bool :=
  (decide (r = 1) && decide (p ≤ 0x12)) || (decide (r = 2) && decide (0x20 ≤ p) && decide (p ≤ 0x32))
    || (decide (4 ≤ r) && decide (r ≤ 7) && decide (0x80 + 16 * (r - 4) ≤ p) && decide (p ≤ 0x8F + 16 * (r - 4)))
    || (decide (r = 8) && decide (p = 0x40)) || (decide (r = 9) && decide (0xC0 ≤ p) && decide (p ≤ 0xC3))

/-- What the task of role `r` on core `c` may do and meets. -/
def taskCtx (s : State) (c r : Nat) : TaskCtx :=
  let base := roleF s r ROLE.DATA_BASE
  let cap := if r = 1 ∨ r = 2 then 0x3C000 + 0x2000 * (r - 1) else 0
  { lo := base, hi := base + roleF s r ROLE.DATA_SIZE, capLo := cap, capHi := if r = 1 ∨ r = 2 then cap + 0x2000 else 0,
    code := roleF s r ROLE.CODE_BUNDLES, repOk := mode s = modeBoot ∨ mode s = modeSelftest ∨ mode s = modeRecovery,
    ckptMax := (roleStandby s r).bind (fun _ => (roleImage s r).map (fun i => min 8192 i.ckptLen)),
    port := portAllowed r, bulk := roleF s r ROLE.BULK_LEN * 65536, handles := roleHandlesOf s r, rx := (roleRxOf s r).head?,
    ret := (roleRetOf s r).head?, epoch := roleEpoch s, free := val48 (Config.freeValue s.fresh), byte := fun a => dmemByte s c a }

/-- The bundle at a task's program counter. -/
def taskBundle (s : State) (c : Nat) (m : MCore) : Nat := Map.get 0 s.imem (c * 4096 + roleF s (taskRole m) ROLE.CODE_BASE + m.pc)

/-- The four slots of a bundle, S3 apart. -/
def bundleSlots (x : TaskCtx) (m : MCore) (b : Nat) : List SlotAct :=
  [slot0 x m (slotWord b 0), slot1 x m (slotWord b 0) (slotWord b 1), slot2 x m (slotWord b 2)]

/-- The trap of a bundle, 0 for none (R381, R388, R403). -/
def bundleTrap (x : TaskCtx) (m : MCore) (b : Nat) : Nat :=
  if x.code ≤ m.pc then 5
  else if 0 < m.rep ∧ isBranch (slotWord b 0) then 3
  else
    let l := bundleSlots x m b
    match ((l.map (·.trap)) ++ [(slot3 m (slotWord b 3)).1]).find? (fun t => t ≠ 0) with
    | some t => t
    | none => if dupDest l then 1 else 0

/-- A trap stops the task at its bundle (R403). -/
def taskTrap (c code : Nat) (s : State) : State :=
  let m := coreOf s c
  let r := taskRole m
  let s := setRole r ROLE.LAST_TRAP code (setRole r ROLE.LAST_PC m.pc (addc (Tab.role r) ROLE.TRAPS 1 (endTask c s)))
  let s := raise 0x1C0 MEW0.evTRAP [r, code, m.pc] s
  if rosanegRole r then dueRole r s else stopRole r code s

/-- A control request of a slot (R395, R398, R402). -/
def slotControl (c r : Nat) (a : SlotAct) (s : State) : State :=
  let m := coreOf s c
  if a.ctl = ctlRecv then
    if a.args.getD 0 0 = 1 then setRet r ((roleRetOf s r).drop 1) s else setRx r ((roleRxOf s r).drop 1) s
  else if a.ctl = ctlSend then
    let g : Msg := ⟨pat48 (a.args.getD 0 0), (a.args.drop 1).map pat48⟩
    let s := { s with msgQueue := s.msgQueue ++ [(c, g)] }
    if msgHasHandle g then setHandles r ((roleHandlesOf s r).filter (fun h => h ≠ g.words.getD 0 0 % 2 ^ 32)) s else s
  else if a.ctl = ctlBalloc then
    let d := (a.args.getD 0 0).toNat
    let size := pat48 (a.args.getD 1 0)
    let (h, s) := askNow 9 size carveControl clMews s
    if h = emptyHandle then putCore c { m with stalled := some (d, size) } s
    else setHandles r (roleHandlesOf s r ++ [h]) (putCore c { m with pend := m.pend ++ [⟨1, d, h⟩] } s)
  else if a.ctl = ctlFree then
    let h := (a.args.getD 0 0).toNat
    setHandles r ((roleHandlesOf s r).filter (fun x => x ≠ h)) (refDo opDec 9 clMews h 0 s)
  else if a.ctl = ctlCkpt then putCore c { m with ckptRun := some ((a.args.getD 0 0).toNat, (a.args.getD 1 0).toNat) } s
  else if a.ctl = ctlXfer then
    putCore c { m with xfers := m.xfers ++ [((a.args.getD 0 0).toNat, pat48 (a.args.getD 1 0), (a.args.getD 2 0).toNat)] } s
  else s

/-- The bundle issues: results land, slots act, the counters move (R381, R382). -/
def runBundle (c : Nat) (m : MCore) (x : TaskCtx) (b : Nat) (s : State) : State :=
  let l := bundleSlots x m b
  let (_, acc, gov) := slot3 m (slotWord b 3)
  let s0 := l.getD 0 {}
  let n := bundleFlow (bundleRegs m l acc gov) l s0
  let s := putCore c { n with cycles := n.cycles + 1 + s0.bubbles } s
  let s := forEach (l.filterMap (fun (a : SlotAct) => a.store)) (fun p s => dmemWrite c p.1 p.2 s) s
  let s := forEach l (slotControl c (taskRole m)) s
  inc 0x1C0 (MEW0.BUNDLES c) { s with fresh := s.fresh + 1 }

/-- A task is running on the core and may issue. -/
def canIssue (s : State) (c : Nat) : Bool :=
  let m := coreOf s c
  decide (c < 8) && decide (m.role ≠ 0) && !m.waiting && m.stalled.isNone && decide (coreState s c = coreRunning)

/-- A stop asked for during a repetition acts when it has ended (R388). -/
def lateStop (c : Nat) (s : State) : State :=
  let m := coreOf s c
  let r := taskRole m
  if m.role ≠ 0 ∧ m.rep = 0 ∧ rdb s (Tab.role r) HROLE.STOP_REQ then parkRole r roleStopped (endTask c s) else s

/-- BUNDLE_ISSUE (R381). -/
def execBundleIssue (core : Nat) (s : State) : Host.Outcome State Fault Refusal :=
  settle s (onlyIf (canIssue s core) (fun s =>
    let m0 := coreOf s core
    let x := taskCtx s core (taskRole m0)
    let b := taskBundle s core m0
    if bundleStalls x m0 b then putCore core { m0 with cycles := m0.cycles + 1 } s
    else
      let m := land m0
      let t := bundleTrap x m b
      if t ≠ 0 then taskTrap core t s else lateStop core (runBundle core m x b s)) s)

/-- TASK_TRAP: the task's next bundle traps (R403). -/
def execTaskTrap (core : Nat) (s : State) : Host.Outcome State Fault Refusal :=
  settle s (onlyIf (canIssue s core) (fun s =>
    let m0 := coreOf s core
    let x := taskCtx s core (taskRole m0)
    let b := taskBundle s core m0
    let t := bundleTrap x (land m0) b
    if bundleStalls x m0 b ∨ t = 0 then s else taskTrap core t s) s)

/-! ## Transfers and checkpoints -/

/-- An XFER completes, or sets XERR while its channel is out (R376). -/
def moveXfer (c : Nat) (s : State) : State :=
  let m := coreOf s c
  match m.xfers with
  | [] => s
  | (at_, off, d) :: rest =>
    let n := bitsOf d 0 13
    let out := bit d 13
    let s := putCore c { m with xfers := rest } s
    if !bit (rd s 0 GEN.GEN_STATUS_CHAN_IN_SERVICE) c then
      putCore c { m with xfers := rest, flags := m.flags ||| 2 ^ flagXerr } s
    else if bit d 14 then
      let b := bufData s off
      if out then putData off (dmemRead s c at_ n ++ b.drop n) s else dmemWrite c at_ (b.take n ++ List.replicate (n - b.length) 0) s
    else
      let from_ := c * 2 ^ 24 + roleF s (taskRole m) ROLE.BULK_BASE * 65536 + off
      if out then
        { s with bulk := (List.range n).foldl (fun k i => Map.put 0 k (from_ + i) (dmemByte s c (at_ + i))) s.bulk }
      else dmemWrite c at_ ((List.range n).map (fun i => BitVec.ofNat 8 (Map.get 0 s.bulk (from_ + i)))) s

/-- XFER_COMPLETE (R376). -/
def execXferComplete (core : Nat) (s : State) : Host.Outcome State Fault Refusal :=
  settle s (onlyIf (core < 8 ∧ (coreOf s core).role ≠ 0) (moveXfer core) s)

/-- CKPT_COMPLETE: the copy reaches the standby core (R402). -/
def execCkptComplete (core : Nat) (s : State) : Host.Outcome State Fault Refusal :=
  settle s (onlyIf (core < 8 ∧ (coreOf s core).role ≠ 0) (fun s =>
    let m := coreOf s core
    match m.ckptRun with
    | none => s
    | some (at_, n) =>
      putCore core { m with ckptRun := none, ckptDone := some (at_ - roleF s (taskRole m) ROLE.DATA_BASE, dmemRead s core at_ n) } s) s)

/-- BALLOC_RETRY: a stalled task asks again (R398). -/
def execBallocRetry (core : Nat) (s : State) : Host.Outcome State Fault Refusal :=
  settle s (onlyIf (core < 8 ∧ (coreOf s core).role ≠ 0) (fun s =>
    let m := coreOf s core
    match m.stalled with
    | none => s
    | some (d, size) =>
      let (h, s) := askNow 9 size carveControl clMews s
      let m := { m with cycles := m.cycles + blockCycles }
      if h = emptyHandle then putCore core m s
      else
        let r := taskRole m
        setHandles r (roleHandlesOf s r ++ [h]) (putCore core { m with stalled := none, pend := m.pend ++ [⟨1, d, h⟩] } s)) s)

/-- MESSAGE_DELIVERY: in core cycle `cyc` of the block in progress the router takes a message, two a cycle at most (R395, R396). -/
def execMessageDelivery (cyc : Nat) (s : State) : Host.Outcome State Fault Refusal :=
  settle s (onlyIf (cyc < blockCycles ∧ (routerGone s (startOf (now s) + cyc)).2 < 2) (fun s =>
    let at_ := startOf (now s) + cyc
    match routerNext s cyc (routerGone s at_).1 with
    | none => s
    | some q => routeFrom q cyc at_ s) s)

/-! ## Faults of cores (R399 to R404) -/

/-- The roles of a failed core: restarted on their standby, held, stopped (R400, R404). -/
def moveRoles (c : Nat) (double : Bool) (s : State) : State × Nat × Nat × Nat :=
  (allRoles.filter (fun r => roleOn s r ∧ roleCore s r = c ∧ (roleState s r = roleRunning ∨ roleState s r = roleRestarting))).foldl
    (fun (p : State × Nat × Nat × Nat) r =>
      let s := p.1
      if customerRole r then (stopRole r 0x101 s, p.2.1, p.2.2.1, p.2.2.2 + 1)
      else
        match roleStandby s r with
        | some sb =>
          if double ∨ !coreWorks s sb then (holdRole r s, p.2.1, p.2.2.1 + 1, p.2.2.2)
          else
            let s := setRole r ROLE.CORE sb (setRole r ROLE.CODE_BASE (rd s (Tab.role r) HROLE.SB_CODE) (setRole r ROLE.STANDBY_EN 0 s))
            (dueRole r (wr (Tab.role r) HROLE.MASKING 1 s), p.2.1 + 1, p.2.2.1, p.2.2.2)
        | none => (holdRole r s, p.2.1, p.2.2.1 + 1, p.2.2.2))
    (s, 0, 0, 0)

/-- A check of a core fails: the core stops and its roles leave it (R399, R400). -/
def coreFault (c unit array word : Nat) (s : State) : State :=
  let loc := if unit = 2 then locWord (0x20 + c) 2 array else locUnit (0x20 + c) unit
  let double := s.openFaults.any (fun p => p.1 = Tag.mews)
  let s := setCoreState c coreFaulted (endTask c s)
  let s := putCore c (mcoreIdle []) s
  let s := wr 0x1C0 MEW0.MEW_STATUS_CORES_AVAILABLE (setBit (rd s 0x1C0 MEW0.MEW_STATUS_CORES_AVAILABLE) c false) s
  let s := wr 0x1C0 MEW0.MEW_STATUS_CORES_FAULTED (setBit (rd s 0x1C0 MEW0.MEW_STATUS_CORES_FAULTED) c true) s
  let s := wr 0x1C0 (MEW0.LAST_TICK c) s.clock.tick (wr 0x1C0 (MEW0.LAST_LOC c) loc (inc 0x1C0 (MEW0.FAULTS c) s))
  let s := wr (held 0x1C0) (HMEW.TEST c) (s.clock.tick + 1) s
  let s := forEach (allRoles.filter (fun r => roleStandby s r = some c)) dropStandby s
  let (s, restarted, heldN, stopped) := moveRoles c double s
  let s := raiseFault 0x1C0 MEW0.evMEWS_FAULT loc (decide (heldN = 0)) [restarted, heldN, stopped, word] s
  showCores (if 0 < restarted then openFault Tag.mews loc s else s)

/-- MEWS_CORE_FAULT (R399, R400). -/
def execMewsCoreFault (core unit array word : Nat) (s : State) : Host.Outcome State Fault Refusal :=
  settle s (onlyIf (core < 8 ∧ unit < 6 ∧ coreWorks s core) (coreFault core unit (array % 2) word) s)

/-- TASK_OVERRUN: the watchdog stops a task at its budget (R392, R400, R403). -/
def execTaskOverrun (core : Nat) (s : State) : Host.Outcome State Fault Refusal :=
  let m := coreOf s core
  let r := taskRole m
  settle s (onlyIf (core < 8 ∧ m.role ≠ 0 ∧ m.rep = 0 ∧ !m.waiting ∧ roleF s r ROLE.BUDGET ≤ m.cycles) (fun s =>
    if rosanegRole r then coreFault core 4 0 0 s else stopRole r 0x100 (endTask core s)) s)

/-- Load a role's partition: the initial data, then its valid checkpoint (R400). -/
def loadPartition (r : Nat) (ckpt : Bool) (s : State) : State :=
  let c := roleCore s r
  let base := roleF s r ROLE.DATA_BASE
  let s := dmemWrite c base (((roleImage s r).map (·.data)).getD []) s
  match (if ckpt then Map.get none s.ckpts r else none) with
  | some (off, b) => dmemWrite c (base + off) b s
  | none => s

/-- A new epoch: queued messages return and handles go back (R390, R395, R398). -/
def newEpoch (r : Nat) (s : State) : State :=
  freeHandles r (flushRx r (setRole r ROLE.EPOCH (nextEpoch (roleEpoch s r)) s))

/-- Restart a role (R400, R401, R403). The third within 8 000 ticks holds it instead. -/
def restartRole (r : Nat) (s : State) : State :=
  let s := { s with roleDue := s.roleDue.filter (fun x => x ≠ r) }
  let byStart := rdb s (Tab.role r) HROLE.BY_START
  let old := rd s (Tab.role r) HROLE.REST2
  let s := wr (Tab.role r) HROLE.BY_START 0 s
  let s := if byStart then s
    else wr (Tab.role r) HROLE.REST2 (rd s (Tab.role r) HROLE.REST1) (wr (Tab.role r) HROLE.REST1 (s.clock.tick + 1) (addc (Tab.role r) ROLE.RESTARTS 1 s))
  if !byStart ∧ old ≠ 0 ∧ s.clock.tick + 1 - old < 8000 then holdRole r s
  else
    let s := newEpoch r (loadPartition r true s)
    raise 0x1C0 MEW0.evROLE_RESTARTED [r, roleCore s r, roleEpoch s r] (setRole r ROLE.STATE roleRunning s)

/-- ROLE_RESTART (R400, R401, R403). -/
def execRoleRestart (role : Nat) (s : State) : Host.Outcome State Fault Refusal :=
  settle s (onlyIf (s.clock.tickOpen ∧ role ∈ s.roleDue ∧ role < 256 ∧ roleState s role = roleRestarting) (restartRole role) s)

/-- ROUTER_FAULT (R399). -/
def execRouterFault (unit : Nat) (s : State) : Host.Outcome State Fault Refusal :=
  settle s (onlyIf (unit < 2) (raiseFault 0x1C0 MEW0.evROUTER_FAULT (locUnit 0x28 unit) false []) s)

/-- CORE_TEST_DONE: the core becomes IDLE or OFF (R404). -/
def execCoreTestDone (core : Nat) (pass : Bool) (s : State) : Host.Outcome State Fault Refusal :=
  settle s (onlyIf (core < 8 ∧ (coreState s core = coreFaulted ∨ coreState s core = coreTesting)
      ∧ rd s (held 0x1C0) (HMEW.TEST core) ≠ 0 ∧ rd s (held 0x1C0) (HMEW.TEST core) + 799 ≤ s.clock.tick) (fun s =>
    let s := inc 0x1C0 (MEW0.TESTS core) (wr (held 0x1C0) (HMEW.TEST core) 0 s)
    let s := wr 0x1C0 MEW0.MEW_STATUS_CORES_AVAILABLE (setBit (rd s 0x1C0 MEW0.MEW_STATUS_CORES_AVAILABLE) core pass) s
    let s := wr 0x1C0 MEW0.MEW_STATUS_CORES_FAULTED (setBit (rd s 0x1C0 MEW0.MEW_STATUS_CORES_FAULTED) core (!pass)) s
    let s := setCoreState core (if pass then coreIdle else coreOff) s
    let s := if pass then s else raiseFault 0x1C0 MEW0.evMEWS_FAULT (locSub (0x20 + core)) true [] s
    raise 0x1C0 MEW0.evCORE_TESTED [core, b2n pass] s) s)

/-- A core command, refused while the core holds or stands by for a role (R404, R407). -/
def coreCmd (c : Nat) (f : State → State) (s : State) : State :=
  hostCmd 0x1C0 (0x98 + 0x20 * c) (fun s =>
    if rd s 0x1C0 (MEW0.CORE_ROLES c) ≠ 0 ∨ rd s 0x1C0 (MEW0.CORE_STANDBY_FOR c) ≠ 0 then wr 0x1C0 (MEW0.CORE_CMD_RESULT c) 2 s
    else wr 0x1C0 (MEW0.CORE_CMD_RESULT c) 1 (f s)) s

/-- CORE_CMD TEST (R404). -/
def execCoreCmdTest (core : Nat) (s : State) : Host.Outcome State Fault Refusal :=
  settle s (onlyIf (core < 8) (coreCmd core (fun s =>
    setCoreState core coreTesting (wr (held 0x1C0) (HMEW.TEST core) (s.clock.tick + 1) s))) s)

/-- CORE_CMD OFF (R407). -/
def execCoreCmdOff (core : Nat) (s : State) : Host.Outcome State Fault Refusal :=
  settle s (onlyIf (core < 8) (coreCmd core (fun s =>
    wr 0x1C0 MEW0.MEW_STATUS_CORES_AVAILABLE (setBit (rd s 0x1C0 MEW0.MEW_STATUS_CORES_AVAILABLE) core false)
      (setCoreState core coreOff (wr (held 0x1C0) (HMEW.TEST core) 0 s)))) s)

/-! ## The end of a task (R393, R400) -/

/-- The result check of a port value (Table 13.6, Table 17.8). -/
def portOk (s : State) (p : Nat) (v : Int) : Bool :=
  if p = 0x40 then decide ((v - nominalIncr).natAbs * 1000000000 ≤ nominalIncr * rd s 0x30 TIM0.MAX_ADJ_PPB)
  else if 0x80 ≤ p ∧ p < 0xC0 then decide (v.natAbs ≤ 200000)
  else if p = 0xC0 then decide (0 ≤ v) && decide (v ≤ 80000)
  else if p = 0xC1 then decide (0 ≤ v) && decide (v ≤ 200000)
  else if p = 0xC2 then decide (0 ≤ v) && decide (v ≤ 20000)
  else if p = 0xC3 then decide (v.natAbs ≤ 200000)
  else true

/-- The function that a port serves is in host-assisted mode (R393). -/
def portHost (s : State) (p : Nat) : Bool :=
  if p ≤ 0x12 then hostEq s 0 else if 0x20 ≤ p ∧ p ≤ 0x32 then hostEq s 1 else if p = 0x40 then !hwServo s
  else if 0x80 ≤ p ∧ p < 0xC0 then decide (tr s (p - 0x80) TRIB.CR_MODE = 3) else false

/-- A write to a port whose function is in host-assisted mode is discarded and counted (R393, R452). -/
def refusePort (p : Nat) (s : State) : State :=
  inc 0x1C0 MEW0.PORT_REFUSED (if 0x40 ≤ p then s else inc 8 THL.HANDOFF_DISCARDS s)

/-- Release a task's port writes, in issue order: of a port written twice the later value alone (R393). -/
def releaseOuts (r : Nat) (l : List (Nat × Int)) (s : State) : State :=
  forEach l (fun p s =>
    if portHost s p.1 then refusePort p.1 s
    else { s with portWrites := s.portWrites.filter (fun w => w.1 ≠ r ∨ w.2.1 ≠ p.1) ++ [(r, p.1, p.2)] }) s

/-- The counts of a task that ended with GOV or SAT set (R391). -/
def countFlags (r flags : Nat) (s : State) : State :=
  let s := if flags % 16 = 0 then s else raiseFirst 0x1C0 MEW0.evGUARD_OVF [r] (addc (Tab.role r) ROLE.GUARD_OVF 1 s)
  if bit flags flagSat then addc (Tab.role r) ROLE.SATURATIONS 1 s else s

/-- TASK_WAIT: the task ends; its outputs go out when every check has passed (R393, R402). -/
def execTaskWait (core : Nat) (s : State) : Host.Outcome State Fault Refusal :=
  settle s (onlyIf (core < 8 ∧ (coreOf s core).role ≠ 0 ∧ (coreOf s core).waiting ∧ (coreOf s core).ckptRun.isNone) (fun s =>
    let s := forEach (coreOf s core).xfers (fun _ s => moveXfer core s) s
    let m := coreOf s core
    let r := taskRole m
    if !m.outs.all (fun p => portOk s p.1 p.2) then coreFault core 5 0 0 s
    else
      let s := releaseOuts r m.outs s
      let s := match m.ckptDone with
        | some c => { s with ckpts := Map.put none s.ckpts r (some c) }
        | none => s
      mewsMaskEnd (wr (Tab.role r) HROLE.MASKING 0 (endTask core (countFlags r m.flags s)))) s)

/-- One released port write takes effect (Table 13.6). -/
def applyPort (p : Nat) (v : Int) (s : State) : State :=
  let eq := fun f n (s : State) =>
    if n < 18 then wr (fibPage f) (FB0.EQ_SHADOW n) (ofSigned 16 (satSigned 16 v)) s
    else if v = 1 then swapRequest f 0 s else s
  let feed := fun f (s : State) => wr (held 0x21) HPWR.FILTER_TICK (s.clock.tick + 1) (wr 0x21 f (ofSigned 32 v) (wr 0x21 PWR1.FEED_STATUS_FILTER_STALE 0 s))
  if p ≤ 0x12 then eq 0 p s
  else if 0x20 ≤ p ∧ p ≤ 0x32 then eq 1 (p - 0x20) s
  else if p = 0x40 then wr (held 0x30) HTIM.NEW_INCR (v.toNat + 1) s
  else if 0x80 ≤ p ∧ p < 0xC0 then wrS (Tab.trib (p - 0x80)) TRIB.FREQ_PPB v s
  else if p = 0xC0 then feed PWR1.FEED_P_MW s
  else if p = 0xC1 then feed PWR1.FEED_BUDGET_MW s
  else if p = 0xC2 then feed PWR1.FEED_V_MV s
  else if p = 0xC3 then feed PWR1.HEADROOM_MW s
  else s

/-- Released port writes take effect at a block boundary (R393). -/
def mewsBoundary (s : State) : State :=
  forEach s.portWrites (fun w s => applyPort w.2.1 w.2.2 s) { s with portWrites := [] }

/-! ## Role records (R390, R392, R408) -/

/-- A role's field as it will be: staged, else committed and waiting, else in effect. -/
def roleWill (s : State) (r : Nat) (f : Field) : Nat :=
  if r + 256 ∈ s.roleDue ∧ (Map.get none s.staged (f.key (Tab.role r))).isNone then rd s (roleNext r) f else rdStaged s (Tab.role r) f

/-- The cycles a core must find for the roles it runs and stands by for, role r apart (R392). -/
def coreLoad (s : State) (c r : Nat) : Nat :=
  ((allRoles.filter (fun q => q ≠ r ∧ roleWill s q ROLE.ENABLE ≠ 0 ∧ (roleWill s q ROLE.CORE = c
    ∨ (rosanegRole q ∧ roleWill s q ROLE.STANDBY_EN ≠ 0 ∧ roleWill s q ROLE.STANDBY = c)))).map (fun q => roleF s q ROLE.BUDGET + 64)).sum

/-- RESULT of a role write from the data words, 0 when it can be done (R392, R408). -/
def roleCheck (s : State) (r : Nat) (byHost : Bool) : Nat :=
  let g := fun f => dataField s 0x1C1 f
  let c := g ROLE.CORE
  let sb := g ROLE.STANDBY
  let useSb := rosanegRole r ∧ g ROLE.STANDBY_EN ≠ 0
  let need := roleF s r ROLE.BUDGET + 64
  let lo := g ROLE.DATA_BASE
  let hi := lo + roleF s r ROLE.DATA_SIZE
  let others := allRoles.filter (fun q => q ≠ r ∧ roleWill s q ROLE.ENABLE ≠ 0)
  let meets := fun (core : Nat) => others.any (fun q => (roleWill s q ROLE.CORE = core
      ∨ (rosanegRole q ∧ roleWill s q ROLE.STANDBY_EN ≠ 0 ∧ roleWill s q ROLE.STANDBY = core))
    ∧ lo < roleWill s q ROLE.DATA_BASE + roleF s q ROLE.DATA_SIZE ∧ roleWill s q ROLE.DATA_BASE < hi)
  if r = 0 ∨ r = 0xFF ∨ (byHost ∧ r < 0x20) then 1
  else if g ROLE.ENABLE = 0 then 0
  else if 150000 < coreLoad s c r + need ∨ (useSb ∧ 150000 < coreLoad s sb r + need) then 2
  else if lo % 16 ≠ 0 ∨ 0x34000 < hi ∨ 252 < g ROLE.BULK_BASE + g ROLE.BULK_LEN ∨ meets c ∨ (useSb ∧ meets sb) then 3
  else if (roleImage s r).isNone then 4
  else if !coreWorks s c then 5
  else if useSb ∧ (sb = c ∨ !coreWorks s sb
      ∨ 2 ≤ (others.filter (fun q => rosanegRole q ∧ roleWill s q ROLE.STANDBY_EN ≠ 0 ∧ roleWill s q ROLE.STANDBY = sb)).length) then 6
  else 0

/-- Settle a role command; a refusal raises ROLE_REFUSED. -/
def roleResult (r res : Nat) (s : State) : State :=
  let s := tblResult 0x1C1 res s
  if res = 0 then s else raise 0x1C1 MEW1.evROLE_REFUSED [r, res] s

/-- The role that a table command names. -/
def tblRole (s : State) : Nat := rd s 0x1C1 TBL.ADDR % 256

/-- ROLE_READ (R408). -/
def execRoleRead (s : State) : Host.Outcome State Fault Refusal :=
  settle s (tblCmd 0x1C1 (fun s => tblResult 0x1C1 0 (readRecord 0x1C1 (Tab.role (tblRole s)) ROLE.fields s)) s)

/-- ROLE_READ_CLEAR (R408). -/
def execRoleReadClear (s : State) : Host.Outcome State Fault Refusal :=
  settle s (tblCmd 0x1C1 (fun s =>
    let r := tblRole s
    let s := tblResult 0x1C1 0 (readRecord 0x1C1 (Tab.role r) ROLE.fields s)
    forEach [ROLE.GUARD_OVF, ROLE.SATURATIONS, ROLE.TRAPS, ROLE.RESTARTS] (fun f s => setRole r f 0 s) s) s)

/-- ROLE_WRITE (R390, R408). -/
def execRoleWrite (byHost : Bool) (s : State) : Host.Outcome State Fault Refusal :=
  settle s (tblCmdOf byHost 0x1C1 (fun s =>
    let r := tblRole s
    let res := roleCheck s r byHost
    roleResult r res (if res = 0 then stageRecord 0x1C1 (Tab.role r) ROLE.fields s else s)) s)

/-- ROLE_START: a HELD or STOPPED role runs again from the next tick boundary (R403). -/
def execRoleStart (byHost : Bool) (s : State) : Host.Outcome State Fault Refusal :=
  settle s (tblCmdOf byHost 0x1C1 (fun s =>
    let r := tblRole s
    let stopped := roleState s r = roleStopped ∨ roleState s r = roleHeld
    let res := if r = 0 ∨ r = 0xFF ∨ (byHost ∧ r < 0x20) then 1
      else if (roleImage s r).isNone then 4
      else if stopped ∧ !coreWorks s (roleCore s r) then 5 else 0
    roleResult r res (if res = 0 ∧ stopped then dueRole r (wr (Tab.role r) HROLE.BY_START 1 s) else s)) s)

/-- ROLE_STOP: the role stops; a repetition ends first (R388, R408). -/
def execRoleStop (byHost : Bool) (s : State) : Host.Outcome State Fault Refusal :=
  settle s (tblCmdOf byHost 0x1C1 (fun s =>
    let r := tblRole s
    let res := if r = 0 ∨ r = 0xFF ∨ (byHost ∧ r < 0x20) then 1 else 0
    let c := roleCore s r
    let m := coreOf s c
    roleResult r res (
      if res ≠ 0 ∨ !(roleState s r = roleRunning ∨ roleState s r = roleRestarting) then s
      else if m.role = r + 1 ∧ 0 < m.rep then wr (Tab.role r) HROLE.STOP_REQ 1 s
      else parkRole r roleStopped (if m.role = r + 1 then endTask c s else s))) s)

/-- PAGE_COMMIT of 0x1C1: the staged records wait for the tick boundary (R390). -/
def roleCommit (s : State) : State :=
  let fs := ROLE.fields.filter (fun f => f.acc = .rws)
  let l := allRoles.filter (fun r => fs.any (fun f => (Map.get none s.staged (f.key (Tab.role r))).isSome))
  let s := forEach l (fun r s => forEach fs (fun f t => wr (roleNext r) f (rdStaged s (Tab.role r) f) t)
    { s with roleDue := s.roleDue.filter (fun x => x ≠ r + 256) ++ [r + 256] }) s
  { s with staged := s.staged.filter (fun e => !decide (0x15400 ≤ e.1 / 32768 ∧ e.1 / 32768 < 0x15500)) }

/-- First bundle of a core's instruction memory with room for `n`, first-fit (R406). -/
def codeFit (s : State) (c r n : Nat) : Option Nat :=
  let used := allRoles.flatMap (fun q =>
    if q = r ∨ !roleOn s q then []
    else (if roleCore s q = c then [(roleF s q ROLE.CODE_BASE, roleF s q ROLE.CODE_BUNDLES)] else [])
      ++ (if roleStandby s q = some c then [(rd s (Tab.role q) HROLE.SB_CODE, roleF s q ROLE.CODE_BUNDLES)] else []))
  let ok := fun b => b + n ≤ 4096 ∧ used.all (fun u => b + n ≤ u.1 ∨ u.1 + u.2 ≤ b)
  ((0 :: used.map (fun u => u.1 + u.2)).filter (fun b => ok b)).min?

/-- Write an image's code into a core. -/
def placeCode (c base : Nat) (code : List Nat) (s : State) : State :=
  { s with imem := (List.range code.length).foldl (fun k i => Map.put 0 k (c * 4096 + base + i) (code.getD i 0)) s.imem }

/-- An assignment takes effect at a tick boundary (R390, R406). -/
def changeRole (r : Nat) (s : State) : State :=
  let s := { s with roleDue := s.roleDue.filter (fun x => x ≠ r + 256 ∧ x ≠ r) }
  let c0 := roleCore s r
  let s := if (coreOf s c0).role = r + 1 then endTask c0 s else s
  let s := forEach (ROLE.fields.filter (fun f => f.acc = .rws)) (fun f t => setRole r f (rd s (roleNext r) f) t) s
  let s := wr (Tab.role r) HROLE.MASKING 0 s
  let s := { s with ckpts := Map.put none s.ckpts r none }
  if !roleOn s r then
    showCores (raise 0x1C1 MEW1.evROLE_CHANGED [r, roleCore s r, roleEpoch s r] (parkRole r roleUnassigned s))
  else
    let img := (roleImage s r).getD ⟨[], [], 0, 0, 0, 0, 0, 0, 0, 0⟩
    let n := img.code.length
    let sb := roleStandby s r
    match codeFit s (roleCore s r) r n, (match sb with | some b => codeFit s b r n | none => some 0) with
    | some a, some b =>
      let s := setRole r ROLE.CODE_BASE a (setRole r ROLE.CODE_BUNDLES n (wr (Tab.role r) HROLE.SB_CODE b s))
      let s := placeCode (roleCore s r) a img.code s
      let s := match sb with | some q => placeCode q b img.code s | none => s
      let s := setRole r ROLE.STATE roleRunning (newEpoch r (loadPartition r false s))
      showCores (raise 0x1C1 MEW1.evROLE_CHANGED [r, roleCore s r, roleEpoch s r] (mewsMaskEnd s))
    | _, _ => showCores (raise 0x1C1 MEW1.evROLE_REFUSED [r, 4] (parkRole r roleUnassigned (setRole r ROLE.ENABLE 0 s)))

/-- ROLE_CHANGED (R390). -/
def execRoleChanged (role : Nat) (s : State) : Host.Outcome State Fault Refusal :=
  settle s (onlyIf (s.clock.tickOpen ∧ role < 256 ∧ role + 256 ∈ s.roleDue) (changeRole role) s)

/-- A double-bit error in a role's partition restarts the role alone; while another fault of the cluster is being masked it is held
instead (R401, R404). -/
def roleDbe (r loc : Nat) (s : State) : State :=
  if roleState s r ≠ roleRunning then s
  else
    let c := roleCore s r
    let double := s.openFaults.any (fun p => p.1 = Tag.mews)
    let s := if (coreOf s c).role = r + 1 then endTask c s else s
    if double then holdRole r s else dueRole r (openFault Tag.mews loc (wr (Tab.role r) HROLE.MASKING 1 s))

/-- MEW_CTRL_WRITE: EN at once, CUSTOMER_EN to staging (R391). -/
def execMewCtrlWrite (value : Nat) (s : State) : Host.Outcome State Fault Refusal :=
  settle s (hostCmd 0x1C0 0x40 (fun s =>
    wrStaged 0x1C0 0x1C0 MEW0.MEW_CTRL_CUSTOMER_EN (bitsOf value 1 1) (wr 0x1C0 MEW0.MEW_CTRL_EN (value % 2) s)) s)

end Sys2Proof.Machine
end

