-- ==== Sys2Proof/Machine/Restart.lean ====
section
/-! DEFINITION. What each reset and each low power state leaves of the state (R67, R480, R492, R501, R561 to R564, Table 2.10), and the start
of the ROM. -/

namespace Sys2Proof.Machine

/-! ## Parts of the state -/

/-- The registers and records of the pages that satisfy `ok`. -/
def keepRegs (ok : Nat → Bool) (s : State) : Map Nat := s.regs.filter (fun p => ok (p.1 / 32768))

/-- Copy fields from one state to another. -/
def carry (l : List (Nat × Field)) (s t : State) : State := forEach l (fun x t => wr x.1 x.2 (rd s x.1 x.2) t) t

/-- Forget the registers and records of pages in a range. -/
def dropPages (lo hi : Nat) (s : State) : State :=
  let out := fun k => decide (lo ≤ k / 32768 ∧ k / 32768 < hi)
  { s with regs := s.regs.filter (fun p => !out p.1), staged := s.staged.filter (fun p => !out p.1) }

/-- What retention SRAM keeps of the registers: the fault log's counts, the preferred-slot record, the O7 records, the abandoned count. -/
def retentionFields : List (Nat × Field) :=
  [(1, FLOG.FLOG_FIRST), (1, FLOG.FLOG_LAST), (1, FLOG.FLOG_COUNT), (held 0x10, HSEC.PREF_VALID), (held 0x10, HSEC.PREF_SLOT),
   (held 0x10, HSEC.TRIAL), (held 0x10, HSEC.ATTEMPTS), (fibHeld 0, HACT.O7_SRAM), (fibHeld 1, HACT.O7_SRAM), (0x20, PWR0.ABANDONED_LAST)]

/-- What Arcade's NAND keeps: the O7 records of its fault log, the clean-stop marker. -/
def arcadeFields : List (Nat × Field) := [(fibHeld 0, HACT.O7_ARC), (fibHeld 1, HACT.O7_ARC), (held 0x1E0, HARC.CLEAN)]

/-- Pins and switches outside every domain. -/
def boardFields : List (Nat × Field) :=
  [(held 0x20, HPWR.PORST), (held 0x20, HPWR.VIN), (held 0x20, HPWR.SCAN), (held 0x20, HPWR.STANDBY), (held 0x20, HPWR.BOOT_PIN)]

/-- What no reset reaches: the queue, the fuses, the NAND, host memory, the count of draws. -/
def outside (s : State) : State :=
  { State.reset with pending := s.pending, otp := s.otp, fresh := s.fresh, nand := s.nand, dirHome := s.dirHome, dirHome4 := s.dirHome4, imgSlots := s.imgSlots,
                     perfLog := s.perfLog, flogCopied := s.flogCopied, rxSlots := s.rxSlots, txSlots := s.txSlots, evtSlots := s.evtSlots,
                     writeBacks := s.writeBacks, quoteOut := s.quoteOut, sysOut := s.sysOut }

/-- Retention SRAM's typed contents. -/
def withRetention (s t : State) : State := { t with flog := s.flog, resumeRec := s.resumeRec, measLog := s.measLog }

/-! ## Resets -/

/-- The pages of the power sequencer, which WARM_N and RESTART keep (R514). -/
def powerPage (p : Nat) : Bool := p = 0x20 || p = 0x21 || p = held 0x20 || p = held 0x21

/-- The pages of the local clock, carried across sleep (Table 2.10). -/
def timePage (p : Nat) : Bool := p = 0x30 || p = 0x31 || p = 0x32 || p = held 0x30 || p = held 0x31 || p = held 0x32

/-- Every domain but PD0 is reset (R501, R562). -/
def warmState (s : State) : State :=
  let t := { withRetention s (outside s) with regs := keepRegs powerPage s, deferred := s.deferred, almTimes := s.almTimes, deferredLost := s.deferredLost }
  dirLoad (carry (retentionFields ++ arcadeFields) s t)

/-- Every domain is reset, PD0's logic included; retention SRAM keeps its contents (R561). -/
def porstState (s : State) : State := dirLoad (carry (retentionFields ++ arcadeFields ++ boardFields) s (withRetention s (outside s)))

/-- Retention SRAM has lost its power: the fault log begins again above the last record in Arcade (R537, R564). -/
def coldState (s : State) : State :=
  let t := carry (arcadeFields ++ boardFields) s (outside s)
  dirLoad (wr 1 FLOG.FLOG_FIRST (s.flogCopied + 1) (wr 1 FLOG.FLOG_LAST s.flogCopied t))

/-- The domains that RUN has on: those PD_CTRL leaves on (R493). -/
def pdActs : List Nat := [3, 4, 5, 6, 13, 14, 16, 17, 19]
def runDomains (s : State) : Nat :=
  (List.range 20).foldl (fun v d => if d ∈ pdActs ∧ !bit (rd s 0x20 PWR0.PD_CTRL) d then v else v + 2 ^ d) 0

/-- Show the domains that are on. -/
def setDomains (v : Nat) (s : State) : State :=
  if v = rd s 0x20 PWR0.PD_STATUS then s else raise 0x20 PWR0.evPD_CHANGE [v] (wr 0x20 PWR0.PD_STATUS v s)

/-- The power state changes (Table 17.13). -/
def setPower (st : Nat) (s : State) : State :=
  let old := rd s 0x20 PWR0.PWR_STATUS_STATE
  if st = old then s
  else raise 0x20 PWR0.evSTATE_CHANGE [old, st, rd s 0x20 PWR0.LAST_WAKE_SRC] (wr 0x20 PWR0.PWR_STATUS_STATE st s)

/-- A port with an O7 record starts in O7 (R109). -/
def startO7 (s : State) : State :=
  forEach [0, 1] (fun f s =>
    if rdb s (fibHeld f) HACT.O7_SRAM ∨ rdb s (fibHeld f) HACT.O7_ARC then wr (fibN f 2) FB2.ACT_STATUS_STATE actO7 s else s) s

/-- Requests and transitions end with a restart; what is pending stays (R498, R501). -/
def clearTransition (s : State) : State :=
  wr 0x20 PWR0.PWR_STATUS_IN_PROGRESS 0 (wr (held 0x20) HPWR.KIND 0 (wr (held 0x20) HPWR.AT 0 (wr (held 0x20) HPWR.WAKING 0 s)))

/-- The ROM starts: RUN, BOOT, BOOT_SEL as sampled or as a request has it (R474, R501, R563, Table 17.4). -/
def romStart (bootSel waking : Bool) (s : State) : State :=
  let s := setDomains (runDomains s) (setPower 0 (clearTransition s))
  let s := wr (held 0x10) HSEC.ROM 1 (wrb (held 0x10) HSEC.BOOT_SEL bootSel (wrb (held 0x10) HSEC.WAKING waking s))
  let s := startO7 s
  if mode s = modeBoot then s else setMode modeBoot (if waking then causeWake else causeBoot) s

/-- WARM_N, and RESTART after its drain (R501, R562). -/
def warmReset (bootSel : Bool) (s : State) : State :=
  let granted := rdb s (held 0x10) HSEC.GRANTED
  let t := warmState s
  romStart bootSel false (if granted then raise 0x12 SEC2.evDEBUG_ENDED [] t else t)

/-! ## Low power states -/

/-- The pools are empty on wake (R67). -/
def poolsEmpty (s : State) : State := if poolsOn s then buildPools s else s

/-- The reference PLL counts a wake as PORST_N (R505). -/
def pllFresh (s : State) : State :=
  let h := held 0x40
  let s := wr h HTP.FROZEN 0 (wr h HTP.FREQ 0 (wr h HTP.PULL 0 { s with pllHist := [] }))
  wr h HTP.QUAL_TICK 0 (wr h HTP.FORCE 0 (wr h HTP.ALIGN 0 (wr h HTP.ALIGNED 0 (wr h HTP.MOVED 0 (wr h HTP.OFFSET 0x3FFFF
    (wr 0x40 FB0.TP_STATUS_PLL_STATE 0 s))))))

/-- Fibre port f's receiver is off: out of synchronisation. -/
def receiverOff (f : Nat) (s : State) : State :=
  loseFibre f (wr (fibPage f) FB0.FRAME_OFFSET 0x3FFFF (wr (fibPage f) FB0.DS_STATUS_LODS 1 (toHunt f { s with cands := s.cands.filter (fun c => c.1 ≠ f) })))

/-- Reset a block's pages and their held values. -/
def resetPages (l : List Nat) (s : State) : State := forEach l (fun p s => resetPage (held p) (resetPage p s)) s

/-- A domain's block starts from its reset values (R492, R493). -/
def resetDomain (d : Nat) (s : State) : State :=
  if d = 3 then resetPage 0x40 s
  else if d = 5 then resetPage 0x60 s
  else if d = 4 then startO7 (dropPages 0x11000 0x11040 (dropPages 0x10000 0x10400 (forEach [0x41, 0x42, 0x43] resetPage s)))
  else if d = 6 then startO7 (dropPages 0x11040 0x11080 (dropPages 0x10400 0x10800 (forEach [0x61, 0x62, 0x63] resetPage s)))
  else if d = 13 then dropPages 0x14000 0x14200 (dropPages 0x13000 0x13040 (resetPages [0x80, 0x81, 0x82, 0x83, 0xA0, 0xA1, 0xA2, 0xA3] s))
  else if d = 14 then dropPages 0x14200 0x14400 (dropPages 0x13040 0x13080 (resetPages [0x84, 0x85, 0x86, 0x87, 0xA4, 0xA5, 0xA6, 0xA7] s))
  else if d = 15 then resetPages [0xB0, 0xB1, 0xB2, 0xA8] { s with vecs := [] }
  else if d = 16 then
    dropPages 0x15400 0x15600 (resetPages [0x1C0, 0x1C1, 0x1C2]
      { s with mcores := [], imem := [], dmem := [], ckpts := [], images := [], roleRx := [], roleRet := [], roleHandles := [], roleDue := [],
               portWrites := [] })
  else if d = 17 then dropPages 0x15000 0x15400 (resetPages [0x1A0, 0x1A1, 0x1A2] { s with tribs := [], framerBad := [] })
  else if d = 19 then
    let clean := rd s (held 0x1E0) HARC.CLEAN
    let s := dropPages 0x1C000 0x1C200 (dropPages 0x15600 0x15900 (resetPages [0x1E0, 0x1E1, 0x1E2] s))
    dirLoad (wr (held 0x1E0) HARC.CLEAN clean { s with chunkData := [], segCrc := [], arcWrites := [], gaps := [], shrinks := [], dirCmd := none, ringCmd := none })
  else s

/-- SLEEP: PD3, PD5, PD13 to PD15 and PD19 lose their state, the rest is retained; the pools are rebuilt on wake (Table 17.3, R67). -/
def sleepState (s : State) : State :=
  let s := pllFresh (receiverOff 1 (receiverOff 0 s))
  let s := { s with front := [], ingress := [], early := [], work := [], leafq := [], macs := [], reasm := [], predicted := [], bursts := [],
                    p4Waits := [], refWaits := [], detached := [], cul := [] }
  let s := culShow (wr 0xC8 CLS.RECIRC_LEVEL 0 (wr 0xC8 CLS.DRAIN_A 0 (wr 0xC8 CLS.DRAIN_B 0 s)))
  poolsEmpty (forEach [13, 14, 15, 19] resetDomain s)

/-- Staged configuration fields of a page or of a record: what Yunager can build again (Table 2.10). -/
def configKey (fs : List Field) (k : Nat) : Bool := fs.any (fun f => decide (f.acc = .rws) && decide (f.key 0 = k % 32768))

/-- Scheduler and Bollard configuration, and the Mews's role table. -/
def rebuilt (k : Nat) : Bool :=
  let p := k / 32768
  if p = 0x101 then configKey SCH1.fields k
  else if p = 0x102 then configKey SCH2.fields k
  else if p = 0x140 then configKey BOL.fields k
  else if p = 0x150 then configKey UPA.fields k
  else if 0x18000 ≤ p ∧ p < 0x19000 then configKey NODE.fields k
  else if 0x20000 ≤ p ∧ p < 0x40000 then configKey NODE.fields k
  else if 0x40000 ≤ p ∧ p < 0x60000 then configKey LEAF.fields k
  else if 0x19000 ≤ p ∧ p < 0x1C000 then configKey BPF.fields k
  else if 0x60000 ≤ p ∧ p < 0x80000 then configKey POL.fields k
  else if 0x15400 ≤ p ∧ p < 0x15500 then
    configKey ROLE.fields k || [ROLE.BUDGET, ROLE.DATA_SIZE, ROLE.IMAGE_ID, ROLE.EPOCH].any (fun f => decide (f.key 0 = k % 32768))
  else false

/-- Roles that were enabled are assigned again at the next tick boundary, with a new epoch (R406). -/
def reloadRoles (s : State) : State :=
  forEach (allRoles.filter (roleOn s)) (fun r s =>
    let s := forEach (ROLE.fields.filter (fun f => f.acc = .rws)) (fun f t => wr (roleNext r) f (rd s (Tab.role r) f) t) s
    wr (Tab.role r) ROLE.ENABLE 0 { s with roleDue := s.roleDue ++ [r + 256] }) s

/-- The rule-tree bank's registers that go with a kept region. -/
def bankFields (b : Nat) : List (Nat × Field) :=
  if b = 0 then [(0xC8, CLS.BANK_STATUS_A_STATE), (0xC8, CLS.IMAGE_ID_A 0), (0xC8, CLS.IMAGE_ID_A 1), (held 0xC8, HCLS.LEN 0)]
  else [(0xC8, CLS.BANK_STATUS_B_STATE), (0xC8, CLS.IMAGE_ID_B 0), (0xC8, CLS.IMAGE_ID_B 1), (held 0xC8, HCLS.LEN 1)]

/-- A kept flow table is ready: nothing of it is freed, and HASHED_COUNT counts what it holds (R67, R578; log entry 100). -/
def keptFlows (s : State) : State :=
  let n := ((flowsIn s).filter (fun i => i < flowBase s ∧ rd s (Tab.flow i) FREC.TYPE = 1)).length
  wr 0xD0 FLW.HASHED_COUNT n (wr 0xD0 FLW.FLW_STATUS_READY 1 (wr (held 0xD0) HFLW.CLEARING 0 s))

/-- DEEP SLEEP with the regions of `mask` kept: retention SRAM and PD0 stay, the clock is carried; with the working memory kept Yunager
rebuilds what Table 2.10 says. -/
def deepState (mask : Nat) (s : State) : State :=
  let keep := fun k =>
    let p := k / 32768
    powerPage p || timePage p || (bit mask 0 && decide (0x1000000 ≤ p) && decide (p < 0x2000000)) || (bit mask 4 && rebuilt k)
  let t := { withRetention s (outside s) with regs := s.regs.filter (fun p => keep p.1), deferred := s.deferred, almTimes := s.almTimes, deferredLost := s.deferredLost,
                                              imgA := if bit mask 1 then s.imgA else [], imgB := if bit mask 2 then s.imgB else [],
                                              images := if bit mask 4 then s.images else [],
                                              bulk := if bit mask 5 then s.bulk else [] }
  let t := carry ((0xC8, CLS.EPOCH) :: (retentionFields ++ arcadeFields)) s t
  let t := if bit mask 1 then carry (bankFields 0) s t else t
  let t := if bit mask 2 then carry (bankFields 1) s t else t
  let t := if bit mask 1 ∨ bit mask 2 then carry [(0xC8, CLS.BANK_STATUS_ACTIVE)] s t else t
  let t := if bit mask 0 then keptFlows t else t
  dirLoad (if bit mask 4 then reloadRoles t else t)

/-- The ROM boots as after PORST_N: what DEEP SLEEP kept for a resume is gone, the clock and PD0 apart (R480). -/
def bootState (s : State) : State :=
  let t := { withRetention s (outside s) with clock := s.clock, regs := keepRegs (fun p => powerPage p || timePage p) s, deferred := s.deferred, almTimes := s.almTimes, deferredLost := s.deferredLost, evq := s.evq }
  startO7 (dirLoad (carry (retentionFields ++ arcadeFields ++ [(held 0x10, HSEC.ROM), (held 0x10, HSEC.BOOT_SEL), (held 0x10, HSEC.WAKING),
    (held 0x10, HSEC.RESUME_REFUSED)]) s t))

end Sys2Proof.Machine
end

