-- ==== Sys2Proof/Machine/Secure.lean ====
section
/-! DEFINITION. The security block: measurement, the boot chain, fuses, quotes, debug grants, keys and randomness (R470 to R489); and the
loading of Mews images (R405, R406). -/

namespace Sys2Proof.Machine

/-- `n` bytes from an offset, little-endian. -/
def leAt (l : List Byte) (at_ n : Nat) : Nat := leNat ((l.drop at_).take n)

/-- Whether `n` bytes from an offset are zero. -/
def zeroAt (l : List Byte) (at_ n : Nat) : Bool := ((l.drop at_).take n).all (fun b => b = 0)

/-! ## Measurement (R479, R480) -/

/-- Kinds of a log entry. -/
def kindBoot : Nat := 0
def kindResume : Nat := 1
def kindRestart : Nat := 2
def kindFuses : Nat := 3
def kindGrant : Nat := 5
def kindRules : Nat := 6
def kindMews : Nat := 7
def kindHost : Nat := 8
def kindTown : Nat := 9

/-- A measurement register as one number, word 0 lowest. -/
def measReg (s : State) (i : Nat) : Nat := (List.range 16).foldl (fun a w => a + rd s 0x11 (SEC1.MEAS i w) * 2 ^ (32 * w)) 0

def setMeasReg (i v : Nat) (s : State) : State := forEach (List.range 16) (fun w s => wr 0x11 (SEC1.MEAS i w) (v / 2 ^ (32 * w)) s) s

/-- Extend a register: MEASi becomes SHA-512(MEASi || D), and the log takes an entry while it has room (R479). -/
def extendMeas (e : MeasEntry) (s : State) : State :=
  let s := setMeasReg e.reg (Config.sha512 (toLe 64 (measReg s e.reg) ++ toLe 64 e.digest)) s
  if rdb s 0x11 SEC1.LOG_OVERFLOW then s
  else if rd s 0x11 SEC1.LOG_COUNT = 4096 then raise 0x11 SEC1.evLOG_OVERFLOW [] (wr 0x11 SEC1.LOG_OVERFLOW 1 s)
  else inc 0x11 SEC1.LOG_COUNT { s with measLog := s.measLog ++ [{ e with abs := now s }] }

/-- An extension whose cause's record belongs to the block in progress: at its commit, or at once while no blocks run. -/
def measureNow (reg kind imageId digest : Nat) (s : State) : State :=
  if s.clock.running then measure reg kind (now s) imageId digest s else extendMeas ⟨reg, kind, now s, imageId, digest⟩ s

/-- The extensions due at this block boundary: those whose cause's block commits here. -/
def measBoundary (s : State) : State :=
  let due := s.measDue.filter (fun e => e.abs + 2 ≤ now s)
  let s := forEach due extendMeas { s with measDue := s.measDue.filter (fun e => ¬ e.abs + 2 ≤ now s) }
  if due.any (fun e => e.kind = kindHost) then wr 0x11 SEC1.MEAS_EXT_GO 0 s else s

/-- Clear every register and the log (R480). -/
def clearMeas (s : State) : State :=
  let s := forEach (List.range 8) (fun i s => setMeasReg i 0 s) { s with measLog := [], measDue := [] }
  wr 0x11 SEC1.LOG_OVERFLOW 0 (wr 0x11 SEC1.LOG_COUNT 0 (wr 0x11 SEC1.MEAS_EXT_GO 0 s))

/-- The 80 bytes of a log entry. -/
def measBytes (e : MeasEntry) : List Byte :=
  toLe 1 e.reg ++ toLe 1 e.kind ++ toLe 1 (e.abs % 64) ++ toLe 1 0 ++ toLe 4 (e.abs / 64) ++ toLe 8 e.imageId ++ toLe 64 e.digest

/-- The readable fuse fields (Table 16.1), in the table's order. -/
def fuseBytes (s : State) : List Byte :=
  toLe 4 (fuse s 1) ++ toLe 64 (fuse s 2) ++ toLe 64 (fuse s 3) ++ toLe 64 (fuse s 4) ++ toLe 1 (fuse s 5) ++ toLe 1 (fuse s 6)
    ++ toLe 1 (fuse s 7) ++ (List.range 64).flatMap (fun n => toLe 8 (fuse s (16 + n)))

def fuseDigest (s : State) : Nat := Config.sha512 (fuseBytes s)

/-- MEAS_EXT_GO: MEAS7 is extended with the host's value (R479, Table 16.3). -/
def execMeasExtGo (s : State) : Host.Outcome State Fault Refusal :=
  settle s (hostCmd 0x11 0x280 (fun s =>
    if rdb s 0x11 SEC1.MEAS_EXT_GO then s
    else
      let d := (List.range 16).foldl (fun a w => a + rd s 0x11 (SEC1.MEAS_EXT w) * 2 ^ (32 * w)) 0
      if s.clock.running then measure 7 kindHost (now s) 0 d (wr 0x11 SEC1.MEAS_EXT_GO 1 s) else extendMeas ⟨7, kindHost, now s, 0, d⟩ s) s)

/-! ## Yunager images and the boot chain (R473 to R477) -/

def imgVersion (l : List Byte) : Nat := leAt l 0x0A 2
def imgKind (l : List Byte) : Nat := leAt l 8 1
def imgLength (l : List Byte) : Nat := leAt l 0x0C 4
def imgDigest (l : List Byte) : Nat := Config.sha512 (l.take (128 + imgLength l))
def imgResident (l : List Byte) : Nat := Config.sha512 ((l.drop 128).take (leAt l 0x10 4))

/-- The header follows Table 16.2, and body and signature are there. -/
def imgHeaderOk (l : List Byte) : Bool :=
  let len := imgLength l
  let res := leAt l 0x10 4
  decide (leAt l 0 4 = 0x474E5559) && decide (leAt l 4 4 = 1) && decide (imgKind l ≤ 1) && zeroAt l 9 1 && decide (len % 64 = 0)
    && decide (65536 ≤ len) && decide (len ≤ 33554432) && decide (res % 64 = 0) && decide (res ≤ len) && decide (res ≤ 16777216)
    && decide (leAt l 0x14 4 < len) && zeroAt l 0x40 64 && decide (128 + len + 64 ≤ l.length)

/-- BOOT_STATUS.RESULT of a candidate apart from its KIND: 0 when it passes (R474, Table 16.6). -/
def imgCheck (s : State) (l : List Byte) : Nat :=
  let pub := (l.drop 0x20).take 32
  if !imgHeaderOk l then 1
  else if Config.sha512 pub ≠ fuse s 2 then 2
  else if !Config.ed25519Verify pub (toLe 64 (imgDigest l)) ((l.drop (128 + imgLength l)).take 64) then 3
  else if imgVersion l < rollback s 0 then 4
  else 0

/-- BOOT_STATUS shows the preferred-slot record (R475). -/
def showPref (s : State) : State :=
  wr 0x10 SEC0.BOOT_STATUS_TRIAL (rd s (held 0x10) HSEC.TRIAL) (wr 0x10 SEC0.BOOT_STATUS_ATTEMPTS (rd s (held 0x10) HSEC.ATTEMPTS) s)

/-- The ROM's status line on UART_TX: the slot booted and `BOOT_STATUS.RESULT` (R573). -/
def uartLine (slot : Nat) (s : State) : State :=
  let h := held 0x10
  wr h HSEC.UART_LINES (rd s h HSEC.UART_LINES + 1) (wr h HSEC.UART_SLOT slot (wr h HSEC.UART_RESULT (rd s 0x10 SEC0.BOOT_STATUS_RESULT) s))

/-- What the ROM and Yunager do when an image starts: its measurement, and the events that waited for Yunager (R474, R475, R479, R480). -/
def startYunager (l : List Byte) (slot : Nat) (host : Bool) (s : State) : State :=
  let h := held 0x10
  let s := wr h HSEC.VERSION (imgVersion l) (wr h HSEC.DIGEST (imgDigest l) (wr h HSEC.RESIDENT (imgResident l) s))
  let s := wr h HSEC.CONFIRMED 0 (wrb h HSEC.FROM_HOST host (wr h HSEC.ROM 0 (wr h HSEC.WAKING 0 s)))
  let s := wr64 0x10 SEC0.BOOT_IMAGE_ID_LO SEC0.BOOT_IMAGE_ID_HI (leAt l 0x18 8) s
  let s := uartLine slot (wr 0x10 SEC0.BOOT_STATUS_SLOT slot (wr 0x10 SEC0.BOOT_STATUS_STAGE 1 s))
  let s := if rdb s h HSEC.TRIAL_FAILED then raise 0x10 SEC0.evTRIAL_FAILED [] (wr h HSEC.TRIAL_FAILED 0 s) else s
  if rdb s h HSEC.RESUME_REFUSED then raise 0x10 SEC0.evRESUME_REFUSED [] (wr h HSEC.RESUME_REFUSED 0 s) else s

/-- Boot an image that has passed: KIND 0 goes on to SELFTEST, KIND 1 to RECOVERY (R474, Table 17.4). -/
def bootImage (l : List Byte) (slot : Nat) (host : Bool) (s : State) : State :=
  let s := measureNow 0 kindBoot (leAt l 0x18 8) (imgDigest l) s
  let s := measureNow 2 kindFuses 0 (fuseDigest s) s
  setMode (if imgKind l = 0 then modeSelftest else modeRecovery) causeBoot (startYunager l slot host s)

/-- A candidate's RESULT with its KIND: with BOOT_SEL only KIND 1 is a candidate (R474). -/
def candidateResult (s : State) (l : List Byte) (onlyRecovery : Bool) : Nat :=
  let r := imgCheck s l
  if r ≠ 0 then r else if onlyRecovery && decide (imgKind l ≠ 1) then 5 else 0

/-- The slots in the order in which the ROM tries them (R474); with BOOT_SEL, those of KIND 1. -/
def bootOrder (s : State) : List Nat :=
  let first := if rdb s (held 0x10) HSEC.PREF_VALID then rd s (held 0x10) HSEC.PREF_SLOT
    else if imgVersion (slotBytes s 0) < imgVersion (slotBytes s 1) then 1 else 0
  [first, 1 - first].filter (fun k => !rdb s (held 0x10) HSEC.BOOT_SEL || decide (imgKind (slotBytes s k) = 1))

/-- A start that chooses PREF_SLOT under trial counts an attempt; the fourth ends the trial in favour of the other slot (R475). -/
def countAttempt (s : State) : State :=
  let h := held 0x10
  if rdb s h HSEC.PREF_VALID ∧ rdb s h HSEC.TRIAL ∧ (bootOrder s).head? = some (rd s h HSEC.PREF_SLOT) then
    if rd s h HSEC.ATTEMPTS = 3 then
      wr h HSEC.TRIAL_FAILED 1 (wr h HSEC.PREF_SLOT (1 - rd s h HSEC.PREF_SLOT) (wr h HSEC.TRIAL 0 s))
    else wr h HSEC.ATTEMPTS (rd s h HSEC.ATTEMPTS + 1) s
  else s

/-- No resume: boot the first candidate that passes, or wait for a host boot (R474, R476). -/
def romBoot (s : State) : State :=
  let s := if rdb s (held 0x10) HSEC.WAKING then bootState s else s
  let s := showPref (countAttempt (clearMeas s))
  let order := bootOrder s
  let results := order.map (fun k => candidateResult s (slotBytes s k) (rdb s (held 0x10) HSEC.BOOT_SEL))
  let failed := results.takeWhile (fun r => r ≠ 0)
  let s := wr 0x10 SEC0.BOOT_STATUS_RESULT (failed.getLast?.getD 0) s
  match order.drop failed.length with
  | [] => wr (held 0x10) HSEC.ROM 0 (wr 0x10 SEC0.BOOT_STATUS_STAGE 2 s)
  | k :: _ =>
    let s := if failed.isEmpty then s
      else raise 0x10 SEC0.evBOOT_FALLBACK [k] (wr 0x10 SEC0.BOOT_STATUS_FALLBACK 1 s)
    bootImage (slotBytes s k) k false s

/-- The resume check passed: the registers come back, MEAS0 takes a RESUME marker, Yunager goes on (R480, Table 17.4). -/
def romResume (s : State) : State :=
  let rec_ := s.resumeRec
  let s := forEach (List.range 8) (fun i s => setMeasReg i (rec_.getD i 0) s) s
  let s := wr 0x11 SEC1.LOG_COUNT (rec_.getD 8 0) { s with measLog := s.measLog.take (rec_.getD 8 0), measDue := [], resumeRec := [] }
  let slot := rec_.getD 10 0 % 2
  let s := extendMeas ⟨0, kindResume, now s, 0, Config.sha512 [82, 69, 83, 85, 77, 69]⟩ s
  let s := startYunager (slotBytes s slot) slot false (showPref s)
  if rdb s 0x20 PWR0.SELFTEST_ON_WAKE then setMode modeSelftest causeWake s
  else if rdb s 0xD0 FLW.FLW_STATUS_READY then setMode modeCommission causeWake s
  else wr (held 0x10) HSEC.COMMISSION_WAIT 1 s

/-- ROM_BOOT: `resumeOk` says whether the resume record's signature and the resident part still check (R474, R480). -/
def execRomBoot (resumeOk : Bool) (s : State) : Host.Outcome State Fault Refusal :=
  settle s (onlyIf (rdb s (held 0x10) HSEC.ROM) (fun s =>
    if rdb s (held 0x10) HSEC.WAKING ∧ s.resumeRec ≠ [] then
      if resumeOk then romResume s
      else romBoot (wr (held 0x10) HSEC.RESUME_REFUSED 1 { s with resumeRec := [] })
    else romBoot s) s)

/-- HBOOT_GO: `bytes` is what the DMA read, none on a read error (R476). -/
def execHbootGo (bytes : Option (List Byte)) (s : State) : Host.Outcome State Fault Refusal :=
  settle s (onlyIf (rd s 0x10 SEC0.BOOT_STATUS_STAGE = 2) (hostCmd 0x10 0x258 (fun s =>
    let l := bytes.getD []
    let r := if bytes.isNone ∨ l.length ≠ rd s 0x10 SEC0.HBOOT_LEN then 1 else candidateResult s l true
    let s := wr 0x10 SEC0.BOOT_STATUS_RESULT r s
    if r = 0 then bootImage l 0 true s else s)) s)

/-! ## Updating Yunager (R474, R475) -/

/-- Yunager runs and takes image commands. -/
def yunagerRuns (s : State) : Bool := decide (rd s 0x10 SEC0.BOOT_STATUS_STAGE = 1)

def imgDone (r : Nat) (s : State) : State := wr 0x10 SEC0.IMG_RESULT r s

/-- IMG_CMD WRITE: `bytes` is what the source read gave (R474, Table 16.6). -/
def execImgWrite (bytes : Option (List Byte)) (s : State) : Host.Outcome State Fault Refusal :=
  settle s (onlyIf (yunagerRuns s) (hostCmd 0x10 0x260 (fun s =>
    let slot := rd s 0x10 SEC0.IMG_SLOT
    let l := bytes.getD []
    if slot = rd s 0x10 SEC0.BOOT_STATUS_SLOT ∧ !rdb s (held 0x10) HSEC.FROM_HOST then imgDone 2 s
    else if rdb s (held 0x10) HSEC.TRIAL then imgDone 4 s
    else if bytes.isNone then imgDone 5 s
    else if l.length ≠ rd s 0x10 SEC0.IMG_LEN ∨ l.length ≠ 128 + imgLength l + 64 ∨ imgCheck s l ≠ 0 then imgDone 3 s
    else imgDone 1 { s with imgSlots := Map.put none s.imgSlots slot (some l) })) s)

/-- IMG_CMD SET_PREF (R475). -/
def execImgSetPref (s : State) : Host.Outcome State Fault Refusal :=
  settle s (onlyIf (yunagerRuns s) (hostCmd 0x10 0x260 (fun s =>
    let h := held 0x10
    let s := wr h HSEC.PREF_VALID 1 (wr h HSEC.PREF_SLOT (rd s 0x10 SEC0.IMG_SLOT) s)
    imgDone 1 (showPref (wr h HSEC.ATTEMPTS 0 (wr h HSEC.TRIAL (rd s 0x10 SEC0.IMG_TRIAL) s))))) s)

/-- TRIAL and ATTEMPTS are cleared (R475). -/
def confirmImage (s : State) : State := showPref (wr (held 0x10) HSEC.ATTEMPTS 0 (wr (held 0x10) HSEC.TRIAL 0 s))

/-- IMG_CMD CONFIRM (R475). -/
def execImgConfirm (s : State) : Host.Outcome State Fault Refusal :=
  settle s (onlyIf (yunagerRuns s) (hostCmd 0x10 0x260 (fun s => imgDone 1 (confirmImage s))) s)

/-- Yunager's own CONFIRM on first reaching SERVICE (R475). -/
def autoConfirm (s : State) : State :=
  if rdb s 0x10 SEC0.AUTO_CONFIRM ∧ !rdb s (held 0x10) HSEC.CONFIRMED then confirmImage (wr (held 0x10) HSEC.CONFIRMED 1 s) else s

/-! ## Fuses (R471, R477, R478, R483, R484) -/

/-- Owner slots: key of the hash and of the state in the fuse array. -/
def hashFuse (slot : Nat) : Nat := 3 + slot
def stateFuse (slot : Nat) : Nat := 5 + slot
def enrolled (s : State) (slot : Nat) : Bool := bit (fuse s (stateFuse slot)) 0
def revoked (s : State) (slot : Nat) : Bool := bit (fuse s (stateFuse slot)) 1
def ownerLock (s : State) : Bool := bit (fuse s 7) 0

/-- A slot's key is good for signatures. -/
def slotGood (s : State) (slot : Nat) : Bool := enrolled s slot && !revoked s slot

/-- Fuses cannot be blown now: the feed warns or fails, or a fuse command runs (R471). -/
def fuseBusy (s : State) : Bool :=
  rdb s 0x21 PWR1.FEED_STATUS_WARN || rdb s 0x21 PWR1.FEED_STATUS_FAIL || decide (rd s (held 0x10) HSEC.FUSE_OP ≠ 0)

/-- Codes of the fuse work in progress. -/
def fuseEnroll : Nat := 1
def fuseRevoke : Nat := 2
def fuseLock : Nat := 3
def fuseRaise : Nat := 4

/-- Settle a fuse command with its FUSE_RESULT. -/
def fuseResult (op r : Nat) (s : State) : State := raise 0x10 SEC0.evFUSE_DONE [op, r] (wr 0x10 SEC0.FUSE_RESULT r s)

/-- Bits that a fuse command has still to blow. -/
def bitsToBlow (have_ want : Nat) : Nat := (List.range 512).countP (fun i => bit want i && !bit have_ i)

/-- Start blowing: 10 µs a bit (R471). -/
def fuseStart (op arg want bits : Nat) (s : State) : State :=
  let h := held 0x10
  let s := wr h HSEC.FUSE_OP op (wr h HSEC.FUSE_ARG arg (wr h HSEC.FUSE_HASH want s))
  wr h HSEC.FUSE_AT (startOf (now s) + nsCycles (10000 * bits) + 1) s

/-- An authorisation signed by the root key or by the other good slot (R483); one fuse command uses it up. -/
def authorised (s : State) (slot : Nat) : Bool :=
  let k := rd s (held 0x10) HSEC.AUTH_SLOT
  !ownerLock s || (rdb s (held 0x10) HSEC.AUTH && (decide (k = 0) || (decide (k = 2 - slot) && slotGood s (1 - slot))))

def useAuth (s : State) : State := wr (held 0x10) HSEC.AUTH 0 s

/-- FUSE_CMD ENROLL (R471, R483). -/
def execFuseEnroll (slot : Nat) (s : State) : Host.Outcome State Fault Refusal :=
  settle s (onlyIf (slot < 2) (hostCmd 0x10 0x1C4 (fun s =>
    let d := (List.range 16).foldl (fun a w => a + rd s 0x10 (SEC0.FUSE_DATA w) * 2 ^ (32 * w)) 0
    if fuseBusy s then fuseResult fuseEnroll 2 s
    else if fuse s (hashFuse slot) ≠ 0 ∨ fuse s (stateFuse slot) ≠ 0 then fuseResult fuseEnroll 3 s
    else if !authorised s slot then fuseResult fuseEnroll 4 s
    else fuseStart fuseEnroll slot d (bitsToBlow 0 d + 1) (wr 0x10 SEC0.FUSE_RESULT 0 (useAuth s)))) s)

/-- FUSE_CMD REVOKE (R471, R483). -/
def execFuseRevoke (slot : Nat) (s : State) : Host.Outcome State Fault Refusal :=
  settle s (onlyIf (slot < 2) (hostCmd 0x10 0x1C4 (fun s =>
    if fuseBusy s then fuseResult fuseRevoke 2 s
    else if !enrolled s slot then fuseResult fuseRevoke (if fuse s (hashFuse slot) = 0 then 5 else 3) s
    else if !authorised s slot then fuseResult fuseRevoke 4 s
    else fuseStart fuseRevoke slot 0 (if revoked s slot then 0 else 1) (wr 0x10 SEC0.FUSE_RESULT 0 (useAuth s)))) s)

/-- FUSE_CMD LOCK (R484). -/
def execFuseLock (s : State) : Host.Outcome State Fault Refusal :=
  settle s (hostCmd 0x10 0x1C4 (fun s =>
    if fuseBusy s then fuseResult fuseLock 2 s
    else if !enrolled s 0 ∧ !enrolled s 1 then fuseResult fuseLock 5 s
    else fuseStart fuseLock 0 0 (if ownerLock s then 0 else 1) (wr 0x10 SEC0.FUSE_RESULT 0 s)) s)

/-- An image verified and running under counter n has a SEC_VERSION of at least v (R478). -/
def versionRuns (s : State) (n v : Nat) : Bool :=
  if n = 0 then yunagerRuns s && decide (v ≤ rd s (held 0x10) HSEC.VERSION)
  else allRoles.any (fun r => decide (roleState s r = roleRunning)
    && (match roleImage s r with | some m => decide (m.counter = n) && decide (v ≤ m.version) | none => false))

/-- RB_CMD: raise a counter (R478). -/
def execRbRaise (counter value : Nat) (s : State) : Host.Outcome State Fault Refusal :=
  settle s (onlyIf (counter < 64 ∧ value < 128) (hostCmd 0x12 0x80 (fun s =>
    let v := min value 64
    if fuseBusy s ∨ rdb s (held 0x10) HSEC.TRIAL ∨ !versionRuns s counter v then wr 0x12 SEC2.RB_RESULT 2 s
    else fuseStart fuseRaise counter v (v - rollback s counter) (wr 0x12 SEC2.RB_RESULT 0 s))) s)

/-- Blow bits of a fuse field. -/
def blow (k v : Nat) (s : State) : State := { s with otp := Map.put 0 s.otp k (Map.get 0 s.otp k ||| v) }

/-- MEAS2 takes each fuse command that succeeds (Table 16.3). -/
def fuseMeasured (s : State) : State := measureNow 2 kindFuses 0 (fuseDigest s) s

/-- A fuse command ends; bit i of `missing` says that bit i of the field did not blow, as the read back shows (R471). -/
def fuseEnd (missing : Nat) (s : State) : State :=
  let h := held 0x10
  let op := rd s h HSEC.FUSE_OP
  let arg := rd s h HSEC.FUSE_ARG
  let want := rd s h HSEC.FUSE_HASH
  let s := wr h HSEC.FUSE_OP 0 s
  if op = fuseEnroll then
    let good := (List.range 512).foldl (fun a i => if bit want i && !bit missing i then a + 2 ^ i else a) 0
    let s := blow (hashFuse arg) good s
    if good = want then fuseMeasured (fuseResult op 1 (blow (stateFuse arg) 1 s)) else fuseResult op 3 s
  else if op = fuseRevoke then
    if bit missing 1 then fuseResult op 2 s
    else fuseMeasured (fuseResult op 1 (wr h HSEC.REVOKE_DUE (rd s h HSEC.REVOKE_DUE ||| 2 ^ arg) (blow (stateFuse arg) 2 s)))
  else if op = fuseLock then
    if bit missing 0 then fuseResult op 2 s else fuseMeasured (fuseResult op 1 (blow 7 1 s))
  else
    let bits := (List.range want).foldl (fun a i => if rollback s arg ≤ i ∧ !bit missing i then a + 2 ^ i else a) 0
    let s := blow (16 + arg) bits s
    if rollback s arg < want then wr 0x12 SEC2.RB_RESULT 2 s
    else raise 0x12 SEC2.evRB_RAISED [arg, rollback s arg] (wr 0x12 SEC2.RB_RESULT 1 s)

/-- FUSE_DONE: the command's 10 µs a bit have passed (R471, R477, R478). -/
def execFuseDone (missing : Nat) (s : State) : Host.Outcome State Fault Refusal :=
  let t := onlyIf (rd s (held 0x10) HSEC.FUSE_OP ≠ 0 ∧ rd s (held 0x10) HSEC.FUSE_AT ≤ startOf (now s + 1)) (fuseEnd missing) s
  .next { t with clock := s.clock, pending := s.pending }

/-! ## Quotes (R481, R482) -/

/-- The 48 bytes of a fault-log record (Table 18.5, R537). -/
def recBytes (r : LogRec) : List Byte :=
  let e := r.ev
  toLe 8 (e.abs / 64)
    ++ toLe 4 (e.abs % 64 + e.page * 2 ^ 8 + e.bit * 2 ^ 20 + b2n e.masked * 2 ^ 25 + b2n e.test * 2 ^ 26 + b2n e.deferred * 2 ^ 27)
    ++ toLe 4 e.loc ++ toLe 4 e.d0 ++ toLe 4 e.d1 ++ toLe 4 e.d2 ++ toLe 4 e.d3 ++ toLe 4 r.num ++ List.replicate 12 0

/-- The fault log's records, oldest first. -/
def flogBytes (s : State) : List Byte :=
  (List.range (rd s 1 FLOG.FLOG_COUNT)).flatMap (fun i =>
    match Map.get none s.flog ((rd s 1 FLOG.FLOG_FIRST + i) % 16384) with
    | some r => recBytes r
    | none => [])

/-- Bytes 0x000 to 0x2FF of a quote (Table 16.4). -/
def quoteBytes (s : State) : List Byte :=
  toLe 4 0x31515455 ++ toLe 4 1 ++ toLe 1 (mode s) ++ toLe 1 (openScopes s)
    ++ toLe 1 (rd s 0x11 SEC1.LOG_OVERFLOW + 2 * rd s 0x10 SEC0.BOOT_STATUS_FALLBACK + 4 * rd s (held 0x10) HSEC.TRIAL) ++ [0]
    ++ toLe 4 (rd s 0x11 SEC1.LOG_COUNT) ++ toLe 8 s.clock.tick ++ toLe 4 s.clock.block ++ toLe 4 0
    ++ toLe 32 (rd s (held 0x10) HSEC.NONCE) ++ toLe 4 (rd s 1 FLOG.FLOG_FIRST) ++ toLe 4 (rd s 1 FLOG.FLOG_LAST)
    ++ List.replicate 56 0 ++ toLe 64 (Config.sha512 (flogBytes s)) ++ (List.range 8).flatMap (fun i => toLe 64 (measReg s i))
    ++ (identityPub ++ List.replicate 32 0).take 32 ++ List.replicate 32 0

/-- A quote is in progress. -/
def quoting (s : State) : Bool := decide (rd s (held 0x10) HSEC.QUOTE_AT ≠ 0) || s.quoteSnap.isSome

/-- QUOTE_CMD (R481). -/
def execQuoteRequest (s : State) : Host.Outcome State Fault Refusal :=
  settle s (hostCmd 0x11 0x2E8 (fun s =>
    if quoting s then raise 0x11 SEC1.evQUOTE_DONE [2] (wr 0x11 SEC1.QUOTE_STATUS 2 s)
    else
      let h := held 0x10
      let n := (List.range 8).foldl (fun a i => a + rd s 0x11 (SEC1.QUOTE_NONCE i) * 2 ^ (32 * i)) 0
      let s := wr h HSEC.NONCE n (wr h HSEC.QUOTE_ADDR (rd64 s 0x11 SEC1.QUOTE_ADDR_LO SEC1.QUOTE_ADDR_HI) s)
      wr 0x11 SEC1.QUOTE_CMD 1 (wr 0x11 SEC1.QUOTE_STATUS 0 (wr h HSEC.QUOTE_AT (now s + 4) s))) s)

/-- The snapshot, at the first boundary at least 2 blocks after the request (R481). -/
def execQuoteSnapshot (s : State) : Host.Outcome State Fault Refusal :=
  settle s (onlyIf (rd s (held 0x10) HSEC.QUOTE_AT ≠ 0 ∧ (!s.clock.running ∨ rd s (held 0x10) HSEC.QUOTE_AT ≤ now s + 1)) (fun s =>
    wr (held 0x10) HSEC.QUOTE_AT 0 { s with quoteSnap := some (quoteBytes s) }) s)

/-- The quote is signed and written to host memory (R481, R482). -/
def execQuoteWritten (s : State) : Host.Outcome State Fault Refusal :=
  match s.quoteSnap with
  | none => settle s s
  | some q =>
    let s' := { s with quoteSnap := none,
                       quoteOut := some (rd s (held 0x10) HSEC.QUOTE_ADDR, q ++ (Config.ed25519Sign identitySecret q ++ List.replicate 64 0).take 64) }
    settle s (raise 0x11 SEC1.evQUOTE_DONE [1] (wr 0x11 SEC1.QUOTE_CMD 0 (wr 0x11 SEC1.QUOTE_STATUS 1 s')))

/-! ## Debug (R484, R485) -/

/-- The bytes of the response registers. -/
def responseBytes (s : State) : List Byte := (List.range 32).flatMap (fun i => toLe 4 (rd s 0x12 (SEC2.DBG_RESP i)))

/-- The challenge as bytes. -/
def challengeBytes (s : State) : List Byte := (List.range 8).flatMap (fun i => toLe 4 (rd s 0x12 (SEC2.DBG_CHAL i)))

/-- DBG_CMD REQUEST (R485). -/
def execDbgRequest (s : State) : Host.Outcome State Fault Refusal :=
  settle s (hostCmd 0x12 0xC0 (fun s =>
    if rdb s 0x12 SEC2.DBG_STATUS_THROTTLED ∨ rngFailed s then raise 0x12 SEC2.evDEBUG_REFUSED [] s
    else
      let (v, s) := draw 256 s
      let s := forEach (List.range 8) (fun i s => wr 0x12 (SEC2.DBG_CHAL i) (v / 2 ^ (32 * i)) s) s
      wr (held 0x10) HSEC.CHAL_TICK (s.clock.tick + 1) (wr 0x12 SEC2.DBG_STATUS_CHAL_VALID 1 s)) s)

/-- The three checks of a response to a challenge drawn less than 80 000 ticks ago (R485). -/
def responseOk (s : State) : Bool :=
  let l := responseBytes s
  let slot := leAt l 8 1
  let pub := (l.drop 32).take 32
  rdb s 0x12 SEC2.DBG_STATUS_CHAL_VALID && decide (s.clock.tick + 1 < rd s (held 0x10) HSEC.CHAL_TICK + 80000) && decide (slot ≤ 2) && decide (Config.sha512 pub = fuse s (2 + slot))
    && (decide (slot = 0) || slotGood s (slot - 1))
    && Config.ed25519Verify pub (challengeBytes s ++ identityPub ++ l.take 9 ++ [0, 0, 0]) ((l.drop 64).take 64)

/-- DBG_CMD SUBMIT (R485). -/
def execDbgSubmit (s : State) : Host.Outcome State Fault Refusal :=
  settle s (hostCmd 0x12 0xC0 (fun s =>
    let h := held 0x10
    let l := responseBytes s
    let scope := leAt l 0 4
    if !responseOk s then
      let s := wr h HSEC.FAIL_TICK (s.clock.tick + 1) (wr 0x12 SEC2.DBG_STATUS_THROTTLED 1 (wr 0x12 SEC2.DBG_STATUS_CHAL_VALID 0 s))
      raise 0x12 SEC2.evDEBUG_REFUSED [] (inc 0x12 SEC2.DBG_FAILS s)
    else if bit scope 31 then wr h HSEC.AUTH 1 (wr h HSEC.AUTH_SLOT (leAt l 8 1) s)
    else
      let s := wr h HSEC.GRANT_SCOPE scope (wr h HSEC.GRANT_SLOT (leAt l 8 1) (wr h HSEC.GRANT_TICKS (leAt l 4 4) s))
      wr h HSEC.GRANT_DUE (now s + 2) s) s)

/-- A grant ends: its scopes close (R485). -/
def endGrant (s : State) : State :=
  let h := held 0x10
  if rdb s h HSEC.GRANTED then
    raise 0x12 SEC2.evDEBUG_ENDED [] (wr 0x12 SEC2.DBG_REMAIN 0 (wr 0x12 SEC2.DBG_STATUS_SCOPE 0 (wr h HSEC.GRANTED 0 s)))
  else s

/-- DBG_CMD RELOCK (R485). -/
def execDbgRelock (s : State) : Host.Outcome State Fault Refusal :=
  settle s (hostCmd 0x12 0xC0 (fun s => endGrant (wr (held 0x10) HSEC.GRANT_DUE 0 s)) s)

/-- The scopes open at the block boundary and MEAS2 is extended there (R485). -/
def execDebugGrant (s : State) : Host.Outcome State Fault Refusal :=
  let h := held 0x10
  settle s (onlyIf (rd s h HSEC.GRANT_DUE ≠ 0 ∧ (!s.clock.running ∨ rd s h HSEC.GRANT_DUE ≤ now s + 1)) (fun s =>
    let d := rd s h HSEC.GRANT_TICKS
    let scope := rd s h HSEC.GRANT_SCOPE
    let slot := rd s h HSEC.GRANT_SLOT
    let s := wr h HSEC.GRANT_DUE 0 (wr h HSEC.GRANTED 1 (wr 0x12 SEC2.DBG_STATUS_SCOPE scope s))
    let s := wr 0x12 SEC2.DBG_REMAIN (if d = 0 then 0xFFFFFFFF else d) s
    raise 0x12 SEC2.evDEBUG_GRANTED [scope, slot, d]
      (extendMeas ⟨2, kindGrant, now s, 0, Config.sha512 (toLe 4 scope ++ toLe 4 d ++ toLe 1 slot)⟩ s)) s)

/-- DURATION has run out (R485). -/
def execDebugExpiry (s : State) : Host.Outcome State Fault Refusal :=
  settle s (onlyIf (rdb s (held 0x10) HSEC.GRANTED ∧ rd s 0x12 SEC2.DBG_REMAIN = 0) endGrant s)

/-- A challenge expires 80 000 ticks after it was drawn (R485). -/
def execDbgChallengeExpiry (s : State) : Host.Outcome State Fault Refusal :=
  settle s (onlyIf (rdb s 0x12 SEC2.DBG_STATUS_CHAL_VALID ∧ rd s (held 0x10) HSEC.CHAL_TICK + 80000 ≤ s.clock.tick + 1)
    (wr 0x12 SEC2.DBG_STATUS_CHAL_VALID 0) s)

/-! ## Randomness and keys (R486, R487) -/

/-- RNG_TEST_FAIL (R487). -/
def execRngTestFail (s : State) : Host.Outcome State Fault Refusal :=
  settle s (onlyIf (!rngFailed s) (fun s =>
    raiseFault 0x12 SEC2.evRNG_FAIL (locUnit 3 1) false [] (wr 0x12 SEC2.RNG_STATUS_RNG_FAIL 1 s)) s)

/-- RNG_RECOVER (R487). -/
def execRngRecover (s : State) : Host.Outcome State Fault Refusal :=
  settle s (onlyIf (rngFailed s) (wr 0x12 SEC2.RNG_STATUS_RNG_FAIL 0) s)

/-- A key of the key store is invalid: 0 key-encryption key, 1 and 2 data keys, 3 PLOAM integrity key, 4 OMCI integrity key (R486). -/
def keyDbe (port key : Nat) (s : State) : State :=
  let pg := fibN port 2
  let s := inc 0x12 SEC2.KEYSTORE_DBE { s with dataKeys := Map.erase s.dataKeys (8 * port + key) }
  let s := if key = 1 ∨ key = 2 then
      let s := wr pg FB2.KEY_STATUS_VALID (setBit (rd s pg FB2.KEY_STATUS_VALID) (key - 1) false) s
      if rd s pg FB2.KEY_STATUS_ACTIVE = key then wr pg FB2.KEY_STATUS_ACTIVE 0 s else s
    else wr (held 0x10) HSEC.KEY_BAD (setBit (rd s (held 0x10) HSEC.KEY_BAD) (8 * port + key) true) s
  raiseFault 0x12 SEC2.evKEY_DBE (locCode 2 0 3 2 (8 * port + key) 0xFF) false [port, key] s

/-- KEY_DBE (R486). -/
def execKeyDbe (port key : Nat) (s : State) : Host.Outcome State Fault Refusal :=
  settle s (onlyIf (port < 2 ∧ key < 5) (fun s => keyDbe port key (wr (instBase 0x12) COM.PAGE_FAULT_UNCORRECTED 1 s)) s)

/-- The security block at a tick boundary: a grant counts down, the throttle ends, a revocation takes effect (R483, R485). -/
def secTick (s : State) : State :=
  let h := held 0x10
  let r := rd s 0x12 SEC2.DBG_REMAIN
  let s := if rdb s h HSEC.GRANTED ∧ r ≠ 0 ∧ r ≠ 0xFFFFFFFF then wr 0x12 SEC2.DBG_REMAIN (r - 1) s else s
  let s := if rdb s 0x12 SEC2.DBG_STATUS_THROTTLED ∧ rd s h HSEC.FAIL_TICK + 8000 ≤ s.clock.tick + 1 then wr 0x12 SEC2.DBG_STATUS_THROTTLED 0 s else s
  let due := rd s h HSEC.REVOKE_DUE
  let s := forEach (allRoles.filter (fun r => match roleImage s r with
      | some m => decide (m.keySlot ≠ 0) && bit due (m.keySlot - 1) && decide (roleState s r ≠ roleUnassigned) && decide (roleState s r ≠ roleStopped)
      | none => false))
    (fun r s => parkRole r roleStopped (if (coreOf s (roleCore s r)).role = r + 1 then endTask (roleCore s r) s else s)) s
  wr h HSEC.REVOKE_DUE 0 s

/-! ## Loading Mews images (R405, R406) -/

/-- A load ends with its RESULT. -/
def mewsLoadDone (r : Nat) (s : State) : State :=
  let s := wr 0x1C2 MEW2.LOAD_STATUS_RESULT r (wr 0x1C2 MEW2.LOAD_STATUS_BUSY 0 (wr 0x1C2 MEW2.LOAD_CTRL_START 0 s))
  raise 0x1C2 MEW2.evLOAD_DONE [rd s (held 0x1C0) HMEW.LOAD_ROLE, r] s

/-- LOAD_CTRL.START (R406, Table 13.13). -/
def execMewsLoadStart (byHost : Bool) (s : State) : Host.Outcome State Fault Refusal :=
  settle s ((if byHost then hostCmd 0x1C2 0x50 else id) (fun s =>
    if rdb s 0x1C2 MEW2.LOAD_STATUS_BUSY then s
    else
      let r := rd s 0x1C2 MEW2.LOAD_ROLE
      let s := wr (held 0x1C0) HMEW.LOAD_ROLE r (wrb (held 0x1C0) HMEW.LOAD_HOST byHost s)
      if r = 0 ∨ r = 0xFF ∨ (byHost ∧ r < 0x20) ∨ ¬(roleState s r = roleUnassigned ∨ roleState s r = roleStopped) then mewsLoadDone 1 s
      else wr 0x1C2 MEW2.LOAD_CTRL_START 1 (wr 0x1C2 MEW2.LOAD_STATUS_BUSY 1 s)) s)

/-- The header follows Table 13.10, names the role, and LOAD_LEN agrees. -/
def mewsHeaderOk (l : List Byte) (role loadLen : Nat) : Bool :=
  let code := leAt l 0x0C 4
  let data := leAt l 0x10 4
  let size := leAt l 0x14 4
  let ckpt := leAt l 0x18 4
  decide (leAt l 0 4 = 0x5357454D) && decide (leAt l 4 4 = 1) && decide (leAt l 8 1 = role) && decide (leAt l 9 1 < 2) && decide (leAt l 0x0A 1 ≤ 2)
    && decide (code % 16 = 0) && decide (16 ≤ code) && decide (code ≤ 65536) && decide (data ≤ size) && decide (size % 16 = 0)
    && decide (size ≤ 212992) && decide (ckpt % 16 = 0) && decide (ckpt ≤ 8192) && decide (leAt l 0x1C 4 < code / 16)
    && decide (1 ≤ leAt l 0x20 4) && decide (leAt l 0x20 4 ≤ 150000) && decide (leAt l 0x24 1 < 64) && zeroAt l 0x30 80
    && decide (loadLen = 128 + code + data + 64) && decide (l.length = loadLen)

/-- The counter lies in its key slot's range (R477). -/
def counterInRange (slot n : Nat) : Bool := if slot = 0 then decide (1 ≤ n) && decide (n ≤ 31) else decide (32 ≤ n)

/-- The key slot may be used for the role: Rosaneg roles take slot 0; an owner slot is enrolled and not revoked (R389, R405, R477, R483). -/
def keySlotOk (s : State) (role slot counter : Nat) : Bool :=
  counterInRange slot counter && (decide (slot = 0) || (!rosanegRole role && enrolled s (slot - 1)
    && (!revoked s (slot - 1) || bit (rd s (held 0x10) HSEC.REVOKE_DUE) (slot - 1))))

/-- The image as the role holds it. -/
def mewsImage (l : List Byte) : MewImage :=
  let code := leAt l 0x0C 4
  { code := (List.range (code / 16)).map (fun i => leAt l (128 + 16 * i) 16), data := (l.drop (128 + code)).take (leAt l 0x10 4),
    dataSize := leAt l 0x14 4, ckptLen := leAt l 0x18 4, entry := leAt l 0x1C 4, budget := leAt l 0x20 4, imageId := leAt l 0x28 8,
    keySlot := leAt l 0x0A 1, counter := leAt l 0x24 1, version := leAt l 0x26 2 }

/-- RESULT of the checks; `pub` is the public key, whose hash is the key slot's field (R405, R406). -/
def mewsLoadResult (s : State) (l pub : List Byte) : Nat :=
  let role := rd s (held 0x1C0) HMEW.LOAD_ROLE
  let slot := leAt l 0x0A 1
  if !mewsHeaderOk l role (rd s 0x1C2 MEW2.LOAD_LEN) then 2
  else if !keySlotOk s role slot (leAt l 0x24 1) then 5
  else if Config.sha512 pub ≠ fuse s (2 + slot)
      ∨ !Config.ed25519Verify pub (toLe 64 (Config.sha512 (l.take (l.length - 64)))) (l.drop (l.length - 64)) then 3
  else if leAt l 0x26 2 < rollback s (leAt l 0x24 1) then 4
  else if roleOn s role ∧ roleState s role = roleStopped ∧ (codeFit s (roleCore s role) role (leAt l 0x0C 4 / 16)).isNone then 7
  else 0

/-- The role takes a loaded image; a STOPPED role keeps its assignment, so its code is placed at once (R406). -/
def takeImage (role : Nat) (m : MewImage) (s : State) : State :=
  let s := { s with images := Map.put none s.images role (some m) }
  let s := setRole role ROLE.BUDGET m.budget (setRole role ROLE.DATA_SIZE m.dataSize (setRole role ROLE.IMAGE_ID m.imageId s))
  if roleOn s role ∧ roleState s role = roleStopped then
    match codeFit s (roleCore s role) role m.code.length with
    | some a =>
      let s := placeCode (roleCore s role) a m.code (setRole role ROLE.CODE_BASE a (setRole role ROLE.CODE_BUNDLES m.code.length s))
      { s with ckpts := Map.put none s.ckpts role none }
    | none => s
  else s

/-- MEWS_LOAD_DONE: `host` is what a read of host memory gave; an Arcade source is read from the store (R406, Table 16.3). -/
def execMewsLoadDone (host : Option (List Byte)) (pub : List Byte) (s : State) : Host.Outcome State Fault Refusal :=
  settle s (onlyIf (rdb s 0x1C2 MEW2.LOAD_STATUS_BUSY) (fun s =>
    let role := rd s (held 0x1C0) HMEW.LOAD_ROLE
    let src := if rdb s 0x1C2 MEW2.LOAD_CTRL_FROM_ARCADE then
        objectBytes s (rd64 s 0x1C2 MEW2.LOAD_SRC_LO MEW2.LOAD_SRC_HI) (rd s 0x1C2 MEW2.LOAD_LEN)
      else host
    match src with
    | none => mewsLoadDone 6 s
    | some l =>
      let r := mewsLoadResult s l pub
      if r ≠ 0 then mewsLoadDone r s
      else
        let s := mewsLoadDone 0 (takeImage role (mewsImage l) s)
        measureNow (if leAt l 0x0A 1 = 0 then 4 else 5) kindMews (leAt l 0x28 8) (Config.sha512 (l.take (l.length - 64))) s) s)

end Sys2Proof.Machine
end

