-- ==== Sys2Proof/Machine/Faults.lean ====
section
/-! DEFINITION. Memory faults: scrubbing, double-bit errors and their containment, LPDDR6 channels, reference parts (R39, R40, R50, R60 to
R63, R186, R210, R211, R401, R486, R524, R525). -/

namespace Sys2Proof.Machine

/-- A record of a fault for which no table names an event bit: the record carries the owning page and sets no bit of `PAGE_EVENT` (R39). -/
def noBit : Nat := 32

/-- A double-bit error is shown in the page's instance (Table 18.3). -/
def uncorrected (pg : Nat) (s : State) : State := wr (instBase pg) COM.PAGE_FAULT_UNCORRECTED 1 s

/-! ## The frame that holds a buffer -/

/-- Requester that presents the operations of a frame not yet enqueued, by its SOURCE. -/
def sourceRequester (src : Nat) : Nat :=
  if src < 8 then kerbRequester src else if src < 10 then 3 + (src - 8) else if src = 10 then 8 else if src = 12 then 10 else if src = 13 then 7 else 0xC

/-- A frame in front of the journals ends Fault-contained; its buffer is given up. -/
def containFront (f : InFrame) (s : State) : State :=
  let s := returnTx f.item (containUnqueued f.item.port s)
  let s := if f.src = 11 then wr 0xC8 CLS.RECIRC_LEVEL (rd s 0xC8 CLS.RECIRC_LEVEL - 1) s else s
  let s := serveRelease (f.item.aux.getD 6 0) s
  passDone f.item (refDo opDec (sourceRequester f.src) (bufClass s f.item.handle f.item.cwyBuf) f.item.handle 0 s)

/-- A result whose frame cannot be read is contained at its commit. -/
def containResult (h : Nat) (r : Result) : Result :=
  if r.handle = h ∨ r.item.handle = h then
    { r with verdict := .contained, ledger := [], evs := [], inserted := [], exports := [], learn := false, fill := [] }
  else r

/-- The frame that holds buffer `h`, wherever it stands, is dropped and ends Fault-contained; its references are released (R39, R211). -/
def containHolder (h : Nat) (s : State) : State :=
  let mine := fun (f : InFrame) => decide (f.item.handle = h)
  let fs := s.front.filter mine ++ s.ingress.filter mine
  let early := s.early.filter (fun x => x.handle = h)
  let rs := s.reasm.filter (fun r => r.handle = h)
  let s := { s with front := s.front.filter (fun f => !mine f), ingress := s.ingress.filter (fun f => !mine f),
                    early := s.early.filter (fun x => x.handle ≠ h), reasm := s.reasm.filter (fun r => r.handle ≠ h),
                    work := s.work.map (fun w => { w with results := w.results.map (containResult h) }) }
  let s := forEach fs containFront s
  let s := forEach early (fun x s => passDone x (returnTx x (giveUp 0 h x.cwyBuf x (containUnqueued x.port s)))) s
  let s := forEach rs (fun r s => refDo opDec (3 + r.fibre) clIngress h 0 (containUnqueued (8 + r.fibre) s)) s
  let s := forEach (s.leafq.filter (fun e => e.handle = h ∨ e.handle2 = h)) (endQueued ocContained) s
  let s := forEach ((s.macs.filter (fun x => x.ent.handle = h ∨ x.ent.handle2 = h)).map (·.ent)) (endMac ocContained) s
  forEach (s.cul.filter (fun x => x.handle = h)) (fun x s => culRemove x.index (refDo opDec 0xC clCul h (now s) (containUnqueued x.port s))) s

/-! ## Scrubbing (R39, R40, R524) -/

/-- Both copies of a record word are lost: the record is invalidated, and its image goes out with reason 2 (R184, R186). Two faults lie
behind it, so it is a double fault (R36). -/
def flowDbe (i loc addr : Nat) (s : State) : State :=
  let s := if earlierFault s = 0 then { s with blockFault := loc } else s
  let s := raiseFault 0xD0 FLW.evDBE_INVALIDATED loc false [i, addr] (inc 0xD0 FLW.DBE_INVALIDATED s)
  dropRecord i (exportFlow 2 i (now s) s)

/-- A double-bit error: what holds the word decides the containment (Table 1.7). A mirrored word is read from its other copy and rewritten,
a cached one fetched again; where no copy is good the word is lost. -/
def doubleBit (w : WordAt) (s : State) : State :=
  let loc := wordLoc w
  let s := uncorrected w.page s
  match w.kind with
  | .mirrored bad => raiseFault w.page noBit loc (copyGood s w bad) [w.addr] s
  | .treeCache => raiseFault w.page noBit loc true [w.addr] s
  | .flowRecord i bad => if copyGood s w bad then raiseFault w.page noBit loc true [w.addr] s else flowDbe i loc w.addr s
  | .bufferMeta h => if noBuffer s h then s else containHolder h (parkDbe h loc w.addr s)
  | .freeList h => if noBuffer s h then s else containHolder h (parkDbe h loc w.addr s)
  | .frameData h =>
    let s := raiseFault w.page noBit loc false [w.addr] s
    if noBuffer s h then s else containHolder h s
  | .mewsMemory _ r => roleDbe r loc (raiseFault w.page noBit loc false [w.addr] s)
  | .keyStore p k => keyDbe p k s
  | .plain => raiseFault w.page noBit loc false [w.addr] s

/-- The scrubber, or a read, meets a protected word; `pass` 1 ends a complete pass over SRAM, 2 one over LPDDR6 (R40). -/
def execScrubVisit (word : WordAt) (err : WordErr) (pass : Nat) (s : State) : Host.Outcome State Fault Refusal :=
  let s' := match err with
    | .clean => s
    | .single b => corrected word.page (cellLoc word (b % 39)) s
    | .double => doubleBit word s
  settle s (onlyIf (wordThere s word) (fun _ => match pass with
    | 1 => inc 0 GEN.SCRUB_SRAM_PASSES s'
    | 2 => inc 0 GEN.SCRUB_DDR_PASSES s'
    | _ => s') s)

/-- A double-bit error in a register word (R525). -/
def regDouble (page offset : Nat) (i : PageInfo) (s : State) : State :=
  let loc := locCode 2 0 i.sub 0x3E (i.idx % 32) 0xFF
  let s := wr (instBase page) COM.PAGE_FAULT_REG_DBE 1 (uncorrected page s)
  let s := { s with wordResets := s.wordResets ++ [(page, offset / 4 * 4)] }
  raiseFault 0 GEN.evREG_DBE loc false [page * 4096 + offset / 4 * 4] s

/-- The register scrubber, or a read, meets a register word (R524, R525). -/
def execRegisterScrub (page offset : Nat) (err : WordErr) (s : State) : Host.Outcome State Fault Refusal :=
  settle s (match pageInfo page with
    | none => s
    | some i =>
      match err with
      | .clean => s
      | .single b => corrected page (locCell i.sub 0x3E (i.idx % 32) (b % 39)) s
      | .double => { regDouble page (offset % 4096) i s with hostRead := 0xFFFFFFFF })

/-- A fault in the TCXO (1) or in the 32.768 kHz crystal (2) (R50). -/
def execReferencePartFault (part : Nat) (s : State) : Host.Outcome State Fault Refusal :=
  settle s (onlyIf (part = 1 ∨ part = 2) (raiseFault 0 noBit 0xFFFFFFFF false [part]) s)

/-! ## LPDDR6 channels (R60, R63, R210) -/

def setService (c : Nat) (on : Bool) (s : State) : State :=
  wr 0 GEN.GEN_STATUS_CHAN_IN_SERVICE (setBit (rd s 0 GEN.GEN_STATUS_CHAN_IN_SERVICE) c on) s
def setRebuilding (c : Nat) (on : Bool) (s : State) : State :=
  wr 0 GEN.GEN_STATUS_CHAN_REBUILDING (setBit (rd s 0 GEN.GEN_STATUS_CHAN_REBUILDING) c on) s

/-- A buffer of channel c is allocated: its frame is lost (Table 1.7). -/
def channelHolds (s : State) (c : Nat) : Bool :=
  s.buffers.any (fun e => (e.2.getD blankMeta).allocated && decide (handleChannel s e.1 = some c))

/-- CHANNEL_OUT: reads of mirrored tables go to the partner; the channel's buffers are parked (R210, Table 1.7). The loss is masked when it
takes no buffer and the partner can be read (R61 to R63). -/
def execChannelOut (channel : Nat) (s : State) : Host.Outcome State Fault Refusal :=
  settle s (onlyIf (channel < 8 ∧ inService s channel) (fun s =>
    let loc := locSub (0x30 + channel)
    let s := setRebuilding channel false (setService channel false s)
    let s := raiseFault 0 GEN.evCHANNEL_OUT loc (!channelHolds s channel && readable s (partnerOf channel)) [] s
    openFault (Tag.channel channel) loc (closeFault (Tag.channel channel) (parkChannel channel s))) s)

/-- CHANNEL_BACK: the rebuild of the mirrored regions from the partner starts; the buffers come back at the next block boundary (R63, R210). -/
def execChannelBack (channel : Nat) (s : State) : Host.Outcome State Fault Refusal :=
  settle s (onlyIf (channel < 8 ∧ !inService s channel) (fun s =>
    raise 0 GEN.evCHANNEL_BACK [channel] (setRebuilding channel true (setService channel true s))) s)

/-- REBUILD_DONE: the partner has given every mirrored word, reads use both channels again, and the loss is masked no longer (R36, R63; log
entry 99). -/
def execRebuildDone (channel : Nat) (s : State) : Host.Outcome State Fault Refusal :=
  settle s (onlyIf (channel < 8 ∧ inService s channel ∧ rebuilding s channel ∧ readable s (partnerOf channel)) (fun s =>
    raise 0 GEN.evREBUILD_DONE [channel] (closeFault (Tag.channel channel) (setRebuilding channel false s))) s)

/-- At a block boundary Market Square takes back the buffers of channels that have returned (R210). -/
def channelBoundary (s : State) : State :=
  forEach ((List.range 8).filter (fun c => chanParked s c && inService s c)) unparkChannel s

end Sys2Proof.Machine
end

