-- ==== Sys2Proof/Machine/Power.lean ====
section
/-! DEFINITION. The power sequencer: mode changes and requests, drains, LEAN, DORMANT and waking, the remote feed and its failure, WAKE and
the alarm inputs (R42 to R49, R246, R306, R337 to R340, R490 to R515). -/

namespace Sys2Proof.Machine

/-- The outcome of a command of the power sequencer, which may restart the terminal: the queue and the fuses stay as before it. -/
def keepQueue (s t : State) : Host.Outcome State Fault Refusal := .next { t with pending := s.pending, otp := s.otp }

/-! ## Transitions in progress (R498) -/

/-- Kinds of transition. -/
def trNone : Nat := 0
def trDrainCommission : Nat := 1
def trDrainDormant : Nat := 2
def trDrainRestart : Nat := 3
def trMode : Nat := 4
def trLeanEntry : Nat := 5
def trLeanOff : Nat := 6
def trLeanExit : Nat := 7
def trDormant : Nat := 9
def trDrainRecovery : Nat := 10
def trDrainFill : Nat := 11
def trWake : Nat := 12

def trKind (s : State) : Nat := rd s (held 0x20) HPWR.KIND
def powerState (s : State) : Nat := rd s 0x20 PWR0.PWR_STATUS_STATE

/-- The next part of the transition may act: its boundary has come. -/
def trDue (s : State) (kind : Nat) : Bool :=
  let at_ := rd s (held 0x20) HPWR.AT
  decide (trKind s = kind) && decide (at_ ≠ 0) && decide (at_ ≤ now s + 1)

/-- A transition of this kind starts; its next part acts `n` block boundaries on. -/
def startTr (kind n : Nat) (s : State) : State :=
  wr 0x20 PWR0.PWR_STATUS_IN_PROGRESS 1 (wr (held 0x20) HPWR.KIND kind (wr (held 0x20) HPWR.AT (now s + n + 1) s))

def endTr (s : State) : State := wr 0x20 PWR0.PWR_STATUS_IN_PROGRESS 0 (wr (held 0x20) HPWR.KIND trNone (wr (held 0x20) HPWR.AT 0 s))

/-- A transition is in progress: a request's, a replay, a fence or a return that is decided (R48, R498). -/
def powerBusy (s : State) : Bool :=
  inTransition s || replaying s || decide (rd s (held 0x180) HCWY.RTS_OP ≠ 0) || decide (rd s (held 0x180) HCWY.GUARD_AT ≠ 0)

/-- Modes with subscriber traffic (R44). -/
def traffic (m : Nat) : Bool := m = modeService || m = modeGuarded || m = modeLean

/-! ## Requests -/

/-- The word of a request, as `PWR_REQ` has its fields. -/
def reqWord (op target low : Nat) : Nat := op + target * 2 ^ 4 + low * 2 ^ 8

/-- REQ_REFUSED for a request, counted, with its REQ_RESULT (R498, Table 17.13). -/
def reqRefuse (op target low code : Nat) (s : State) : State :=
  raise 0x20 PWR0.evREQ_REFUSED [reqWord op target low, code] (inc 0x20 PWR0.REQ_REFUSED (wr 0x20 PWR0.REQ_RESULT code s))

def clearPending (s : State) : State :=
  let s := wr 0x20 PWR0.PWR_STATUS_PENDING 0 (wr 0x20 PWR0.PWR_PENDING_OP 0 (wr 0x20 PWR0.PWR_PENDING_TARGET 0 s))
  wr (held 0x20) HPWR.WAKE_PEND 0 (wr 0x20 PWR0.PWR_PENDING_LOW_STATE 0 (wr 0x20 PWR0.PWR_PENDING_SOURCE 0 s))

/-- Latch a request as pending; one that is pending already is replaced and refused (R498). -/
def latchReq (op target low : Nat) (byHost : Bool) (s : State) : State :=
  let s := if rdb s 0x20 PWR0.PWR_STATUS_PENDING then
      reqRefuse (rd s 0x20 PWR0.PWR_PENDING_OP) (rd s 0x20 PWR0.PWR_PENDING_TARGET) (rd s 0x20 PWR0.PWR_PENDING_LOW_STATE) 3 s
    else wr 0x20 PWR0.REQ_RESULT 2 s
  let s := wr 0x20 PWR0.PWR_STATUS_PENDING 1 (wr 0x20 PWR0.PWR_PENDING_OP op (wr 0x20 PWR0.PWR_PENDING_TARGET target s))
  wr (held 0x20) HPWR.WAKE_PEND 0 (wr 0x20 PWR0.PWR_PENDING_LOW_STATE low (wrb 0x20 PWR0.PWR_PENDING_SOURCE (!byHost) s))

/-- The conditions of entry into SERVICE (R496). -/
def mayServe (s : State) : Bool :=
  decide (pllState s = 1) && [0, 1].any (fun f => actState s f = actO51) && (List.range 6).all (fun i => pdOn s (7 + i))
    && rdb s (held 0x20) HPWR.TEST_PASSED

/-- The fenced slice, 3 for none. -/
def fencedSlice (s : State) : Nat := rd s 0x180 CWY.CWY_STATUS_FENCED

/-- `FUNC_MODE.POWER`: host software chooses the mode (Table 15.1). -/
def hostPower (s : State) : Bool := bit (rd s 8 THL.FUNC_EFFECTIVE) 9

def budgetHold (s : State) : Nat := max 1 (rd s 0x21 PWR1.BUDGET_HOLD)
def budgetKnown (s : State) : Bool := rdb s 0x21 PWR1.FEED_STATUS_BUDGET_KNOWN
def feedWarn (s : State) : Bool := rdb s 0x21 PWR1.FEED_STATUS_WARN

/-- The first rule of R508 holds: the feed allows LEAN only. -/
def leanHeld (s : State) : Bool := feedWarn s || (budgetKnown s && decide (budgetHold s ≤ rd s (held 0x20) HPWR.LOW_TICKS))

/-- The slice that LEAN switches off: the fenced one, or Carriageway 2 (R499). -/
def leanSlice (s : State) : Nat := if fencedSlice s < 3 then fencedSlice s else 2

/-- LEAN entry is decided: boundary b is the first at least 2 blocks on; the slice takes no items from journal b (R499). -/
def startLean (s : State) : State :=
  let x := leanSlice s
  planMap (now s + 3) x false (wr (held 0x20) HPWR.SLICE x (startTr trLeanEntry 3 s))

/-- The slice that LEAN switched off is powered again, unless its test has failed (R277, R500). -/
def powerSlice (s : State) : State :=
  let x := rd s (held 0x20) HPWR.SLICE
  if rd s (held 0x20) HPWR.OLD_STATE = 4 then s else setDomain (7 + x) true s

/-- LEAN's end at a boundary: lanes, suspensions, C, and the slice, which is ACTIVE again when it passed its reset check and was not
fenced, or fenced (R244, R246, R306, R500). Answers in CWY_STATUS whether a slice is fenced. -/
def endLean (passed : Bool) (s : State) : State :=
  let x := rd s (held 0x20) HPWR.SLICE
  let old := rd s (held 0x20) HPWR.OLD_STATE
  let s := forEach (List.range 8) leanWiden (leanRelease (wr (held 0x100) HSCH.LEAN_C 0 s))
  let s := wr (held 0x20) HPWR.SLICE 3 s
  if 3 ≤ x then s
  else if fencedSlice s = x then
    let s := wr 0x180 (CWY.SLICE_STATE x) old s
    if old = 3 then wr (held 0x180) (HCWY.TEST_TICK x) (s.clock.tick + 1) s else s
  else if passed then planMap (now s) 3 false (wr 0x180 (CWY.SLICE_STATE x) 0 s)
  else fenceSlice x (now s - 1) false s

/-- A restart, drained (R501). -/
def restart (recovery : Bool) (s : State) : State := warmReset (recovery || rdb s (held 0x20) HPWR.BOOT_PIN) s

/-- The request is one that Table 17.4 allows, and starts: REQ_RESULT 1. -/
def accepted (s : State) : State := wr 0x20 PWR0.REQ_RESULT 1 s

/-- A drain: admission stops at the next block boundary (R44, R45). -/
def startDrain (kind low : Nat) (s : State) : State :=
  wr (held 0x20) HPWR.LOW low (wr (held 0x20) HPWR.DRAIN_FROM (now s + 1) (startTr kind 1 (accepted s)))

/-- Examine a request for a mode (R495, R496, R499, R500, R508). -/
def examineMode (target : Nat) (byHost : Bool) (s : State) : State :=
  let m := mode s
  if target = modeCommission ∧ traffic m then startDrain trDrainCommission 0 s
  else if target = modeSelftest ∧ m = modeCommission then
    wr (held 0x20) HPWR.TEST_ASKED 1 (wr (held 0x20) HPWR.TARGET modeSelftest (startTr trMode 1 (accepted s)))
  else if target = modeService ∧ m = modeCommission then
    if mayServe s then
      wr (held 0x20) HPWR.TARGET (if fencedSlice s < 3 then modeGuarded else modeService) (startTr trMode 1 (accepted s))
    else reqRefuse 1 target 0 5 s
  else if target = modeService ∧ m = modeLean then
    if byHost ∧ !hostPower s ∧ leanHeld s then reqRefuse 1 target 0 6 s
    else powerSlice (startTr trLeanExit 3 (accepted s))
  else if target = modeLean ∧ (m = modeService ∨ m = modeGuarded) then startLean (accepted s)
  else reqRefuse 1 target 0 4 s

/-- Examine a request when nothing is in progress (R498, R501, R502). -/
def examine (op target low : Nat) (byHost : Bool) (s : State) : State :=
  let m := mode s
  if op = 1 then examineMode target byHost s
  else if op = 2 then
    let s' := wrb (held 0x20) HPWR.BY_BUDGET (!byHost) s
    if traffic m then startDrain trDrainDormant low s'
    else if m = modeCommission then startDrain trDrainFill low s'
    else if m = modeRecovery then wr (held 0x20) HPWR.LOW low (startTr trDormant 0 (accepted s'))
    else reqRefuse op target low 4 s
  else if op = 3 ∨ op = 4 then
    if traffic m then startDrain (if op = 4 then trDrainRecovery else trDrainRestart) 0 s
    else restart (decide (op = 4)) (accepted s)
  else reqRefuse op target low 4 s

/-- The pending request is examined once nothing is in progress (R498). -/
def examinePending (s : State) : State :=
  if rdb s 0x20 PWR0.PWR_STATUS_PENDING ∧ !powerBusy s then
    examine (rd s 0x20 PWR0.PWR_PENDING_OP) (rd s 0x20 PWR0.PWR_PENDING_TARGET) (rd s 0x20 PWR0.PWR_PENDING_LOW_STATE)
      (!rdb s 0x20 PWR0.PWR_PENDING_SOURCE) (clearPending s)
  else s

/-! ## Waking (R503 to R505) -/

/-- The sources of Table 17.6 that a power state allows: 1 WAKE, 2 timer, 3 alarm, 4 host, 5 budget, 6 return of the feed. -/
def wakeAllowed (st src : Nat) : Bool :=
  src = 1 || (decide (src = 4) && decide (st = 1)) || (decide (src = 6) && decide (st = 3))
    || (decide (src = 2 ∨ src = 3 ∨ src = 5) && decide (st ≤ 3))

/-- A wake is accepted in DORMANT (Table 17.7). -/
def acceptWake (src : Nat) (s : State) : State :=
  let st := powerState s
  let pin := rdb s (held 0x20) HPWR.BOOT_PIN
  let s := wr 0x20 PWR0.LAST_WAKE_SRC src s
  if st = 1 then startTr trWake 1 (setPower 0 s)
  else if st = 2 then wr (held 0x20) HPWR.WAKING 1 (wr (held 0x20) HPWR.AT 0 (startTr trWake 0 s))
  else if st = 3 then
    wr (held 0x20) HPWR.WAKING 1 (romStart pin true (wr (held 0x20) HPWR.FAILED 0 s))
  else romStart pin false (wr (held 0x20) HPWR.VIN 1 s)

/-- A wake event: in DORMANT it wakes; during the entry it is latched as a request for COMMISSION (R504, R505). -/
def wakeBy (src : Nat) (s : State) : State :=
  if trKind s = trDormant then wr (held 0x20) HPWR.WAKE_PEND src (latchReq 1 modeCommission 0 true s)
  else if mode s = modeDormant ∧ trKind s ≠ trWake ∧ wakeAllowed (powerState s) src
    ∧ (src = 6 ∨ !rdb s (held 0x20) HPWR.FAILED) then acceptWake src s
  else s

/-- A request, from host software or from Yunager (R498, R510). -/
def pwrReq (op target low : Nat) (byHost : Bool) (s : State) : State :=
  let s := inc 0x20 PWR0.REQUESTS s
  if rdb s (held 0x20) HPWR.FAILED then reqRefuse op target low 7 s
  else
    let s := if byHost ∧ powerState s = 1 then wakeBy 4 s else s
    if op = 5 then clearPending (wr 0x20 PWR0.REQ_RESULT 8 s)
    else if powerBusy s then latchReq op target low byHost s
    else examine op target low byHost s

/-- A request can be written: by host software in RUN and IDLE, by Yunager while it runs. -/
def canAsk (s : State) (byHost : Bool) : Bool :=
  !rdb s (held 0x20) HPWR.PORST && (if byHost then decide (powerState s ≤ 1) else decide (powerState s = 0) && yunagerRuns s)

/-- A request command: a host write to a locked page is turned away (R528). -/
def askPower (op target low : Nat) (byHost : Bool) (s : State) : Host.Outcome State Fault Refusal :=
  let act := fun s => wr 0x20 PWR0.PWR_REQ_OP op (wr 0x20 PWR0.PWR_REQ_TARGET target (wr 0x20 PWR0.PWR_REQ_LOW_STATE low
    (pwrReq op (target % 8) (low % 4) byHost s)))
  keepQueue s (onlyIf (canAsk s byHost) (fun s => if byHost then hostCmd 0x20 0x48 act s else act s) s)

/-- PWR_REQ MODE (R498). -/
def execPwrReqMode (target : Nat) (byHost : Bool) (s : State) : Host.Outcome State Fault Refusal := askPower 1 target 0 byHost s
/-- PWR_REQ DORMANT (R502). -/
def execPwrReqDormant (low : Nat) (byHost : Bool) (s : State) : Host.Outcome State Fault Refusal := askPower 2 0 low byHost s
/-- PWR_REQ RESTART (R501). -/
def execPwrReqRestart (byHost : Bool) (s : State) : Host.Outcome State Fault Refusal := askPower 3 0 0 byHost s
/-- PWR_REQ RESTART_RECOVERY (R501). -/
def execPwrReqRestartRecovery (byHost : Bool) (s : State) : Host.Outcome State Fault Refusal := askPower 4 0 0 byHost s
/-- PWR_REQ CANCEL (R498). -/
def execPwrReqCancel (byHost : Bool) (s : State) : Host.Outcome State Fault Refusal := askPower 5 0 0 byHost s

/-! ## Drains (R44, R45) -/

/-- Kinds of transition that drain. -/
def drains (k : Nat) : Bool :=
  k = trDrainCommission || k = trDrainDormant || k = trDrainRestart || k = trDrainRecovery || k = trDrainFill

/-- The frames that a drain waits for: subscriber frames for COMMISSION, fill writes from COMMISSION, otherwise all. -/
def drainWaits (s : State) (e : QEnt) : Bool :=
  if trKind s = trDrainCommission then decide (e.port ≠ 11) else if trKind s = trDrainFill then decide (e.port = 11) else true

def acceptedFrames (s : State) : List QEnt := s.leafq ++ s.macs.map (·.ent)

/-- None remain, or the deadline of the last of them has passed. -/
def drainOver (s : State) : Bool :=
  (acceptedFrames s).all (fun e => !drainWaits s e || decide (e.deadline < startOf (now s)))

/-- Frames still accepted when their blocks are switched off, their deadlines past, end in the outcome of that instant (R33). -/
def endLeft (s : State) : State :=
  let t := startOf (now s)
  let late := fun (e : QEnt) s => if classify e t = ocLate then raiseLate e t s else s
  let s := forEach s.leafq (fun e s => late e (endQueued (classify e t) e s)) s
  forEach (s.macs.map (·.ent)) (fun e s => late e (endMac (classify e t) e s)) s

/-- A drain that ends in COMMISSION, or goes on to DORMANT or to a restart. -/
def drainEnd (s : State) : State :=
  let k := trKind s
  let s := wrMax 0x20 PWR0.DRAIN_TICKS_MAX ((now s - rd s (held 0x20) HPWR.DRAIN_FROM) / 64) s
  let lean := mode s = modeLean
  if k = trDrainRestart ∨ k = trDrainRecovery then examinePending (restart (decide (k = trDrainRecovery)) (endLeft s))
  else
    let s := if lean then endLean true (powerSlice s) else s
    if k = trDrainCommission then
      examinePending (setMode modeCommission causeRequest (wr (held 0x100) HSCH.STOP 0 (endTr s)))
    else startTr trDormant 0 s

/-- DRAIN_COMPLETE (R44, R45, R498). -/
def execDrainComplete (s : State) : Host.Outcome State Fault Refusal :=
  keepQueue s (onlyIf (drains (trKind s) ∧ !replaying s ∧ (rdb s (held 0x100) HSCH.STOP ∨ rdb s (held 0x100) HSCH.STOP_FILL) ∧ drainOver s) drainEnd s)

/-! ## SELFTEST (R495) -/

/-- SELFTEST ends, with success not before the flow table's READY (R578); `loc` is the location of a failure, which the record of the change to RECOVERY names (Table 17.4). -/
def execSelftestDone (passed : Bool) (loc : Nat) (s : State) : Host.Outcome State Fault Refusal :=
  keepQueue s (onlyIf (mode s = modeSelftest ∧ (if passed then rdb s 0xD0 FLW.FLW_STATUS_READY else decide (locLevel loc ≠ 0))) (fun s =>
    let cause := if rdb s (held 0x20) HPWR.TEST_ASKED then causeRequest else causeBoot
    let s := wr (held 0x20) HPWR.TEST_ASKED 0 s
    if passed then setMode modeCommission cause (wr (held 0x20) HPWR.TEST_PASSED 1 s)
    else
      let s := wr 0x20 PWR0.MODE_SINCE_TICK s.clock.tick (wr 0x20 PWR0.PWR_STATUS_MODE modeRecovery s)
      raiseFault 0x20 PWR0.evMODE_CHANGE loc false [modeSelftest, modeRecovery, cause] (inc 0x20 PWR0.MODE_CHANGES s)) s)

/-! ## LEAN (R42, R499, R500) -/

/-- LEAN_ENTRY: at b, with serving paused because the mode is LEAN. -/
def execLeanEntry (s : State) : Host.Outcome State Fault Refusal :=
  keepQueue s (onlyIf (trDue s trLeanEntry ∧ !replaying s) (fun s =>
    let s := setMode modeLean causeRequest (wr (held 0x100) HSCH.LEAN_C 1 s)
    let s := forEach (List.range 8) leanNarrow (rebuildPlan (leanSuspend s))
    startTr trLeanOff 1 s) s)

/-- LEAN_SLICE_OFF: the slice's last block has committed; its domain goes off and the transition completes. -/
def execLeanSliceOff (s : State) : Host.Outcome State Fault Refusal :=
  keepQueue s (onlyIf (trDue s trLeanOff ∧ rd s (held 0x20) HPWR.AT - 2 ≤ s.nextCommit) (fun s =>
    let x := rd s (held 0x20) HPWR.SLICE
    let s := wr (held 0x20) HPWR.OLD_STATE (rd s 0x180 (CWY.SLICE_STATE x)) s
    examinePending (endTr (setDomain (7 + x) false (wr 0x180 (CWY.SLICE_STATE x) 5 s)))) s)

/-- LEAN_EXIT: at b, the slice and the lanes ready; `passed` is the slice's reset check. -/
def execLeanExit (passed : Bool) (s : State) : Host.Outcome State Fault Refusal :=
  keepQueue s (onlyIf (trDue s trLeanExit ∧ !replaying s) (fun s =>
    let s := endLean passed s
    examinePending (endTr (setMode (if fencedSlice s < 3 then modeGuarded else modeService) causeRequest s))) s)

/-! ## Entry into DORMANT (R502, R503, Table 17.5) -/

/-- The blocks that have run commit before the entry completes. -/
def commitRest (s : State) : State :=
  let s := forEach (List.range 4) (fun _ s =>
    if s.nextCommit < now s then assemble 0 (assemble 1 (commitEnd s.nextCommit 0 (commitItems s.nextCommit [] s))) else s) s
  commitEvents (now s) s

/-- Fibre ports stop transmitting, and start over on the way back to RUN (R503). -/
def holdPorts (s : State) : State :=
  forEach [0, 1] (fun f s => if actState s f = actDisabled ∨ actState s f = actO7 then s else setAct f actO11 s) s

/-- The sleep record of R337: the first tick not run, its time, the sleep counter, the phase, REF_PPB and the reference's source. -/
def refSource (s : State) : Nat := if pllState s = 1 then 1 + timingPort s else 0

def sleepRecord (tick time count phase : Nat) (refPpb : Int) (s : State) : State :=
  let h := held 0x30
  let s := wr h HTIM.SLEEP_TICK tick (wr h HTIM.SLEEP_T time (wr h HTIM.SLEEP_S count (wr h HTIM.SLEEP_PHASE phase s)))
  wr h HTIM.SLEEP_SRC (refSource s) (wrS h HTIM.SLEEP_PPB refPpb (wrS 0x30 TIM0.REF_PPB refPpb s))

/-- The resume record of R480. -/
def writeResume (s : State) : State :=
  { s with resumeRec := (List.range 8).map (measReg s) ++ [rd s 0x11 SEC1.LOG_COUNT, rd s (held 0x10) HSEC.RESIDENT, rd s 0x10 SEC0.BOOT_STATUS_SLOT] }

/-- The state and the mode as DORMANT shows them; STATE_CHANGE and MODE_CHANGE wait in PD0 (R533). -/
def showDormant (st domains : Nat) (s : State) : State :=
  setMode modeDormant causeRequest (setDomains domains (setPower st s))

/-- IDLE: links down, receivers and ticks go on. -/
def enterIdle (s : State) : State :=
  let s := forEach ((List.range 8).filter (kerbUp s)) (fun p s => linkDown p 0 s) s
  showDormant 1 (rd s 0x20 PWR0.PD_STATUS) (endTr s)

/-- SLEEP, DEEP SLEEP, OFF. -/
def enterLow (low count phase : Nat) (refPpb : Int) (s : State) : State :=
  let s := sleepRecord s.clock.tick (curTime s 0) count phase refPpb (storeFlush s)
  let stop := fun (s : State) => { s with clock := { s.clock with running := false, tickOpen := false } }
  if low = 1 then showDormant 2 1 (endTr (stop (sleepState s)))
  else if low = 2 then
    let mask := rd s 0x20 PWR0.RET_MASK
    let s := eraseKeys 0 (eraseKeys 1 (endGrant s))
    let s := if bit mask 4 then writeResume s else { s with resumeRec := [] }
    showDormant 3 1 (endTr (stop (deepState mask s)))
  else
    let s := wr 0x20 PWR0.PWR_STATUS_STATE 4 (wr 0x20 PWR0.PWR_STATUS_MODE modeDormant (wr 0x20 PWR0.PD_STATUS 0 (coldState s)))
    wr (held 0x20) HPWR.VIN 0 s

/-- After the entry: a wake that came meanwhile acts, or the pending request is examined (R498, R505). -/
def afterEntry (s : State) : State :=
  let src := rd s (held 0x20) HPWR.WAKE_PEND
  if src ≠ 0 ∧ powerState s ≤ 3 then acceptWake src (clearPending s) else examinePending s

/-- The entry into the low power state (Table 17.5). `count`, `phase` and `refPpb` are the sleep counter, the boundary's phase in local-clock
cycles, and the reference's frequency, as the sequencer latches them; SLEEP and below stop at a tick boundary. -/
def execDormantEntryComplete (count phase : Nat) (refPpb : Int) (s : State) : Host.Outcome State Fault Refusal :=
  let low := rd s (held 0x20) HPWR.LOW
  keepQueue s (onlyIf (trKind s = trDormant ∧ (low = 0 ∨ s.clock.tickOpen)) (fun s =>
    let s := holdPorts (endLeft (commitRest s))
    let s := wr (held 0x100) HSCH.STOP 0 (wr (held 0x100) HSCH.STOP_FILL 0 s)
    afterEntry (if low = 0 then enterIdle s else enterLow low count phase refPpb s)) s)

/-! ## W (R339, R340) -/

/-- Nanoseconds between the record and W, to the nearest (R339). -/
def sleptNs (s : State) (count phase : Nat) : Nat :=
  let h := held 0x30
  let ds : Nat := (count + 2 ^ 48 - rd s h HTIM.SLEEP_S) % 2 ^ 48
  let f := max 1 (rd s 0x30 TIM0.SLEEP_FREQ)
  let dp : Int := (phase : Int) - (rd s h HTIM.SLEEP_PHASE : Int)
  (roundDiv ((ds : Int) * 65536000000000 * 31104 + dp * 100000 * (f : Int)) (f * 31104)).toNat

/-- INCR is rescaled by 1 + (f_s − f_w) × 10⁻⁹, in hardware mode with the servo's integral (R340). -/
def rescaleIncr (d : Int) (s : State) : State :=
  let v := (roundDiv ((incr s : Int) * (1000000000 + d)) 1000000000).toNat
  let s := wr64 0x30 TIM0.INCR_LO TIM0.INCR_HI v s
  let s := if hwServo s then
      wrS 0x30 TIM0.ADJ_PPB (rdS s 0x30 TIM0.ADJ_PPB - d) (wrS (held 0x30) HTIM.INTEGRAL (rdS s (held 0x30) HTIM.INTEGRAL - d * 2 ^ 32) s)
    else s
  raise 0x30 TIM0.evINCR_RECOMPUTED [ofSigned 32 d] s

/-- The clock goes on at W. -/
def clockResumes (count phase : Nat) (refPpb : Int) (s : State) : State :=
  let h := held 0x30
  let d := rdS s h HTIM.SLEEP_PPB - refPpb
  let n := sleptNs s count phase
  let s := wrS 0x30 TIM0.REF_PPB refPpb s
  let s := if refSource s ≠ rd s h HTIM.SLEEP_SRC ∨ 10 < d.natAbs then rescaleIncr d s else s
  let cyc := nsCycles (n % 125000)
  let s := { s with clock := ⟨true, rd s h HTIM.SLEEP_TICK + n / 125000, min 63 (cyc / blockCycles), false, 0⟩ }
  let s := { s with nextCommit := now s }
  let s := setTime (rd s h HTIM.SLEEP_T + n * 2 ^ 40) (cyc % blockCycles) s
  let s := wr 0x30 TIM0.SLEEP_US (min (2 ^ 32 - 1) (n / 1000)) s
  let bound := rd s 0x30 TIM0.ERR_BOUND_NS + (n * rd s 0x30 TIM0.SLEEP_ERR_PPB + 999999999) / 1000000000 + 10
  forEach (List.range 4) lampStep (forEach (List.range 8) gateStep (enterClk clkUncertain (min 0xFFFFFFFE bound) s))

/-- WAKE_COMPLETE: the instant W (R339, R340, Table 17.7). From SLEEP the terminal is in RUN and COMMISSION follows at the next boundary. -/
def execWakeComplete (count phase : Nat) (refPpb : Int) (s : State) : Host.Outcome State Fault Refusal :=
  keepQueue s (onlyIf (rdb s (held 0x20) HPWR.WAKING) (fun s =>
    let s := clockResumes count phase refPpb (wr (held 0x20) HPWR.WAKING 0 s)
    let s := monWake s.clock.tick s
    if trKind s = trWake then startTr trWake 1 (setDomains (runDomains s) (setPower 0 s)) else s) s)

/-! ## WAKE, the sleep timer and the alarm inputs (R504, R512, R513) -/

/-- An accepted WAKE restarts the 100 ms. -/
def acceptPin (ms : Nat) (s : State) : State :=
  if mode s = modeDormant ∨ trKind s = trDormant then wakeBy 1 (wr (held 0x20) HPWR.WAKE_HELD 0 (wr (held 0x20) HPWR.WAKE_MS (ms + 1) s)) else s

/-- A filtered rising edge of WAKE, `ms` milliseconds into the standby supply's time (R512). -/
def execWakePin (ms : Nat) (s : State) : Host.Outcome State Fault Refusal :=
  let h := held 0x20
  keepQueue s (onlyIf (!rdb s 0x21 PWR1.WAKE_STATUS_LEVEL ∧ rdb s h HPWR.STANDBY) (fun s =>
    let s := wr 0x21 PWR1.WAKE_STATUS_LEVEL 1 s
    let s := if powerState s = 0 then wr h HPWR.WAKE_TICK (s.clock.tick + 1) s else s
    if rd s h HPWR.WAKE_MS ≠ 0 ∧ ms + 1 < rd s h HPWR.WAKE_MS + 100 then wr h HPWR.WAKE_HELD 1 (inc 0x21 PWR1.WAKES_LIMITED s)
    else acceptPin ms s) s)

/-- The 100 ms end with WAKE still active (R512). -/
def execWakeLimitExpiry (ms : Nat) (s : State) : Host.Outcome State Fault Refusal :=
  let h := held 0x20
  keepQueue s (onlyIf (rdb s h HPWR.WAKE_HELD ∧ rdb s 0x21 PWR1.WAKE_STATUS_LEVEL ∧ rd s h HPWR.WAKE_MS + 100 ≤ ms + 1)
    (fun s => acceptPin ms (wr h HPWR.WAKE_HELD 0 s)) s)

/-- WAKE is filtered inactive (R512). -/
def execWakeInactive (s : State) : Host.Outcome State Fault Refusal :=
  let h := held 0x20
  settle s (onlyIf (rdb s 0x21 PWR1.WAKE_STATUS_LEVEL) (fun s =>
    let s := wr h HPWR.WAKE_HELD 0 (wr h HPWR.WAKE_TICK 0 (wr 0x21 PWR1.WAKE_STATUS_LEVEL 0 s))
    if rdb s 0x21 PWR1.WAKE_STATUS_STUCK then raise 0x21 PWR1.evWAKE_STUCK [0] (wr 0x21 PWR1.WAKE_STATUS_STUCK 0 s) else s) s)

/-- WAKE has been active for more than 10 s of RUN (R512). -/
def execWakeStuck (s : State) : Host.Outcome State Fault Refusal :=
  let t := rd s (held 0x20) HPWR.WAKE_TICK
  settle s (onlyIf (powerState s = 0 ∧ rdb s 0x21 PWR1.WAKE_STATUS_LEVEL ∧ !rdb s 0x21 PWR1.WAKE_STATUS_STUCK ∧ t ≠ 0 ∧ t + 80000 ≤ s.clock.tick)
    (fun s => raise 0x21 PWR1.evWAKE_STUCK [1] (wr 0x21 PWR1.WAKE_STATUS_STUCK 1 s)) s)

/-- SLEEP_TIMER seconds have gone by: since the tick stopped by the sleep counter, which stands at `count`, and in IDLE, where it does not
stop, since the mode began (Table 17.6). -/
def timerOver (s : State) (count : Nat) : Bool :=
  let n := rd s 0x20 PWR0.SLEEP_TIMER
  if s.clock.running then decide (n * 8000 ≤ (s.clock.tick + 2 ^ 32 - rd s 0x20 PWR0.MODE_SINCE_TICK) % 2 ^ 32)
  else decide (n * rd s 0x30 TIM0.SLEEP_FREQ ≤ (count + 2 ^ 48 - rd s (held 0x30) HTIM.SLEEP_S) % 2 ^ 48 * 65536)

/-- SLEEP_TIMER_WAKE (R504). -/
def execSleepTimerWake (count : Nat) (s : State) : Host.Outcome State Fault Refusal :=
  keepQueue s (onlyIf (rd s 0x20 PWR0.SLEEP_TIMER ≠ 0 ∧ mode s = modeDormant ∧ timerOver s count) (wakeBy 2) s)

/-- PD0 works: in every state but OFF, with the standby supply and PORST_N high. -/
def pd0On (s : State) : Bool := decide (powerState s ≤ 3) && rdb s (held 0x20) HPWR.STANDBY && !rdb s (held 0x20) HPWR.PORST

/-- A debounced level of alarm input i; `ALM_STATE` shows 1 for an active input (R513). -/
def almTake (i : Nat) (level : Bool) (s : State) : State :=
  let active := level == bit (rd s 0x21 PWR1.ALM_CTRL_POLARITY) i
  if active = bit (rd s 0x21 PWR1.ALM_STATE) i then s
  else
    let s := inc 0x21 (PWR1.ALM_CHANGES i) (wr 0x21 PWR1.ALM_STATE (setBit (rd s 0x21 PWR1.ALM_STATE) i active) s)
    let s := raise 0x21 PWR1.evALM_CHANGE [rd s 0x21 PWR1.ALM_STATE] s
    if bit (rd s 0x21 PWR1.ALM_CTRL_WAKE_EN) i then wakeBy 3 s else s

/-- More than CHAT_COUNT changes within CHAT_WINDOW ticks freeze the input (R513). -/
def almChatter (i : Nat) (s : State) : State :=
  let w := max 1 (rd s 0x21 PWR1.CHAT_WINDOW)
  let l := (i, s.clock.tick) :: s.almTimes.filter (fun x => s.clock.tick < x.2 + w ∧ x.2 ≤ s.clock.tick)
  let s := { s with almTimes := l }
  if max 1 (rd s 0x21 PWR1.CHAT_COUNT) < (l.filter (fun x => x.1 = i)).length then
    raise 0x21 PWR1.evALM_CHATTER [i, 1] (wr 0x21 PWR1.FROZEN (setBit (rd s 0x21 PWR1.FROZEN) i true) s)
  else s

/-- An enabled alarm input has held a new `level` for `ms` ms: a debounced change from ALM_DEB ms on, 0 applied as 1 (R513). -/
def execAlarmChange (input : Nat) (level : Bool) (ms : Nat) (s : State) : Host.Outcome State Fault Refusal :=
  keepQueue s (onlyIf (input < 8 ∧ pd0On s ∧ max 1 (rd s 0x21 (PWR1.ALM_DEB input)) ≤ ms ∧ bit (rd s 0x21 PWR1.ALM_CTRL_EN) input ∧ !bit (rd s 0x21 PWR1.FROZEN) input
      ∧ (level == bit (rd s 0x21 PWR1.ALM_CTRL_POLARITY) input) ≠ bit (rd s 0x21 PWR1.ALM_STATE) input)
    (fun s => almTake input level (almChatter input s)) s)

/-- A frozen input's raw level has held for `ticks` ticks, CHAT_WINDOW or more (R513). -/
def execAlarmRelease (input : Nat) (level : Bool) (ticks : Nat) (s : State) : Host.Outcome State Fault Refusal :=
  keepQueue s (onlyIf (input < 8 ∧ pd0On s ∧ max 1 (rd s 0x21 PWR1.CHAT_WINDOW) ≤ ticks ∧ bit (rd s 0x21 PWR1.FROZEN) input) (fun s =>
    let s := wr 0x21 PWR1.FROZEN (setBit (rd s 0x21 PWR1.FROZEN) input false) { s with almTimes := s.almTimes.filter (fun x => x.1 ≠ input) }
    almTake input level (raise 0x21 PWR1.evALM_CHATTER [input, 0] s)) s)

/-! ## The remote feed (R506 to R509) -/

/-- A poll of the feed converter; `budget` is POUT_MAX in mW, none when the poll or its check failed (R506). -/
def execPmbusPoll (budget : Option Nat) (s : State) : Host.Outcome State Fault Refusal :=
  let h := held 0x20
  keepQueue s (onlyIf (pd0On s) (fun s =>
    match budget with
    | none =>
      let n := rd s h HPWR.POLL_FAILS
      let s := wr h HPWR.POLL_FAILS (min 3 (n + 1)) (inc 0x21 PWR1.PMBUS_ERRORS s)
      if n = 2 then raise 0x21 PWR1.evPMBUS_LOST [1] (wr 0x21 PWR1.FEED_STATUS_BUDGET_KNOWN 0 s) else s
    | some b =>
      let lost := decide (rd s h HPWR.POLL_FAILS = 3)
      let s := wr h HPWR.POLL_FAILS 0 (wr h HPWR.BUDGET b (wr h HPWR.BUDGET_TICK s.clock.tick s))
      let s := wr 0x21 PWR1.FEED_STATUS_BUDGET_KNOWN 1 s
      let s := if lost then raise 0x21 PWR1.evPMBUS_LOST [0] s else s
      if mode s = modeDormant ∧ rdb s h HPWR.BY_BUDGET ∧ rd s 0x21 PWR1.LEAN_MIN_MW + rd s 0x21 PWR1.HYST_MW ≤ b then wakeBy 5 s else s) s)

/-- A change of the filtered level of FEED_WARN_N (R509). -/
def execFeedWarn (asserted : Bool) (s : State) : Host.Outcome State Fault Refusal :=
  settle s (onlyIf (pd0On s ∧ asserted ≠ feedWarn s) (fun s =>
    raise 0x21 PWR1.evFEED_WARN [b2n asserted] (wrb 0x21 PWR1.FEED_STATUS_WARN asserted s)) s)

/-- What Yunager requests in a step (R496, R508). -/
def feedPolicy (s : State) : State :=
  let hold := budgetHold s
  let m := mode s
  if hostPower s ∨ powerBusy s ∨ rdb s 0x20 PWR0.PWR_STATUS_PENDING ∨ rdb s (held 0x20) HPWR.FAILED then s
  else if budgetKnown s ∧ hold ≤ rd s (held 0x20) HPWR.VLOW_TICKS ∧ (m = modeCommission ∨ traffic m) then
    pwrReq 2 0 (rd s 0x20 PWR0.LOW_STATE_BUDGET) false s
  else if (m = modeService ∨ m = modeGuarded) ∧ leanHeld s then pwrReq 1 modeLean 0 false s
  else if m = modeLean ∧ budgetKnown s ∧ hold ≤ rd s (held 0x20) HPWR.OK_TICKS ∧ !feedWarn s then pwrReq 1 modeService 0 false s
  else if m = modeCommission ∧ rdb s 0x20 PWR0.AUTO_SERVICE ∧ mayServe s then pwrReq 1 modeService 0 false s
  else s

/-- A second fault of a slice in GUARDED under hardware power mode: Yunager returns the fenced slice if its test has passed (R497). -/
def degradedReturn (s : State) : State :=
  if rdb s (held 0x180) HCWY.DEGRADED then
    let s := wr (held 0x180) HCWY.DEGRADED 0 s
    let x := fencedSlice s
    if hostPower s ∨ mode s ≠ modeGuarded ∨ 3 ≤ x ∨ !rdb s 0x180 (CWY.SLICE_TEST_PASSED x) then s else rtsReturn x s
  else s

/-! ## Feed failure (R49, R510, R511, Table 17.9) -/

/-- FEED_FAIL_N is recognised: the transition in progress is given up, requests are refused, and the fault log takes the event. -/
def execFeedFail (s : State) : Host.Outcome State Fault Refusal :=
  let h := held 0x20
  settle s (onlyIf (pd0On s ∧ !rdb s h HPWR.FAILED) (fun s =>
    let s := wr 0x21 PWR1.FEED_STATUS_FAIL 1 (clearPending (endTr s))
    let s := wr h HPWR.FEED_AT (now s + 2) (wr h HPWR.FEED_ACTED 0 (wr h HPWR.FAILED 1 s))
    let e := { mkEv s 0x21 PWR1.evFEED_FAIL 0 false [] with deferred := true }
    let s := appendFlog e s
    if s.deferred.length < 256 then { s with deferred := s.deferred ++ [e] } else { s with deferredLost := s.deferredLost + 1 }) s)

/-- The work of the block boundary that follows: admission stops, gasps and the Arcade flush begin, customer roles stop. -/
def feedBoundary (s : State) : State :=
  let h := held 0x20
  let at_ := rd s h HPWR.FEED_AT
  if rdb s h HPWR.FAILED ∧ at_ ≠ 0 ∧ !rdb s h HPWR.FEED_ACTED ∧ at_ ≤ now s + 1 then
    let s := wr (held 0x100) HSCH.STOP 1 (wr (held 0x100) HSCH.STOP_FILL 1 (wr h HPWR.FEED_ACTED 1 s))
    let s := storeFlush (gaspStart 0 (gaspStart 1 s))
    forEach (allRoles.filter (fun r => customerRole r ∧ (roleState s r = roleRunning ∨ roleState s r = roleRestarting))) (fun r s =>
      let c := roleCore s r
      parkRole r roleStopped (if (coreOf s c).role = r + 1 then endTask c s else s)) s
  else s

/-- HOLDUP_US has gone by since the assertion, which came 2 µs before its recognition; a block lasts 15 625 / 8 000 µs (Table 17.9). -/
def holdupOver (s : State) : Bool :=
  let h := min 4800 (rd s 0x21 PWR1.HOLDUP_US)
  !s.clock.running || decide ((h - 2) * 8000 ≤ (now s + 2 - rd s (held 0x20) HPWR.FEED_AT) * 15625)

/-- HOLDUP_END, after HOLDUP_US or when 12 V falls below 8.5 V (`low`): PD1 to PD19 go off, the frames still accepted are abandoned, and DEEP SLEEP follows with no region kept (R49, R510).
`count`, `phase` and `refPpb` as at the entry into DORMANT. -/
def execHoldupEnd (low : Bool) (count phase : Nat) (refPpb : Int) (s : State) : Host.Outcome State Fault Refusal :=
  let h := held 0x20
  keepQueue s (onlyIf (rdb s h HPWR.FAILED ∧ rd s h HPWR.FEED_AT ≠ 0 ∧ (low ∨ holdupOver s)) (fun s =>
    let n := (acceptedFrames s).length
    let s := forEach (acceptedFrames s) (fun e s => countOutcome e.port e.cls ocAbandoned s) s
    let s := wr 0x20 PWR0.ABANDONED_LAST n (wr h HPWR.FEED_AT 0 s)
    let s := appendFlog (mkEv s 0x21 PWR1.evFEED_FAIL 0 false [n]) s
    let s := if s.clock.running then sleepRecord (s.clock.tick + 1) (curTime s ((64 - s.clock.block) * blockCycles)) count phase refPpb s else s
    let s := deepState 0 { s with resumeRec := [] }
    let s := { s with clock := { s.clock with running := false, tickOpen := false } }
    showDormant 3 1 (endTr s)) s)

/-- FEED_RETURN: FEED_FAIL_N has been deasserted for 100 ms with VIN in range (R511). -/
def execFeedReturn (s : State) : Host.Outcome State Fault Refusal :=
  let h := held 0x20
  keepQueue s (onlyIf (pd0On s ∧ rdb s h HPWR.FAILED ∧ rd s h HPWR.FEED_AT = 0 ∧ rdb s h HPWR.VIN) (fun s =>
    wakeBy 6 (wr 0x21 PWR1.FEED_STATUS_FAIL 0 s)) s)

/-! ## Domains (R493) -/

/-- A domain that PD_CTRL switched on is ready 50 µs after its boundary: 26 block boundaries on. -/
def execDomainReady (domain : Nat) (s : State) : Host.Outcome State Fault Refusal :=
  let at_ := rd s (held 0x20) (HPWR.READY domain)
  settle s (onlyIf (domain < 20 ∧ at_ ≠ 0 ∧ at_ ≤ now s + 1) (fun s =>
    wr (held 0x20) (HPWR.READY domain) 0 (resetDomain domain s)) s)

/-- Domains that PD_CTRL must leave on (R493). -/
def pdNeeded (s : State) (d : Nat) : Bool :=
  let fib := fun f => rxEn s f || rdb s (fibN f 2) FB2.ACT_CTRL_ACT_EN
  let kerb := fun lo => (List.range 4).any (fun i => portEn s (lo + i))
  if d = 3 then fib 0 || timingPort s = 0
  else if d = 4 then fib 0
  else if d = 5 then fib 1 || timingPort s = 1
  else if d = 6 then fib 1
  else if d = 13 then kerb 0
  else if d = 14 then kerb 4
  else if d = 16 then rdb s 0x1C0 MEW0.MEW_CTRL_EN
  else if d = 17 then (List.range 4).any (fun h => rdb s 0x1A0 (TRM0.HWY_CTRL_EN h))
  else if d = 19 then rdb s 0x1E0 ARC0.ARC_CTRL_EN
  else false

/-- PAGE_COMMIT of page 0x020 with PD_CTRL staged: a refused change keeps the old value (R493). -/
def pdCommit (old s : State) : State :=
  let was := rd old 0x20 PWR0.PD_CTRL
  let is := rd s 0x20 PWR0.PD_CTRL
  let off := pdActs.filter (fun d => bit was d ∧ !bit is d)
  let on := pdActs.filter (fun d => !bit was d ∧ bit is d)
  if was = is then s
  else if off.any (pdNeeded s) then wr 0x20 PWR0.PD_RESULT 2 (wr 0x20 PWR0.PD_CTRL was s)
  else
    let s := forEach off (fun d s => wr (held 0x20) (HPWR.READY d) 0 s) s
    let s := forEach on (fun d s => wr (held 0x20) (HPWR.READY d) (now s + 27) s) s
    wr 0x20 PWR0.PD_RESULT 1 (setDomains (on.foldl (fun v d => setBit v d true) (off.foldl (fun v d => setBit v d false) (rd s 0x20 PWR0.PD_STATUS))) s)

/-! ## The sequencer at boundaries -/

/-- At a block boundary: a drain's stop of admission, a mode change that is due and no replay holds back (R48), COMMISSION after a wake and not
before the flow table's READY (R578), the pending request. -/
def powerBoundary (s : State) : State :=
  let k := trKind s
  let due := trDue s k
  let s := feedBoundary s
  let s := if drains k ∧ due then
      let s := if k = trDrainFill then s else wr (held 0x100) HSCH.STOP 1 s
      let s := if k = trDrainCommission then s else wr (held 0x100) HSCH.STOP_FILL 1 s
      wr (held 0x20) HPWR.AT 0 s
    else s
  let s := if k = trMode ∧ due ∧ !replaying s then
      let m := rd s (held 0x20) HPWR.TARGET
      let s := setMode m causeRequest (endTr s)
      if m = modeService then autoConfirm s else s
    else s
  let s := if k = trWake ∧ due then setMode modeCommission causeWake (endTr s) else s
  let s := if rdb s (held 0x10) HSEC.COMMISSION_WAIT ∧ mode s = modeBoot ∧ rdb s 0xD0 FLW.FLW_STATUS_READY then
      setMode modeCommission causeWake (wr (held 0x10) HSEC.COMMISSION_WAIT 0 s)
    else s
  examinePending s

/-- B against a threshold of R508: the count of ticks for which it has held. -/
def holdCount (f : Field) (b : Bool) (s : State) : State := if b then addc (held 0x20) f 1 s else wr (held 0x20) f 0 s

/-- B crosses a threshold (Table 17.13). -/
def budgetCross (i threshold : Nat) (s : State) : State :=
  let b := rd s 0x21 PWR1.FEED_BUDGET_MW
  let old := rd s (held 0x20) HPWR.BELOW
  if bit old i = decide (b < threshold) then s
  else raise 0x21 PWR1.evBUDGET_LOW [b, threshold] (wr (held 0x20) HPWR.BELOW (setBit old i (decide (b < threshold))) s)

/-- The sequencer at a tick boundary of RUN: FEED_SAMPLES, the fallback of a silent FEED_FILTER, the budget's hold times, the sleep counter's
calibration, a resume record deleted by a feed failure (R338, R507, R508, R510). -/
def powerTick (s : State) : State :=
  let h := held 0x20
  let t := s.clock.tick
  let p := Config.sensor 0x103 0 t
  let v := Config.sensor 0x104 0 t
  let budget := if budgetKnown s then rd s h HPWR.BUDGET else 0
  let s := sendHw reqPower 9 tagFeed [ofSigned 48 p, ofSigned 48 v, budget, t - rd s h HPWR.BUDGET_TICK] s
  let last := rd s (held 0x21) HPWR.FILTER_TICK
  let s := if last = 0 ∨ t + 1 < last ∨ last + 80 ≤ t + 1 then
      let s := wr 0x21 PWR1.FEED_V_MV (ofSigned 32 v) (wr 0x21 PWR1.FEED_BUDGET_MW budget (wr 0x21 PWR1.FEED_P_MW (ofSigned 32 p) s))
      wr 0x21 PWR1.FEED_STATUS_FILTER_STALE 1 (wrS 0x21 PWR1.HEADROOM_MW ((budget : Int) - p) s)
    else s
  let b := rd s 0x21 PWR1.FEED_BUDGET_MW
  let known := budgetKnown s
  let svc := rd s 0x21 PWR1.SERVICE_MIN_MW
  let lean := rd s 0x21 PWR1.LEAN_MIN_MW
  let s := holdCount HPWR.LOW_TICKS (known && decide (b < svc)) s
  let s := holdCount HPWR.OK_TICKS (known && decide (svc + rd s 0x21 PWR1.HYST_MW ≤ b)) s
  let s := holdCount HPWR.VLOW_TICKS (known && decide (b < lean)) s
  let s := if known then budgetCross 1 lean (budgetCross 0 svc s) else s
  let s := monSample 0x06 0 (rd s 0x21 PWR1.FEED_P_MW) s
  let s := if rdb s 0x21 PWR1.WAKE_STATUS_LEVEL then
      let w := rd s h HPWR.WAKE_TICK
      if w = 0 ∨ t + 1 < w then wr h HPWR.WAKE_TICK (t + 1) s else s
    else s
  let s := wr 0x30 TIM0.SLEEP_FREQ (max 1 (Config.sensor 0x105 0 t).toNat) s
  if rdb s h HPWR.FAILED then { s with resumeRec := [] } else s

end Sys2Proof.Machine
end

