-- ==== Sys2Proof/Machine/Reset.lean ====
section
/-! DEFINITION. The module's pins and supplies: PORST_N, WARM_N, 3V3_SB, VIN, removal, the optics bus, test access, and the loss of the core
clock (R39, R561 to R572). -/

namespace Sys2Proof.Machine

/-- A pin of the module as it is held. -/
def pin (s : State) (f : Field) : Bool := rdb s (held 0x20) f

/-- PORST_N is low: every domain is held in reset, and no ROM runs (R561). -/
def porstLow (s : State) : State := wr (held 0x10) HSEC.ROM 0 (wr (held 0x20) HPWR.PORST 1 (wr (held 0x20) HPWR.SCAN 0 s))

/-- PORST_ASSERT (R561). -/
def execPorstAssert (s : State) : Host.Outcome State Fault Refusal :=
  keepQueue s (onlyIf (!pin s HPWR.PORST) (fun s => porstLow (porstState s)) s)

/-- The module is in OFF, as a request or a missing VIN leaves it (R564, Table 17.3). -/
def showOff (s : State) : State :=
  wr (held 0x10) HSEC.ROM 0 (wr 0x20 PWR0.PWR_STATUS_STATE 4 (wr 0x20 PWR0.PWR_STATUS_MODE modeDormant (wr 0x20 PWR0.PD_STATUS 0 s)))

/-- PORST_DEASSERT: BOOT_SEL is sampled; with VIN there, the ROM starts (R561, R563, R567). -/
def execPorstDeassert (bootSel : Bool) (s : State) : Host.Outcome State Fault Refusal :=
  let h := held 0x20
  keepQueue s (onlyIf (pin s HPWR.PORST ∧ pin s HPWR.STANDBY) (fun s =>
    let s := wr h HPWR.PORST 0 (wrb h HPWR.BOOT_PIN bootSel s)
    if pin s HPWR.VIN then romStart bootSel false s else showOff (wr h HPWR.POWER_ON 1 s)) s)

/-- WARM_N has an effect: not while PORST_N is low, nor while the feed-failure sequence runs, nor from OFF, where only WAKE acts (R504, R562). -/
def warmOk (s : State) : Bool :=
  pd0On s && decide (rd s (held 0x20) HPWR.FEED_AT = 0) && pin s HPWR.VIN && !pin s HPWR.SCAN

/-- WARM_RESET: a pulse of WARM_N; BOOT_SEL is sampled at its end (R562, R563). -/
def execWarmReset (bootSel : Bool) (s : State) : Host.Outcome State Fault Refusal :=
  let h := held 0x20
  keepQueue s (onlyIf (warmOk s) (fun s => warmReset bootSel (wr h HPWR.FAILED 0 (wrb h HPWR.BOOT_PIN bootSel s))) s)

/-- STANDBY_POWER_UP: 3V3_SB enters its range while the board holds PORST_N; retention SRAM has lost its contents (R561, R564). -/
def execStandbyPowerUp (s : State) : Host.Outcome State Fault Refusal :=
  keepQueue s (onlyIf (pin s HPWR.PORST) (fun s => porstLow (wr (held 0x20) HPWR.STANDBY 1 (coldState s))) s)

/-- VIN_SWITCH_CLOSE: the rails start; a ROM that waited for VIN runs. In OFF by request the switch stays open (R565, R567). -/
def execVinSwitchClose (s : State) : Host.Outcome State Fault Refusal :=
  let h := held 0x20
  keepQueue s (onlyIf (!pin s HPWR.VIN ∧ pin s HPWR.STANDBY ∧ (pin s HPWR.PORST ∨ pin s HPWR.POWER_ON ∨ powerState s ≠ 4)) (fun s =>
    let s := wr h HPWR.VIN 1 s
    if pin s HPWR.POWER_ON ∧ !pin s HPWR.PORST then romStart (pin s HPWR.BOOT_PIN) false (wr h HPWR.POWER_ON 0 s) else s) s)

/-- VIN_SWITCH_OPEN (R565). What the loss of VIN does to the terminal is the feed-failure sequence's part (R510). -/
def execVinSwitchOpen (s : State) : Host.Outcome State Fault Refusal :=
  settle s (onlyIf (pin s HPWR.VIN) (wr (held 0x20) HPWR.VIN 0) s)

/-- MODULE_WITHDRAWN: the short contacts break, PORST_N falls, and the supplies follow (R569). -/
def execModuleWithdrawn (s : State) : Host.Outcome State Fault Refusal :=
  let h := held 0x20
  keepQueue s (onlyIf (pin s HPWR.STANDBY) (fun s => wr h HPWR.STANDBY 0 (wr h HPWR.VIN 0 (porstLow (porstState s)))) s)

/-! ## The optics bus (R571) -/

/-- A text in a field of n bytes, padded with spaces. -/
def optText (l : List Nat) (n i : Nat) : Nat := if i < n then l.getD i 32 else 32

/-- A byte of a fibre port's identity: vendor name, part, serial number and wavelength stand where SFF-8472 has them. -/
def optIdentityByte (s : State) (f addr off : Nat) : Nat :=
  let sn := 0x52534E47 * 2 ^ 32 + vssn s f
  if 20 ≤ off ∧ off < 36 then optText [82, 79, 83, 65, 78, 69, 71] 16 (off - 20)
  else if 40 ≤ off ∧ off < 56 then optText [85, 72, 76, 45, 53, 48, 52, 56] 16 (off - 40)
  else if 68 ≤ off ∧ off < 84 then (if off - 68 < 8 then sn / 2 ^ (8 * (7 - (off - 68))) % 256 else 32)
  else Config.optIdentity addr off % 256

/-- A byte that the module gives at an address and offset of Table 19.10; elsewhere the byte is open. -/
def optByte (s : State) (addr off : Nat) : Nat :=
  let f := if addr = 0xA0 ∨ addr = 0xA2 then 0 else 1
  if (addr = 0xA0 ∨ addr = 0xA4) ∧ off < 96 then optIdentityByte s f addr off
  else if (addr = 0xA2 ∨ addr = 0xA6) ∧ 96 ≤ off ∧ off < 106 then
    (if pdOn s (3 + 2 * f) then (Config.sensor 0x106 (16 * f + (off - 96)) s.clock.tick).toNat % 256 else 0xFF)
  else Config.optIdentity addr off % 256

/-- OPT_READ: PD0 serves the bus in every state except OFF. -/
def execOptRead (addr off : Nat) (s : State) : Host.Outcome State Fault Refusal :=
  settle s (onlyIf (pd0On s ∧ (addr = 0xA0 ∨ addr = 0xA2 ∨ addr = 0xA4 ∨ addr = 0xA6) ∧ off < 256)
    (fun s => { s with optOut := some (addr, off, optByte s addr off) }) s)

/-! ## Test access (R572) -/

/-- EXTEST_LOAD: work stops as WARM_N's assertion stops it; the I/O rings are powered, their logic is not. -/
def execExtestLoad (s : State) : Host.Outcome State Fault Refusal :=
  keepQueue s (onlyIf (warmOk s) (fun s =>
    let granted := rdb s (held 0x10) HSEC.GRANTED
    let t := wr (held 0x10) HSEC.ROM 0 (clearTransition (warmState s))
    let t := if granted then raise 0x12 SEC2.evDEBUG_ENDED [] t else t
    wr (held 0x20) HPWR.SCAN 1 (setDomains 1 t)) s)

/-- TAP_RESET acts as the deassertion of WARM_N. -/
def execTapReset (bootSel : Bool) (s : State) : Host.Outcome State Fault Refusal :=
  let h := held 0x20
  keepQueue s (onlyIf (pin s HPWR.SCAN) (fun s => romStart bootSel false (wr h HPWR.SCAN 0 (wrb h HPWR.BOOT_PIN bootSel s))) s)

/-! ## Loss of the core clock (R39, Table 1.7) -/

/-- CLOCK_FAULT: the terminal resets, all but PD0; the record is in the fault log at once and among the events of the first block that runs
afterwards. -/
def execClockFault (s : State) : Host.Outcome State Fault Refusal :=
  keepQueue s (onlyIf (powerState s ≤ 1 ∧ !pin s HPWR.PORST ∧ pin s HPWR.STANDBY ∧ !pin s HPWR.SCAN) (fun s =>
    let e := { mkEv s 0 GEN.evCLOCK_FAULT (locDie 0) false [] with deferred := true }
    let t := appendFlog e s
    let t := if t.deferred.length < 256 then { t with deferred := t.deferred ++ [e] } else { t with deferredLost := t.deferredLost + 1 }
    warmReset (pin s HPWR.BOOT_PIN) t) s)

end Sys2Proof.Machine
end

