-- ==== Sys2Proof/Machine/Access.lean ====
section
/-! DEFINITION. Register access: host writes and reads, staged commits with each page's checks and effects, locks, soft reset, event bits,
the event ring's control, the fault-log window, monitor commands (R455, R516 to R523, R527 to R545, R575). -/

namespace Sys2Proof.Machine

/-! ## Commits (R520 to R523) -/

/-- The clock at the next block boundary; while a tick is open, that of its block 0. -/
def atBoundary (s : State) : State :=
  if s.clock.tickOpen then s
  else if s.clock.block = 63 then { s with clock := { s.clock with tick := s.clock.tick + 1, block := 0 } }
  else { s with clock := { s.clock with block := s.clock.block + 1 } }

/-- A commit request is settled: 1 applied, 2 refused, 3 locked. -/
def commitSettle (p r : Nat) (s : State) : State :=
  let s := wr p COM.PAGE_COMMIT_REQUEST 0 (wr p COM.PAGE_COMMIT_RESULT r { s with commitReq := Map.put 0 s.commitReq p 0 })
  if r = 1 then wr p COM.PAGE_COMMIT_EPOCH (rd s p COM.PAGE_COMMIT_EPOCH + 1) s else s

/-- A request for a commit at the next boundary. -/
def commitRequest (p : Nat) (s : State) : State :=
  wr p COM.PAGE_COMMIT_REQUEST 1 { s with commitReq := Map.put 0 s.commitReq p (now s + 1) }

/-- FUNC_MODE as committed: activation in host-assisted mode needs that port's PLOAM in it too; else the old fields stay (R452). -/
def funcCommit (old s : State) : State :=
  let m := rd s 8 THL.FUNC_MODE
  if m = rd old 8 THL.FUNC_MODE then s
  else if (bit m 0 && !bit m 2) || (bit m 1 && !bit m 3) then
    raise 8 THL.evFUNC_REFUSED [] (wr 8 THL.FUNC_RESULT 2 (wr 8 THL.FUNC_MODE (rd old 8 THL.FUNC_MODE) s))
  else takeFuncPort 1 (takeFuncPort 0 (wr 8 THL.FUNC_RESULT 1 (wr (held 8) HTHL.FUNC_AT (now s + 3) s)))

/-- Records of a page range with a staged copy. -/
def stagedIn (s : State) (lo hi : Nat) : List Nat :=
  ((s.staged.map (fun e => e.1 / 32768)).filter (fun p => lo ≤ p ∧ p < hi)).eraseDups

/-- What a page's commit does beside applying its copies; `old` is the state before. -/
def pageApplied (p : Nat) (old s : State) : State :=
  if p = 8 then funcCommit old s
  else if p = 0x20 then pdCommit old s
  else if p = 0x30 then followSource (clkShow (if incr old = incr s then s else setTime (curTime old 0) 0 s))
  else if p = 0x40 then rxEnCommitted 0 old s
  else if p = 0x60 then rxEnCommitted 1 old s
  else if p = 0x42 then actEnCommitted 0 old s
  else if p = 0x62 then actEnCommitted 1 old s
  else if p = 0x43 then slotsCommitted 0 old s
  else if p = 0x63 then slotsCommitted 1 old s
  else if 0x80 ≤ p ∧ p < 0x88 then kerbCommit (p - 0x80) s
  else if p = 0xD1 then profileCommit old s
  else if p = 0x102 then forEach (List.range 8) (fun q s => showGates q (gateCommit q s)) s
  else if p = 0x140 then forEach (stagedIn old 0x60000 0x80000) (fun pg s => startPolicer (now s) (pg - 0x60000) s) s
  else if p = 0x1A1 then tribCommit old s
  else if p = 0x200 then forEach (stagedIn old 0x15900 0x15930) (fun pg s => monRestart (pg - 0x15900) s) s
  else s

/-- A page's own check fails on the copies as applied to `s`: reservations above the on-die buffers (R198). -/
def pageRefuses (p : Nat) (s : State) : Bool :=
  decide (p = 0xE0) && !(List.range 3).all (fun q => carveResv s carveExpress q + carveResv s carveControl q ≤ poolOndie s q)

/-- Commit one page at this boundary (R521). -/
def commitPage (p : Nat) (s : State) : State :=
  if p = 0x1C1 then commitSettle p 1 (wr p COM.PAGE_STATUS_STAGED 0 (roleCommit s))
  else
    let t := applyStaged p s
    if pageRefuses p t then commitSettle p 2 s else commitSettle p 1 (pageApplied p s t)

/-- Commit the scheduler's pages, checked as a whole (R222). -/
def commitSched (a b : Bool) (s : State) : State :=
  if !a && !b then s
  else
    let t := if a then applyStaged 0x101 s else s
    let t := if b then applyStaged 0x150 t else t
    let (r, n) := schedCheck t
    let s := if r = 0 then windowsCommitted s (schedApplied s t) else s
    let one := fun (on : Bool) (p st : Nat) (f : Field) (ev d : Nat) (s : State) =>
      if !on then s
      else
        let s := commitSettle p (if r = 0 then 1 else 2) (wr st f r s)
        if r = 0 then s else raise st ev [r, d] s
    one b 0x150 0x150 UPA.UPA_STATUS_CFG_RESULT UPA.evCFG_REFUSED (slotCode t (schedOffenders t))
      (one a 0x101 0x100 SCH0.SCH_STATUS_CFG_RESULT SCH0.evCFG_REFUSED n s)

/-- Commit a set of pages at one boundary, in page order. -/
def commitPages (l : List Nat) (s : State) : State :=
  let s := forEach (l.filter (fun p => p ≠ 0x101 ∧ p ≠ 0x150)) commitPage s
  commitSched (l.contains 0x101) (l.contains 0x150) s

/-- The pages that commit at the next boundary: those requested, and with `COMMIT_ALL` every staged one. -/
def commitDue (s : State) : List Nat :=
  (pageTable.map (·.1)).filter (fun p => decide (Map.get 0 s.commitReq p ≠ 0) || (rdb s 0 GEN.COMMIT_ALL && rdb s p COM.PAGE_STATUS_STAGED))

/-- The commits of a block boundary. -/
def commitBoundary (s : State) : State :=
  let l := commitDue s
  commitPages l (wr 0 GEN.COMMIT_ALL 0 s)

/-- PAGE_COMMIT_REQUEST (R521). -/
def execPageCommitRequest (page : Nat) (s : State) : Host.Outcome State Fault Refusal :=
  settle s (onlyIf (pageInfo page).isSome (fun s =>
    if locked s page then wr page COM.PAGE_COMMIT_RESULT 3 (lockViolation page 0x20 s) else commitRequest page s) s)

/-- The pages whose commit goes with a page's: the scheduler's two are checked as a whole where both are due at the boundary (R222). -/
def commitWith (page : Nat) (s : State) : List Nat :=
  if page = 0x101 ∨ page = 0x150 then [0x101, 0x150].filter (fun p => decide (p = page) || (commitDue s).contains p) else [page]

/-- PAGE_COMMIT: the boundary's step 1 for one page that has a request (R521). -/
def execPageCommit (page : Nat) (s : State) : Host.Outcome State Fault Refusal :=
  settle s (onlyIf (s.clock.running ∧ Map.get 0 s.commitReq page ≠ 0) (fun s => commitPages (commitWith page s) (atBoundary s)) s)

/-- COMMIT_ALL: every page staged at the next boundary commits there (R522). -/
def execCommitAll (s : State) : Host.Outcome State Fault Refusal :=
  settle s (hostCmd 0 0x44 (wr 0 GEN.COMMIT_ALL 1) s)

/-! ## PAGE_CTRL, soft reset, locks (R519, R528) -/

/-- A write to `PAGE_CTRL` is ignored. -/
def ctrlIgnored (p : Nat) (s : State) : State := wr p COM.PAGE_STATUS_CFG_IGNORED 1 s

/-- SOFT_RESET: only where ENABLE_CTL is set and ENABLE is clear. -/
def softReset (p : Nat) (s : State) : State :=
  if enableCtl p ∧ !rdb s p COM.PAGE_CTRL_ENABLE then
    wr p COM.PAGE_CTRL_SOFT_RESET 1 { s with softResets := s.softResets.filter (· ≠ p) ++ [p] }
  else ctrlIgnored p s

/-- The ENABLE bit of a write to `PAGE_CTRL`. -/
def writeEnable (p : Nat) (on : Bool) (s : State) : State :=
  if p = 0xE0 then (if on then sqrEnable s else sqrDisable s)
  else if p = 0x200 then
    wrb p COM.PAGE_CTRL_ENABLE on (if on ∨ !rdb s p COM.PAGE_CTRL_ENABLE then s else monPartial (List.range 48) s)
  else if on then s
  else ctrlIgnored p s

/-- SOFT_RESET. -/
def execSoftReset (page : Nat) (s : State) : Host.Outcome State Fault Refusal :=
  settle s (onlyIf (pageInfo page).isSome (hostCmd page 8 (softReset page)) s)

/-- PAGE_CTRL_WRITE: ENABLE, VIEW_STAGED and, when bit 1 is set, SOFT_RESET. -/
def execPageCtrlWrite (page value : Nat) (s : State) : Host.Outcome State Fault Refusal :=
  settle s (onlyIf (pageInfo page).isSome (hostCmd page 8 (fun s =>
    let s := wr page COM.PAGE_CTRL_VIEW_STAGED (bitsOf value 2 1) (writeEnable page (bit value 0) s)
    if bit value 1 then softReset page s else s)) s)

/-- The soft resets that are due at a block boundary (R519). -/
def softResetBoundary (s : State) : State :=
  let l := s.softResets
  forEach l (fun p s =>
    let s := forEach (instPages p) (fun q s => resetPage q s) s
    if p = 0xE0 then buildPools (resetPage (held 0xE0) s)
    else
      let s := forEach (List.range 48) (fun c s => resetPage (Tab.mcfg c) s) s
      forEach (List.range 48) monRestart s) { s with softResets := [] }

/-- Words that a double-bit error struck take their reset values, in effect and in staging (R525). -/
def wordResetBoundary (s : State) : State :=
  let l := s.wordResets
  forEach l (fun x s => forEach (wordFields x.1 x.2) (fun f s =>
    let k := f.key (homePage x.1 f)
    { s with regs := Map.erase s.regs k, staged := Map.erase s.staged k }) s) { s with wordResets := [] }

/-- PAGE_LOCK: LOCK in bit 0, STICKY in bit 1 (R528). -/
def execPageLock (page value : Nat) (s : State) : Host.Outcome State Fault Refusal :=
  settle s (onlyIf (pageInfo page).isSome (fun s =>
    let held := rdb s page COM.PAGE_LOCK_STICKY
    let s := if bit value 1 then wr page COM.PAGE_LOCK_STICKY 1 s else s
    if bit value 0 then wr page COM.PAGE_LOCK_LOCK 1 s else if held then s else wr page COM.PAGE_LOCK_LOCK 0 s) s)

/-! ## Event bits (R530, R532, R533) -/

/-- PAGE_EVENT_SET: test events of the block that begins at the next boundary (R532). -/
def execPageEventSet (page value : Nat) (s : State) : Host.Outcome State Fault Refusal :=
  settle s (match pageInfo page with
    | none => s
    | some i =>
      hostCmd page 0x18 (fun s =>
        { s with evq := s.evq ++ ((List.range i.evBits).filter (bit value)).map (fun b =>
          { mkEv s page b 0 false [] with abs := now s + 1, test := true }) }) s)

/-- W1C words that a lock does not protect: PAGE_STATUS, PAGE_EVENT, PAGE_FAULT, and TBL_STATUS where the page has it (R527, R528). -/
def lockFree (page off : Nat) : Bool :=
  off = 0x0C || off = 0x10 || off = 0x1C || (off = 0x108 && (pageInfo page).any (·.table)) || (off = 0x308 && decide (page = 0x11))

/-- EVENT_CLEAR: the W1C bits of a word that are written 1 clear, but for those that hardware sets in the same cycle (R9, R530). -/
def execEventClear (page off value same : Nat) (s : State) : Host.Outcome State Fault Refusal :=
  settle s (onlyIf (pageInfo page).isSome (fun s =>
    if locked s page ∧ !lockFree page off then lockViolation page off s
    else forEach ((wordFields page off).filter (fun f => f.acc = .w1c)) (fun f s =>
      let keep := bitsOf same f.lo f.width
      let v := bitsOf value f.lo f.width
      writeField page f (v - (v &&& keep)) s) s) s)

/-- DEFERRED_EVENT: an event raised while no blocks run (R533). -/
def execDeferredEvent (page evBit : Nat) (detail : List Nat) (s : State) : Host.Outcome State Fault Refusal :=
  settle s (onlyIf (!blocksRun s && (pageInfo page).any (fun i => evBit < i.evBits)) (raise page evBit detail) s)

/-! ## Reads (R9, R325, R517) -/

/-- The word at an offset as a host read returns it: a latched word shows what was latched. -/
def readWord (s : State) (p off : Nat) : Nat :=
  match Map.get none s.latches (p * 4096 + off) with
  | some v => v
  | none => showWord s p off

/-- COUNTER_READ_CLEAR: a read of a word; its RC fields clear, an amount `n` that arrives at bit `lo` in the same cycle is kept. -/
def execCounterReadClear (page off lo n : Nat) (s : State) : Host.Outcome State Fault Refusal :=
  settle s (clearRC page off (some (lo, n)) { s with hostRead := readWord s page off })

/-- Latch the words of a page at these offsets. -/
def latchWords (p : Nat) (l : List Nat) (s : State) : State :=
  forEach l (fun off s => { s with latches := Map.put none s.latches (p * 4096 + off) (some (showWord s p off)) }) s

/-- LATCHING_READ: `NOW_NS`, `TICK_NS` and `SFC_LO` latch their companions (R325, Table 3.5). -/
def execLatchingRead (page off cyc : Nat) (s : State) : Host.Outcome State Fault Refusal :=
  let t :=
    if page = 0x30 ∧ off = 0x48 then showNow cyc s
    else if page = 0x30 ∧ off = 0x58 then latchWords 0x30 [0x5C, 0x60, 0x64, 0x68] s
    else if (page = 0x40 ∨ page = 0x60) ∧ off = 0x4C then latchWords page [0x50] s
    else s
  settle s { t with hostRead := readWord t page off }

/-! ## Writes (R9, R517, R575) -/

/-- An access that is not a whole word (R517). -/
def badAccess (p off : Nat) (s : State) : State := raiseFirst 0 GEN.evBAD_ACCESS [p * 4096 + off] (inc 0 GEN.BAD_ACCESS s)

/-- Words with commands of their own: a plain write to them does nothing. -/
def ownCommand (p off : Nat) : Bool :=
  off = 0x08 || off = 0x18 || off = 0x20 || off = 0x24
    || (decide (0x80 ≤ p ∧ p < 0x88) && off = 0x40) || (decide (0xA0 ≤ p ∧ p < 0xA9) && decide (0x40 ≤ off ∧ off % 0x20 = 0 ∧ off < 0xC0))
    || (p = 0xA9 && off = 0x40) || (p = 0x1C0 && off = 0x40)
    || (p = 0xB1 && decide (0x100 ≤ off ∧ off % 0x20 = 0x18)) || (p = 0 && (off = 0x94 || off = 0x98 || off = 0x44))

/-- The value of a guarded field as the block applies it: `DIRECT_BASE` without its ignored bits (Table 6.4). -/
def appliedValue (p : Nat) (f : Field) (v : Nat) : Nat := if p = 0xD0 ∧ f = FLW.DIRECT_BASE then max 8 (8 * (v / 8)) else v

/-- A field guarded by an enable keeps its value; the page's CFG_IGNORED is set where the write would change it (R575). -/
def guardField (on : Bool) (p : Nat) (f ignored : Field) (v : Nat) (s : State) : State :=
  if !on then writeField p f v s
  else if appliedValue p f (v % 2 ^ f.width) = appliedValue p f (rd s p f) then s
  else wr p ignored 1 s

/-- Fields that are the terminal's while a function is in hardware mode: a host write to them is discarded (R451, R452). -/
def terminalsOwn (s : State) (p off : Nat) : Bool :=
  (p = 0x40 && decide (0xC0 ≤ off ∧ off < 0x108) && !hostEq s 0) || (p = 0x60 && decide (0xC0 ≤ off ∧ off < 0x108) && !hostEq s 1)
    || (p = 0x30 && off = 0x118 && !hostOmci s 0) || (p = 0x30 && off = 0x11C && !hostOmci s 1)

/-- Write one field of a word, with the guards of R575, R333 and R452. -/
def writeGuarded (p : Nat) (f : Field) (v : Nat) (s : State) : State :=
  if p = 0xD0 ∧ (f = FLW.DIRECT_BASE ∨ f = FLW.HASH_SEED) then guardField (rdb s 0xD0 FLW.FLW_CTRL_EN) p f FLW.FLW_STATUS_CFG_IGNORED v s
  else if p = 0xD0 ∧ f = FLW.FLW_CTRL_EN then (if v % 2 = 0 then wr 0xD0 FLW.FLW_CTRL_EN 0 s else s)
  else if p = 0xE0 ∧ (f = SQR0.SQR_CTRL_HEADROOM ∨ (List.range 3).any (fun q => f = SQR0.POOL_ONDIE_MIB q ∨ f = SQR0.POOL_SPILL_MIB q)) then
    guardField (rdb s 0xE0 COM.PAGE_CTRL_ENABLE) p f SQR0.SQR_STATUS_CFG_IGNORED v s
  else if p = 0x30 ∧ (f = TIM0.INCR_LO ∨ f = TIM0.INCR_HI) ∧ hwServo s then wr 0x30 TIM0.CLK_STATUS_CFG_IGNORED 1 s
  else if (p = 0x42 ∨ p = 0x62) ∧ f = FB2.PM_CTRL_ILOWPOWER_MAX ∧ !hostOmci s (p / 0x20 - 2) then
    (if v % 2 ^ f.width = rdStaged s p f then s else inc 8 THL.HANDOFF_DISCARDS s)
  else if p = 0x12 ∧ 0x140 ≤ f.off ∧ f.acc = .wo then wr p f v s
  else if (p = 0x102 ∨ p = 0x200) ∧ f.off = 0x110 then wr p f (v &&& dataMask p 0) s
  else writeField p f v s

/-- The word of a page's own registers takes a value, field by field (Table 0.4). -/
def writeFields (p off v : Nat) (s : State) : State :=
  forEach (wordFields p off) (fun f s => writeGuarded p f (bitsOf v f.lo f.width) s) s

/-- `EVT_BASE`, `EVT_CFG`, `EVT_WB`: only while the ring is STOPPED (R459, R534). -/
def evtCfgWrite (off v : Nat) (s : State) : State :=
  if rd s 0 GEN.EVT_CTRL_STATE = 0 then wr 0 GEN.EVT_CTRL_RESULT 1 (writeFields 0 off v s) else wr 0 GEN.EVT_CTRL_RESULT 2 s

/-- TBL_CMD 1 of page 0x011: an entry of the measurement log goes to the data words (R479). -/
def measRead (s : State) : State :=
  let b := match s.measLog[rd s 0x11 SEC1.TBL_ADDR]? with | some e => measBytes e | none => []
  forEach (List.range 20) (fun i s => wr 0x11 (SEC1.TBL_DATA i) (leNat ((b.drop (4 * i)).take 4)) s) s

/-- Whether a write to a table word of a page meets a command in progress (R527). -/
def tableBusy (s : State) (p off : Nat) : Bool :=
  (pageInfo p).any (·.table) && rdb s p TBL.BUSY && (off = 0x100 || off = 0x104 || decide (0x110 ≤ off ∧ off ≤ 0x14C))

/-- Data words that are read only. -/
def dataReadOnly (p off : Nat) : Bool := (pageInfo p).any (·.tblRO) && decide (0x110 ≤ off ∧ off ≤ 0x14C)

/-- A whole-word write reaches its register; Yunager's writes come here too. -/
def regWrite (p off v : Nat) (s : State) : State :=
  if (pageInfo p).isNone ∨ ownCommand p off ∨ dataReadOnly p off then s
  else if tableBusy s p off then wr p TBL.CMD_LOST 1 s
  else if p = 0xB1 ∧ 0x100 ≤ off ∧ off % 0x20 < 0x18 then
    (if (off - 0x100) / 0x20 < 64 then ringCfgWrite ((off - 0x100) / 0x20) (writeFields p off v) s else s)
  else if p = 0 ∧ 0x80 ≤ off ∧ off ≤ 0x90 then evtCfgWrite off v s
  else if p = 0x11 ∧ off = 0x304 then (if v % 2 = 1 then measRead s else s)
  else if p = 0xD0 then flowBufWrite off (writeFields p off v s)
  else writeFields p off v s

/-- REGISTER_WRITE: a host write with its byte enables (R9, R455, R517, R528). -/
def execRegisterWrite (page off value be : Nat) (s : State) : Host.Outcome State Fault Refusal :=
  let o := off % 4096 / 4 * 4
  settle s (
    if be % 16 ≠ 15 ∨ off % 4 ≠ 0 then badAccess page (off % 4096) s
    else if (pageInfo page).isNone then s
    else if locked s page then (if lockFree page o then forEach ((wordFields page o).filter (fun f => f.acc = .w1c))
      (fun f s => writeField page f (bitsOf value f.lo f.width) s) s else lockViolation page o s)
    else if terminalsOwn s page o then inc 8 THL.HANDOFF_DISCARDS s
    else regWrite page o value s)

/-! ## The event ring (R534) -/

/-- EVT_START (R459, R534). -/
def execEvtStart (s : State) : Host.Outcome State Fault Refusal :=
  settle s (hostCmd 0 0x98 (fun s =>
    if rd s 0 GEN.EVT_CTRL_STATE ≠ 0 then wr 0 GEN.EVT_CTRL_RESULT 5 s
    else if rd s 0 GEN.EVT_CFG_EVT_LOG2_LEN < 6 ∨ rd s 0 GEN.EVT_WB_LO % 8 ≠ 0 then wr 0 GEN.EVT_CTRL_RESULT 3 s
    else wr 0 GEN.EVT_CTRL_RESULT 1 (wr 0 GEN.EVT_CTRL_STATE 1 (wr 0 GEN.EVT_HEAD 0 (wr 0 GEN.EVT_TAIL 0 s)))) s)

/-- EVT_STOP: STOPPING from the first block boundary at least 2 blocks after (R461, R534). -/
def execEvtStop (s : State) : Host.Outcome State Fault Refusal :=
  settle s (hostCmd 0 0x98 (fun s =>
    if rd s 0 GEN.EVT_CTRL_STATE = 1 ∧ rd s (held 0) HGEN.STOP_AT = 0 then
      wr 0 GEN.EVT_CTRL_RESULT 1 (wr (held 0) HGEN.STOP_AT (now s + 4) s)
    else s) s)

/-- A STOP of the event ring that is due at a block boundary. -/
def evtBoundary (s : State) : State :=
  let a := rd s (held 0) HGEN.STOP_AT
  if a = 0 ∨ now s + 1 < a then s
  else
    let s := wr (held 0) HGEN.STOP_AT 0 s
    if rd s 0 GEN.EVT_CTRL_STATE = 1 then wr 0 GEN.EVT_CTRL_STATE 2 s else s

/-- EVT_TAIL_WRITE: the records before the new count are the terminal's again. -/
def execEvtTailWrite (value : Nat) (s : State) : Host.Outcome State Fault Refusal :=
  settle s (hostCmd 0 0x94 (wr 0 GEN.EVT_TAIL value) s)

/-! ## The fault-log window (R538) -/

/-- The words of a record (Table 18.5) with its PHASE bit. -/
def evWords (e : EvRec) (phase : Nat) : List Nat :=
  [e.abs / 64 % 2 ^ 32, e.abs / 64 / 2 ^ 32 % 2 ^ 32,
   e.abs % 64 + e.page * 2 ^ 8 + e.bit % 32 * 2 ^ 20 + b2n e.masked * 2 ^ 25 + b2n e.test * 2 ^ 26 + b2n e.deferred * 2 ^ 27 + phase * 2 ^ 31,
   e.loc, e.d0, e.d1, e.d2, e.d3]

/-- FLOG_READ. -/
def execFlogRead (s : State) : Host.Outcome State Fault Refusal :=
  settle s (tblCmd 1 (fun s =>
    let n := rd s 1 FLOG.TBL_ADDR
    let first := rd s 1 FLOG.FLOG_FIRST
    if (n + 2 ^ 32 - first) % 2 ^ 32 < rd s 1 FLOG.FLOG_COUNT then
      match Map.get none s.flog (n % 16384) with
      | some r => tblResult 1 0 (loadData 1 (evWords r.ev 0 ++ [r.num]) s)
      | none => tblResult 1 1 s
    else if (first + 2 ^ 32 - n) % 2 ^ 32 < 2 ^ 31 ∧ n ≠ first then tblResult 1 1 s
    else tblResult 1 2 s) s)

/-! ## Monitor commands (R541, R542) -/

/-- MON_READ_SET: the set as it stood at the last block boundary. -/
def execMonReadSet (s : State) : Host.Outcome State Fault Refusal :=
  settle s (tblCmd 0x200 (fun s =>
    let c := rd s 0x200 MON0.TBL_ADDR_CHANNEL
    let w := rd s 0x200 MON0.TBL_ADDR_WINDOW
    let p := rd s 0x200 MON0.TBL_ADDR_PREVIOUS
    if w = 3 ∨ 48 ≤ c then tblResult 0x200 3 s
    else
      let x := monSet s.monSnap (monKey c w p)
      let s := forEach (List.range 64) (fun i s => wr 0x201 (MON1.BIN i) (Map.get 0 x.bins i) s) s
      let s := wr 0x201 MON1.MIN (ofSigned 32 x.lo) (wr 0x201 MON1.MAX (ofSigned 32 x.hi) (wr 0x201 MON1.COUNT x.count s))
      let s := wr64 0x201 MON1.SUM_LO MON1.SUM_HI (ofSigned 64 x.sum) (wr 0x201 MON1.START_TICK x.start s)
      let s := wrb 0x201 MON1.FLAGS_EMPTY (decide (x.count = 0)) (wrb 0x201 MON1.FLAGS_PARTIAL x.isPartial s)
      tblResult 0x200 0 (wr 0x201 MON1.FLAGS_CHANNEL c (wr 0x201 MON1.FLAGS_WINDOW w (wr 0x201 MON1.FLAGS_PREVIOUS p s)))) s)

/-- RESULT of a channel configuration in the data words. -/
def monCheck (s : State) : Nat :=
  let d2 := rd s 0x200 (dataAt 0x200 2)
  if 48 ≤ rd s 0x200 MON0.TBL_ADDR_CHANNEL then 3
  else if 0x0C < rd s 0x200 (dataAt 0x200 0) % 256 then 1
  else if bit (rd s 0x200 (dataAt 0x200 0)) 24 then (if d2 % 32 = 31 then 2 else 0)
  else if d2 = 0 then 2
  else 0

/-- MON_WRITE_CONFIG: to staging, or refused. -/
def execMonWriteConfig (s : State) : Host.Outcome State Fault Refusal :=
  settle s (tblCmd 0x200 (fun s =>
    let c := rd s 0x200 MON0.TBL_ADDR_CHANNEL
    let r := monCheck s
    if r = 0 then tblResult 0x200 0 (stageRecord 0x200 (Tab.mcfg c) (MCFG.fields c) s)
    else raise 0x200 MON0.evCONFIG_REFUSED [c, r] (tblResult 0x200 r s)) s)

/-- MON_READ_CONFIG. -/
def execMonReadConfig (s : State) : Host.Outcome State Fault Refusal :=
  settle s (tblCmd 0x200 (fun s =>
    let c := rd s 0x200 MON0.TBL_ADDR_CHANNEL
    if 48 ≤ c then tblResult 0x200 3 s else tblResult 0x200 0 (readRecord 0x200 (Tab.mcfg c) (MCFG.fields c) s)) s)

end Sys2Proof.Machine
end

