-- ==== Sys2Proof/Machine/Town.lean ====
section
/-! DEFINITION. Town Hall: Yunager's steps, the two pairs, the modes of the functions (R446 to R453, R468). -/

namespace Sys2Proof.Machine

/-! ## Steps (R447) -/

/-- Yunager's own functions run: booted, and no double fault of the pairs has stopped it (R450). -/
def stepsRun (s : State) : Bool := yunagerRuns s && !rdb s (held 8) HTHL.STOPPED && !rdb s (held 8) HTHL.TAKE

/-- A step begins at the tick now, with the inputs that have arrived; a step run again keeps its inputs. -/
def stepAgain (s : State) : State := wr (held 8) HTHL.STEP (s.clock.tick + 1) s
def stepBegin (s : State) : State :=
  stepAgain (wr (held 8) HTHL.MESSAGES (roleRxOf s 0).length (wr (held 8) HTHL.INPUTS s.thIn.length s))

/-- Town Hall at a tick boundary: a step begins where none is in progress. -/
def thlTick (s : State) : State := if stepsRun s ∧ rd s (held 8) HTHL.STEP = 0 then stepBegin s else s

/-- A write that Yunager may no longer make: the OMCI function of the port is host software's (Table 15.1, R452). -/
def yunagerLeft (s : State) (p off : Nat) : Bool :=
  (p = 0x30 && off = 0x118 && hostOmci s 0) || (p = 0x30 && off = 0x11C && hostOmci s 1)
    || (p = 0x42 && off = FB2.PM_CTRL_ILOWPOWER_MAX.off && hostOmci s 0) || (p = 0x62 && off = FB2.PM_CTRL_ILOWPOWER_MAX.off && hostOmci s 1)

def discardOut (s : State) : State := inc 8 THL.HANDOFF_DISCARDS s

/-- A write of Yunager's to the role table: checked as a command's, apart from the host's limits (R390, R392). -/
def roleOut (r : Nat) (words : List Nat) (s : State) : State :=
  let old := (List.range 16).map (fun i => rd s 0x1C1 (TBL.DATA i))
  let t := loadData 0x1C1 words s
  let res := roleCheck t r false
  if res = 0 ∧ r < 256 then loadData 0x1C1 old (stageRecord 0x1C1 (Tab.role r) ROLE.fields t)
  else raise 0x1C1 MEW1.evROLE_REFUSED [r, res] s

/-- The flow table is emptied, and is learned again (R68). -/
def emptyFlowTable (s : State) : State :=
  let s := dropPages 0x1000000 0x2000000 (wr 0xD0 FLW.HASHED_COUNT 0 s)
  wr (fibN 0 1) FB1.RJ_STREAMS 0 (wr (fibN 1 1) FB1.RJ_STREAMS 0 s)

/-- A rule-tree bank is reloaded from its image: it keeps its state, or becomes EMPTY when the image fails the loader's checks (R68, R153). -/
def reloadBank (b : Nat) (l : List Byte) (s : State) : State :=
  if loadResult l l.length = 0 then
    let s := setImage b ⟨wordsOf l, l.length⟩ s
    if bankState s b = 0 then setBankState b 2 s else s
  else setBankState b 0 (setImage b ⟨[], 0⟩ s)

/-- A region of the LPDDR6 is treated as lost and rebuilt; an event says so for each (R68; log entry 75). -/
def rebuildRegion (region : Nat) (image : List Byte) (s : State) : State :=
  let s := if region = 0 then emptyFlowTable s
    else if region = 1 then reloadBank 0 image s
    else if region = 2 then reloadBank 1 image s
    else if region = 3 then dirLoad s
    else if region = 5 then { s with bulk := [] }
    else s
  raise 0 GEN.evREBUILD_DONE [8 + region] s

/-- Release one output. -/
def release (o : YOut) (s : State) : State :=
  match o with
  | .regWrite p off v => if yunagerLeft s p off then discardOut s else regWrite p (off % 4096 / 4 * 4) v s
  | .commitReq p => if (pageInfo p).isSome then commitRequest p s else s
  | .roleWrite r ws => roleOut r ws s
  | .ringEntry n typ port bytes => if n < 64 then (sendEntry n typ port bytes s).1 else s
  | .ploam f k bytes => if hostPloam s f then discardOut s else { s with upPloam := s.upPloam ++ [⟨f, k, bytes⟩] }
  | .omci f bytes => if hostOmci s f then discardOut s else { s with upOmci := s.upOmci ++ [⟨f, umOmci, bytes⟩] }
  | .measure reg imageId digest => if reg = 1 ∨ reg = 6 then measureNow reg kindTown imageId digest s else s
  | .rebuildRegion region image => rebuildRegion region image s

/-- A step ends: the outputs are released in issue order, then the inputs are consumed. -/
def stepEnd (outs : List YOut) (s : State) : State :=
  let h := held 8
  let s := forEach outs release s
  let s := degradedReturn (feedPolicy s)
  let s := setRx 0 ((roleRxOf s 0).drop (rd s h HTHL.MESSAGES)) { s with thIn := s.thIn.drop (rd s h HTHL.INPUTS), flogCopied := rd s 1 FLOG.FLOG_LAST }
  let s := wrMax 8 THL.STEP_TICKS_MAX (s.clock.tick + 1 - rd s h HTHL.STEP) (wr 8 THL.STEP_TICK s.clock.tick s)
  stepBegin s

/-- YUNAGER_STEP_END: at the first tick boundary after Yunager has reached its end. -/
def execYunagerStepEnd (outputs : List YOut) (s : State) : Host.Outcome State Fault Refusal :=
  settle s (onlyIf (s.clock.tickOpen ∧ stepsRun s ∧ rd s (held 8) HTHL.STEP ≠ 0 ∧ rd s (held 8) HTHL.STEP ≤ s.clock.tick) (stepEnd outputs) s)

/-- A closed monitor set in the performance history: 256 + its key, then its content (R539, R542). -/
def monRecord (k : Nat) (x : MonSet) : List Nat :=
  [256 + k, ofSigned 32 x.lo, ofSigned 32 x.hi, x.count, ofSigned 64 x.sum, x.start, b2n x.isPartial] ++ (List.range 64).map (fun i => Map.get 0 x.bins i)

/-- At a 15-minute boundary Yunager copies every closed 15-minute set, and every 24-hour set closed there, to the performance history; a store
that is READ_ONLY takes none (R438, R542). -/
def monHistory (s : State) : State :=
  let t := s.clock.tick
  if t % 7200000 = 0 ∧ yunagerRuns s ∧ !rdb s 0x1E0 ARC0.ARC_STATUS_READ_ONLY then
    let keys := ([1, 2].filter (fun w => t % monTicks w = 0)).flatMap (fun w => (List.range 48).map (fun c => monKey c w 1))
    { s with perfLog := s.perfLog ++ keys.map (fun k => monRecord k (monSet s.mons k)) }
  else s

/-! ## The pairs (R446, R448 to R450) -/

def pairActive : Nat := 0
def pairStandby : Nat := 1
def pairTesting : Nat := 2
def pairFailed : Nat := 3
def pairOff : Nat := 4
def activePair (s : State) : Nat := rd s 8 THL.THL_STATUS_ACTIVE_PAIR
def pairState (s : State) (p : Nat) : Nat := if p = 0 then rd s 8 THL.THL_STATUS_PAIR0 else rd s 8 THL.THL_STATUS_PAIR1
def setPair (p st : Nat) (s : State) : State := if p = 0 then wr 8 THL.THL_STATUS_PAIR0 st s else wr 8 THL.THL_STATUS_PAIR1 st s

/-- Location code of a pair: LEVEL 5, SUBSYSTEM 0x01 or 0x02. -/
def pairLoc (p : Nat) : Nat := locSub (1 + p)

/-- A pair goes to TESTING. -/
def testPair (p : Nat) (s : State) : State := wr (held 8) (HTHL.TEST p) (s.clock.tick + 1) (setPair p pairTesting s)

/-- A DOUBLE_FAULT record with both location codes (R36, R450). -/
def pairDouble (p first : Nat) (s : State) : State :=
  countLate 0x190 XNG.DOUBLE_FAULTS 1 (pushEv (mkEv s 0x180 CWY.evDOUBLE_FAULT (pairLoc p) false [first]) s)

/-- A fault of the active pair: its step's outputs are discarded and its inputs kept; the standby pair takes over at the next tick boundary.
With no pair STANDBY, Yunager's functions stop (R448, R450). -/
def pairFault (s : State) : State :=
  let p := activePair s
  let first := earlierFault s
  if pairState s (1 - p) = pairStandby then
    let s := if first = 0 then { s with blockFault := pairLoc p } else pairDouble p first s
    let s := wr (held 8) HTHL.SWAP 0 (wr (held 8) HTHL.FAILED p (wr (held 8) HTHL.TAKE 1 s))
    openFault Tag.pair (pairLoc p) (testPair p s)
  else
    wr (held 8) HTHL.STEP 0 (wr (held 8) HTHL.STOPPED 1 (pairDouble p (if first = 0 then pairLoc (1 - p) else first) s))

/-- PAIR_MISCOMPARE (R448). -/
def execPairMiscompare (s : State) : Host.Outcome State Fault Refusal :=
  settle s (onlyIf (stepsRun s) (fun s => pairFault (inc 8 THL.MISCOMPARES s)) s)

/-- YUNAGER_STEP_TIMEOUT: a step has not ended 8 ticks after its start (R447). -/
def execYunagerStepTimeout (s : State) : Host.Outcome State Fault Refusal :=
  settle s (onlyIf (stepsRun s ∧ rd s (held 8) HTHL.STEP ≠ 0 ∧ rd s (held 8) HTHL.STEP + 8 ≤ s.clock.tick + 1) pairFault s)

/-- TAKEOVER: at the tick boundary the standby pair becomes ACTIVE and runs the step again (R448). -/
def execTakeover (s : State) : Host.Outcome State Fault Refusal :=
  settle s (onlyIf (s.clock.tickOpen ∧ rdb s (held 8) HTHL.TAKE) (fun s =>
    let p := rd s (held 8) HTHL.FAILED
    let s := wr 8 THL.THL_STATUS_ACTIVE_PAIR (1 - p) (setPair (1 - p) pairActive (wr (held 8) HTHL.TAKE 0 s))
    let s := inc 8 THL.TAKEOVERS (pushEv (mkEv s 8 THL.evTAKEOVER (pairLoc p) true []) s)
    if rd s (held 8) HTHL.STEP = 0 then stepBegin s else stepAgain s) s)

/-- PAIR_TEST_DONE: after 4 000 ticks of self-test (R449). -/
def execPairTestDone (pair : Nat) (passed : Bool) (s : State) : Host.Outcome State Fault Refusal :=
  settle s (onlyIf (pair < 2 ∧ pairState s pair = pairTesting ∧ rd s (held 8) (HTHL.TEST pair) + 4000 ≤ s.clock.tick + 1) (fun s =>
    let s := if passed then closeFault Tag.pair (setPair pair pairStandby s) else setPair pair pairFailed s
    raise 8 THL.evPAIR_TESTED [pair, b2n passed] s) s)

/-- A PAIR_CMD: refused for the ACTIVE pair and while no pair is STANDBY (Table 15.6). -/
def pairCmd (pair op : Nat) (f : State → State) (s : State) : State :=
  hostCmd 8 0x64 (fun s =>
    let s := wr 8 THL.PAIR_CMD_PAIR pair (wr 8 THL.PAIR_CMD_OP op s)
    if pair = activePair s ∨ pairState s pair ≠ pairStandby ∨ rdb s (held 8) HTHL.TAKE then wr 8 THL.PAIR_RESULT 2 s
    else f (wr 8 THL.PAIR_RESULT 1 s)) s

/-- PAIR_CMD TEST. -/
def execPairCmdTest (pair : Nat) (s : State) : Host.Outcome State Fault Refusal :=
  settle s (onlyIf (pair < 2) (pairCmd pair 1 (fun s => testPair pair (wr (held 8) HTHL.SWAP 0 s))) s)

/-- PAIR_CMD OFF. -/
def execPairCmdOff (pair : Nat) (s : State) : Host.Outcome State Fault Refusal :=
  settle s (onlyIf (pair < 2) (pairCmd pair 2 (fun s => setPair pair pairOff (wr (held 8) HTHL.SWAP 0 s))) s)

/-- PAIR_CMD SWAP: the pairs are exchanged at the next tick boundary. -/
def execPairCmdSwap (pair : Nat) (s : State) : Host.Outcome State Fault Refusal :=
  settle s (onlyIf (pair < 2) (pairCmd pair 3 (wr (held 8) HTHL.SWAP 1)) s)

/-- An exchange that was commanded happens as the tick boundary's work ends; a step that has not ended runs again on the other pair. -/
def swapPairs (s : State) : State :=
  if rdb s (held 8) HTHL.SWAP then
    let p := activePair s
    let s := setPair p pairStandby (setPair (1 - p) pairActive (wr (held 8) HTHL.SWAP 0 s))
    let s := wr 8 THL.THL_STATUS_ACTIVE_PAIR (1 - p) s
    if rd s (held 8) HTHL.STEP = 0 then s else stepAgain s
  else s

/-- YUNAGER_RESTART: the restart through the boot chain completes, without leaving the mode in force (R450, R480). -/
def execYunagerRestart (s : State) : Host.Outcome State Fault Refusal :=
  settle s (onlyIf (rdb s (held 8) HTHL.STOPPED ∧ yunagerRuns s) (fun s =>
    let s := wr (held 8) HTHL.STOPPED 0 (measureNow 0 kindRestart 0 (rd s (held 0x10) HSEC.DIGEST) s)
    raise 8 THL.evYUNAGER_RESTART [] s) s)

/-! ## The division of work (R451 to R453) -/

/-- FUNC_MODE_EFFECT: the equaliser, return-to-service, power and PTP functions change at the tick boundary; released Mews port writes of a
party that leaves are discarded (R452). -/
def execFuncModeEffect (s : State) : Host.Outcome State Fault Refusal :=
  settle s (onlyIf (s.clock.tickOpen ∧ rd s (held 8) HTHL.FUNC_AT ≠ 0 ∧ rd s (held 8) HTHL.FUNC_AT ≤ now s + 1) (fun s =>
    let old := rd s 8 THL.FUNC_EFFECTIVE
    let new := old % 64 + rd s 8 THL.FUNC_MODE / 64 * 64
    let s := wr (held 8) HTHL.FUNC_AT 0 (wr 8 THL.FUNC_EFFECTIVE new s)
    let s := if new = old then s else raise 8 THL.evFUNC_CHANGED [old, new] s
    let left := s.portWrites.filter (fun w => decide (w.2.1 ≠ 0x40) && portHost s w.2.1)
    forEach left (fun _ s => discardOut s) { s with portWrites := s.portWrites.filter (fun w => decide (w.2.1 = 0x40) || !portHost s w.2.1) }) s)

end Sys2Proof.Machine
end

