-- ==== Sys2Proof/Machine/Boundary.lean ====
section
/-! DEFINITION. Tick and block boundaries: the clock moves, and everything that takes effect there does so (R1 to R4, R12, R13, R52, R187,
R213, R223, R236, R520, R539). -/

namespace Sys2Proof.Machine

/-! ## Monitor sources (Table 18.6) -/

/-- A sample of a source that is taken at each block boundary. -/
def blockSample (s : State) (src param : Nat) : Option Int :=
  if src = 4 then
    let p := param % 8
    some (if p < 5 then (rd s 0xE0 (SQR0.INUSE_EXPRESS p) + rd s 0xE0 (SQR0.INUSE_CTRL p) + rd s 0xE0 (SQR0.INUSE_SHARED p) : Nat) else 0)
  else if src = 5 then some (rd s (Tab.leaf param) LEAF.QUEUED_BYTES)
  else if src = 9 then
    some ((((s.work.filter (fun b => b.slice = param % 4 ∧ b.abs + 1 = now s)).map (fun b => b.n0 + b.n1 + b.taken)).sum : Nat) : Int)
  else none

/-- A sample of a source that is taken at each tick boundary, for the tick that has ended. -/
def tickSample (s : State) (src param : Nat) : Option Int :=
  if src = 7 then some (Config.sensor 7 (param % 4) s.clock.tick)
  else if src = 8 then
    let c := param % 8
    some (if rd s (held 0x1C0) (HMEW.DISP c) = s.clock.tick then rd s (held 0x1C0) (HMEW.CYCLES c) else 0)
  else if src = 0x0A then some (rd s (Tab.trib (param % 64)) TRIB.JB_FILL)
  else if src = 0x0B then some (rd s (fibHeld (param % 2)) HFIB.CB_TICK)
  else if src = 0x0C then some (rdS s (fibPage (param % 2)) FB0.RX_POWER)
  else none

/-- Every channel takes its sample, while the monitors are enabled. -/
def takeSamples (f : State → Nat → Nat → Option Int) (s : State) : State :=
  if rdb s 0x200 COM.PAGE_CTRL_ENABLE then
    forEach (List.range 48) (fun c s => match f s (rd s (monCfg c) (MCFG.SOURCE c)) (rd s (monCfg c) (MCFG.PARAM c)) with
      | some v => monTake c (satSigned 32 v) s
      | none => s) s
  else s

/-! ## Market Square's ENABLE (R213) -/

/-- ENABLE may be cleared: no accepted frame holds a buffer. -/
def mayDisable (s : State) : Bool :=
  let m := mode s
  m = modeBoot || m = modeSelftest || m = modeRecovery
    || (decide (m = modeCommission) && !rdb s 0x1E0 ARC0.ARC_CTRL_EN && decide (acceptedOf s 11 = 0))

/-- The overflow of a frame: that of its source, or of the port it came in by when it was recirculated or came from a fill. -/
def overflowOf (src port : Nat) (s : State) : State :=
  let p := if src < 11 then src else port
  if p < 10 then countOverflow p s
  else if p = 10 then inc 0xB0 HST0.INGRESS_OVERFLOW (dropUnqueued 10 s)
  else dropUnqueued p s

/-- A frame that held a buffer is dropped before acceptance as an ingress overflow; a recirculated one has made its final pass. -/
def abandonItem (x : Item) (s : State) : State := passDone x (returnTx x (overflowOf x.source x.port s))
def abandonFront (f : InFrame) (s : State) : State :=
  let s := if f.src = 11 then wr 0xC8 CLS.RECIRC_LEVEL (rd s 0xC8 CLS.RECIRC_LEVEL - 1) s else s
  passDone f.item (returnTx f.item (overflowOf f.src f.item.port s))

/-- A result whose frame holds a buffer; what is left of it at its commit is its ledger. -/
def holdsBuffer (r : Result) : Bool := decide (r.item.source < 14) && decide (r.item.handle ≠ emptyHandle)
def emptyResultOf (r : Result) : Result :=
  { r with verdict := .none, handle := emptyHandle, fill := [], learn := false, overflow := false }.mapItem (fun x => { x with handle := emptyHandle })

/-- Every buffer in use is abandoned without an operation; operations that wait are refused (R213). -/
def abandonBuffers (s : State) : State :=
  let fs := s.front ++ s.ingress
  let es := s.early ++ ((s.work.flatMap (·.results)).filter holdsBuffer).map (·.item)
  let rs := s.reasm
  let ws := s.p4Waits ++ s.refWaits
  let s := { s with front := [], ingress := [], early := [], reasm := [], cul := [], buffers := [], p4Waits := [], refWaits := [], detached := [],
                    won := s.won.map (fun w => { w with handle := emptyHandle }),
                    work := s.work.map (fun w => { w with results := w.results.map (fun r => if holdsBuffer r then emptyResultOf r else r) }) }
  let s := forEach fs abandonFront s
  let s := forEach es abandonItem s
  let s := forEach rs (fun r s => countOverflow (8 + r.fibre) s) s
  let s := arcSettle (forEach ws refGo s)
  culShow { s with roleHandles := [] }

/-- Clearing ENABLE is judged at the block boundary after the write. -/
def sqrBoundary (s : State) : State :=
  if rdb s (held 0xE0) HSQR.CLEAR_REQ then
    let s := wr (held 0xE0) HSQR.CLEAR_REQ 0 s
    if mayDisable s then
      let s := wr 0xE0 COM.PAGE_CTRL_ENABLE 0 (wr 0xE0 SQR0.SQR_STATUS_READY 0 (wr (held 0xE0) HSQR.BUILDING 0 s))
      setTotals (abandonBuffers s)
    else wr 0xE0 COM.PAGE_STATUS_CFG_IGNORED 1 s
  else s

/-! ## Arcade's ARC_CTRL.EN, as committed (R439, R440) -/

/-- The store starts when it is enabled and powered, and stops in order when it is no longer enabled. -/
def storeBoundary (s : State) : State :=
  let on := rdb s 0x1E0 ARC0.ARC_CTRL_EN
  let started := rdb s (held 0x1E0) HARC.STARTED
  if on ∧ pdOn s 19 ∧ !started then storeStart s
  else if !on ∧ started then
    wr 0x1E0 ARC0.ARC_STATUS_FLUSHING 0 (wr 0x1E0 ARC0.ARC_STATUS_READY 0 (wr (held 0x1E0) HARC.STARTED 0 (storeFlush s)))
  else s

/-! ## Flow-table commands (R187) -/

/-- The command in hand runs in the slice that owns its record's region, ahead of the block's items. -/
def runFlowCmd (s : State) : State :=
  match s.flowCmd with
  | none => s
  | some c =>
    let x := flowCmdItem s c
    let slice := regionOwner (mapFor s (now s)).1 x.region
    let (res, idx, w) := flowCommand s c slice (s.clock.tick % 2 ^ 32) x (freshWk s slice (now s))
    let y := { x with aux := [c.op, b2n c.all], flow := if c.op = 7 then c.index else x.flow }
    let s := addResult slice (now s) (closeWk { blankResult slice y with fill := [4, c.op, res, idx] } w) { s with flowCmd := none }
    if c.op = 7 ∧ res = 0 then wr (held 0xD0) HFLW.FLUSH_AT (now s) { s with flushList := flushSet w.v c } else s

/-- Records that a FLUSH has still to free and no uncommitted ledger frees. -/
def flushLeft (s : State) : List Nat :=
  s.flushList.filter (fun i => !s.work.any (fun b => !b.discarded && b.results.any (fun r => decide (r.fill = [5, i]))))

/-- Whether an uncommitted ledger has put another record into this slot since the FLUSH executed. -/
def relearned (s : State) (i : Nat) : Bool :=
  s.work.any (fun b => !b.discarded && decide (rd s (held 0xD0) HFLW.FLUSH_AT ≤ b.abs) && b.results.any (fun r => r.inserted.contains i))

/-- One free of a FLUSH: a ledger entry of the owning slice's block (R187). -/
def flushFree (i : Nat) (s : State) : State :=
  let slice := regionOwner (mapFor s (now s)).1 (bucketRegion s (i / 8))
  let w := freshWk s slice (now s)
  let w := if relearned s i ∨ rd w.v (Tab.flow i) FREC.TYPE ≠ 1 then w else freeRecord i (w.shift 0xD0 FLW.HASHED_COUNT (2 ^ 23 - 1))
  addResult slice (now s) (closeWk { blankResult slice { blankItem with source := 15, handle := emptyHandle, flow := i } with fill := [5, i] } w) s

/-- The frees of a committed FLUSH run at the end of the slices' work: how many in a block the spec leaves open. -/
def flushStep (s : State) : State :=
  if rdb s (held 0xD0) HFLW.FLUSHING ∧ flushLeft s ≠ [] then
    let (n, s) := freeBits 6 s
    forEach ((flushLeft s).take n) flushFree s
  else s

/-! ## Boundaries -/

/-- Every block before the last two has committed (R16, R284). -/
def commitsDone (s : State) : Bool := !blocksRun s || decide (now s < s.nextCommit + 2)

/-- The work of a block boundary while blocks of work run. -/
def blockWork (s : State) : State :=
  let s := commitBoundary { s with blockFault := 0 }
  let s := evtBoundary (wordResetBoundary (softResetBoundary s))
  let s := logClearBoundary (poolLowCheck (shaperRefill (channelBoundary (sqrBoundary (roundaboutBoundary s)))))
  let s := culBoundary (forEach (List.range 8) kerbBoundary s)
  let s := carriageBoundary (arcBoundary (storeBoundary (timeBlock s)))
  let s := hostBoundary (mewsBoundary (fibBoundary 1 (fibBoundary 0 s)))
  let s := powerBoundary (rebuildPlan (measBoundary s))
  let s := sendOwed (if s.deferred = [] ∧ s.deferredLost = 0 then s else takeDeferred s)
  let s := takeSamples blockSample s
  runEarly (flushStep (runArcCmds (runFlowCmd { s with monSnap := s.mons })))

/-- In IDLE the clock, the fibre receivers and the power sequencer alone go on (R491, Table 17.3). -/
def idleWork (s : State) : State :=
  let s := measBoundary (fibBoundary 1 (fibBoundary 0 (timeBlock s)))
  let s := powerBoundary s
  { s with nextCommit := now s }

/-- BLOCK_BOUNDARY: the next block begins; after a tick boundary it is the tick's block 0 (R1, R4). -/
def execBlockBoundary (s : State) : Host.Outcome State Fault Refusal :=
  keepQueue s (onlyIf (s.clock.running ∧ (s.clock.tickOpen ∨ (s.clock.block < 63 ∧ commitsDone s))) (fun s =>
    let s := if s.clock.tickOpen then swapPairs s else s
    let s := { atBoundary s with clock := { (atBoundary s).clock with tickOpen := false } }
    if blocksRun s then blockWork s else idleWork s) s)

/-- The clock may start: the core supplies are there, nothing holds the terminal in reset, and it does not sleep. -/
def clockMayStart (s : State) : Bool :=
  decide (powerState s = 0) && !pin s HPWR.PORST && pin s HPWR.VIN && pin s HPWR.STANDBY && !pin s HPWR.SCAN && !pin s HPWR.WAKING

/-- The clock at the next tick boundary; a lengthened tick moves the time of day on by its extra cycles (R12, R13, R52). -/
def nextTick (s : State) : State :=
  if s.clock.running then
    let s := if s.clock.stretch = 0 then s else setTime (curTime s 0 + s.clock.stretch / 4 * incr s) 0 s
    { s with clock := ⟨true, s.clock.tick + 1, 0, true, 0⟩ }
  else
    let s := { s with clock := ⟨true, s.clock.tick, 0, true, 0⟩ }
    { s with nextCommit := now s }

/-- The work of a tick boundary. -/
def tickWork (s : State) : State :=
  let s := monRoll s.clock.tick { s with firsts := [] }
  let s := takeSamples tickSample s
  let s := wr (fibHeld 0) HFIB.CB_TICK 0 (wr (fibHeld 1) HFIB.CB_TICK 0 s)
  let s := secTick (fibreTick (timeTick s))
  if blocksRun s then powerTick (monHistory (thlTick (hostTick (dirTick (tramTick (carriageTick (rebuildPlan s))))))) else s

/-- TICK_BOUNDARY: a tick begins; the commands of the tick boundary follow, and then its block 0 (R2, R12). -/
def execTickBoundary (s : State) : Host.Outcome State Fault Refusal :=
  keepQueue s (onlyIf (!s.clock.tickOpen ∧ (if s.clock.running then s.clock.block = 63 ∧ commitsDone s else clockMayStart s))
    (fun s => tickWork (nextTick s)) s)

/-- TICK_ALIGN: the tick that begins is lengthened by `extra` core cycles, once, and never in a mode with traffic (R52). -/
def execTickAlign (extra : Nat) (s : State) : Host.Outcome State Fault Refusal :=
  let m := mode s
  keepQueue s (onlyIf (s.clock.tickOpen ∧ rdb s (held 0x40) HTP.ALIGN ∧ extra < tickCycles ∧ (m = modeBoot ∨ m = modeSelftest ∨ m = modeCommission))
    (fun s =>
      let s := wr (held 0x40) HTP.ALIGN 0 (wr (held 0x40) HTP.ALIGNED 1 s)
      { s with clock := { s.clock with stretch := extra } }) s)

end Sys2Proof.Machine
end

