-- ==== Sys2Proof/Machine/Dispatch.lean ====
section
/-! DEFINITION. One arm per command: a direct call of its meaning. -/

namespace Sys2Proof.Machine

def exec (i : Instr) (s : State) : Host.Outcome State Fault Refusal :=
  match i with
  | .tickBoundary => Sys2Proof.Machine.execTickBoundary s
  | .blockBoundary => Sys2Proof.Machine.execBlockBoundary s
  | .tickAlign extra => Sys2Proof.Machine.execTickAlign extra s
  | .journalEntry src cyc => Sys2Proof.Machine.execJournalEntry src cyc s
  | .recovReset stream => Sys2Proof.Machine.execRecovReset stream s
  | .blockCommit masked failed cycles => Sys2Proof.Machine.execBlockCommit masked failed cycles s
  | .transmitOpportunity port cyc => Sys2Proof.Machine.execTransmitOpportunity port cyc s
  | .kerbFrameStart port cyc => Sys2Proof.Machine.execKerbFrameStart port cyc s
  | .kerbTxComplete port cyc => Sys2Proof.Machine.execKerbTxComplete port cyc s
  | .scrubVisit word err pass => Sys2Proof.Machine.execScrubVisit word err pass s
  | .registerScrub page offset err => Sys2Proof.Machine.execRegisterScrub page offset err s
  | .clockFault => Sys2Proof.Machine.execClockFault s
  | .referencePartFault part => Sys2Proof.Machine.execReferencePartFault part s
  | .channelOut channel => Sys2Proof.Machine.execChannelOut channel s
  | .channelBack channel => Sys2Proof.Machine.execChannelBack channel s
  | .rebuildDone channel => Sys2Proof.Machine.execRebuildDone channel s
  | .losAsserted port => Sys2Proof.Machine.execLosAsserted port s
  | .losDeasserted port => Sys2Proof.Machine.execLosDeasserted port s
  | .eqSwapRequest port cyc => Sys2Proof.Machine.execEqSwapRequest port cyc s
  | .eqSwapped port cyc => Sys2Proof.Machine.execEqSwapped port cyc s
  | .eqCapture port samples => Sys2Proof.Machine.execEqCapture port samples s
  | .eqHuntReset port => Sys2Proof.Machine.execEqHuntReset port s
  | .psyncCandidate port pos errs sfc sfcOk => Sys2Proof.Machine.execPsyncCandidate port pos errs sfc sfcOk s
  | .downstreamFrame port pos errs sfc sfcOk ppb cyc => Sys2Proof.Machine.execDownstreamFrame port pos errs sfc sfcOk ppb cyc s
  | .fecCodeword port iters bits => Sys2Proof.Machine.execFecCodeword port iters bits s
  | .signalDegradeWindow port => Sys2Proof.Machine.execSignalDegradeWindow port s
  | .signalFailChange port => Sys2Proof.Machine.execSignalFailChange port s
  | .xgemFrame port header hdrUncorr uncorr pos bytes => Sys2Proof.Machine.execXgemFrame port header hdrUncorr uncorr pos bytes s
  | .reasmTimeout port portId => Sys2Proof.Machine.execReasmTimeout port portId s
  | .xgemFilterRead port => Sys2Proof.Machine.execXgemFilterRead port s
  | .xgemFilterWrite port => Sys2Proof.Machine.execXgemFilterWrite port s
  | .xgemFilterInvalidate port => Sys2Proof.Machine.execXgemFilterInvalidate port s
  | .timingPortChange => Sys2Proof.Machine.execTimingPortChange s
  | .tpForce => Sys2Proof.Machine.execTpForce s
  | .tpWtrExpiry => Sys2Proof.Machine.execTpWtrExpiry s
  | .tpStartupTimeout => Sys2Proof.Machine.execTpStartupTimeout s
  | .rejoinStalled port => Sys2Proof.Machine.execRejoinStalled port s
  | .rejoinEndCmd port => Sys2Proof.Machine.execRejoinEndCmd port s
  | .rogueShut port light cyc => Sys2Proof.Machine.execRogueShut port light cyc s
  | .rogueClear port => Sys2Proof.Machine.execRogueClear port s
  | .actEnWrite port en => Sys2Proof.Machine.execActEnWrite port en s
  | .burstProfile port rate preamble overhead mic msg => Sys2Proof.Machine.execBurstProfile port rate preamble overhead mic msg s
  | .serialNumberGrant port => Sys2Proof.Machine.execSerialNumberGrant port s
  | .assignOnuId port vendor vssn onuId mic msg => Sys2Proof.Machine.execAssignOnuId port vendor vssn onuId mic msg s
  | .rangingGrant port => Sys2Proof.Machine.execRangingGrant port s
  | .rangingTime port relative value mic msg => Sys2Proof.Machine.execRangingTime port relative value mic msg s
  | .eqdApply port => Sys2Proof.Machine.execEqdApply port s
  | .deactivateOnuId port mic msg => Sys2Proof.Machine.execDeactivateOnuId port mic msg s
  | .disableSerialNumber port vendor vssn enable mic msg => Sys2Proof.Machine.execDisableSerialNumber port vendor vssn enable mic msg s
  | .tuningControl port mic msg => Sys2Proof.Machine.execTuningControl port mic msg s
  | .keyControl port sfc mic msg => Sys2Proof.Machine.execKeyControl port sfc mic msg s
  | .keySwitch port => Sys2Proof.Machine.execKeySwitch port s
  | .assignAllocId port alloc assign mic msg => Sys2Proof.Machine.execAssignAllocId port alloc assign mic msg s
  | .sleepAllow port allow interval next mic msg => Sys2Proof.Machine.execSleepAllow port allow interval next mic msg s
  | .changePowerLevel port mic msg => Sys2Proof.Machine.execChangePowerLevel port mic msg s
  | .to1Expiry port => Sys2Proof.Machine.execTo1Expiry port s
  | .to2Expiry port => Sys2Proof.Machine.execTo2Expiry port s
  | .actCmdO11 port => Sys2Proof.Machine.execActCmdO11 port s
  | .actCmdO23 port => Sys2Proof.Machine.execActCmdO23 port s
  | .actCmdO4 port => Sys2Proof.Machine.execActCmdO4 port s
  | .actCmdO51 port => Sys2Proof.Machine.execActCmdO51 port s
  | .actCmdO6 port => Sys2Proof.Machine.execActCmdO6 port s
  | .actCmdO7 port => Sys2Proof.Machine.execActCmdO7 port s
  | .actCmdLeaveO7 port => Sys2Proof.Machine.execActCmdLeaveO7 port s
  | .applyEqd port => Sys2Proof.Machine.execApplyEqd port s
  | .bwmapDecoded port ok grants cyc => Sys2Proof.Machine.execBwmapDecoded port ok grants cyc s
  | .extensionCutoff port cyc => Sys2Proof.Machine.execExtensionCutoff port cyc s
  | .burstSerialiseStart port cyc => Sys2Proof.Machine.execBurstSerialiseStart port cyc s
  | .burstStart port cyc => Sys2Proof.Machine.execBurstStart port cyc s
  | .burstEnd port cyc => Sys2Proof.Machine.execBurstEnd port cyc s
  | .allocSlotRead port => Sys2Proof.Machine.execAllocSlotRead port s
  | .allocSlotWrite port => Sys2Proof.Machine.execAllocSlotWrite port s
  | .allocSlotUnbind port => Sys2Proof.Machine.execAllocSlotUnbind port s
  | .keyComplete src => Sys2Proof.Machine.execKeyComplete src s
  | .frameLastByte src fcsOk cyc => Sys2Proof.Machine.execFrameLastByte src fcsOk cyc s
  | .ruleLoadStart byHost => Sys2Proof.Machine.execRuleLoadStart byHost s
  | .ruleLoadDone host => Sys2Proof.Machine.execRuleLoadDone host s
  | .bankSwapRequest => Sys2Proof.Machine.execBankSwapRequest s
  | .bankSwap => Sys2Proof.Machine.execBankSwap s
  | .bankRetired => Sys2Proof.Machine.execBankRetired s
  | .defaultTableRead => Sys2Proof.Machine.execDefaultTableRead s
  | .defaultTableWrite => Sys2Proof.Machine.execDefaultTableWrite s
  | .culRelease index => Sys2Proof.Machine.execCulRelease index s
  | .culExport index ring => Sys2Proof.Machine.execCulExport index ring s
  | .culReleaseAll => Sys2Proof.Machine.execCulReleaseAll s
  | .culTableRead => Sys2Proof.Machine.execCulTableRead s
  | .ageingVisit record => Sys2Proof.Machine.execAgeingVisit record s
  | .flowRead => Sys2Proof.Machine.execFlowRead s
  | .flowWrite => Sys2Proof.Machine.execFlowWrite s
  | .flowInsert => Sys2Proof.Machine.execFlowInsert s
  | .flowUpdate => Sys2Proof.Machine.execFlowUpdate s
  | .flowDelete => Sys2Proof.Machine.execFlowDelete s
  | .flowLookupCmd => Sys2Proof.Machine.execFlowLookupCmd s
  | .flowFlush => Sys2Proof.Machine.execFlowFlush s
  | .flowFlushDone => Sys2Proof.Machine.execFlowFlushDone s
  | .flowEnable => Sys2Proof.Machine.execFlowEnable s
  | .flowTableReady => Sys2Proof.Machine.execFlowTableReady s
  | .bufferRequest requester size carve cls cyc => Sys2Proof.Machine.execBufferRequest requester size carve cls cyc s
  | .bufferAnswer requester cyc => Sys2Proof.Machine.execBufferAnswer requester cyc s
  | .refInc requester cls handle cyc => Sys2Proof.Machine.execRefInc requester cls handle cyc s
  | .refHandover requester cls handle cyc => Sys2Proof.Machine.execRefHandover requester cls handle cyc s
  | .refDec requester cls handle cyc => Sys2Proof.Machine.execRefDec requester cls handle cyc s
  | .p4Stage requester cls op segment => Sys2Proof.Machine.execP4Stage requester cls op segment s
  | .p4StageReady segment bad => Sys2Proof.Machine.execP4StageReady segment bad s
  | .sqrDisable => Sys2Proof.Machine.execSqrDisable s
  | .sqrEnable => Sys2Proof.Machine.execSqrEnable s
  | .poolsReady => Sys2Proof.Machine.execPoolsReady s
  | .sqrTableRead => Sys2Proof.Machine.execSqrTableRead s
  | .sqrTableAlloc => Sys2Proof.Machine.execSqrTableAlloc s
  | .sqrTableInc => Sys2Proof.Machine.execSqrTableInc s
  | .sqrTableDec => Sys2Proof.Machine.execSqrTableDec s
  | .sqrInvalidCmd => Sys2Proof.Machine.execSqrInvalidCmd s
  | .logClear => Sys2Proof.Machine.execLogClear s
  | .gateConfigChange port => Sys2Proof.Machine.execGateConfigChange port s
  | .gateListStart port cyc => Sys2Proof.Machine.execGateListStart port cyc s
  | .gateEntryChange port cyc => Sys2Proof.Machine.execGateEntryChange port cyc s
  | .gateReadAdmin => Sys2Proof.Machine.execGateReadAdmin s
  | .gateWriteAdmin => Sys2Proof.Machine.execGateWriteAdmin s
  | .gateReadOper => Sys2Proof.Machine.execGateReadOper s
  | .nodeRead => Sys2Proof.Machine.execNodeRead s
  | .nodeWrite => Sys2Proof.Machine.execNodeWrite s
  | .nodeReadClearRefused => Sys2Proof.Machine.execNodeReadClearRefused s
  | .bolRead => Sys2Proof.Machine.execBolRead s
  | .bolWrite => Sys2Proof.Machine.execBolWrite s
  | .bolReadClear => Sys2Proof.Machine.execBolReadClear s
  | .policerSweep index => Sys2Proof.Machine.execPolicerSweep index s
  | .schDupMismatch unit => Sys2Proof.Machine.execSchDupMismatch unit s
  | .bolDupMismatch => Sys2Proof.Machine.execBolDupMismatch s
  | .sliceCheckFailed slice check unit record => Sys2Proof.Machine.execSliceCheckFailed slice check unit record s
  | .sliceResetCheck slice passed cyc => Sys2Proof.Machine.execSliceResetCheck slice passed cyc s
  | .enterGuarded => Sys2Proof.Machine.execEnterGuarded s
  | .sliceTestDone slice passed => Sys2Proof.Machine.execSliceTestDone slice passed s
  | .sliceAutoReturn slice => Sys2Proof.Machine.execSliceAutoReturn slice s
  | .rtsTest slice => Sys2Proof.Machine.execRtsTest slice s
  | .rtsReturn slice => Sys2Proof.Machine.execRtsReturn slice s
  | .rtsFence slice => Sys2Proof.Machine.execRtsFence slice s
  | .sliceReturned => Sys2Proof.Machine.execSliceReturned s
  | .manualFenceEffect => Sys2Proof.Machine.execManualFenceEffect s
  | .faultInjArm value => Sys2Proof.Machine.execFaultInjArm value s
  | .laneLost port lane cause viol disp col => Sys2Proof.Machine.execLaneLost port lane cause viol disp col s
  | .fallbackRequestRx port rxOk r sfd cyc => Sys2Proof.Machine.execFallbackRequestRx port rxOk r sfd cyc s
  | .resumeMarkerRx port off bytes sfd cyc => Sys2Proof.Machine.execResumeMarkerRx port off bytes sfd cyc s
  | .scheduledMarker port partnerOk => Sys2Proof.Machine.execScheduledMarker port partnerOk s
  | .laneRestore port lane => Sys2Proof.Machine.execLaneRestore port lane s
  | .krefCtrlWrite value => Sys2Proof.Machine.execKrefCtrlWrite value s
  | .prbsInjSingle port lane => Sys2Proof.Machine.execPrbsInjSingle port lane s
  | .prbsInjBurst port lane => Sys2Proof.Machine.execPrbsInjBurst port lane s
  | .prbsLock port lane lock errs => Sys2Proof.Machine.execPrbsLock port lane lock errs s
  | .laneCtrlWrite port lane value => Sys2Proof.Machine.execLaneCtrlWrite port lane value s
  | .lpiEntry port => Sys2Proof.Machine.execLpiEntry port s
  | .kerbFrameReceived port bytes cyc => Sys2Proof.Machine.execKerbFrameReceived port bytes cyc s
  | .pauseReceived port opcode enable times cyc => Sys2Proof.Machine.execPauseReceived port opcode enable times cyc s
  | .pauseExpiry port queue => Sys2Proof.Machine.execPauseExpiry port queue s
  | .linkUp port tx rx ids skews => Sys2Proof.Machine.execLinkUp port tx rx ids skews s
  | .portCtrlWrite port value => Sys2Proof.Machine.execPortCtrlWrite port value s
  | .krbTableRead port => Sys2Proof.Machine.execKrbTableRead port s
  | .krbTableWrite port => Sys2Proof.Machine.execKrbTableWrite port s
  | .timeMeasurement cyc => Sys2Proof.Machine.execTimeMeasurement cyc s
  | .captureEdge input falling len cyc => Sys2Proof.Machine.execCaptureEdge input falling len cyc s
  | .inputStuck input released ticks => Sys2Proof.Machine.execInputStuck input released ticks s
  | .ppsLost => Sys2Proof.Machine.execPpsLost s
  | .ppsArm => Sys2Proof.Machine.execPpsArm s
  | .stepApply => Sys2Proof.Machine.execStepApply s
  | .stepSet cyc => Sys2Proof.Machine.execStepSet cyc s
  | .stepAdjust cyc => Sys2Proof.Machine.execStepAdjust cyc s
  | .stepAccept cyc => Sys2Proof.Machine.execStepAccept cyc s
  | .stepDiscard => Sys2Proof.Machine.execStepDiscard s
  | .clearUncertain => Sys2Proof.Machine.execClearUncertain s
  | .autoAccept => Sys2Proof.Machine.execAutoAccept s
  | .todLoad byHost => Sys2Proof.Machine.execTodLoad byHost s
  | .txtsPop port byHost => Sys2Proof.Machine.execTxtsPop port byHost s
  | .capPop input => Sys2Proof.Machine.execCapPop input s
  | .lampArm output => Sys2Proof.Machine.execLampArm output s
  | .lampPulse output cyc => Sys2Proof.Machine.execLampPulse output cyc s
  | .hwyRxFrame hwy data syncOk cyc => Sys2Proof.Machine.execHwyRxFrame hwy data syncOk cyc s
  | .hwyTxFrame hwy cyc => Sys2Proof.Machine.execHwyTxFrame hwy cyc s
  | .hwyClockLost hwy => Sys2Proof.Machine.execHwyClockLost hwy s
  | .crc4Interwork index => Sys2Proof.Machine.execCrc4Interwork index s
  | .tribPacketise index => Sys2Proof.Machine.execTribPacketise index s
  | .perfSecond => Sys2Proof.Machine.execPerfSecond s
  | .binClosed => Sys2Proof.Machine.execBinClosed s
  | .framerFault hwy cleared => Sys2Proof.Machine.execFramerFault hwy cleared s
  | .tribRead => Sys2Proof.Machine.execTribRead s
  | .tribWrite => Sys2Proof.Machine.execTribWrite s
  | .tribReadClear => Sys2Proof.Machine.execTribReadClear s
  | .perfBinRead => Sys2Proof.Machine.execPerfBinRead s
  | .mewsDispatch core => Sys2Proof.Machine.execMewsDispatch core s
  | .bundleIssue core => Sys2Proof.Machine.execBundleIssue core s
  | .xferComplete core => Sys2Proof.Machine.execXferComplete core s
  | .ckptComplete core => Sys2Proof.Machine.execCkptComplete core s
  | .taskWait core => Sys2Proof.Machine.execTaskWait core s
  | .taskOverrun core => Sys2Proof.Machine.execTaskOverrun core s
  | .taskTrap core => Sys2Proof.Machine.execTaskTrap core s
  | .messageDelivery cyc => Sys2Proof.Machine.execMessageDelivery cyc s
  | .ballocRetry core => Sys2Proof.Machine.execBallocRetry core s
  | .mewsCoreFault core unit array word => Sys2Proof.Machine.execMewsCoreFault core unit array word s
  | .roleRestart role => Sys2Proof.Machine.execRoleRestart role s
  | .routerFault unit => Sys2Proof.Machine.execRouterFault unit s
  | .coreTestDone core pass => Sys2Proof.Machine.execCoreTestDone core pass s
  | .coreCmdTest core => Sys2Proof.Machine.execCoreCmdTest core s
  | .coreCmdOff core => Sys2Proof.Machine.execCoreCmdOff core s
  | .roleRead => Sys2Proof.Machine.execRoleRead s
  | .roleWrite byHost => Sys2Proof.Machine.execRoleWrite byHost s
  | .roleStart byHost => Sys2Proof.Machine.execRoleStart byHost s
  | .roleStop byHost => Sys2Proof.Machine.execRoleStop byHost s
  | .roleReadClear => Sys2Proof.Machine.execRoleReadClear s
  | .roleChanged role => Sys2Proof.Machine.execRoleChanged role s
  | .mewsLoadStart byHost => Sys2Proof.Machine.execMewsLoadStart byHost s
  | .mewsLoadDone host pub => Sys2Proof.Machine.execMewsLoadDone host pub s
  | .mewCtrlWrite value => Sys2Proof.Machine.execMewCtrlWrite value s
  | .segmentTake cyc => Sys2Proof.Machine.execSegmentTake cyc s
  | .segmentWriteDone wear => Sys2Proof.Machine.execSegmentWriteDone wear s
  | .fillTimeout entry => Sys2Proof.Machine.execFillTimeout entry s
  | .dirFlush => Sys2Proof.Machine.execDirFlush s
  | .dirRead => Sys2Proof.Machine.execDirRead s
  | .dirLookup => Sys2Proof.Machine.execDirLookup s
  | .dirCreate => Sys2Proof.Machine.execDirCreate s
  | .dirDelete => Sys2Proof.Machine.execDirDelete s
  | .dirRepair bytes => Sys2Proof.Machine.execDirRepair bytes s
  | .dirSetState => Sys2Proof.Machine.execDirSetState s
  | .dirScan => Sys2Proof.Machine.execDirScan s
  | .dirSysRead => Sys2Proof.Machine.execDirSysRead s
  | .ringTableRead => Sys2Proof.Machine.execRingTableRead s
  | .ringTableWrite => Sys2Proof.Machine.execRingTableWrite s
  | .ringTableReadClear => Sys2Proof.Machine.execRingTableReadClear s
  | .packageLost package => Sys2Proof.Machine.execPackageLost package s
  | .gapRepairTimeout index => Sys2Proof.Machine.execGapRepairTimeout index s
  | .yunagerStepEnd outputs => Sys2Proof.Machine.execYunagerStepEnd outputs s
  | .yunagerStepTimeout => Sys2Proof.Machine.execYunagerStepTimeout s
  | .pairMiscompare => Sys2Proof.Machine.execPairMiscompare s
  | .takeover => Sys2Proof.Machine.execTakeover s
  | .pairTestDone pair passed => Sys2Proof.Machine.execPairTestDone pair passed s
  | .pairCmdTest pair => Sys2Proof.Machine.execPairCmdTest pair s
  | .pairCmdOff pair => Sys2Proof.Machine.execPairCmdOff pair s
  | .pairCmdSwap pair => Sys2Proof.Machine.execPairCmdSwap pair s
  | .yunagerRestart => Sys2Proof.Machine.execYunagerRestart s
  | .funcModeEffect => Sys2Proof.Machine.execFuncModeEffect s
  | .ringTailWrite ring value => Sys2Proof.Machine.execRingTailWrite ring value s
  | .ringStart ring => Sys2Proof.Machine.execRingStart ring s
  | .ringStop ring => Sys2Proof.Machine.execRingStop ring s
  | .ringStopped ring => Sys2Proof.Machine.execRingStopped ring s
  | .txDescriptorFetch ring desc bytes cyc => Sys2Proof.Machine.execTxDescriptorFetch ring desc bytes cyc s
  | .hostLinkDown => Sys2Proof.Machine.execHostLinkDown s
  | .hostLinkUp width speed => Sys2Proof.Machine.execHostLinkUp width speed s
  | .functionLevelReset => Sys2Proof.Machine.execFunctionLevelReset s
  | .d3hotEntry => Sys2Proof.Machine.execD3hotEntry s
  | .romBoot resumeOk => Sys2Proof.Machine.execRomBoot resumeOk s
  | .hbootGo bytes => Sys2Proof.Machine.execHbootGo bytes s
  | .imgWrite bytes => Sys2Proof.Machine.execImgWrite bytes s
  | .imgSetPref => Sys2Proof.Machine.execImgSetPref s
  | .imgConfirm => Sys2Proof.Machine.execImgConfirm s
  | .fuseEnroll slot => Sys2Proof.Machine.execFuseEnroll slot s
  | .fuseRevoke slot => Sys2Proof.Machine.execFuseRevoke slot s
  | .fuseLock => Sys2Proof.Machine.execFuseLock s
  | .rbRaise counter value => Sys2Proof.Machine.execRbRaise counter value s
  | .measExtGo => Sys2Proof.Machine.execMeasExtGo s
  | .quoteRequest => Sys2Proof.Machine.execQuoteRequest s
  | .quoteSnapshot => Sys2Proof.Machine.execQuoteSnapshot s
  | .quoteWritten => Sys2Proof.Machine.execQuoteWritten s
  | .dbgRequest => Sys2Proof.Machine.execDbgRequest s
  | .dbgSubmit => Sys2Proof.Machine.execDbgSubmit s
  | .dbgRelock => Sys2Proof.Machine.execDbgRelock s
  | .debugGrant => Sys2Proof.Machine.execDebugGrant s
  | .debugExpiry => Sys2Proof.Machine.execDebugExpiry s
  | .dbgChallengeExpiry => Sys2Proof.Machine.execDbgChallengeExpiry s
  | .rngTestFail => Sys2Proof.Machine.execRngTestFail s
  | .rngRecover => Sys2Proof.Machine.execRngRecover s
  | .keyDbe port key => Sys2Proof.Machine.execKeyDbe port key s
  | .pwrReqMode target byHost => Sys2Proof.Machine.execPwrReqMode target byHost s
  | .pwrReqDormant low byHost => Sys2Proof.Machine.execPwrReqDormant low byHost s
  | .pwrReqRestart byHost => Sys2Proof.Machine.execPwrReqRestart byHost s
  | .pwrReqRestartRecovery byHost => Sys2Proof.Machine.execPwrReqRestartRecovery byHost s
  | .pwrReqCancel byHost => Sys2Proof.Machine.execPwrReqCancel byHost s
  | .drainComplete => Sys2Proof.Machine.execDrainComplete s
  | .selftestDone passed loc => Sys2Proof.Machine.execSelftestDone passed loc s
  | .leanEntry => Sys2Proof.Machine.execLeanEntry s
  | .leanSliceOff => Sys2Proof.Machine.execLeanSliceOff s
  | .leanExit passed => Sys2Proof.Machine.execLeanExit passed s
  | .dormantEntryComplete count phase refPpb => Sys2Proof.Machine.execDormantEntryComplete count phase refPpb s
  | .wakePin ms => Sys2Proof.Machine.execWakePin ms s
  | .sleepTimerWake count => Sys2Proof.Machine.execSleepTimerWake count s
  | .alarmChange input level ms => Sys2Proof.Machine.execAlarmChange input level ms s
  | .alarmRelease input level ticks => Sys2Proof.Machine.execAlarmRelease input level ticks s
  | .wakeComplete count phase refPpb => Sys2Proof.Machine.execWakeComplete count phase refPpb s
  | .pmbusPoll budget => Sys2Proof.Machine.execPmbusPoll budget s
  | .feedWarn asserted => Sys2Proof.Machine.execFeedWarn asserted s
  | .feedFail => Sys2Proof.Machine.execFeedFail s
  | .holdupEnd low count phase refPpb => Sys2Proof.Machine.execHoldupEnd low count phase refPpb s
  | .feedReturn => Sys2Proof.Machine.execFeedReturn s
  | .wakeStuck => Sys2Proof.Machine.execWakeStuck s
  | .domainReady domain => Sys2Proof.Machine.execDomainReady domain s
  | .pageCommitRequest page => Sys2Proof.Machine.execPageCommitRequest page s
  | .pageCommit page => Sys2Proof.Machine.execPageCommit page s
  | .commitAll => Sys2Proof.Machine.execCommitAll s
  | .softReset page => Sys2Proof.Machine.execSoftReset page s
  | .pageCtrlWrite page value => Sys2Proof.Machine.execPageCtrlWrite page value s
  | .pageLock page value => Sys2Proof.Machine.execPageLock page value s
  | .pageEventSet page value => Sys2Proof.Machine.execPageEventSet page value s
  | .eventClear page off value same => Sys2Proof.Machine.execEventClear page off value same s
  | .counterReadClear page off lo n => Sys2Proof.Machine.execCounterReadClear page off lo n s
  | .latchingRead page off cyc => Sys2Proof.Machine.execLatchingRead page off cyc s
  | .registerWrite page off value be => Sys2Proof.Machine.execRegisterWrite page off value be s
  | .evtStart => Sys2Proof.Machine.execEvtStart s
  | .evtStop => Sys2Proof.Machine.execEvtStop s
  | .evtTailWrite value => Sys2Proof.Machine.execEvtTailWrite value s
  | .deferredEvent page evBit detail => Sys2Proof.Machine.execDeferredEvent page evBit detail s
  | .flogRead => Sys2Proof.Machine.execFlogRead s
  | .monReadSet => Sys2Proof.Machine.execMonReadSet s
  | .monWriteConfig => Sys2Proof.Machine.execMonWriteConfig s
  | .monReadConfig => Sys2Proof.Machine.execMonReadConfig s
  | .porstAssert => Sys2Proof.Machine.execPorstAssert s
  | .porstDeassert bootSel => Sys2Proof.Machine.execPorstDeassert bootSel s
  | .warmReset bootSel => Sys2Proof.Machine.execWarmReset bootSel s
  | .standbyPowerUp => Sys2Proof.Machine.execStandbyPowerUp s
  | .vinSwitchClose => Sys2Proof.Machine.execVinSwitchClose s
  | .vinSwitchOpen => Sys2Proof.Machine.execVinSwitchOpen s
  | .moduleWithdrawn => Sys2Proof.Machine.execModuleWithdrawn s
  | .optRead addr off => Sys2Proof.Machine.execOptRead addr off s
  | .extestLoad => Sys2Proof.Machine.execExtestLoad s
  | .tapReset bootSel => Sys2Proof.Machine.execTapReset bootSel s
  | .fuseDone missing => Sys2Proof.Machine.execFuseDone missing s
  | .krefUnlock locked => Sys2Proof.Machine.execKrefUnlock locked s
  | .hostLinkError kind => Sys2Proof.Machine.execHostLinkError kind s
  | .wakeInactive => Sys2Proof.Machine.execWakeInactive s
  | .wakeLimitExpiry ms => Sys2Proof.Machine.execWakeLimitExpiry ms s
  | .msixVectorUnmask vector => Sys2Proof.Machine.execMsixVectorUnmask vector s

end Sys2Proof.Machine
end

