-- ==== Sys2Proof/Safety.lean ====
section
/-! DEFINITION. The terms the claims use: what a command that completes leaves alone, and when a page takes host writes and table
commands. No meaning of the terminal stops it, so a safe run is any run. -/

namespace Sys2Proof.Machine

/-- `t` with the clock, the queue and the fuses of `s`: what a command answers that touches none of the three. -/
def kept (s t : State) : State := { t with clock := s.clock, pending := s.pending, otp := s.otp }

/-- A page takes host writes: it is not locked (R528). -/
abbrev Unlocked (s : State) (p : Nat) : Prop := rd s p COM.PAGE_LOCK_LOCK = 0

/-- A page takes a table command: it is not locked, and no command of it is in progress (R527). -/
abbrev TableFree (s : State) (p : Nat) : Prop := rd s p COM.PAGE_LOCK_LOCK = 0 ∧ rd s p TBL.BUSY = 0

/-- Every register field reads in `t` as it reads in `s`, but for the fields of the pages in `ps`. -/
def RegsKeptBut (ps : List Nat) (s t : State) : Prop :=
  ∀ (q : Nat) (g : Field), q ∉ ps → g.off * 8 + g.lo < 32768 → rd t q g = rd s q g

/-- The commands waiting in the queue, the clock and the fuses are those of `s`. -/
abbrev KeepsCore (s t : State) : Prop := t.clock = s.clock ∧ t.pending = s.pending ∧ t.otp = s.otp

/-- The commands that may move the clock: the boundaries, TICK_ALIGN, and the commands of the power sequencer, the pins and the supplies. -/
def MovesClock (c : Instr) : Prop :=
  match c with
  | .tickBoundary | .blockBoundary | .tickAlign _ | .pwrReqMode _ _ | .pwrReqDormant _ _ | .pwrReqRestart _ | .pwrReqRestartRecovery _
  | .pwrReqCancel _ | .drainComplete | .selftestDone _ _ | .leanEntry | .leanSliceOff | .leanExit _ | .dormantEntryComplete _ _ _
  | .wakeComplete _ _ _ | .wakePin _ | .wakeLimitExpiry _ | .sleepTimerWake _ | .alarmChange _ _ _ | .alarmRelease _ _ _ | .pmbusPoll _
  | .holdupEnd _ _ _ _ | .feedReturn | .porstAssert | .porstDeassert _ | .warmReset _ | .standbyPowerUp | .vinSwitchClose
  | .moduleWithdrawn | .extestLoad | .tapReset _ | .clockFault => True
  | _ => False

/-- The page that a host write of a command is a write to; `none` for a command that no host write gives, or that one may give while the
page is locked (R527, R528). -/
def hostPage (c : Instr) : Option Nat :=
  match c with
  | .eqSwapRequest port _ => some (fibPage port)
  | .xgemFilterRead port | .xgemFilterWrite port | .xgemFilterInvalidate port | .rejoinEndCmd port => some (fibN port 1)
  | .tpForce => some 0x40
  | .rogueClear port | .allocSlotRead port | .allocSlotWrite port | .allocSlotUnbind port => some (fibN port 3)
  | .actEnWrite port _ => some (fibN port 2)
  | .ruleLoadStart byHost => if byHost then some 0xC8 else none
  | .bankSwapRequest | .defaultTableRead | .defaultTableWrite => some 0xC8
  | .culTableRead => some 0xC9
  | .flowRead | .flowWrite | .flowInsert | .flowUpdate | .flowDelete | .flowLookupCmd | .flowFlush | .flowEnable => some 0xD0
  | .sqrDisable | .sqrEnable => some 0xE0
  | .sqrTableRead | .sqrTableAlloc | .sqrTableInc | .sqrTableDec | .sqrInvalidCmd | .logClear => some 0xE2
  | .gateConfigChange _ | .gateReadAdmin | .gateWriteAdmin | .gateReadOper => some 0x102
  | .nodeRead | .nodeWrite | .nodeReadClearRefused => some 0x101
  | .bolRead | .bolWrite | .bolReadClear => some 0x140
  | .rtsTest _ | .rtsReturn _ | .rtsFence _ | .faultInjArm _ => some 0x180
  | .krefCtrlWrite _ => some 0xA9
  | .prbsInjSingle port _ | .prbsInjBurst port _ | .laneCtrlWrite port _ _ => some (lan port)
  | .portCtrlWrite port _ | .krbTableRead port | .krbTableWrite port => some (krb port)
  | .ppsArm | .stepSet _ | .stepAdjust _ | .stepAccept _ | .stepDiscard | .clearUncertain => some 0x30
  | .todLoad byHost => if byHost then some 0x30 else none
  | .txtsPop _ byHost => if byHost then some 0x32 else none
  | .capPop _ | .lampArm _ => some 0x31
  | .tribRead | .tribWrite | .tribReadClear => some 0x1A1
  | .perfBinRead => some 0x1A2
  | .coreCmdTest _ | .coreCmdOff _ | .mewCtrlWrite _ => some 0x1C0
  | .roleRead | .roleReadClear => some 0x1C1
  | .roleWrite byHost | .roleStart byHost | .roleStop byHost => if byHost then some 0x1C1 else none
  | .mewsLoadStart byHost => if byHost then some 0x1C2 else none
  | .dirRead | .dirLookup | .dirCreate | .dirDelete | .dirRepair _ | .dirSetState | .dirScan | .dirSysRead => some 0x1E1
  | .ringTableRead | .ringTableWrite | .ringTableReadClear => some 0x1E2
  | .pairCmdTest _ | .pairCmdOff _ | .pairCmdSwap _ => some 8
  | .ringTailWrite _ _ | .ringStart _ | .ringStop _ => some 0xB1
  | .hbootGo _ | .imgWrite _ | .imgSetPref | .imgConfirm | .fuseEnroll _ | .fuseRevoke _ | .fuseLock => some 0x10
  | .rbRaise _ _ | .dbgRequest | .dbgSubmit | .dbgRelock => some 0x12
  | .measExtGo | .quoteRequest => some 0x11
  | .pwrReqMode _ byHost | .pwrReqDormant _ byHost | .pwrReqRestart byHost | .pwrReqRestartRecovery byHost
    | .pwrReqCancel byHost => if byHost then some 0x20 else none
  | .commitAll | .evtStart | .evtStop | .evtTailWrite _ => some 0
  | .softReset page | .pageCtrlWrite page _ | .pageEventSet page _ => some page
  | .flogRead => some 1
  | .monReadSet | .monWriteConfig | .monReadConfig => some 0x200
  | .registerWrite page off _ be => if be % 16 = 15 ∧ off % 4 = 0 ∧ !lockFree page (off % 4096) then some page else none
  | .eventClear page off _ _ => if !lockFree page off then some page else none
  | _ => none

/-- The page of a table command (R527); `none` for the others. -/
def tablePage (c : Instr) : Option Nat :=
  match c with
  | .xgemFilterRead port | .xgemFilterWrite port | .xgemFilterInvalidate port => some (fibN port 1)
  | .allocSlotRead port | .allocSlotWrite port | .allocSlotUnbind port => some (fibN port 3)
  | .krbTableRead port | .krbTableWrite port => some (krb port)
  | .defaultTableRead | .defaultTableWrite => some 0xC8
  | .culTableRead => some 0xC9
  | .flowRead | .flowWrite | .flowInsert | .flowUpdate | .flowDelete | .flowLookupCmd | .flowFlush => some 0xD0
  | .sqrTableRead | .sqrTableAlloc | .sqrTableInc | .sqrTableDec | .sqrInvalidCmd => some 0xE2
  | .gateReadAdmin | .gateWriteAdmin | .gateReadOper => some 0x102
  | .nodeRead | .nodeWrite | .nodeReadClearRefused => some 0x101
  | .bolRead | .bolWrite | .bolReadClear => some 0x140
  | .tribRead | .tribWrite | .tribReadClear => some 0x1A1
  | .perfBinRead => some 0x1A2
  | .roleRead | .roleReadClear | .roleWrite _ | .roleStart _ | .roleStop _ => some 0x1C1
  | .dirRead | .dirLookup | .dirCreate | .dirDelete | .dirRepair _ | .dirSetState | .dirScan | .dirSysRead => some 0x1E1
  | .ringTableRead | .ringTableWrite | .ringTableReadClear => some 0x1E2
  | .flogRead => some 1
  | .monReadSet | .monWriteConfig | .monReadConfig => some 0x200
  | _ => none

end Sys2Proof.Machine
end

