-- ==== Sys2Proof/Certificates/Slice0/Obligations.lean ====
section
/-! DEFINITION. The statements for the provers: what the commands of each block do, with the frame of each, the rules over all
commands, and the invariants that every step keeps. -/

open Sys2Proof Sys2Proof.Machine

/-- R70, R72, R73: loss of signal and the equaliser of a fibre port, each with the whole next state. -/
def Obligations.FibreReceiverCommands : Prop :=
  ∀ (s : State) (p cyc : Nat), p < 2 →
    (rd s (fibPage p) FB0.DS_STATUS_LOS = 0 →
      exec (.losAsserted p) s = .next (kept s (freezePll (raise (fibPage p) FB0.evLOS_CHANGE [1] (wr (fibPage p) FB0.DS_STATUS_LOS 1 s))))) ∧
    (rd s (fibPage p) FB0.DS_STATUS_LOS = 1 →
      exec (.losDeasserted p) s = .next (kept s (freezePll (raise (fibPage p) FB0.evLOS_CHANGE [0] (wr (fibPage p) FB0.DS_STATUS_LOS 0 s))))) ∧
    (Unlocked s (fibPage p) → rd s (fibPage p) FB0.EQ_CTRL_SWAP = 0 →
      exec (.eqSwapRequest p cyc) s
        = .next (kept s (wr (fibPage p) FB0.EQ_CTRL_SWAP 1 (wr (fibHeld p) HFIB.SWAP_AT (startOf (now s) + cyc + 1) s)))) ∧
    (rd s (fibPage p) FB0.EQ_CTRL_SWAP = 1 → rd s (fibHeld p) HFIB.SWAP_AT + 51 ≤ startOf (now s) + cyc →
      0x1000 ≤ (rdS s (fibPage p) (FB0.EQ_SHADOW 7)).natAbs →
      exec (.eqSwapped p cyc) s
        = .next (kept s (raise (fibPage p) FB0.evEQ_SWAPPED [1 - rd s (fibPage p) FB0.EQ_CTRL_ACTIVE_SET]
            (wr (fibPage p) FB0.EQ_CTRL_ACTIVE_SET (1 - rd s (fibPage p) FB0.EQ_CTRL_ACTIVE_SET)
              (swapSets p (wr (fibPage p) FB0.EQ_CTRL_SWAP 0 s)))))) ∧
    (rd s (fibPage p) FB0.EQ_CTRL_SWAP = 1 → rd s (fibHeld p) HFIB.SWAP_AT + 51 ≤ startOf (now s) + cyc →
      (rdS s (fibPage p) (FB0.EQ_SHADOW 7)).natAbs < 0x1000 →
      exec (.eqSwapped p cyc) s
        = .next (kept s (raise (fibPage p) FB0.evEQ_REFUSED [rd s (fibPage p) (FB0.EQ_SHADOW 7)] (wr (fibPage p) FB0.EQ_CTRL_SWAP 0 s))))

/-- R73 to R76, R79: the hunter, the reset of the coefficient sets, captures and codewords. -/
def Obligations.HuntCaptureAndCodewords : Prop :=
  ∀ (s : State) (p pos errs sfc bits iters : Nat) (l : List (Bool × Int)), p < 2 →
    (rd s (fibPage p) FB0.DS_CTRL_RX_EN = 1 → syncState s p ≤ syPre → errs ≤ 1 →
      (s.cands.filter (fun c => c.1 = p)).length < 4 →
      exec (.psyncCandidate p pos errs sfc true) s
        = .next (kept s (setSync p syPre { s with cands := s.cands ++ [(p, pos % 6220800, sfc % 2 ^ 51)] }))) ∧
    (rd s (fibPage p) FB0.DS_CTRL_RX_EN = 1 → syncState s p ≤ syPre → errs ≤ 1 →
      4 ≤ (s.cands.filter (fun c => c.1 = p)).length →
      exec (.psyncCandidate p pos errs sfc true) s = .next (kept s (inc (fibPage p) FB0.HUNT_COUNTS_CAND_OVERFLOW s))) ∧
    (rd s (fibPage p) FB0.DS_CTRL_RX_EN = 1 → syncState s p = syHunt → rd s (fibHeld p) HFIB.HUNT_RESET = 0 →
      rd s (fibHeld p) HFIB.HUNT_TICK + 16 ≤ s.clock.tick →
      exec (.eqHuntReset p) s
        = .next (kept s (forEach (List.range 18) (fun i s => wr (fibPage p) (FB0.EQ_ACTIVE i) (if i = 7 then 0x4000 else 0)
            (wr (fibPage p) (FB0.EQ_SHADOW i) (if i = 7 then 0x4000 else 0) s)) (wr (fibHeld p) HFIB.HUNT_RESET 1 s)))) ∧
    (syncState s p = sySync → rd s (fibPage p) FB0.EQ_CTRL_CAPTURE_EN = 1 → rd s (fibPage p) FB0.EQ_CTRL_FREEZE = 0 →
      rd s (fibPage p) FB0.DS_STATUS_LOS = 0 → l.length = 1024 → rd s (fibHeld p) HFIB.CAP_TICK ≠ s.clock.tick + 1 →
      exec (.eqCapture p l) s
        = .next (kept s (
            let u := wr (fibHeld p) HFIB.CAP_TICK (s.clock.tick + 1) s
            if hostEq u p then
              (sendEntry (rd u 8 THL.EQ_RING) 8 p
                (toLe 4 s.clock.tick ++ toLe 4 (min 3037 (rd u (fibPage p) FB0.EQ_CTRL_CAPTURE_OFFSET)) ++ toLe 8 0 ++ l.flatMap sampleWord) u).1
            else if roleState u (1 + p) ≠ roleRunning then inc 0x1C0 MEW0.CAPTURE_DROPPED u
            else
              sendHw (reqFibre p) (1 + p) tagCapture [0x3C000 + 0x2000 * p + 0x1000 * (s.clock.tick % 2)]
                (dmemWrite (rd u (Tab.role (1 + p)) ROLE.CORE) (0x3C000 + 0x2000 * p + 0x1000 * (s.clock.tick % 2)) (l.flatMap sampleWord) u)))) ∧
    (sySync ≤ syncState s p → iters ≤ max 1 (rd s (fibN p 1) FB1.FEC_CTRL_MAX_ITER) →
      exec (.fecCodeword p iters 0) s = .next (kept s (inc (fibN p 1) FB1.FEC_CW s))) ∧
    (sySync ≤ syncState s p → max 1 (rd s (fibN p 1) FB1.FEC_CTRL_MAX_ITER) < iters →
      exec (.fecCodeword p iters bits) s
        = .next (kept s (addc (fibHeld p) HFIB.UC_TICK 1 (inc (fibN p 1) FB1.FEC_UNCORR_CW (inc (fibN p 1) FB1.FEC_CW s))))) ∧
    (sySync ≤ syncState s p → iters ≤ max 1 (rd s (fibN p 1) FB1.FEC_CTRL_MAX_ITER) → bits ≠ 0 →
      exec (.fecCodeword p iters bits) s
        = .next (kept s (addc (fibHeld p) HFIB.CB_TICK bits (addc (fibHeld p) HFIB.SD_BITS bits
            (addc (fibN p 1) FB1.FEC_CORR_BITS bits (inc (fibN p 1) FB1.FEC_CORR_CW (inc (fibN p 1) FB1.FEC_CW s)))))))

/-- R75 to R85: what a downstream frame, a codeword window and an XGEM frame do. -/
def Obligations.DownstreamFramesAndXgem : Prop :=
  ∀ (s : State) (p pos errs sfc cyc at_ hdr h pid : Nat) (ppb : Int) (hu u : Bool) (d : List Byte), p < 2 →
    (rd s (fibPage p) FB0.DS_CTRL_RX_EN = 1 → syncState s p = sySync → pos % 6220800 = rd s (fibHeld p) HFIB.POS → errs ≤ 2 →
      sfc % 2 ^ 51 = (rd s (fibHeld p) HFIB.SFC + 1) % 2 ^ 51 →
      exec (.downstreamFrame p pos errs sfc true ppb cyc) s
        = .next (kept s (
            let g := goodFrame p (sfc % 2 ^ 51) cyc s
            let n := wr (fibHeld p) HFIB.DEAD 0 (wr (fibHeld p) HFIB.FRAME_NO (rd g (fibHeld p) HFIB.FRAME_NO + 1) g)
            frameInSync p (sfc % 2 ^ 51) cyc (wr (fibHeld p) HUPS.PSBD (startOf (now n) + cyc) (wrS (fibHeld p) HFIB.PPB ppb n))))) ∧
    (rd s (fibPage p) FB0.DS_CTRL_RX_EN = 1 → syncState s p = sySync → pos % 6220800 = rd s (fibHeld p) HFIB.POS → 2 < errs →
      exec (.downstreamFrame p pos errs sfc true ppb cyc) s
        = .next (kept s (
            let g := badFrame p cyc s
            let n := wr (fibHeld p) HFIB.DEAD 0 (wr (fibHeld p) HFIB.FRAME_NO (rd g (fibHeld p) HFIB.FRAME_NO + 1) g)
            frameInSync p (sfc % 2 ^ 51) cyc (wr (fibHeld p) HUPS.PSBD (startOf (now n) + cyc) (wrS (fibHeld p) HFIB.PPB ppb n))))) ∧
    (rd s (fibHeld p) HFIB.SD_TICK + 8000 ≤ s.clock.tick → rd s (fibN p 1) FB1.SD_THRESH ≤ rd s (fibHeld p) HFIB.SD_BITS →
      rd s (fibPage p) FB0.DS_STATUS_SD = 0 →
      exec (.signalDegradeWindow p) s
        = .next (kept s (raise (fibPage p) FB0.evSD [1] (wr (fibPage p) FB0.DS_STATUS_SD 1
            (wr (fibHeld p) HFIB.SD_BITS 0 (wr (fibHeld p) HFIB.SD_TICK s.clock.tick s)))))) ∧
    (rd s (fibPage p) FB0.DS_STATUS_SF = 0 → rd s (fibHeld p) HFIB.LOST = 0 → lossM s p ≤ rd s (fibHeld p) HFIB.SF_RUN →
      exec (.signalFailChange p) s
        = .next (kept s (loseFibre p (raiseFault (fibPage p) FB0.evSF (locSub (6 + p)) false [1]
            (wr (fibHeld p) HFIB.SYNC_TICK 0 (wr (fibPage p) FB0.DS_STATUS_SF 1 s)))))) ∧
    (sySync ≤ syncState s p → rd s (fibHeld p) HFIB.LOST = 0 → rd s (fibHeld p) HFIB.DEAD = 0 →
      (hecFix hdr = some h → xgPort h = 0xFFFF → exec (.xgemFrame p hdr false u pos d) s = .next (kept s s)) ∧
      (hecFix hdr = some h → xgPort h = pid → pid ≠ 0xFFFF → exec (.xgemFrame p hdr false true pos d) s = .next (kept s (xgemSpoilt p pid s))) ∧
      (hecFix hdr = some h → xgPort h = pid → pid ≠ 0xFFFF → filterOf s p pid = none →
        exec (.xgemFrame p hdr false false pos d) s = .next (kept s (inc (fibN p 1) FB1.FILTER_MISS s))) ∧
      (hecFix hdr = some h → xgPort h = pid → pid ≠ 0xFFFF → filterOf s p pid = some at_ →
        (xgKey h = 0 → rd s (Tab.xgf p at_) XGF.ENC_REQ = 0 →
          exec (.xgemFrame p hdr false false pos d) s
            = .next (kept s (reassemble p pid (rd s (Tab.xgf p at_) XGF.KIND)
                (if rdb s (Tab.xgf p at_) XGF.PROTECTED then rd s (Tab.xgf p at_) XGF.STREAM + 1 else 0) (xgLast h) (d.take (xgPli h)) s))) ∧
        (xgKey h ≠ 0 → keyValid s p (xgKey h) = true →
          exec (.xgemFrame p hdr false false pos d) s
            = .next (kept s (reassemble p pid (rd s (Tab.xgf p at_) XGF.KIND)
                (if rdb s (Tab.xgf p at_) XGF.PROTECTED then rd s (Tab.xgf p at_) XGF.STREAM + 1 else 0) (xgLast h)
                (cipher s p (xgKey h) (rd s (fibHeld p) HFIB.SFC) pos (d.take (xgPli h))) s)))) ∧
      (hu = true ∨ hecFix hdr = none →
        exec (.xgemFrame p hdr hu u pos d) s
          = .next (kept s (raiseFirst (fibN p 1) FB1.evHEC_UNCORR [sfcLow (wr (fibHeld p) HFIB.DEAD 1 (inc (fibN p 1) FB1.HEC_UNCORR s)) p]
              (wr (fibHeld p) HFIB.DEAD 1 (inc (fibN p 1) FB1.HEC_UNCORR s)))))) ∧
    (exec (.reasmTimeout p pid) s
        = .next (kept s (dropReasm p (fun r => decide (r.portId = pid) && decide (r.frame + 2 ≤ rd s (fibHeld p) HFIB.FRAME_NO)) s)))

/-- R86 to R89, R97, R103: the timing port, the rejoin commands and the rogue monitor. -/
def Obligations.TimingPortRejoinAndRogue : Prop :=
  ∀ (s : State),
    (s.clock.tickOpen = true → lossChange s = true →
      exec .timingPortChange s = .next (kept s (changePort (1 - timingPort s) s))) ∧
    (s.clock.tickOpen = true → lossChange s = false → rd s (held 0x40) HTP.FORCE = 1 →
      exec .timingPortChange s = .next (kept s (wr 0x40 FB0.TP_STATUS_FORCE_RESULT 1 (changePort (1 - timingPort s) s)))) ∧
    (Unlocked s 0x40 → lossChange s = false → wtrDue s = false → startupDue s (s.clock.tick + 1) = false → qualifies s (1 - timingPort s) = true →
      exec .tpForce s = .next (kept s (wr (held 0x40) HTP.FORCE 1 s))) ∧
    (Unlocked s 0x40 → lossChange s = false → wtrDue s = false → startupDue s (s.clock.tick + 1) = false → qualifies s (1 - timingPort s) = false →
      exec .tpForce s = .next (kept s (raise 0x40 FB0.evTP_REFUSED [2] (wr 0x40 FB0.TP_STATUS_FORCE_RESULT 2 s)))) ∧
    (Unlocked s 0x40 → lossChange s = true ∨ wtrDue s = true ∨ startupDue s (s.clock.tick + 1) = true →
      exec .tpForce s = .next (kept s (raise 0x40 FB0.evTP_REFUSED [3] (wr 0x40 FB0.TP_STATUS_FORCE_RESULT 3 s)))) ∧
    (s.clock.tickOpen = true → wtrDue s = true → pllState s ≠ 0 →
      exec .tpWtrExpiry s = .next (kept s (changePort (rd s 0x40 FB0.TP_CTRL_PREFERRED) s))) ∧
    (s.clock.tickOpen = true → pllState s = 0 → tpPolicy s ≠ 0 → rd s (fibHeld (timingPort s)) HFIB.FIRST_SYNC = 0 →
      rd s (fibHeld (1 - timingPort s)) HFIB.FIRST_SYNC ≠ 0 → rd s (fibHeld (1 - timingPort s)) HFIB.FIRST_SYNC + 79999 ≤ s.clock.tick →
      exec .tpStartupTimeout s = .next (kept s (changePort (1 - timingPort s) s))) ∧
    ∀ p, p < 2 →
      (rd s (fibN p 1) FB1.RJ_STREAMS ≠ 0 → rd s (fibHeld p) HFIB.LOST = 0 → rd s (fibHeld p) HFIB.STALLED = 0 →
        rd s (fibHeld p) HFIB.RET_TICK + rd s (fibN p 1) FB1.RJ_WARN ≤ s.clock.tick →
        exec (.rejoinStalled p) s
          = .next (kept s (raise (fibN p 1) FB1.evREJOIN_STALLED [rd s (fibN p 1) FB1.RJ_STREAMS] (wr (fibHeld p) HFIB.STALLED 1 s)))) ∧
      (Unlocked s (fibN p 1) →
        exec (.rejoinEndCmd p) s = .next (kept s (wr (fibHeld p) HFIB.RJ_END 1 (wr (fibN p 1) FB1.RJ_CTRL_END 1 s)))) ∧
      (rd s (fibN p 3) FB3.US_STATUS_ROGUE_SHUT = 0 → ∀ light cyc : Nat,
        (burstLow s p = true ∧ 64 ≤ light) ∨ (burstLow s p = false ∧ rd s (fibHeld p) HUPS.ENABLE_AT + tickCycles ≤ startOf (now s) + cyc) →
        exec (.rogueShut p light cyc) s
          = .next (kept s (markContained (8 + p) (raiseFault (fibN p 3) FB3.evROGUE_SHUT (locUnit (6 + p) 0x3F) false []
              (wr (fibN p 3) FB3.US_STATUS_LASER_ON 0 (wr (fibN p 3) FB3.US_STATUS_ROGUE_SHUT 1 s)))))) ∧
      (Unlocked s (fibN p 3) → burstLow s p = true →
        exec (.rogueClear p) s
          = .next (kept s (wr (fibN p 3) FB3.US_CTRL_ROGUE_CLEAR 0 (wr (fibN p 3) FB3.US_STATUS_ROGUE_SHUT 0 s)))) ∧
      (Unlocked s (fibN p 3) → burstLow s p = false →
        exec (.rogueClear p) s = .next (kept s (wr (fibN p 3) FB3.US_CTRL_ROGUE_CLEAR 1 s)))

/-- R104 to R110, Table 4.2: the downstream PLOAM messages of the activation machine in hardware mode. -/
def Obligations.ActivationMessages : Prop :=
  ∀ (s : State) (p rate preamble overhead vendor serial id : Nat) (value : Int) (mic : Option Bool) (m : List Byte),
    ploamOpen s p = true → hostAct s p = false →
    let rx := fun (t : State) => if mic = some true then inc (fibN p 2) FB2.PLOAM_RX t else t
    (micOf s p mic ≠ some false →
      (actState s p = actO12 → rate < 3 →
        exec (.burstProfile p rate preamble overhead mic m) s
          = .next (kept s (setAct p actO23 (rx (wr (fibHeld p) HACT.PROFILE 1 (wr (fibHeld p) HACT.PREAMBLE preamble
              (wr (fibHeld p) HACT.OVERHEAD overhead (wr (fibN p 3) FB3.US_STATUS_RATE rate s)))))))) ∧
      (actState s p = actO23 → namesPort s p vendor serial = true →
        exec (.assignOnuId p vendor serial id mic m) s = .next (kept s (startTO1 p (setAct p actO4 (takeOnu p id (rx s)))))) ∧
      (actState s p = actO4 →
        exec (.rangingTime p false value mic m) s = .next (kept s (activate p (ofSigned 32 (0 + value)) (rx s)))) ∧
      (actState s p = actO51 →
        exec (.rangingTime p true value mic m) s
          = .next (kept s (takeEqd p (ofSigned 32 (((if rd s (fibHeld p) HACT.EQD_AT = 0 then rd s (fibN p 2) FB2.EQD
              else rd s (fibHeld p) HACT.EQD_NEW : Nat) : Int) + value)) (rx s)))) ∧
      (actState s p = actO51 →
        exec (.deactivateOnuId p mic m) s = .next (kept s (setAct p actO11 (discardAll p (leaveO51 p (rx s)))))) ∧
      (namesPort s p vendor serial = true → actO23 ≤ actState s p → actState s p ≤ actO6 →
        exec (.disableSerialNumber p vendor serial false mic m) s = .next (kept s (setAct p actO7 (rx s)))) ∧
      (namesPort s p vendor serial = true → actState s p = actO7 →
        exec (.disableSerialNumber p vendor serial true mic m) s = .next (kept s (setAct p actO11 (rx s))))) ∧
    (actState s p = actO23 → rd s (fibN p 3) FB3.US_CTRL_TX_EN = 1 → rngFailed s = false →
      exec (.serialNumberGrant p) s
        = .next (kept s (
            let u := (serialDelay p s).2
            inc (fibN p 2) FB2.SN_RESPONSES (ploamSent p umSerial [rd u (fibN p 2) FB2.SN_VENDOR, vssn u p, (serialDelay p s).1] u)))) ∧
    (actState s p = actO4 → rd s (fibN p 3) FB3.US_CTRL_TX_EN = 1 →
      exec (.rangingGrant p) s
        = .next (kept s (ploamSent p umRegistration ((List.range 9).map (fun i => rd s (fibHeld p) (HACT.REG_ID i))) s))) ∧
    (rd s (fibHeld p) HACT.EQD_AT ≠ 0 → rd s (fibHeld p) HACT.EQD_AT ≤ rd s (fibHeld p) HFIB.FRAME_NO →
      exec (.eqdApply p) s
        = .next (kept s (wr (fibHeld p) HACT.EQD_AT 0 (wr (fibN p 2) FB2.EQD (rd s (fibHeld p) HACT.EQD_NEW) s)))) ∧
    (mic = some false ∨ (mic = some true ∧ rd s (held 0x10) HSEC.KEY_BAD / 2 ^ (8 * p) / 8 % 2 = 1) →
      ∀ (b : Bool) (sfc alloc interval next : Nat),
      ∀ c ∈ [Instr.burstProfile p rate preamble overhead mic m, .assignOnuId p vendor serial id mic m, .rangingTime p b value mic m,
          .deactivateOnuId p mic m, .disableSerialNumber p vendor serial b mic m, .tuningControl p mic m, .changePowerLevel p mic m,
          .keyControl p sfc mic m, .assignAllocId p alloc b mic m, .sleepAllow p b interval next mic m],
        exec c s = .next (kept s (raiseFirst (fibN p 2) FB2.evMIC_ERR [fieldAt m 2 1] (inc (fibN p 2) FB2.PLOAM_MIC_ERR s))))

/-- R104 to R116: keys, Alloc-IDs, watchful sleep, and the staged write of ACT_EN. -/
def Obligations.KeyAllocAndSleepMessages : Prop :=
  ∀ (s : State) (p sfc alloc interval next : Nat) (mic : Option Bool) (m : List Byte),
    ploamOpen s p = true → hostAct s p = false → hostPloam s p = false → micOf s p mic ≠ some false →
    let rx := fun (t : State) => if mic = some true then inc (fibN p 2) FB2.PLOAM_RX t else t
    (exec (.tuningControl p mic m) s = .next (kept s (queuePloam p umTuning [] (rx s)))) ∧
    (exec (.changePowerLevel p mic m) s = .next (kept s (queuePloam p umAck [] (rx s)))) ∧
    (rngFailed s = false → exec (.keyControl p sfc mic m) s = .next (kept s (ploamIn p false mic m id (newKey p sfc s)))) ∧
    (rd s (fibN p 2) FB2.KEY_STATUS_SWITCH_PENDING = 1 → rd s (fibHeld p) HACT.SWITCH_SFC ≤ rd s (fibHeld p) HFIB.SFC →
      exec (.keySwitch p) s
        = .next (kept s (
            let i := rd s (fibHeld p) HACT.SWITCH_KEY
            let u := { s with dataKeys := Map.put 0 s.dataKeys (8 * p + i) (Map.get 0 s.nextKeys (8 * p + i)),
                              nextKeys := s.nextKeys.filter (fun e => decide (e.1 / 8 ≠ p)) }
            raise (fibN p 2) FB2.evKEY_SWITCHED [i] (wr (fibN p 2) FB2.KEY_STATUS_ACTIVE i
              (wr (fibN p 2) FB2.KEY_STATUS_VALID (setBit (rd s (fibN p 2) FB2.KEY_STATUS_VALID) (i - 1) true)
                (wr (fibN p 2) FB2.KEY_STATUS_SWITCH_PENDING 0 u)))))) ∧
    (exec (.assignAllocId p alloc true mic m) s
        = .next (kept s (rx { s with allocs := s.allocs.filter (fun a => decide (a ≠ p * 16384 + alloc % 16384)) ++ [p * 16384 + alloc % 16384] }))) ∧
    (exec (.assignAllocId p alloc false mic m) s
        = .next (kept s (rx { s with allocs := s.allocs.filter (fun a => decide (a ≠ p * 16384 + alloc % 16384)) }))) ∧
    (sleepOk (rx s) p interval = true →
      exec (.sleepAllow p true interval next mic m) s
        = .next (kept s (
            let u := if 2 ≤ next ∧ rd s (fibN p 2) FB2.PM_STATUS_STATE < 2 then queuePloam p umSleep [] (rx s) else rx s
            showLaser p (startOf (now u)) (setPm p (min 3 next) (wr (fibHeld p) HACT.PM_INTERVAL interval u))))) ∧
    (sleepOk (rx s) p interval = false → exec (.sleepAllow p true interval next mic m) s = .next (kept s (setPm p 0 (rx s)))) ∧
    (exec (.sleepAllow p false interval next mic m) s = .next (kept s (setPm p 0 (rx s)))) ∧
    (∀ en, Unlocked s (fibN p 2) →
      exec (.actEnWrite p en) s = .next (kept s (wrStaged (fibN p 2) (fibN p 2) FB2.ACT_CTRL_ACT_EN (b2n en) s)))

/-- R104, R110: ACT_CMD in host mode, and the timers. -/
def Obligations.ActivationCommandsAndTimers : Prop :=
  ∀ (s : State) (p : Nat), p < 2 →
    (Unlocked s (fibN p 2) → rd s (fibN p 2) FB2.ACT_STATUS_HOST_ASSIST = 1 →
      let res := fun r (t : State) => wr (fibN p 2) FB2.ACT_CMD_RESULT r t
      (actState s p = actO4 →
        exec (.actCmdO11 p) s = .next (kept s (res 1 (setAct p actO11 (discardProfile p (discardOnu p s)))))) ∧
      (actState s p = actO51 ∨ actState s p = actO6 →
        exec (.actCmdO11 p) s = .next (kept s (res 1 (setAct p actO11 (discardAll p (leaveO51 p s)))))) ∧
      (actState s p = actO12 → exec (.actCmdO23 p) s = .next (kept s (res 1 (setAct p actO23 s)))) ∧
      (actState s p ≠ actO12 → exec (.actCmdO23 p) s = .next (kept s (res 2 s))) ∧
      (actState s p = actO23 → rd s (fibN p 2) FB2.ACT_DATA_ONU_ID ≠ 0x3FF →
        exec (.actCmdO4 p) s = .next (kept s (res 1 (startTO1 p (setAct p actO4 (takeOnu p (rd s (fibN p 2) FB2.ACT_DATA_ONU_ID) s)))))) ∧
      (actState s p = actO4 → exec (.actCmdO51 p) s = .next (kept s (res 1 (activate p (rd s (fibN p 2) FB2.ACT_EQD) s)))) ∧
      (actState s p = actO6 → rd s (fibHeld p) HFIB.LOST = 0 →
        exec (.actCmdO51 p) s = .next (kept s (res 1 (takeEqd p (rd s (fibN p 2) FB2.ACT_EQD) (setAct p actO51 s))))) ∧
      (actState s p = actO51 → exec (.actCmdO6 p) s = .next (kept s (res 1 (startTO2 p (setAct p actO6 s))))) ∧
      (actO23 ≤ actState s p → actState s p ≤ actO6 → exec (.actCmdO7 p) s = .next (kept s (res 1 (setAct p actO7 s)))) ∧
      (actState s p = actO7 → exec (.actCmdLeaveO7 p) s = .next (kept s (res 1 (setAct p actO11 s)))) ∧
      (actState s p = actO51 → exec (.applyEqd p) s = .next (kept s (res 1 (takeEqd p (rd s (fibN p 2) FB2.ACT_EQD) s)))) ∧
      (actState s p ≠ actO51 → exec (.applyEqd p) s = .next (kept s (res 2 s)))) ∧
    (Unlocked s (fibN p 2) → rd s (fibN p 2) FB2.ACT_STATUS_HOST_ASSIST = 0 →
      ∀ c ∈ [Instr.actCmdO11 p, .actCmdO23 p, .actCmdO4 p, .actCmdO51 p, .actCmdO6 p, .actCmdO7 p, .actCmdLeaveO7 p, .applyEqd p],
        exec c s = .next (kept s (wr (fibN p 2) FB2.ACT_CMD_RESULT 3 s))) ∧
    (actState s p = actO4 → rd s (fibHeld p) HACT.TO1 ≠ 0 → rd s (fibHeld p) HACT.TO1 ≤ s.clock.tick + 1 →
      exec (.to1Expiry p) s
        = .next (kept s (setAct p actO11 (discardProfile p (discardOnu p (raise (fibN p 2) FB2.evTO_EXPIRED [1] s)))))) ∧
    (actState s p = actO6 → rd s (fibHeld p) HACT.TO2 ≠ 0 → rd s (fibHeld p) HACT.TO2 ≤ s.clock.tick + 1 →
      exec (.to2Expiry p) s = .next (kept s (setAct p actO11 (discardAll p (raise (fibN p 2) FB2.evTO_EXPIRED [2] s)))))

/-- R116 to R124: reconciling a BWmap, and the cut-off, serialisation, start and end of a burst. -/
def Obligations.BurstLifecycle : Prop :=
  ∀ (s : State) (p cyc : Nat) (l : List AllocIn) (b : Burst), p < 2 →
    (actState s p = actO51 → rd s (fibN p 2) FB2.PM_STATUS_STATE ≠ 3 → rd s (fibN p 3) FB3.US_CTRL_TX_EN = 1 →
      exec (.bwmapDecoded p true l cyc) s
        = .next (kept s (
            let mine := (l.filter (fun g => assigned s p g.alloc)).map (grantOf s p)
            assemble p (nextRooms p (sentAllocs mine) (takeAllocs p mine [] [] (grantLeads p cyc (sentAllocs mine) s)))))) ∧
    (actState s p = actO51 → rd s (fibN p 2) FB2.PM_STATUS_STATE ≠ 3 → rd s (fibN p 3) FB3.US_CTRL_TX_EN = 1 →
      exec (.bwmapDecoded p false l cyc) s
        = .next (kept s (returnAllPredicted p
            (raiseFirst (fibN p 3) FB3.evBWMAP_LOST [sfcLow s p] (inc (fibN p 3) FB3.BWMAP_LOST s))))) ∧
    (burstAt s p 0 (startOf (now s) + cyc) cutCycles = some b →
      exec (.extensionCutoff p cyc) s
        = .next (kept s (setBurst b (fun c => { c with stage := 1, extend := false }) (takeOmci b s)))) ∧
    (burstAt s p 1 (startOf (now s) + cyc) serCycles = some b →
      exec (.burstSerialiseStart p cyc) s
        = .next (kept s (showLaser p (startOf (now s) + cyc)
            (setBurst b (fun c => { c with stage := 2 }) { s with upWire := Map.put [] s.upWire p (xgemOuts s b) })))) ∧
    (burstAt s p 2 (startOf (now s) + cyc) 0 = some b →
      exec (.burstStart p cyc) s
        = .next (kept s (
            let r := b.entries.foldl (sendEntryUp p b.start) (s, [])
            let u := setBurst b (fun c => { c with stage := 3, entries := [], sent := r.2 }) r.1
            let u := addc (fibN p 3) FB3.IDLE_BYTES (b.room - usedRoom b.entries - omciRoom b.omci) (inc (fibN p 3) FB3.BURSTS u)
            let u := if b.ploamu then sendPloamu p u else u
            let u := wrS (fibN p 3) FB3.TX_POWER (Config.sensor 0x102 p u.clock.tick) u
            let u := wrb (fibHeld p) HUPS.IND (rdb u (fibN p 3) FB3.US_STATUS_GASP) u
            syncBuild p (showLaser p (startOf (now s) + cyc) u)))) ∧
    (s.bursts.find? (fun c => decide (c.fibre = p ∧ c.stage = 3 ∧ c.start + c.dur ≤ startOf (now s) + cyc)) = some b →
      exec (.burstEnd p cyc) s
        = .next (kept s (showLaser p (startOf (now s) + cyc)
            (forEach b.sent releaseEnt { s with bursts := dropFirst (fun c => decide (c.fibre = p ∧ c.stage = 3)) s.bursts }))))

/-- R151 to R157: walks, loading, swapping and retiring the rule-tree banks. -/
def Obligations.RuleTreeBanks : Prop :=
  ∀ (s : State) (src : Nat) (img : List Byte) (byHost : Bool) (f : InFrame) (r : Reasm),
    (src < 12 → s.front.find? (earlyKey s src) = some f →
      exec (.keyComplete src) s
        = .next (kept s { (walkFrame s f).2 with front := updFirst (earlyKey s src) (fun f' => { f' with walks := (walkFrame s f).1 }) s.front })) ∧
    (src < 12 → s.front.find? (earlyKey s src) = none → s.ingress.find? (waitingKey src) = some f →
      exec (.keyComplete src) s
        = .next (kept s { (walkFrame s f).2 with ingress := updFirst (waitingKey src) (fun f' => { f' with walks := (walkFrame s f).1 }) s.ingress })) ∧
    (src < 12 → s.front.find? (earlyKey s src) = none → s.ingress.find? (waitingKey src) = none → s.reasm.find? (partKey s src) = some r →
      exec (.keyComplete src) s
        = .next (kept s { (walkFrame s (partFrame s r)).2 with
            reasm := updFirst (partKey s src) (fun q => { q with walks := (walkFrame s (partFrame s r)).1 }) s.reasm })) ∧
    (byHost = false ∨ Unlocked s 0xC8 → rd s 0xC8 CLS.LOAD_STATUS_BUSY = 0 → loadRefused s = false →
      exec (.ruleLoadStart byHost) s
        = .next (kept s (wr 0xC8 CLS.LOAD_CTRL_START 1 (wr 0xC8 CLS.LOAD_STATUS_BUSY 1 (setBankState (standbyBank s) 1 s))))) ∧
    (byHost = false ∨ Unlocked s 0xC8 → rd s 0xC8 CLS.LOAD_STATUS_BUSY = 0 → loadRefused s = true →
      exec (.ruleLoadStart byHost) s = .next (kept s (loadDone 1 s))) ∧
    (rd s 0xC8 CLS.LOAD_STATUS_BUSY = 1 → rd s 0xC8 CLS.LOAD_CTRL_FROM_ARCADE = 0 → loadResult img (rd s 0xC8 CLS.LOAD_LEN) = 0 →
      exec (.ruleLoadDone (some img)) s
        = .next (kept s (
            let u := loadDone 0 (setBankState (standbyBank s) 2 (setImage (standbyBank s) ⟨wordsOf img, img.length⟩ s))
            measure 3 6 (now u) (Image.id ⟨wordsOf img, img.length⟩) (Config.sha512 img) u))) ∧
    (rd s 0xC8 CLS.LOAD_STATUS_BUSY = 1 → rd s 0xC8 CLS.LOAD_CTRL_FROM_ARCADE = 0 → loadResult img (rd s 0xC8 CLS.LOAD_LEN) ≠ 0 →
      exec (.ruleLoadDone (some img)) s
        = .next (kept s (loadDone (loadResult img (rd s 0xC8 CLS.LOAD_LEN)) (setBankState (standbyBank s) 0 (setImage (standbyBank s) ⟨[], 0⟩ s))))) ∧
    (rd s 0xC8 CLS.LOAD_STATUS_BUSY = 1 → rd s 0xC8 CLS.LOAD_CTRL_FROM_ARCADE = 0 →
      exec (.ruleLoadDone none) s = .next (kept s (loadDone 6 (setBankState (standbyBank s) 0 (setImage (standbyBank s) ⟨[], 0⟩ s))))) ∧
    (Unlocked s 0xC8 → bankState s (standbyBank s) = 2 → swapPending s = false →
      exec .bankSwapRequest s
        = .next (kept s (wr (held 0xC8) HCLS.SWAP_AT (now s + 4)
            (wr 0xC8 CLS.BANK_STATUS_SWAP_PENDING 1 (wr 0xC8 CLS.BANK_STATUS_SWAP_RESULT 0 s))))) ∧
    (Unlocked s 0xC8 → bankState s (standbyBank s) ≠ 2 →
      exec .bankSwapRequest s = .next (kept s (raise 0xC8 CLS.evSWAP_REFUSED [2] (wr 0xC8 CLS.BANK_STATUS_SWAP_RESULT 2 s)))) ∧
    (Unlocked s 0xC8 → bankState s (standbyBank s) = 2 → swapPending s = true →
      exec .bankSwapRequest s = .next (kept s (raise 0xC8 CLS.evSWAP_REFUSED [3] (wr 0xC8 CLS.BANK_STATUS_SWAP_RESULT 3 s)))) ∧
    (swapPending s = true → rd s (held 0xC8) HCLS.SWAP_AT ≤ now s + 1 →
      exec .bankSwap s
        = .next (kept s (
            let u := if bankState s (activeBank s) = 2 then setBankState (activeBank s) 3 s else s
            let u := wr 0xC8 CLS.BANK_STATUS_ACTIVE (1 - activeBank s) (wr 0xC8 CLS.BANK_STATUS_SWAP_PENDING 0 u)
            let u := wr 0xC8 CLS.BANK_STATUS_SWAP_RESULT 1 (wr 0xC8 CLS.EPOCH (rd u 0xC8 CLS.EPOCH + 1) u)
            let u := wr (held 0xC8) HCLS.SWAP_AT 0 (wr (held 0xC8) HCLS.SWAPPED (now u + 1) u)
            raise 0xC8 CLS.evSWAPPED [rd u 0xC8 CLS.EPOCH, 1 - activeBank s] u))) ∧
    (bankState s (standbyBank s) = 3 → rd s 0xC8 (drainCount (standbyBank s)) = 0 → rd s (held 0xC8) HCLS.SWAPPED ≤ s.nextCommit →
      exec .bankRetired s = .next (kept s (raise 0xC8 CLS.evBANK_RETIRED [standbyBank s] (setBankState (standbyBank s) 2 s))))

/-- R161, R168: the default-action table, the Cul-de-sac commands. -/
def Obligations.DefaultActionsAndCulDeSac : Prop :=
  ∀ (s : State) (i ring : Nat),
    (TableFree s 0xC8 →
      exec .defaultTableRead s = .next (kept s (tblResult 0xC8 0 (readRecord 0xC8 (Tab.dact (rd s 0xC8 CLS.TBL_ADDR)) DACT.fields s)))) ∧
    (TableFree s 0xC8 → oneTerminal (rd s 0xC8 (TBL.DATA 0)) = true → bit (rd s 0xC8 (TBL.DATA 0)) 6 = false →
      exec .defaultTableWrite s = .next (kept s (tblResult 0xC8 0 (stageRecord 0xC8 (Tab.dact (rd s 0xC8 CLS.TBL_ADDR)) DACT.fields s)))) ∧
    (TableFree s 0xC8 → oneTerminal (rd s 0xC8 (TBL.DATA 0)) = true → bit (rd s 0xC8 (TBL.DATA 0)) 6 = true →
      exec .defaultTableWrite s = .next (kept s (tblResult 0xC8 2 s))) ∧
    (TableFree s 0xC8 → oneTerminal (rd s 0xC8 (TBL.DATA 0)) = false →
      exec .defaultTableWrite s = .next (kept s (tblResult 0xC8 1 s))) ∧
    (Unlocked s 0xC9 →
      exec (.culRelease i) s
        = .next (kept s (wr (held 0xC8) HCLS.CUL_OP 1 (wr (held 0xC8) HCLS.CUL_INDEX i (wr (held 0xC8) HCLS.CUL_RING 0 s)))) ∧
      exec (.culExport i ring) s
        = .next (kept s (wr (held 0xC8) HCLS.CUL_OP 2 (wr (held 0xC8) HCLS.CUL_INDEX i (wr (held 0xC8) HCLS.CUL_RING ring s)))) ∧
      exec .culReleaseAll s
        = .next (kept s (wr (held 0xC8) HCLS.CUL_OP 3 (wr (held 0xC8) HCLS.CUL_INDEX 0 (wr (held 0xC8) HCLS.CUL_RING 0 s))))) ∧
    (∀ x, TableFree s 0xC9 → s.cul.find? (fun x => decide (x.index = rd s 0xC9 CUL.TBL_ADDR)) = some x →
      exec .culTableRead s = .next (kept s (tblResult 0xC9 0 (loadData 0xC9 (culWords x) s)))) ∧
    (TableFree s 0xC9 → s.cul.find? (fun x => decide (x.index = rd s 0xC9 CUL.TBL_ADDR)) = none →
      exec .culTableRead s = .next (kept s (tblResult 0xC9 0 (loadData 0xC9 [] s))))

/-- R270 to R276: checks, the reset check, GUARDED. -/
def Obligations.SliceChecksAndReset : Prop :=
  ∀ (s : State) (x c u cyc : Nat) (r : Option Nat), x < 3 →
    (c < 6 → s.clock.running = true → journalOpen s = true → rd s 0x180 (CWY.SLICE_STATE x) = 0 → replaying s = false →
      mapFor s (now s) = (3, false) → (mode s = modeService ∨ mode s = modeCommission) → (∀ y, y < 3 → y ≠ x → rd s 0x180 (CWY.SLICE_STATE y) = 0) →
      exec (.sliceCheckFailed x c u r) s
        = .next (kept s (maskFault x (now s) (sliceLoc x u) c false (noteFault x (now s) (sliceLoc x u) c s)))) ∧
    (c < 6 → s.clock.running = true → journalOpen s = true → rd s 0x180 (CWY.SLICE_STATE x) = 0 → replaying s = true →
      ∀ i, exec (.sliceCheckFailed x c u (some i)) s
        = .next (kept s (
            let y := rd s 0x190 XNG.XNG_STATUS_REPLAY_SLICE
            let f := rd s (held 0x180) HCWY.REPLAY_AT - 1
            let n := noteFault x (now s) (sliceLoc x 0) 2 s
            containRecord y f i (raiseSlice CWY.evCONTAINED_FAULT (now n) (sliceLoc x 0) false [2 ^ y, f % 2 ^ 32, 1, 0] n)))) ∧
    (rd s 0x180 (CWY.SLICE_STATE x) = 1 → rd s (held 0x180) (HCWY.FAULT_AT x) = now s → cyc ≤ 1944 →
      exec (.sliceResetCheck x true cyc) s
        = .next (kept s (wr (held 0x180) (HCWY.FAULT_AT x) 0 (wr 0x180 (CWY.SLICE_STATE x) 0 s)))) ∧
    (rd s 0x180 (CWY.SLICE_STATE x) = 1 → rd s (held 0x180) (HCWY.FAULT_AT x) = now s → rd s (held 0x180) (HCWY.FAULT_MASKED x) = 1 →
      exec (.sliceResetCheck x false cyc) s
        = .next (kept s (planMap (now s + 1) x false (fenceSlice x (now s - 1) false s)))) ∧
    (rd s (held 0x180) HCWY.GUARD_AT ≠ 0 → rd s (held 0x180) HCWY.GUARD_AT ≤ now s + 1 → mode s = modeService →
      exec .enterGuarded s = .next (kept s (setMode modeGuarded causeFence (wr (held 0x180) HCWY.GUARD_AT 0 s))))

/-- R277 to R279, Table 9.8: test and return, and fault injection. -/
def Obligations.SliceTestAndReturn : Prop :=
  ∀ (s : State) (x v : Nat), x < 3 →
    (rd s 0x180 (CWY.SLICE_STATE x) = 3 → rd s (held 0x180) (HCWY.TEST_TICK x) + 3999 ≤ s.clock.tick →
      exec (.sliceTestDone x true) s
        = .next (kept s (raise 0x180 CWY.evTEST_DONE [x, 1] (wr 0x180 (CWY.SLICE_STATE x) 2 (wr 0x180 (CWY.SLICE_TEST_PASSED x) 1 s)))) ∧
      exec (.sliceTestDone x false) s
        = .next (kept s (raise 0x180 CWY.evTEST_DONE [x, 0] (setDomain (7 + x) false (wr 0x180 (CWY.SLICE_STATE x) 4 s))))) ∧
    (rtsHost s = false → mode s = modeGuarded → rd s 0x180 CWY.CWY_STATUS_FENCED = x →
      rd s 0x180 (CWY.SLICE_TEST_PASSED x) = 1 → rd s (held 0x180) (HCWY.FENCE_TICK x) + rd s 0x180 CWY.RTS_HOLD ≤ s.clock.tick + 1 →
      recentReturns s x < rd s 0x180 CWY.RTS_MAX → rtsBusy s = false →
      exec (.sliceAutoReturn x) s = .next (kept s (decideRts 2 x s))) ∧
    (Unlocked s 0x180 → rtsBusy s = false →
      (rd s 0x180 (CWY.SLICE_STATE x) = 2 ∨ rd s 0x180 (CWY.SLICE_STATE x) = 4 →
        exec (.rtsTest x) s
          = .next (kept s (
              let u := setDomain (7 + x) true (wr 0x180 (CWY.SLICE_STATE x) 3 (wr 0x180 (CWY.SLICE_TEST_PASSED x) 0 s))
              rtsResult 1 (wr (held 0x180) (HCWY.TEST_TICK x) (u.clock.tick + 1) u)))) ∧
      (mode s = modeGuarded → rd s 0x180 CWY.CWY_STATUS_FENCED = x → rd s 0x180 (CWY.SLICE_TEST_PASSED x) = 1 →
        exec (.rtsReturn x) s = .next (kept s (rtsResult 1 (decideRts 2 x s)))) ∧
      (mode s = modeService → exec (.rtsFence x) s = .next (kept s (rtsResult 1 (decideRts 3 x s))))) ∧
    (Unlocked s 0x180 → mode s ≠ modeGuarded → exec (.rtsReturn x) s = .next (kept s (rtsRefuse 2 s))) ∧
    (Unlocked s 0x180 → mode s ≠ modeService → exec (.rtsFence x) s = .next (kept s (rtsRefuse 2 s))) ∧
    (Unlocked s 0x180 → rtsBusy s = true → exec (.rtsTest x) s = .next (kept s (rtsRefuse 4 s))) ∧
    (rtsDue s 2 = true →
      exec .sliceReturned s
        = .next (kept s (
            let u := returnSlice (rd s (held 0x180) HCWY.RTS_SLICE) (wr (held 0x180) HCWY.RTS_OP 0 s)
            if mode u = modeGuarded then setMode modeService causeReturn u else u))) ∧
    (rtsDue s 3 = true →
      exec .manualFenceEffect s
        = .next (kept s (fenceSlice (rd s (held 0x180) HCWY.RTS_SLICE) (rd s (held 0x180) HCWY.RTS_AT - 1 - 1) true
            (wr (held 0x180) HCWY.RTS_OP 0 s)))) ∧
    (Unlocked s 0x180 → bit v 31 = true → rd s 0x180 CWY.CWY_CTRL_INJ_ALLOW = 1 →
      exec (.faultInjArm v) s
        = .next (kept s (wr 0x180 CWY.FAULT_INJ_ARM 1 (wr 0x180 CWY.FAULT_INJ_SLICE (v % 4) (wr 0x180 CWY.FAULT_INJ_CHECK (v / 16 % 4) s))))) ∧
    (Unlocked s 0x180 → bit v 31 = false →
      exec (.faultInjArm v) s = .next (kept s (wr 0x180 CWY.FAULT_INJ_SLICE (v % 4) (wr 0x180 CWY.FAULT_INJ_CHECK (v / 16 % 4) s))))

/-- R15, R19, R262, R266, R574: the journal entry of a frame, with its whole next state on every path. -/
def Obligations.JournalEntryAndTimedWork : Prop :=
  ∀ (s : State) (src cyc : Nat), src < 14 → cyc < 2430 → s.clock.running = true → journalOpen s = true →
    (pickIngress s src (startOf (now s) + cyc) = none → exec (.journalEntry src cyc) s = .next s) ∧
    (∀ (f : InFrame) (j : Nat) (e : Int), pickIngress s src (startOf (now s) + cyc) = some f →
      (cyc < 1944 → j = now s ∧ e = cyc) → (1944 ≤ cyc → j = now s + 1 ∧ e = (cyc : Int) - 2430) →
      let x := (formItem f j e s).1
      let t := (formItem f j e s).2
      let r := itemRegion t x
      let slice := regionOwner (mapFor s j).1 r
      let u := { t with ingress := dropFirst (fun g => decide (g = f)) t.ingress }
      let u := if f.src = 11 then wr 0xC8 CLS.RECIRC_LEVEL (rd u 0xC8 CLS.RECIRC_LEVEL - 1) u else u
      (entersInRank s slice j x.source e = true → ledgerRecords s slice j < 2040 → journalRoom s slice j r = true →
        (cyc < 1944 → exec (.journalEntry src cyc) s = .next (kept s (injectFault slice (workItem slice j x u)))) ∧
        (1944 ≤ cyc → exec (.journalEntry src cyc) s = .next (kept s { u with early := u.early ++ [x] }))) ∧
      (entersInRank s slice j x.source e = false → exec (.journalEntry src cyc) s = .next s) ∧
      (entersInRank s slice j x.source e = true → 2040 ≤ ledgerRecords s slice j →
        exec (.journalEntry src cyc) s
          = .next (kept s (
              let w := noteWait f j (CWY.LEDGER_FULL slice) s
              if firstKey 0x180 CWY.evLEDGER_FULL 0 ∈ w.firsts then w else raiseFirst 0x180 CWY.evLEDGER_FULL [slice] w))) ∧
      (entersInRank s slice j x.source e = true → ledgerRecords s slice j < 2040 → journalRoom s slice j r = false →
        exec (.journalEntry src cyc) s = .next (kept s (noteWait f j (CWY.LIMIT_WAITS slice) s))))

/-- R94: the reset of a stream, with its whole next state. -/
def Obligations.StreamResetAtItsTime : Prop :=
  ∀ (s : State) (rec_ : Nat),
    let slice := regionOwner (mapFor s (now s)).1 (rec_ % 192)
    let v := viewState s slice (now s)
    let due := s.clock.running = true ∧ s.clock.block = 0 ∧ rd v (Tab.flow rec_) FREC.TYPE = 2 ∧ rd v (Tab.flow rec_) SREC.RESET_TICKS ≠ 0
      ∧ rd v (Tab.flow rec_) SREC.TAKE_ANY = 0
      ∧ rd v (Tab.flow rec_) SREC.RESET_TICKS ≤ (s.clock.tick % 2 ^ 32 + 2 ^ 32 - rd v (Tab.flow rec_) SREC.LAST_PASS) % 2 ^ 32
    let w0 : Wk := ((freshWk s slice (now s)).set (Tab.flow rec_) SREC.TAKE_ANY 1).count (Tab.flow rec_) SREC.RESETS 1
    let w1 := (endRejoin (Tab.flow rec_) 0 w0).event (fibPage 0 + 1) FB1.evRECOV_RESET [rec_]
    let w2 := (endRejoin (Tab.flow rec_) 1 w1).event (fibPage 1 + 1) FB1.evRECOV_RESET [rec_]
    (due → exec (.recovReset rec_) s
      = .next (kept s (addResult slice (now s) (closeWk (blankResult slice { blankItem with source := 15, handle := emptyHandle }) w2) s))) ∧
    (¬ due → exec (.recovReset rec_) s = .next s)

/-- R183: the visit of the ageing engine, with its whole next state. -/
def Obligations.AgeingVisitProposesRemoval : Prop :=
  ∀ (s : State) (rec_ : Nat),
    let slice := regionOwner (mapFor s (now s)).1 (bucketRegion s (rec_ / 8))
    let due := s.clock.running = true ∧ rd s 0xD0 FLW.FLW_CTRL_EN = 1 ∧ rec_ < flowBase s
      ∧ agedOut (viewState s slice (now s)) (s.clock.tick % 2 ^ 32) rec_ = true
    let r : Result := { blankResult slice { blankItem with source := 15, handle := emptyHandle, aux := [rec_] } with proposal := rec_ + 1 }
    (due → exec (.ageingVisit rec_) s = .next (kept s (addResult slice (now s) r s))) ∧
    (r.ledger = [] ∧ r.evs = [] ∧ r.verdict = .none) ∧
    (rd s 0xD0 FLW.FLW_CTRL_EN = 0 ∨ flowBase s ≤ rec_ ∨ agedOut (viewState s slice (now s)) (s.clock.tick % 2 ^ 32) rec_ = false →
      exec (.ageingVisit rec_) s = .next s)

/-- R284, R233, R311, R21: the commit, and the way of a frame through a Kerb MAC. -/
def Obligations.CommitAndSerialisation : Prop :=
  ∀ (s : State) (p cyc cycles : Nat) (masked : List Nat) (failed : List (Nat × Bool)) (x : MacEnt),
    (s.clock.running = true → s.nextCommit + 2 ≤ now s →
      exec (.blockCommit masked failed cycles) s
        = .next (kept s (releaseRefs (assemble 0 (assemble 1 (commitEnd s.nextCommit cycles
            (commitItems s.nextCommit failed (forEach masked (voteMasked s.nextCommit) { s with nextCommit := s.nextCommit + 1 })))))))) ∧
    (p < 8 → (transmitOpportunity p cyc s).macs.length ≠ s.macs.length →
      exec (.transmitOpportunity p cyc) s
        = .next (kept s (showIdle p (wr (krb p) KRB.PORT_STATUS_LPI 0 (transmitOpportunity p cyc s))))) ∧
    (exec (.transmitOpportunity 10 cyc) s = .next (kept s (transmitOpportunity 10 cyc s))) ∧
    (p < 8 → kerbUp s p = true → sending s p = none → macPick s p cyc = some x → poisoned s x.ent = false →
      exec (.kerbFrameStart p cyc) s
        = .next (kept s { s with macs := s.macs.map (fun y => if y.ent.id = x.ent.id then { y with started := true, at_ := startOf (now s) + cyc } else y), wire := Map.put none s.wire p (some (egressBytes s p (startOf (now s) + cyc) x.ent)) })) ∧
    (p < 8 → kerbUp s p = true → sending s p = none → macPick s p cyc = some x → poisoned s x.ent = true →
      exec (.kerbFrameStart p cyc) s = .next (kept s (endMac ocContained x.ent s))) ∧
    (p < 8 → sending s p = some x → x.at_ ≤ startOf (now s) + cyc →
      exec (.kerbTxComplete p cyc) s
        = .next (kept s (startPending p (startOf (now s) + cyc) (wr (krbHeld p) HKRB.IDLE_FROM (startOf (now s) + cyc)
            (releaseEnt x.ent (removeMac x.ent (deliver x.ent (startOf (now s) + cyc) (stampSent p x (inc (krb p) KRB.TX_FRAMES s))))))))) ∧
    (p < 8 → kerbX4 s p = true → kerbUp s p = true → rd s (krb p) KRB.PORT_CTRL_LPI_EN = 1 →
      rd s (krbHeld p) HKRB.IDLE_FROM + nsCycles (rd s (krb p) KRB.LPI_ENTRY) ≤ startOf (now s + 1) → s.macs.any (fun y => decide (y.port = p)) = false →
      exec (.lpiEntry p) s
        = .next (kept s (showIdle p (wr (krb p) KRB.PORT_STATUS_LPI 1 s))))

/-- R294 to R299, R316, R317: lanes, fallback, resumption, restoration, links. -/
def Obligations.LanesFallbackAndLinks : Prop :=
  ∀ (s : State) (p l ok col off cyc tx rx cause viol disp ids skews : Nat) (sfd : Bool) (d : List Byte), p < 8 → l < 4 →
    exec (.laneLost p l 4 viol disp col) s = .next (kept s (laneErrors p l viol disp s)) ∧
    (rd s (lan p) (LAN.LANE_STATUS_LOST l) = 0 → cause < 4 → kerbUp s p = true → bit (rd s (krb p) KRB.PORT_STATUS_RX_LANES) l = true →
      exec (.laneLost p l cause viol disp col) s
        = .next (kept s (kerbLaneLost p l col (laneFails (lan p) l cause (laneErrors p l viol disp s))))) ∧
    (rd s (lan p) (LAN.LANE_STATUS_LOST l) = 0 → cause < 4 → (kerbUp s p = false ∨ bit (rd s (krb p) KRB.PORT_STATUS_RX_LANES) l = false) →
      exec (.laneLost p l cause viol disp col) s
        = .next (kept s (idleLaneLost p l (laneFails (lan p) l cause (laneErrors p l viol disp s))))) ∧
    (rd s (lan 8) (LAN.LANE_STATUS_LOST l) = 0 → cause < 4 →
      exec (.laneLost 8 l cause viol disp col) s
        = .next (kept s (raiseFault (lan 8) LAN.evLANE_LOST (laneLoc 8 l) false []
            (markLost 8 l (laneFails (lan 8) l cause (laneErrors 8 l viol disp s)))))) ∧
    (kerbX4 s p = true → kerbUp s p = true → 2 ≤ lanes ok → mode s ≠ modeLean →
      exec (.fallbackRequestRx p ok off sfd cyc) s = .next (kept s (resumeTx p (ok % 16) off (startOf (now s) + cyc) sfd s))) ∧
    (kerbX4 s p = true → kerbUp s p = true → (lanes ok < 2 ∨ mode s = modeLean) →
      exec (.fallbackRequestRx p ok off sfd cyc) s
        = .next (kept s (
            let loc := laneLoc p (((List.range 4).filter (fun i => decide (bit (rd s (krb p) KRB.PORT_STATUS_TX_LANES) i ∧ !bit ok i))).head?.getD 0)
            noteDouble (earlierFault s) loc (linkDown p loc s)))) ∧
    (kerbX4 s p = true → kerbUp s p = true → s.front = [] →
      exec (.resumeMarkerRx p off d sfd cyc) s
        = .next (kept s (setLinkWidth p (wr (krb p) KRB.PORT_STATUS_RX_LANES (lowestTwo (rd s (krbHeld p) HKRB.RX_OK)) s)))) ∧
    (kerbX4 s p = true → kerbUp s p = true → 2 ≤ lanes ok → wantLanes s p (ok % 16) = rd s (krb p) KRB.PORT_STATUS_TX_LANES →
      exec (.scheduledMarker p ok) s
        = .next (kept s (sendMarker p 0 (rd s (krbHeld p) HKRB.RX_OK) 0 (wr (krbHeld p) HKRB.PART_OK ok s)))) ∧
    (kerbX4 s p = true → kerbUp s p = true → 2 ≤ lanes ok → lanes (wantLanes s p (ok % 16)) < lanes (rd s (krb p) KRB.PORT_STATUS_TX_LANES) →
      0 < lanes (wantLanes s p (ok % 16)) →
      exec (.scheduledMarker p ok) s
        = .next (kept s (setLinkWidth p (wr (krb p) KRB.PORT_STATUS_TX_LANES (wantLanes s p (ok % 16))
            (sendMarker p 0 (rd s (krbHeld p) HKRB.RX_OK) 0 (wr (krbHeld p) HKRB.PART_OK ok s)))))) ∧
    (kerbX4 s p = true → kerbUp s p = true → rd s (lan p) (LAN.LANE_STATUS_LOST l) = 1 →
      rd s (krbHeld p) (HKRB.BAD_TICK l) + rd s (krb p) KRB.RESTORE_TICKS ≤ s.clock.tick →
      exec (.laneRestore p l) s
        = .next (kept s (
            let good := setBit (rd s (krbHeld p) HKRB.RX_OK) l true
            let w := if lanes good = 4 then 15 else lowestTwo good
            let u := wr (lan p) (LAN.LANE_STATUS_SIGNAL l) 1 (wr (lan p) (LAN.LANE_STATUS_ALIGNED l) 1 (wr (lan p) (LAN.LANE_STATUS_LOST l) 0 (wr (lan p) (LAN.LANE_STATUS_SYNC l) 1
              (wr (krbHeld p) HKRB.RX_OK good s))))
            raise (krb p) KRB.evRESTORED [0, w] (inc (krb p) KRB.RESTORES (closeFault (Tag.lane p l)
              (setLinkWidth p (wr (krb p) KRB.PORT_STATUS_RX_LANES w u))))))) ∧
    (portEn s p = true → kerbDomain s p = true → kerbUp s p = false → tx < 16 → rx < 16 → upLanes s p tx rx = true →
      rd s (krbHeld p) HKRB.UP_FROM + max 1 (rd s (krb p) KRB.UP_HOLD) ≤ s.clock.tick →
      exec (.linkUp p tx rx ids skews) s
        = .next (kept s (
            let lean := kerbX4 s p && decide (mode s = modeLean)
            let w := fun m => if lean then 3 else if kerbX4 s p ∧ lanes m < 4 then lowestTwo m else m
            let u := wr (krbHeld p) HKRB.RX_OK (if lean then rx &&& 3 else rx) (wr (krbHeld p) HKRB.PART_OK tx (wrb (krbHeld p) HKRB.NARROW lean s))
            let u := wr (krb p) KRB.PORT_STATUS_TX_LANES (w tx) (wr (krb p) KRB.PORT_STATUS_RX_LANES (w rx) u)
            let u := forEach ((List.range 4).filter (bit rx)) (fun i u =>
              wr (lan p) (LAN.LANE_STATUS_LANE_ID i) (bitsOf ids (2 * i) 2) (wr (lan p) (LAN.LANE_STATUS_SKEW i) (bitsOf skews (8 * i) 8)
                (wr (lan p) (LAN.LANE_STATUS_SIGNAL i) 1 (wr (lan p) (LAN.LANE_STATUS_SYNC i) 1 (wr (lan p) (LAN.LANE_STATUS_ALIGNED i) 1 (wr (lan p) (LAN.LANE_STATUS_LOST i) 0 u)))))) u
            let u := forEach ((List.range 4).filter (fun i => kerbX4 s p && !bit rx i)) (fun i u =>
              wr (lan p) (LAN.LANE_STATUS_LOST i) 1 (wr (krbHeld p) (HKRB.BAD_TICK i) u.clock.tick u)) u
            raise (krb p) KRB.evLINK_UP [kerbMode s p, w tx]
              (showIdle p (wr (krbHeld p) HKRB.IDLE_FROM (startOf (now s)) (setLinkWidth p u))))))

/-- R307 to R314: reception, the last byte, pause frames and the end of a hold. -/
def Obligations.KerbReceptionAndPause : Prop :=
  ∀ (s : State) (p q cyc op en : Nat) (times : List Nat) (d : List Byte) (f : InFrame) (c : Field), p < 8 →
    (kerbUp s p = true → s.front.any (fun g => decide (g.src = p)) = false →
      exec (.kerbFrameReceived p d cyc) s = .next (kept s (kerbReceive p d cyc s))) ∧
    (s.front.find? (ofPort p) = some f → rxFault s p (f.item.aux.getD 0 0) true = none → f.overflow = false →
      exec (.frameLastByte p true cyc) s
        = .next (kept s (joinIngress f (startOf (now s) + cyc) (inc (krb p) KRB.RX_FRAMES { s with front := dropFirst (ofPort p) s.front })))) ∧
    (s.front.find? (ofPort p) = some f → rxFault s p (f.item.aux.getD 0 0) true = none → f.overflow = true →
      exec (.frameLastByte p true cyc) s
        = .next (kept s (countOverflow p (inc (krb p) KRB.RX_FRAMES { s with front := dropFirst (ofPort p) s.front })))) ∧
    (s.front.find? (ofPort p) = some f → rxFault s p (f.item.aux.getD 0 0) false = some c →
      exec (.frameLastByte p false cyc) s = .next (kept s (inc (krb p) c (squash p (kerbRequester p) s)))) ∧
    (kerbUp s p = true → pauseMode s p = 1 →
      exec (.pauseReceived p 1 en times cyc) s
        = .next (kept s (forEach (List.range 8) (pauseQueue (sending s p).isSome p (startOf (now s) + cyc) (times.getD 0 0)) (inc (krb p) KRB.PAUSE_RX s)))) ∧
    (kerbUp s p = true → pauseMode s p = 2 →
      exec (.pauseReceived p 0x0101 en times cyc) s
        = .next (kept s (forEach ((List.range 8).filter (bit en))
            (fun t => pauseQueue (sendsQueue s p t) p (startOf (now s) + cyc) (times.getD t 0) t) (inc (krb p) KRB.PAUSE_RX s)))) ∧
    (kerbUp s p = true → pauseMode s p = 0 →
      exec (.pauseReceived p op en times cyc) s = .next (kept s (inc (krb p) KRB.CTRL_IGNORED s))) ∧
    (q < 8 → isHeld s p q = true → rd s (krbHeld p) (HKRB.HELD_UNTIL q) ≤ startOf (now s) + 2430 →
      exec (.pauseExpiry p q) s = .next (kept s (releaseQueue p q (rd s (krbHeld p) (HKRB.HELD_UNTIL q) - 1) s)))

/-- R289, R301 to R304, R308: KREF, PRBS, LANE_CTRL, PORT_CTRL and the tables of a Kerb port. -/
def Obligations.KerbControlRegisters : Prop :=
  ∀ (s : State) (p l v errs : Nat), p < 8 → l < 4 →
    (Unlocked s 0xA9 → anyPortEn s = false →
      exec (.krefCtrlWrite v) s
        = .next (kept s (wr 0xA9 KREF.KREF_STATUS_SPREAD_ON (v / 2 % 2 * (v % 2)) (wr 0xA9 KREF.KREF_CTRL_EN (v % 2) (wr 0xA9 KREF.KREF_CTRL_SPREAD (v / 2 % 2) s))))) ∧
    (Unlocked s 0xA9 → anyPortEn s = true → v % 2 = 0 →
      exec (.krefCtrlWrite v) s = .next (kept s (raise 0xA9 KREF.evSPREAD_REFUSED [] (wr 0xA9 KREF.KREF_STATUS_REFUSED 1 s)))) ∧
    (rd s 0xA9 KREF.KREF_STATUS_LOCKED = 1 →
      exec (.krefUnlock false) s
        = .next (kept s (raiseFault 0xA9 KREF.evKREF_UNLOCK (locUnit 0 0x3F) false [] (wr 0xA9 KREF.KREF_STATUS_LOCKED 0 s)))) ∧
    (rd s 0xA9 KREF.KREF_STATUS_LOCKED = 0 →
      exec (.krefUnlock true) s = .next (kept s (wr 0xA9 KREF.KREF_STATUS_LOCKED 1 s))) ∧
    (Unlocked s (lan p) →
      exec (.prbsInjSingle p l) s = .next (kept s (injectBits p l 1 s)) ∧
      exec (.prbsInjBurst p l) s = .next (kept s (injectBits p l (max 1 (rd s (lan p) (LAN.LANE_INJ_BURST_LEN l))) s))) ∧
    (rd s (lan p) (LAN.LANE_CTRL_CHECK_EN l) = 1 → rd s (lan p) (LAN.LANE_STATUS_PRBS_LOCK l) = 0 →
      exec (.prbsLock p l true errs) s = .next (kept s (raise (lan p) LAN.evPRBS_LOCK [l] (wr (lan p) (LAN.LANE_STATUS_PRBS_LOCK l) 1 s)))) ∧
    (rd s (lan p) (LAN.LANE_CTRL_CHECK_EN l) = 1 → rd s (lan p) (LAN.LANE_STATUS_PRBS_LOCK l) = 1 →
      exec (.prbsLock p l false errs) s
        = .next (kept s (raise (lan p) LAN.evPRBS_LOCK [l] (inc (lan p) (LAN.LOCK_LOSS l) (wr (lan p) (LAN.LANE_STATUS_PRBS_LOCK l) 0
            (addc (lan p) (LAN.PRBS_ERR l) errs s))))) ∧
      exec (.prbsLock p l true errs) s = .next (kept s (addc (lan p) (LAN.PRBS_ERR l) errs s))) ∧
    (Unlocked s (lan p) → portEn s p = false →
      exec (.laneCtrlWrite p l v) s
        = .next (kept s (
            let u := wr (lan p) (LAN.LANE_CTRL_LOOPBACK l) (bitsOf v 2 2) (wr (lan p) (LAN.LANE_CTRL_TEST l) (bitsOf v 4 1) s)
            let u := wr (lan p) (LAN.LANE_CTRL_TX_INVERT l) v (wr (lan p) (LAN.LANE_CTRL_RX_INVERT l) (v / 2) u)
            let u := wr (lan p) (LAN.LANE_CTRL_PATTERN l) (v / 2 ^ 5) (wr (lan p) (LAN.LANE_CTRL_CHECK_EN l) (v / 2 ^ 8) u)
            wr (lan p) (LAN.LANE_CTRL_TX_SWING l) (v / 2 ^ 9) (wr (lan p) (LAN.LANE_CTRL_TX_DEEMPH l) (v / 2 ^ 12) u)))) ∧
    (Unlocked s (krb p) → portEn s p = false → rd s 0xA9 KREF.KREF_STATUS_SPREAD_ON = 0 → bit v 0 = true →
      exec (.portCtrlWrite p v) s
        = .next (kept s (
            let u := wr (krb p) KRB.PORT_CTRL_AN_EN (v / 2 ^ 5) (wr (krb p) KRB.PORT_CTRL_MODE (bitsOf v 1 2) s)
            let u := wrStaged (krb p) (krb p) KRB.PORT_CTRL_FALLBACK_EN (v / 2 ^ 3) (wrStaged (krb p) (krb p) KRB.PORT_CTRL_LPI_EN (v / 2 ^ 4) u)
            let u := wrStaged (krb p) (krb p) KRB.PORT_CTRL_PAUSE_MODE (v / 2 ^ 6) u
            showIdle p (wr (krbHeld p) HKRB.UP_FROM s.clock.tick (wr (krb p) KRB.PORT_STATUS_LINK 1 (wr (krb p) KRB.PORT_CTRL_EN 1 u)))))) ∧
    (∀ pg fs, TableFree s (krb p) → krbRecord s p = some (pg, fs) →
      exec (.krbTableRead p) s = .next (kept s (tblResult (krb p) 0 (readRecord (krb p) pg fs s))) ∧
      exec (.krbTableWrite p) s = .next (kept s (tblResult (krb p) 0 (stageRecord (krb p) pg fs s)))) ∧
    (TableFree s (krb p) → krbRecord s p = none →
      exec (.krbTableRead p) s = .next (kept s (tblResult (krb p) 1 s)) ∧ exec (.krbTableWrite p) s = .next (kept s (tblResult (krb p) 1 s)))

/-- R1 to R4, R12, R52, R60, R63, R50: the two boundaries of the clock, TICK_ALIGN, memory channels and reference parts. The tick work
and block work are those of the model (`tickWork`, `blockWork`, `idleWork`). -/
def Obligations.BoundariesAndChannels : Prop :=
  ∀ (s : State) (c extra part : Nat),
    (s.clock.tickOpen = false → s.clock.running = true → s.clock.block = 63 → commitsDone s = true →
      exec .tickBoundary s = keepQueue s (tickWork (nextTick s))) ∧
    (s.clock.tickOpen = false → s.clock.running = false → clockMayStart s = true →
      exec .tickBoundary s = keepQueue s (tickWork (nextTick s))) ∧
    (s.clock.running = true → s.clock.tickOpen = false → s.clock.block < 63 → commitsDone s = true →
      exec .blockBoundary s = keepQueue s (
        let t := { atBoundary s with clock := { (atBoundary s).clock with tickOpen := false } }
        if blocksRun t then blockWork t else idleWork t)) ∧
    (s.clock.running = true → s.clock.tickOpen = true →
      exec .blockBoundary s = keepQueue s (
        let t := { atBoundary (swapPairs s) with clock := { (atBoundary (swapPairs s)).clock with tickOpen := false } }
        if blocksRun t then blockWork t else idleWork t)) ∧
    (s.clock.tickOpen = true → rdb s (held 0x40) HTP.ALIGN = true → extra < tickCycles → mode s = modeCommission →
      exec (.tickAlign extra) s
        = keepQueue s (
            let t := wr (held 0x40) HTP.ALIGN 0 (wr (held 0x40) HTP.ALIGNED 1 s)
            { t with clock := { t.clock with stretch := extra } })) ∧
    (c < 8 → inService s c = true →
      exec (.channelOut c) s
        = .next (kept s (openFault (Tag.channel c) (locSub (0x30 + c)) (closeFault (Tag.channel c) (parkChannel c
            (raiseFault 0 GEN.evCHANNEL_OUT (locSub (0x30 + c)) (!channelHolds (setRebuilding c false (setService c false s)) c
                && readable (setRebuilding c false (setService c false s)) ((c + 4) % 8)) []
              (setRebuilding c false (setService c false s)))))))) ∧
    (c < 8 → inService s c = false →
      exec (.channelBack c) s = .next (kept s (raise 0 GEN.evCHANNEL_BACK [c] (setRebuilding c true (setService c true s))))) ∧
    (c < 8 → inService s c = true → bit (rd s 0 GEN.GEN_STATUS_CHAN_REBUILDING) c = true → inService s ((c + 4) % 8) = true →
      bit (rd s 0 GEN.GEN_STATUS_CHAN_REBUILDING) ((c + 4) % 8) = false →
      exec (.rebuildDone c) s = .next (kept s (raise 0 GEN.evREBUILD_DONE [c] (closeFault (Tag.channel c) (setRebuilding c false s))))) ∧
    (1 ≤ part → part ≤ 2 → exec (.referencePartFault part) s = .next (kept s (raiseFault 0 noBit 0xFFFFFFFF false [part] s)))

/-- R39, R40, R62, R524, R525: the scrubbers; Table 1.7 says what a double-bit error does. -/
def Obligations.Scrubbing : Prop :=
  ∀ (s : State) (w : WordAt) (b off h pass page : Nat) (bad : Bool) (i : PageInfo) (p : Nat × Nat) (r : Nat),
    let done := fun (t : State) => if pass = 1 then inc 0 GEN.SCRUB_SRAM_PASSES t else if pass = 2 then inc 0 GEN.SCRUB_DDR_PASSES t else t
    let u := uncorrected w.page s
    let loc := wordLoc w
    let double := fun (t : State) => exec (.scrubVisit w .double pass) s = .next (kept s (done t))
    (wordThere s w = true →
      (exec (.scrubVisit w .clean pass) s = .next (kept s (done s))) ∧
      (exec (.scrubVisit w (.single b) pass) s = .next (kept s (done (corrected w.page (cellLoc w (b % 39)) s)))) ∧
      (w.kind = .mirrored bad → double (raiseFault w.page noBit loc (copyGood u w bad) [w.addr] u)) ∧
      (w.kind = .treeCache ∨ (w.kind = .flowRecord h bad ∧ copyGood u w bad = true) → double (raiseFault w.page noBit loc true [w.addr] u)) ∧
      (w.kind = .flowRecord h bad → copyGood u w bad = false →
        double (
          let a := if earlierFault u = 0 then { u with blockFault := loc } else u
          let e := raiseFault 0xD0 FLW.evDBE_INVALIDATED loc false [h, w.addr] (inc 0xD0 FLW.DBE_INVALIDATED a)
          dropRecord h (exportFlow 2 h (now e) e))) ∧
      (w.kind = .bufferMeta h ∨ w.kind = .freeList h → noBuffer u h = false → double (containHolder h (parkDbe h loc w.addr u))) ∧
      (w.kind = .bufferMeta h ∨ w.kind = .freeList h → noBuffer u h = true → double u) ∧
      (w.kind = .frameData h →
        noBuffer (raiseFault w.page noBit loc false [w.addr] u) h = false → double (containHolder h (raiseFault w.page noBit loc false [w.addr] u))) ∧
      (w.kind = .mewsMemory p.1 r → double (roleDbe r loc (raiseFault w.page noBit loc false [w.addr] u))) ∧
      (w.kind = .keyStore p.1 p.2 → double (keyDbe p.1 p.2 u)) ∧
      (w.kind = .plain → double (raiseFault w.page noBit loc false [w.addr] u))) ∧
    (wordThere s w = false → ∀ e, exec (.scrubVisit w e pass) s = .next s) ∧
    (pageInfo page = some i → exec (.registerScrub page off (.single b)) s = .next (kept s (corrected page (locCell i.sub 0x3E (i.idx % 32) (b % 39)) s))) ∧
    (pageInfo page = some i →
      exec (.registerScrub page off .double) s = .next (kept s { regDouble page (off % 4096) i s with hostRead := 0xFFFFFFFF })) ∧
    exec (.registerScrub page off .clean) s = .next (kept s s)

/-- R561 to R572: the module's pins and supplies, the optics bus, test access; R39: the loss of the core clock. -/
def Obligations.PinsAndSupplies : Prop :=
  ∀ (s : State) (b : Bool) (addr off : Nat),
    let h := held 0x20
    (pin s HPWR.PORST = false → exec .porstAssert s = keepQueue s (porstLow (porstState s))) ∧
    (pin s HPWR.PORST = true → pin s HPWR.STANDBY = true → pin s HPWR.VIN = true →
      exec (.porstDeassert b) s = keepQueue s (romStart b false (wr h HPWR.PORST 0 (wrb h HPWR.BOOT_PIN b s)))) ∧
    (pin s HPWR.PORST = true → pin s HPWR.STANDBY = true → pin s HPWR.VIN = false →
      exec (.porstDeassert b) s = keepQueue s (showOff (wr h HPWR.POWER_ON 1 (wr h HPWR.PORST 0 (wrb h HPWR.BOOT_PIN b s))))) ∧
    (warmOk s = true → exec (.warmReset b) s = keepQueue s (warmReset b (wr h HPWR.FAILED 0 (wrb h HPWR.BOOT_PIN b s)))) ∧
    (pin s HPWR.PORST = true → exec .standbyPowerUp s = keepQueue s (porstLow (wr h HPWR.STANDBY 1 (coldState s)))) ∧
    (pin s HPWR.VIN = false → pin s HPWR.STANDBY = true → pin s HPWR.PORST = true →
      exec .vinSwitchClose s = keepQueue s (wr h HPWR.VIN 1 s)) ∧
    (pin s HPWR.VIN = false → pin s HPWR.STANDBY = true → pin s HPWR.PORST = false → pin s HPWR.POWER_ON = true →
      exec .vinSwitchClose s
        = keepQueue s (romStart (pin s HPWR.BOOT_PIN) false (wr h HPWR.POWER_ON 0 (wr h HPWR.VIN 1 s)))) ∧
    (pin s HPWR.VIN = true → exec .vinSwitchOpen s = .next (kept s (wr h HPWR.VIN 0 s))) ∧
    (pin s HPWR.STANDBY = true →
      exec .moduleWithdrawn s = keepQueue s (wr h HPWR.STANDBY 0 (wr h HPWR.VIN 0 (porstLow (porstState s))))) ∧
    (pd0On s = true → addr = 0xA0 ∨ addr = 0xA2 ∨ addr = 0xA4 ∨ addr = 0xA6 → off < 256 →
      exec (.optRead addr off) s = .next (kept s { s with optOut := some (addr, off, optByte s addr off) })) ∧
    (warmOk s = true → rdb s (held 0x10) HSEC.GRANTED = false →
      exec .extestLoad s
        = keepQueue s (wr h HPWR.SCAN 1 (setDomains 1 (wr (held 0x10) HSEC.ROM 0 (clearTransition (warmState s)))))) ∧
    (pin s HPWR.SCAN = true →
      exec (.tapReset b) s = keepQueue s (romStart b false (wr h HPWR.SCAN 0 (wrb h HPWR.BOOT_PIN b s)))) ∧
    (powerState s ≤ 1 → pin s HPWR.PORST = false → pin s HPWR.STANDBY = true → pin s HPWR.SCAN = false →
      (let e := { mkEv s 0 GEN.evCLOCK_FAULT (locDie 0) false [] with deferred := true }
       (appendFlog e s).deferred.length < 256 →
       exec .clockFault s
        = keepQueue s (warmReset (pin s HPWR.BOOT_PIN) { appendFlog e s with deferred := (appendFlog e s).deferred ++ [e] })))

/-- R202, R203, R213, R217: the commands of Market Square. -/
def Obligations.MarketSquareCommands : Prop :=
  ∀ (s : State) (r size carve cls cyc : Nat) (w : WonReq),
    let t := startOf (now s) + cyc
    (r < 12 → requestOk r carve cls = true → cyc < 2430 → (serveTo t s).requests.any (fun x => decide (x.requester = r)) = false →
      exec (.bufferRequest r size carve cls cyc) s
        = .next (kept s { serveTo t s with requests := (serveTo t s).requests ++ [⟨r, size, carve, cls, t⟩] })) ∧
    (r < 12 → cyc < 2430 → (serveTo t s).won.find? (fun x => decide (x.req.requester = r ∧ x.cycle + 3 = t)) = some w →
      w.handle ≠ emptyHandle →
      exec (.bufferAnswer r cyc) s
        = .next (kept s (wr (held 0xE0) (HSQR.ANSWER r) w.handle { serveTo t s with won := (serveTo t s).won.erase w }))) ∧
    (rdb s (held 0xE0) HSQR.BUILDING = true → rdb s 0xE0 COM.PAGE_CTRL_ENABLE = true →
      exec .poolsReady s = .next (kept s (wr 0xE0 SQR0.SQR_STATUS_READY 1 (wr (held 0xE0) HSQR.BUILDING 0 s)))) ∧
    (Unlocked s 0xE0 → rdb s 0xE0 COM.PAGE_CTRL_ENABLE = true →
      exec .sqrDisable s = .next (kept s (wr (held 0xE0) HSQR.CLEAR_REQ 1 s)) ∧
      exec .sqrEnable s = .next (kept s (wr (held 0xE0) HSQR.CLEAR_REQ 0 s))) ∧
    (Unlocked s 0xE0 → rdb s 0xE0 COM.PAGE_CTRL_ENABLE = false → poolsConfigOk s = true →
      exec .sqrEnable s = .next (kept s (buildPools (wr 0xE0 COM.PAGE_CTRL_ENABLE 1 s)))) ∧
    (TableFree s 0xE2 → poolsOn s = true → badHandle s (rd s 0xE2 SQR2.TBL_ADDR) = false →
      exec .sqrTableRead s
        = .next (kept s (tblResult 0xE2 0 (wr 0xE2 (TBL.DATA 0) (metaWord (getBuf s (rd s 0xE2 SQR2.TBL_ADDR))) s)))) ∧
    (TableFree s 0xE2 → poolsOn s = true → handlePool (rd s 0xE2 SQR2.TBL_ADDR) ≤ 3 → rd s 0xE2 SQR2.TBL_ADDR % 4 ≠ 3 →
      exec .sqrTableAlloc s
        = .next (kept s (
            let a := rd s 0xE2 SQR2.TBL_ADDR
            let g := askNow 8 (poolSize (handlePool a) - headroom s) (a % 4) clHostSw s
            tblResult 0xE2 (if g.1 = emptyHandle then 2 else 0) (wr 0xE2 SQR2.TBL_DATA1 g.1 g.2)))) ∧
    (TableFree s 0xE2 →
      exec .sqrTableInc s
        = .next (kept s (arcSettle (presentRef ⟨8, clHostSw, opInc, rd s 0xE2 SQR2.TBL_ADDR, true⟩ (wr 0xE2 TBL.BUSY 1 s)))) ∧
      exec .sqrTableDec s
        = .next (kept s (arcSettle (presentRef ⟨8, clHostSw, opDec, rd s 0xE2 SQR2.TBL_ADDR, true⟩ (wr 0xE2 TBL.BUSY 1 s)))) ∧
      exec .sqrInvalidCmd s = .next (kept s (tblResult 0xE2 5 s))) ∧
    (Unlocked s 0xE2 → exec .logClear s = .next (kept s (wr 0xE2 SQR2.LOG_CLEAR 1 (wr (held 0xE0) HSQR.LOG_CLEAR_REQ 1 s))))

/-- R187, R188: the commands of the flow table. -/
def Obligations.FlowTableCommands : Prop :=
  ∀ s : State,
    let posted := fun op => kept s { wr 0xD0 TBL.BUSY 1 s with flowCmd := some ⟨op, rd s 0xD0 FLW.TBL_ADDR_INDEX, rdb s 0xD0 FLW.TBL_ADDR_ALL, flowBuf s⟩ }
    (TableFree s 0xD0 →
      exec .flowRead s = .next (posted 1) ∧ exec .flowWrite s = .next (posted 2) ∧ exec .flowInsert s = .next (posted 3) ∧
      exec .flowUpdate s = .next (posted 4) ∧ exec .flowDelete s = .next (posted 5) ∧ exec .flowLookupCmd s = .next (posted 6) ∧
      exec .flowFlush s = .next (posted 7)) ∧
    (rdb s (held 0xD0) HFLW.FLUSHING = true → s.flushList = [] →
      exec .flowFlushDone s
        = .next (kept s (tblResult 0xD0 0 (wr (held 0xD0) HFLW.FLUSHING 0 s)))) ∧
    (Unlocked s 0xD0 → rdb s 0xD0 FLW.FLW_CTRL_EN = false → flowBase s = rd s (held 0xD0) HFLW.BASE →
      rd s 0xD0 FLW.HASH_SEED = rd s (held 0xD0) HFLW.SEED → exec .flowEnable s = .next (kept s (wr 0xD0 FLW.FLW_CTRL_EN 1 s))) ∧
    (rdb s (held 0xD0) HFLW.FREEING = true → exec .flowTableReady s = .next (kept s (flowReady s)))

/-- R227 to R231, R242, R256: gate lists and nodes; R247, R249, R257: the Bollard. -/
def Obligations.GatesNodesAndPolicers : Prop :=
  ∀ (s : State) (p cyc i u : Nat) (pg : Nat) (fs : List Field), p < 8 →
    (Unlocked s 0x102 → gateReason s p = 0 →
      exec (.gateConfigChange p) s = .next (kept s (wr 0x102 (SCH2.CONFIG_CHANGE p) 1 (wr 0x102 (SCH2.GATE_STATUS_RESULT p) 0 s)))) ∧
    (Unlocked s 0x102 → gateReason s p ≠ 0 →
      exec (.gateConfigChange p) s
        = .next (kept s (raise 0x102 SCH2.evGATE_REFUSED [p, gateReason s p] (wr 0x102 (SCH2.GATE_STATUS_RESULT p) (gateReason s p) s)))) ∧
    (rd s (held 0x100) (HSCH.START_NS p) ≠ 0 → reached s cyc (rd s (held 0x100) (HSCH.START_NS p) - 1) = true →
      exec (.gateListStart p cyc) s = .next (kept s (gateListStart p s))) ∧
    (rdb s (held 0x100) (HSCH.OPER p) = true → reached s cyc (entryOver s p) = true →
      exec (.gateEntryChange p cyc) s = .next (kept s (gateNext p s))) ∧
    (TableFree s 0x102 →
      exec .gateReadAdmin s = .next (kept s (tblResult 0x102 0 (readRecord 0x102 (gateAdminPage s) GENT.fields s))) ∧
      exec .gateReadOper s = .next (kept s (tblResult 0x102 0 (readRecord 0x102 (gateOperPage s) GENT.fields s)))) ∧
    (TableFree s 0x102 → gatePending s (rd s 0x102 SCH2.TBL_ADDR_PORT) = false →
      exec .gateWriteAdmin s
        = .next (kept s (tblResult 0x102 0 (wr (gateAdminPage s) GENT.GATES (dataField s 0x102 GENT.GATES)
            (wr (gateAdminPage s) GENT.INTERVAL (dataField s 0x102 GENT.INTERVAL) s))))) ∧
    (TableFree s 0x102 → gatePending s (rd s 0x102 SCH2.TBL_ADDR_PORT) = true →
      exec .gateWriteAdmin s = .next (kept s (tblResult 0x102 1 s))) ∧
    (TableFree s 0x101 → nodeRecord s = some (pg, fs) →
      exec .nodeRead s = .next (kept s (tblResult 0x101 0 (readRecord 0x101 pg fs s))) ∧
      exec .nodeWrite s = .next (kept s (tblResult 0x101 0 (stageRecord 0x101 pg fs s)))) ∧
    (TableFree s 0x101 → rd s 0x101 SCH1.TBL_ADDR_LEVEL = 0 →
      exec .nodeReadClearRefused s
        = .next (kept s (wr (Tab.leaf (rd s 0x101 SCH1.TBL_ADDR_INDEX)) LEAF.REFUSED 0 (nodeRead s)))) ∧
    (TableFree s 0x140 → bolIndexOk s = true → exec .bolRead s = .next (kept s (tblResult 0x140 0 (readRecord 0x140 (bolRecord s).1 (bolRecord s).2 s)))) ∧
    (TableFree s 0x140 → bolIndexOk s = true → zeroBurst s = false →
      exec .bolWrite s = .next (kept s (tblResult 0x140 0 (stageRecord 0x140 (bolRecord s).1 (bolRecord s).2 s)))) ∧
    (TableFree s 0x140 → bolIndexOk s = true → zeroBurst s = true → exec .bolWrite s = .next (kept s (tblResult 0x140 2 s))) ∧
    (TableFree s 0x140 → bolIndexOk s = true → rdb s 0x140 BOL.TBL_ADDR_TABLE = true →
      exec .bolReadClear s
        = .next (kept s (wr (bolRecord s).1 BPF.GREEN 0 (wr (bolRecord s).1 BPF.YELLOW 0 (wr (bolRecord s).1 BPF.RED 0 (bolRead s)))))) ∧
    (i < 131072 → exec (.policerSweep i) s = .next (kept s (sweepPolicer i s))) ∧
    (exec .bolDupMismatch s = .next (kept s (raiseFault 0x140 BOL.evDUP_MISMATCH (locUnit 0x16 0x00) true [] s))) ∧
    (u ≤ 0x0C → exec (.schDupMismatch u) s = .next (kept s (raiseFault 0x100 SCH0.evDUP_MISMATCH (locUnit 0x15 u) true [] s)))

/-- R326 to R336, R341: the servo, steps and the time of day. -/
def Obligations.ServoAndSteps : Prop :=
  ∀ (s : State) (cyc i : Nat) (rest : List Nat) (byHost : Bool),
    (servoTicks s ≤ rd s (held 0x30) HTIM.COUNT → rdb s 0x30 TIM0.CLK_CTRL_SOURCE = false →
      exec (.timeMeasurement cyc) s
        = .next (kept s (measured (rdS s (held 0x30) HTIM.SUM / (max 1 (rd s (held 0x30) HTIM.COUNT) : Nat)) cyc (dropMeasurement s)))) ∧
    (s.clock.tickOpen = true → [0, 1, 2].filter (stepDue s) = i :: rest →
      exec .stepApply s
        = .next (kept s (
            let t := forEach (i :: rest) (fun j t => wr (held 0x30) (HTIM.STEP_AT j) 0 t) (forEach (List.range 4) lampStep (applyStep i s))
            if rest = [] then t else stepResult 5 t))) ∧
    (Unlocked s 0x30 → hwServo s = false →
      exec (.stepSet cyc) s
        = .next (kept s (requestStep 2
            ((rd s 0x30 TIM0.SET_NS + rd64 s 0x30 TIM0.SET_SEC_LO TIM0.SET_SEC_HI * 1000000000 : Nat) - curNs s cyc : Int) cyc s)) ∧
      exec (.stepAdjust cyc) s = .next (kept s (requestStep 2 (toSigned 64 (rd64 s 0x30 TIM0.ADJ_NS_LO TIM0.ADJ_NS_HI)) cyc s))) ∧
    (Unlocked s 0x30 → hwServo s = true →
      exec (.stepSet cyc) s = .next (kept s (stepResult 2 s)) ∧ exec (.stepAdjust cyc) s = .next (kept s (stepResult 2 s))) ∧
    (Unlocked s 0x30 → rdb s 0x30 TIM0.CLK_STATUS_STEP_PENDING = true →
      exec (.stepAccept cyc) s = .next (kept s (stepResult 1 (acceptPending cyc s))) ∧
      exec .stepDiscard s
        = .next (kept s (stepResult 0 (wr64 0x30 TIM0.PENDING_STEP_LO TIM0.PENDING_STEP_HI 0 (wr 0x30 TIM0.CLK_STATUS_STEP_PENDING 0 s))))) ∧
    (Unlocked s 0x30 → rdb s 0x30 TIM0.CLK_STATUS_STEP_PENDING = false →
      exec (.stepAccept cyc) s = .next (kept s (stepResult 3 s)) ∧ exec .stepDiscard s = .next (kept s (stepResult 3 s))) ∧
    (Unlocked s 0x30 → hwServo s = false → clkState s = clkUncertain →
      exec .clearUncertain s
        = .next (kept s (if lastTheta s ≤ rd s 0x30 TIM0.LOCK_NS then enterClk clkLocked (rd s 0x30 TIM0.LOCK_NS) s
            else enterClk clkLocking (lastTheta s) s))) ∧
    (rdb s 0x30 TIM0.CLK_CTRL_AUTO_ACCEPT = true → rdb s 0x30 TIM0.CLK_STATUS_STEP_PENDING = true → rd s (held 0x30) (HTIM.STEP_AT 0) = 0 →
      rd s (held 0x30) HTIM.FIRST_TICK + rd s 0x30 TIM0.ACCEPT_HOLD ≤ s.clock.tick →
      exec .autoAccept s = .next (kept s (acceptPending 0 s))) ∧
    (Unlocked s 0x30 →
      (let p := rd s 0x30 TIM0.TOD_CMD_PORT
       let n := rd64 s 0x30 TIM0.TOD_SFC_LO TIM0.TOD_SFC_HI
       ((n : Int) - rd64 s (0x40 + 0x20 * p) FB0.SFC_LO FB0.SFC_HI).natAbs ≤ 2 ^ 30 → rd s (0x40 + 0x20 * p) FB0.DS_STATUS_SYNC_STATE = 2 →
        exec (.todLoad byHost) s
          = .next (kept s (
              let t := raise 0x30 TIM0.evTOD_LOADED [p, 1] (wr 0x30 TIM0.TOD_CMD_LOAD 0 (wr 0x30 TIM0.TOD_CMD_TOD_RESULT 1 s))
              let ns := rd t 0x30 TIM0.TOD_NS + rd64 t 0x30 TIM0.TOD_SEC_LO TIM0.TOD_SEC_HI * 1000000000
              wr (held 0x30) (HTIM.NEXT_SET p) 1 (wr (held 0x30) (HTIM.NEXT_T p) ns (wr (held 0x30) (HTIM.NEXT_N p) n t))))))

/-- R332, R346, R349 to R351: captures, PPS_IN, the FIFOs and Lamplighter. -/
def Obligations.CapturesAndOutputs : Prop :=
  ∀ (s : State) (n len cyc ticks : Nat) (byHost : Bool),
    (n < 2 → s.clock.running = true → rdb s 0x31 (TIM1.CAP_CTRL_EN n) = true → rdb s 0x31 (TIM1.CAP_STATUS_STUCK n) = false → 4 ≤ len → edgeTooSoon s n cyc = false →
      exec (.captureEdge n (rdb s 0x31 (TIM1.CAP_CTRL_EDGE n)) len cyc) s = .next (kept s (acceptEdge n cyc s))) ∧
    (n < 2 → s.clock.running = true → rdb s 0x31 (TIM1.CAP_CTRL_EN n) = true → rdb s 0x31 (TIM1.CAP_STATUS_STUCK n) = false → 4 ≤ len → edgeTooSoon s n cyc = true →
      exec (.captureEdge n (rdb s 0x31 (TIM1.CAP_CTRL_EDGE n)) len cyc) s = .next (kept s (raiseFirst 0x31 TIM1.evPPS_REJECT [n] (inc 0x31 (TIM1.REJECTED n) s)))) ∧
    (n < 2 → rdb s 0x31 (TIM1.CAP_STATUS_STUCK n) = false → rd s 0x31 (TIM1.STUCK_TICKS n) ≤ ticks →
      exec (.inputStuck n false ticks) s = .next (kept s (raise 0x31 TIM1.evINPUT_STUCK [n, 1] (wr 0x31 (TIM1.CAP_STATUS_STUCK n) 1 s)))) ∧
    (n < 2 → rdb s 0x31 (TIM1.CAP_STATUS_STUCK n) = true → 8 ≤ ticks →
      exec (.inputStuck n true ticks) s = .next (kept s (raise 0x31 TIM1.evINPUT_STUCK [n, 0] (wr 0x31 (TIM1.CAP_STATUS_STUCK n) 0 s)))) ∧
    (rdb s 0x31 (TIM1.CAP_STATUS_LOST 0) = false → rd s (held 0x30) (HTIM.LAST_EDGE 0) + 16000 * tickCycles ≤ startOf (now s) + 1 →
      exec .ppsLost s = .next (kept s (followSource (raise 0x31 TIM1.evPPS_LOST [1] (wr 0x31 (TIM1.CAP_STATUS_LOST 0) 1 s))))) ∧
    (Unlocked s 0x30 → exec .ppsArm s = .next (kept s (wr 0x30 TIM0.PPS_NEXT_SEC_HI_ARM 1 s))) ∧
    (n < 8 → Unlocked s 0x32 →
      exec (.txtsPop n byHost) s = .next (kept s (txtsShow n { s with txts := dropFirst (fun x => x.port = n) s.txts }))) ∧
    (n < 2 → Unlocked s 0x31 →
      exec (.capPop n) s = .next (kept s (capShow n { s with caps := dropFirst (fun x => x.port = n) s.caps }))) ∧
    (n < 4 → Unlocked s 0x31 →
      exec (.lampArm n) s = .next (kept s (wr (held 0x30) (HTIM.L_ARM n) 1 (wr 0x31 (TIM1.LAMP_CTRL_ARM n) 1 s)))) ∧
    (n < 4 → s.clock.running = true → rd s (held 0x30) (HTIM.L_RUN n) ≠ 0 → reached s cyc (rd s (held 0x30) (HTIM.L_NEXT n)) = true →
      exec (.lampPulse n cyc) s = .next (kept s (lampPulse n cyc s)))

/-- R356 to R371: the commands of Tramlines. -/
def Obligations.TramlinesCommands : Prop :=
  ∀ (s : State) (h n cyc : Nat) (d : List Byte) (ok : Bool),
    (hwyOn s h = true → frameMayStart s h cyc = true → exec (.hwyTxFrame h cyc) s = .next (kept s (hwyTx h s))) ∧
    (hwyOn s h = true → frameMayStart s h cyc = true → (hwyTiming s h = 2 → ok = true) →
      exec (.hwyRxFrame h d ok cyc) s
        = .next (kept s (
            let t := wr 0x1A0 (TRM0.HWY_STATUS_CLK_OK h) 1 s
            forEach (tribsOf t h) (fun n t => tribReceive n (slotOfBytes d (n % 16)) t) t))) ∧
    (hwyOn s h = true → frameMayStart s h cyc = true → hwyTiming s h = 2 →
      exec (.hwyRxFrame h d false cyc) s
        = .next (kept s (inc 0x1A0 (TRM0.FS_ERR h) (wr 0x1A0 (TRM0.HWY_STATUS_CLK_OK h) 1 s)))) ∧
    (hwyOn s h = true → rdb s 0x1A0 (TRM0.HWY_STATUS_CLK_OK h) = true →
      exec (.hwyClockLost h) s
        = .next (kept s (
            let t := raise 0x1A0 TRM0.evCLOCK_LOST [h] (wr 0x1A0 (TRM0.HWY_STATUS_CLK_OK h) 0 s)
            forEach (tribsOf t h) (setDefect · TRIB.LOS 0 true) t))) ∧
    (h < 4 →
      exec (.framerFault h true) s = .next (kept s { s with framerBad := s.framerBad.filter (fun k => decide (k ≠ h)) }) ∧
      exec (.framerFault h false) s
        = .next (kept s (
            let t := raiseFault 0x1A0 TRM0.evFRAMER_FAULT (locUnit 0x1C h) false [] { s with framerBad := s.framerBad ++ [h] }
            forEach (tribsOf t h) (setDefect · TRIB.LOS 0 true) t))) ∧
    (n < 64 → tribOn s n = true → framing s n = 2 → tr s n TRIB.ALIGN_STATE = 3 → rdb s (Tab.trib n) TRIB.CRC4_INTERWORK = false → (trib s n).mf = false →
      3200 ≤ (trib s n).mfRestart → exec (.crc4Interwork n) s
        = .next (kept s (raise 0x1A0 TRM0.evCRC4_INTERWORK [n] (wr (Tab.trib n) TRIB.CRC4_INTERWORK 1 s)))) ∧
    (n < 64 → tribOn s n = true → tr s n TRIB.CE_MODE ≠ 0 → tr s n TRIB.FRAMES ≠ 0 → tr s n TRIB.FRAMES ≤ (trib s n).gather.length →
      admissionOpen s 0 = true → exec (.tribPacketise n) s = .next (kept s (packetise n s))) ∧
    (s.clock.tick % 8000 = 0 →
      exec .perfSecond s
        = .next (kept s (
            let t := forEach (perfTribs s) (perfSecond (tramPowered s)) s
            if t.clock.tick % 7200000 = 72000 then copyBins t else t))) ∧
    (s.clock.tick % 7200000 = 0 →
      exec .binClosed s
        = .next (kept s (
            let bad := (perfTribs s).foldl (fun v n => setBit v n (rdb s (Tab.pbin n 0) PBIN.SUSPECT)) 0
            raise 0x1A2 TRM2.evBIN_CLOSED [bad % 2 ^ 32, bad / 2 ^ 32]
              (forEach (perfTribs s) (fun n t => closeBin n 0 (if t.clock.tick % 691200000 = 0 then closeBin n 2 t else t)) s)))) ∧
    (TableFree s 0x1A1 →
      exec .tribRead s = .next (kept s (tblResult 0x1A1 0 (readRecord 0x1A1 (Tab.trib (rd s 0x1A1 TRM1.TBL_ADDR)) TRIB.fields s))) ∧
      exec .tribReadClear s
        = .next (kept s (tblResult 0x1A1 0 (forEach tribCounters (fun f t => wr (Tab.trib (rd s 0x1A1 TRM1.TBL_ADDR)) f 0 t)
            (readRecord 0x1A1 (Tab.trib (rd s 0x1A1 TRM1.TBL_ADDR)) TRIB.fields s))))) ∧
    (TableFree s 0x1A1 → tribCheck s (dataField s 0x1A1) = 0 →
      exec .tribWrite s
        = .next (kept s (tblResult 0x1A1 0 (stageRecord 0x1A1 (Tab.trib (rd s 0x1A1 TRM1.TBL_ADDR))
            (TRIB.fields.filter (fun f => f ≠ TRIB.FREQ_PPB ∨ dataField s 0x1A1 TRIB.CR_MODE = 3)) s)))) ∧
    (TableFree s 0x1A1 → tribCheck s (dataField s 0x1A1) ≠ 0 →
      exec .tribWrite s
        = .next (kept s (raise 0x1A1 TRM1.evRECORD_REFUSED [rd s 0x1A1 TRM1.TBL_ADDR, tribCheck s (dataField s 0x1A1)]
            (tblResult 0x1A1 (tribCheck s (dataField s 0x1A1)) s)))) ∧
    (TableFree s 0x1A2 →
      exec .perfBinRead s
        = .next (kept s (tblResult 0x1A2 0 (readRecord 0x1A2 (Tab.pbin (rd s 0x1A2 TRM2.TBL_ADDR_TRIB) (rd s 0x1A2 TRM2.TBL_ADDR_BIN)) PBIN.fields s))))

/-- R376, R381, R391 to R403: the cores of the Mews. -/
def Obligations.MewsCoreCommands : Prop :=
  ∀ (s : State) (c at_ n d size : Nat) (r : Nat) (rest : List Nat), c < 8 →
    (rdb s 0x1C0 MEW0.MEW_CTRL_EN = true → coreWorks s c = true → (coreOf s c).role = 0 → s.clock.tickOpen = false →
      rd s (held 0x1C0) (HMEW.DISP c) = s.clock.tick + 1 → (coreOf s c).todo.filter (roleRuns s c) = r :: rest →
      exec (.mewsDispatch c) s = .next (kept s (setCoreState c coreRunning (putCore c (startTask s r rest) s)))) ∧
    (canIssue s c = true → bundleStalls (taskCtx s c (taskRole (coreOf s c))) (coreOf s c) (taskBundle s c (coreOf s c)) = true →
      exec (.bundleIssue c) s = .next (kept s (putCore c { coreOf s c with cycles := (coreOf s c).cycles + 1 } s))) ∧
    (canIssue s c = true →
      (let m := coreOf s c
       let x := taskCtx s c (taskRole m)
       let b := taskBundle s c m
       (bundleStalls x m b = false → bundleTrap x (land m) b = 0 →
        exec (.bundleIssue c) s = .next (kept s (lateStop c (runBundle c (land m) x b s)))) ∧
       (bundleStalls x m b = false → bundleTrap x (land m) b ≠ 0 →
        exec (.bundleIssue c) s = .next (kept s (taskTrap c (bundleTrap x (land m) b) s)) ∧
        exec (.taskTrap c) s = .next (kept s (taskTrap c (bundleTrap x (land m) b) s))))) ∧
    ((coreOf s c).role ≠ 0 →
      exec (.xferComplete c) s = .next (kept s (moveXfer c s)) ∧
      ((coreOf s c).ckptRun = some (at_, n) →
        exec (.ckptComplete c) s
          = .next (kept s (putCore c { coreOf s c with ckptRun := none, ckptDone := some (at_ - roleF s (taskRole (coreOf s c)) ROLE.DATA_BASE, dmemRead s c at_ n) } s))) ∧
      ((coreOf s c).stalled = some (d, size) → (askNow 9 size carveControl clMews s).1 = emptyHandle →
        exec (.ballocRetry c) s
          = .next (kept s (putCore c { coreOf s c with cycles := (coreOf s c).cycles + blockCycles } (askNow 9 size carveControl clMews s).2))) ∧
      ((coreOf s c).stalled = some (d, size) → (askNow 9 size carveControl clMews s).1 ≠ emptyHandle →
        exec (.ballocRetry c) s
          = .next (kept s (
              let g := askNow 9 size carveControl clMews s
              let m := { coreOf s c with cycles := (coreOf s c).cycles + blockCycles }
              setHandles (taskRole m) (roleHandlesOf g.2 (taskRole m) ++ [g.1])
                (putCore c { m with stalled := none, pend := m.pend ++ [⟨1, d, g.1⟩] } g.2))))) ∧
    ((coreOf s c).role ≠ 0 → (coreOf s c).waiting = true → (coreOf s c).ckptRun = none → (coreOf s c).xfers = [] →
      (coreOf s c).outs.all (fun p => portOk s p.1 p.2) = true →
      exec (.taskWait c) s
        = .next (kept s (
            let m := coreOf s c
            let t := releaseOuts (taskRole m) m.outs s
            let t := match m.ckptDone with
              | some k => { t with ckpts := Map.put none t.ckpts (taskRole m) (some k) }
              | none => t
            mewsMaskEnd (wr (Tab.role (taskRole m)) HROLE.MASKING 0 (endTask c (countFlags (taskRole m) m.flags t)))))) ∧
    ((coreOf s c).role ≠ 0 → (coreOf s c).rep = 0 → (coreOf s c).waiting = false →
      roleF s (taskRole (coreOf s c)) ROLE.BUDGET ≤ (coreOf s c).cycles → rosanegRole (taskRole (coreOf s c)) = false →
      exec (.taskOverrun c) s = .next (kept s (stopRole (taskRole (coreOf s c)) 0x100 (endTask c s))))

/-- R390 to R409: the router, core tests, the role table. -/
def Obligations.MewsRouterAndRoles : Prop :=
  ∀ (s : State) (c u a w r v : Nat) (host : Bool),
    (∀ q cyc, cyc < 2430 → (routerGone s (startOf (now s) + cyc)).2 < 2 → routerNext s cyc (routerGone s (startOf (now s) + cyc)).1 = some q →
      exec (.messageDelivery cyc) s = .next (kept s (routeFrom q cyc (startOf (now s) + cyc) s))) ∧
    (c < 8 → u < 6 → coreWorks s c = true → exec (.mewsCoreFault c u a w) s = .next (kept s (coreFault c u (a % 2) w s))) ∧
    (u < 2 → exec (.routerFault u) s = .next (kept s (raiseFault 0x1C0 MEW0.evROUTER_FAULT (locUnit 0x28 u) false [] s))) ∧
    (c < 8 → coreState s c = coreTesting → rd s (held 0x1C0) (HMEW.TEST c) ≠ 0 → rd s (held 0x1C0) (HMEW.TEST c) + 799 ≤ s.clock.tick →
      exec (.coreTestDone c true) s
        = .next (kept s (
            let t := inc 0x1C0 (MEW0.TESTS c) (wr (held 0x1C0) (HMEW.TEST c) 0 s)
            let t := wr 0x1C0 MEW0.MEW_STATUS_CORES_AVAILABLE (setBit (rd t 0x1C0 MEW0.MEW_STATUS_CORES_AVAILABLE) c true) t
            let t := wr 0x1C0 MEW0.MEW_STATUS_CORES_FAULTED (setBit (rd t 0x1C0 MEW0.MEW_STATUS_CORES_FAULTED) c false) t
            raise 0x1C0 MEW0.evCORE_TESTED [c, 1] (setCoreState c coreIdle t)))) ∧
    (c < 8 → Unlocked s 0x1C0 → rd s 0x1C0 (MEW0.CORE_ROLES c) = 0 → rd s 0x1C0 (MEW0.CORE_STANDBY_FOR c) = 0 →
      exec (.coreCmdTest c) s
        = .next (kept s (wr 0x1C0 (MEW0.CORE_CMD_RESULT c) 1 (setCoreState c coreTesting (wr (held 0x1C0) (HMEW.TEST c) (s.clock.tick + 1) s)))) ∧
      exec (.coreCmdOff c) s
        = .next (kept s (wr 0x1C0 (MEW0.CORE_CMD_RESULT c) 1
            (wr 0x1C0 MEW0.MEW_STATUS_CORES_AVAILABLE (setBit (rd s 0x1C0 MEW0.MEW_STATUS_CORES_AVAILABLE) c false)
              (setCoreState c coreOff (wr (held 0x1C0) (HMEW.TEST c) 0 s)))))) ∧
    (c < 8 → Unlocked s 0x1C0 → rd s 0x1C0 (MEW0.CORE_ROLES c) ≠ 0 →
      exec (.coreCmdTest c) s = .next (kept s (wr 0x1C0 (MEW0.CORE_CMD_RESULT c) 2 s)) ∧
      exec (.coreCmdOff c) s = .next (kept s (wr 0x1C0 (MEW0.CORE_CMD_RESULT c) 2 s))) ∧
    (s.clock.tickOpen = true → r ∈ s.roleDue → r < 256 → roleState s r = roleRestarting →
      exec (.roleRestart r) s = .next (kept s (restartRole r s))) ∧
    (s.clock.tickOpen = true → r < 256 → r + 256 ∈ s.roleDue → exec (.roleChanged r) s = .next (kept s (changeRole r s))) ∧
    (TableFree s 0x1C1 →
      exec .roleRead s = .next (kept s (tblResult 0x1C1 0 (readRecord 0x1C1 (Tab.role (tblRole s)) ROLE.fields s))) ∧
      exec .roleReadClear s
        = .next (kept s (forEach [ROLE.GUARD_OVF, ROLE.SATURATIONS, ROLE.TRAPS, ROLE.RESTARTS] (fun f t => setRole (tblRole s) f 0 t)
            (tblResult 0x1C1 0 (readRecord 0x1C1 (Tab.role (tblRole s)) ROLE.fields s)))) ∧
      exec (.roleWrite host) s
        = .next (kept s (roleResult (tblRole s) (roleCheck s (tblRole s) host)
            (if roleCheck s (tblRole s) host = 0 then stageRecord 0x1C1 (Tab.role (tblRole s)) ROLE.fields s else s)))) ∧
    (TableFree s 0x1C1 → tblRole s = 0 ∨ tblRole s = 0xFF ∨ (host = true ∧ tblRole s < 0x20) →
      exec (.roleStart host) s = .next (kept s (roleResult (tblRole s) 1 s)) ∧
      exec (.roleStop host) s = .next (kept s (roleResult (tblRole s) 1 s))) ∧
    (TableFree s 0x1C1 → 0x20 ≤ tblRole s → tblRole s < 0xFF → roleState s (tblRole s) = roleStopped → (roleImage s (tblRole s)).isNone = false →
      coreWorks s (roleCore s (tblRole s)) = true →
      exec (.roleStart host) s = .next (kept s (roleResult (tblRole s) 0 (dueRole (tblRole s) (wr (Tab.role (tblRole s)) HROLE.BY_START 1 s))))) ∧
    (TableFree s 0x1C1 → 0x20 ≤ tblRole s → tblRole s < 0xFF → roleState s (tblRole s) = roleRunning →
      (coreOf s (roleCore s (tblRole s))).role ≠ tblRole s + 1 →
      exec (.roleStop host) s = .next (kept s (roleResult (tblRole s) 0 (parkRole (tblRole s) roleStopped s)))) ∧
    (Unlocked s 0x1C0 →
      exec (.mewCtrlWrite v) s
        = .next (kept s (wrStaged 0x1C0 0x1C0 MEW0.MEW_CTRL_CUSTOMER_EN (bitsOf v 1 1) (wr 0x1C0 MEW0.MEW_CTRL_EN (v % 2) s))))

/-- R205, R206, R212: references and staging; R412 to R437: the store. -/
def Obligations.StoreCommands : Prop :=
  ∀ (s t : State) (r cls h op g p k c cyc : Nat) (q : QEnt) (u : Bool) (x : StageSlot) (w : ArcWrite) (ws : List ArcWrite) (wear : List Nat) (e : Gap),
    (r < 12 → cyc < 2430 → refTurn s r (startOf (now s) + cyc) = true →
      (let ends := fun (op : Nat) => kept s (arcSettle (presentRef ⟨r, cls, op, h, false⟩ (noteTurn r (startOf (now s) + cyc) s)))
       exec (.refInc r cls h cyc) s = .next (ends opInc) ∧ exec (.refHandover r cls h cyc) s = .next (ends opHandover) ∧
       exec (.refDec r cls h cyc) s = .next (ends opDec))) ∧
    (1 ≤ op → op < 4 → exec (.p4Stage r cls op g) s = .next (kept s (arcSettle (presentRef ⟨r, cls, op, p4Handle g, false⟩ s)))) ∧
    (slotOf s g = some x → x.ready = false →
      exec (.p4StageReady g none) s = .next (kept s (answerWaits g (putSlot { x with ready := true } (inc 0x1E0 ARC0.SEGMENTS_READ s)))) ∧
      exec (.p4StageReady g (some p)) s = .next (kept s (segUncorr g (p % 8) (inc 0x1E0 ARC0.SEGMENTS_READ s)))) ∧
    (storeOn s = true → s.arcWrites.length < 64 → rdb s 0x1E0 ARC0.ARC_STATUS_FLUSHING = false → chooseAt 11 c s = some (q, u, t) →
      poisoned (depart q (if u then countOverride q t else t)) q = false →
      exec (.segmentTake c) s
        = .next (kept s (
            let t := depart q (if u then countOverride q t else t)
            takeSegment q (deliver q (startOf (now s) + c) t)))) ∧
    (s.arcWrites = w :: ws →
      exec (.segmentWriteDone wear) s
        = .next (kept s (forEach ((List.range 8).filter (fun p => p < wear.length)) (fun p t => setWear p (wear.getD p 0 % 256) t)
            (writeDone w { s with arcWrites := ws })))) ∧
    (let v := viewState s (objectSlice s (now s) (dirId s k)) (now s)
     s.clock.running = true → s.clock.block = 0 → openIncomplete v k = true → dirState v k ≠ dirFree →
     rd s (Tab.dir k) HDIR.CHUNK_TICK + max 1 (rd s 0x1E0 ARC0.FILL_TIMEOUT) ≤ s.clock.tick →
      exec (.fillTimeout k) s = .next (kept s (report k (rd v (Tab.dir k) DIRE.OPEN_SEG) 0 true 1 s))) ∧
    (storeOn s = true → s.dirDirty ≠ [] → exec .dirFlush s = .next (kept s (dirFlush s))) ∧
    (p < 8 → bit (rd s 0x1E0 ARC0.ARC_STATUS_PACKAGES_OK) p = true →
      exec (.packageLost p) s
        = .next (kept s (raiseFault 0x1E0 ARC0.evPACKAGE_LOST (locDie 8) false [p] (wr 0x1E0 ARC0.ARC_STATUS_READY 0
            (wr 0x1E0 ARC0.ARC_STATUS_PACKAGES_OK (setBit (rd s 0x1E0 ARC0.ARC_STATUS_PACKAGES_OK) p false) s))))) ∧
    (s.gaps[k]? = some e → e.tick + rd s 0x1E0 ARC0.REPAIR_TICKS ≤ s.clock.tick → e.passed = false → gapOpen s e = true →
      exec (.gapRepairTimeout k) s
        = .next (kept s (gapToRing e.object e.first e.count e.reason { s with gaps := s.gaps.set k { e with passed := true } })))

/-- R413 to R443: the commands of the directory page; R429, R431, R444: those of the ring page. -/
def Obligations.DirectoryAndRingCommands : Prop :=
  ∀ (s : State) (l : List Byte),
    let posted := fun op bytes => kept s { wr 0x1E1 TBL.BUSY 1 s with
      dirCmd := some ⟨op, rd s 0x1E1 ARC1.TBL_ADDR, dataNat s 0x1E1, rd s 0x1E1 ARC1.OP_SEG, rd s 0x1E1 ARC1.OP_CRC, bytes, false⟩ }
    (TableFree s 0x1E1 →
      exec .dirRead s = .next (kept s (tblResult 0x1E1 0 (readRecord 0x1E1 (Tab.dir (rd s 0x1E1 ARC1.TBL_ADDR)) DIRE.fields s))) ∧
      exec .dirLookup s = .next (posted 2 []) ∧ exec .dirCreate s = .next (posted 3 []) ∧ exec .dirDelete s = .next (posted 4 []) ∧
      exec (.dirRepair l) s = .next (posted 5 (l.take 65536)) ∧ exec .dirSetState s = .next (posted 6 []) ∧ exec .dirScan s = .next (posted 7 [])) ∧
    (TableFree s 0x1E1 →
      exec .dirSysRead s
        = .next (kept s (dirCmdNow 8 (rd64 s 0x1E1 ARC1.OP_ADDR_LO ARC1.OP_ADDR_HI) (sysBytes s)
            { s with fresh := s.fresh + 4096 })) ∧
      (let at_ := 4096 * rd s 0x1E1 ARC1.OP_SYS_OFFSET
       rd s 0x1E1 ARC1.OP_SYS_ITEM = 1 → at_ % 2 ^ 26 + 4096 ≤ (slotBytes s (at_ / 2 ^ 26)).length →
         sysBytes s = ((slotBytes s (at_ / 2 ^ 26)).drop (at_ % 2 ^ 26)).take 4096)) ∧
    (TableFree s 0x1E2 → arcIndexOk s = true →
      exec .ringTableRead s = .next (kept s (tblResult 0x1E2 0 (readRecord 0x1E2 (arcRecord s).1 (arcRecord s).2 s)))) ∧
    (TableFree s 0x1E2 → arcIndexOk s = false →
      exec .ringTableRead s = .next (kept s (tblResult 0x1E2 1 s)) ∧ exec .ringTableWrite s = .next (kept s (tblResult 0x1E2 1 s)) ∧
      exec .ringTableReadClear s = .next (kept s (tblResult 0x1E2 1 s))) ∧
    (TableFree s 0x1E2 → arcIndexOk s = true → rdb s 0x1E2 ARC2.TBL_ADDR_TABLE = false →
      exec .ringTableWrite s
        = .next (kept s { wr 0x1E2 TBL.BUSY 1 s with ringCmd := some (rd s 0x1E2 ARC2.TBL_ADDR_INDEX, dataField s 0x1E2 RING.PENDING_LEN, false) })) ∧
    (TableFree s 0x1E2 → arcIndexOk s = true → rdb s 0x1E2 ARC2.TBL_ADDR_TABLE = true → dataField s 0x1E2 READER.VALID ≠ 1 →
      exec .ringTableWrite s = .next (kept s (tblResult 0x1E2 0 (stageReader (rd s 0x1E2 ARC2.TBL_ADDR_INDEX) s)))) ∧
    (TableFree s 0x1E2 → arcIndexOk s = true → rdb s 0x1E2 ARC2.TBL_ADDR_TABLE = true → dataField s 0x1E2 READER.VALID = 1 →
      rdb s (Tab.ring (dataField s 0x1E2 READER.RING)) RING.VALID = false →
      exec .ringTableWrite s = .next (kept s (tblResult 0x1E2 2 s))) ∧
    (TableFree s 0x1E2 → arcIndexOk s = true →
      exec .ringTableReadClear s
        = .next (kept s (
            let pg := (arcRecord s).1
            let t := tblResult 0x1E2 0 (readRecord 0x1E2 pg (arcRecord s).2 s)
            if rdb t 0x1E2 ARC2.TBL_ADDR_TABLE then wr pg READER.OVERRUN 0 (wr pg READER.OVERRUNS 0 t) else t)))

/-- R447 to R452, R468: the commands of Town Hall. -/
def Obligations.TownHallCommands : Prop :=
  ∀ (s : State) (o : List YOut) (p : Nat),
    (s.clock.tickOpen = true → stepsRun s = true → rd s (held 8) HTHL.STEP ≠ 0 → rd s (held 8) HTHL.STEP ≤ s.clock.tick →
      exec (.yunagerStepEnd o) s = .next (kept s (stepEnd o s))) ∧
    (stepsRun s = true →
      exec .pairMiscompare s = .next (kept s (pairFault (inc 8 THL.MISCOMPARES s))) ∧
      (rd s (held 8) HTHL.STEP ≠ 0 → rd s (held 8) HTHL.STEP + 8 ≤ s.clock.tick + 1 → exec .yunagerStepTimeout s = .next (kept s (pairFault s)))) ∧
    (s.clock.tickOpen = true → rdb s (held 8) HTHL.TAKE = true →
      exec .takeover s
        = .next (kept s (
            let f := rd s (held 8) HTHL.FAILED
            let t := wr 8 THL.THL_STATUS_ACTIVE_PAIR (1 - f) (setPair (1 - f) pairActive (wr (held 8) HTHL.TAKE 0 s))
            let t := inc 8 THL.TAKEOVERS (pushEv (mkEv t 8 THL.evTAKEOVER (pairLoc f) true []) t)
            if rd t (held 8) HTHL.STEP = 0 then stepBegin t else stepAgain t))) ∧
    (p < 2 → pairState s p = pairTesting → rd s (held 8) (HTHL.TEST p) + 4000 ≤ s.clock.tick + 1 →
      exec (.pairTestDone p true) s = .next (kept s (raise 8 THL.evPAIR_TESTED [p, 1] (closeFault Tag.pair (setPair p pairStandby s)))) ∧
      exec (.pairTestDone p false) s = .next (kept s (raise 8 THL.evPAIR_TESTED [p, 0] (setPair p pairFailed s)))) ∧
    (p < 2 → Unlocked s 8 → p ≠ activePair s → pairState s p = pairStandby → rdb s (held 8) HTHL.TAKE = false →
      (let named := fun op => wr 8 THL.PAIR_RESULT 1 (wr 8 THL.PAIR_CMD_PAIR p (wr 8 THL.PAIR_CMD_OP op s))
       exec (.pairCmdTest p) s = .next (kept s (testPair p (wr (held 8) HTHL.SWAP 0 (named 1)))) ∧
       exec (.pairCmdOff p) s = .next (kept s (setPair p pairOff (wr (held 8) HTHL.SWAP 0 (named 2)))) ∧
       exec (.pairCmdSwap p) s = .next (kept s (wr (held 8) HTHL.SWAP 1 (named 3))))) ∧
    (rdb s (held 8) HTHL.STOPPED = true → yunagerRuns s = true →
      exec .yunagerRestart s
        = .next (kept s (raise 8 THL.evYUNAGER_RESTART [] (wr (held 8) HTHL.STOPPED 0
            (measureNow 0 kindRestart 0 (rd s (held 0x10) HSEC.DIGEST) s))))) ∧
    (s.clock.tickOpen = true → rd s (held 8) HTHL.FUNC_AT ≠ 0 → rd s (held 8) HTHL.FUNC_AT ≤ now s + 1 → s.portWrites = [] →
      exec .funcModeEffect s
        = .next (kept s (
            let old := rd s 8 THL.FUNC_EFFECTIVE
            let new := old % 64 + rd s 8 THL.FUNC_MODE / 64 * 64
            let t := wr (held 8) HTHL.FUNC_AT 0 (wr 8 THL.FUNC_EFFECTIVE new s)
            if new = old then t else raise 8 THL.evFUNC_CHANGED [old, new] t)))

/-- R454 to R467: the host port; R432: serves; R39: link errors. -/
def Obligations.HostPortCommands : Prop :=
  ∀ (s : State) (n v cyc width speed : Nat) (desc : List Nat) (bytes : List Byte), n < 64 →
    (Unlocked s 0xB1 → (v + 65536 - rd s 0xB1 (HST1.HEAD n)) % 65536 ≤ ringLen s n →
      exec (.ringTailWrite n v) s = .next (kept s (wr 0xB1 (HST1.TAIL n) v s))) ∧
    (Unlocked s 0xB1 → ringLen s n < (v + 65536 - rd s 0xB1 (HST1.HEAD n)) % 65536 →
      exec (.ringTailWrite n v) s = .next (kept s (raise 0xB1 HST1.evTAIL_ERR [n] (ringResult n 4 s)))) ∧
    (Unlocked s 0xB1 → ringState s n = ringStopped → ringConfigBad s n = false →
      exec (.ringStart n) s
        = .next (kept s (ringResult n 1 (wr 0xB1 (HST1.RING_CTRL_STATE n) ringRunning (wr (held 0xB1) (HHST.TX_WAIT n) 0
            (wr (held 0xB1) (HHST.RSVD n) 0 (wr (held 0xB1) (HHST.FETCHED n) 0 (wr (held 0xB1) (HHST.TX_DAMAGED n) 0
              (wr 0xB1 (HST1.HEAD n) 0 (wr 0xB1 (HST1.TAIL n) 0 s)))))))))) ∧
    (Unlocked s 0xB1 → ringState s n = ringStopped → ringConfigBad s n = true → exec (.ringStart n) s = .next (kept s (ringResult n 3 s))) ∧
    (Unlocked s 0xB1 → ringState s n ≠ ringStopped → exec (.ringStart n) s = .next (kept s (ringResult n 5 s))) ∧
    (Unlocked s 0xB1 → ringState s n = ringRunning → rd s (held 0xB1) (HHST.STOP_AT n) = 0 →
      exec (.ringStop n) s = .next (kept s (ringResult n 1 (wr (held 0xB1) (HHST.STOP_AT n) (now s + 4) s)))) ∧
    (exec (.ringStopped n) s = .next (kept s (txStopCheck n (rxStopCheck n s)))) ∧
    (txPosted s n = true → rdb s 0xB0 HST0.HST_CTRL_EN = true → rdb s 0xB0 HST0.HST_STATUS_LINK_UP = true →
      rd s (held 0xB1) HHST.TX_TICK < 2000 → txWaits s n = false → txFirst s n cyc = true →
      (let d := desc.map (· % 2 ^ 32)
       let pos := rd s 0xB1 (HST1.HEAD n) + rd s (held 0xB1) (HHST.FETCHED n)
       (txType d = 0 → txHeld s < 256 →
         exec (.txDescriptorFetch n desc bytes cyc) s = .next (kept s (hostFrame n pos d bytes (startOf (now s) + cyc) (txTake n s)))) ∧
       (txType d = 1 → txHeld s < 256 → serveOpen s = true →
         exec (.txDescriptorFetch n desc bytes cyc) s = .next (kept s (txServe n pos d bytes (startOf (now s) + cyc) s))) ∧
       (txType d = 2 ∨ txType d = 3 →
         exec (.txDescriptorFetch n desc bytes cyc) s = .next (kept s (txMessage n pos d bytes (txTake n s)))))) ∧
    (rdb s 0xB0 HST0.HST_STATUS_LINK_UP = true →
      exec .hostLinkDown s
        = .next (kept s (
            let t := wr (held 0xB1) HHST.LINK_LOST 1 (inc 0xB0 HST0.LINK_DOWNS (setLink 0 0 0 s))
            raise 0xB0 HST0.evLINK_CHANGE (linkFields t) t)) ∧
      exec .functionLevelReset s = .next (kept s (wr (held 0xB1) HHST.FLR_DUE 1 (raise 0xB0 HST0.evFLR [] (inc 0xB0 HST0.FLRS s)))) ∧
      exec (.msixVectorUnmask n) s
        = .next (kept s (if (vec s n).pendingBit then sendVec n (vec s n).itr (setVec n { vec s n with masked := false, pendingBit := false } s)
            else setVec n { vec s n with masked := false } s))) ∧
    (rdb s 0xB0 HST0.HST_STATUS_LINK_UP = false → rdb s 0xB0 HST0.HST_CTRL_LINK_HOLD = false → width = 1 ∨ width = 2 ∨ width = 4 →
      speed = 1 ∨ speed = 2 →
      exec (.hostLinkUp width speed) s
        = .next (kept s (raise 0xB0 HST0.evLINK_CHANGE (linkFields (setLink 1 width speed s)) (setLink 1 width speed s)))) ∧
    (rdb s 0xB0 HST0.HST_STATUS_LINK_UP = true → rd s 0xB0 HST0.HST_STATUS_DSTATE = 0 →
      exec .d3hotEntry s
        = .next (kept s (
            let t := wr 0xB0 HST0.HST_STATUS_DSTATE 3 s
            if (List.range 64).any (fun k => ringState t k = ringRunning) then wr (held 0xB1) HHST.LINK_LOST 1 t else t))) ∧
    (exec (.hostLinkError 0) s
       = .next (kept s (
           let x := freeBits 5 (inc 0xB0 HST0.REPLAYS s)
           raiseFault 0xB0 (32 + x.1) (locUnit 0x10 0x3F) true [] x.2)) ∧
     exec (.hostLinkError 1) s = .next (kept s (inc 0xB0 HST0.CORRECTABLE s)) ∧
     exec (.hostLinkError 2) s
       = .next (kept s (raiseFault 0xB0 HST0.evUNCORRECTABLE (locUnit 0x10 0x3F) false [] (inc 0xB0 HST0.UNCORRECTABLE s))))

/-- R470 to R478, R483, R484: boot, image slots, fuses and rollback counters. -/
def Obligations.BootImagesAndFuses : Prop :=
  ∀ (s : State) (l : List Byte) (n v : Nat),
    let h := held 0x10
    (rdb s h HSEC.ROM = true → s.resumeRec = [] → exec (.romBoot true) s = .next (kept s (romBoot s))) ∧
    (rdb s h HSEC.ROM = true → rdb s h HSEC.WAKING = true → s.resumeRec ≠ [] →
      exec (.romBoot true) s = .next (kept s (romResume s)) ∧
      exec (.romBoot false) s = .next (kept s (romBoot (wr h HSEC.RESUME_REFUSED 1 { s with resumeRec := [] })))) ∧
    (rd s 0x10 SEC0.BOOT_STATUS_STAGE = 2 → Unlocked s 0x10 → l.length = rd s 0x10 SEC0.HBOOT_LEN → candidateResult s l true = 0 →
      exec (.hbootGo (some l)) s = .next (kept s (bootImage l 0 true (wr 0x10 SEC0.BOOT_STATUS_RESULT 0 s)))) ∧
    (rd s 0x10 SEC0.BOOT_STATUS_STAGE = 2 → Unlocked s 0x10 → exec (.hbootGo none) s = .next (kept s (wr 0x10 SEC0.BOOT_STATUS_RESULT 1 s))) ∧
    (yunagerRuns s = true → Unlocked s 0x10 → rd s 0x10 SEC0.IMG_SLOT ≠ rd s 0x10 SEC0.BOOT_STATUS_SLOT → rdb s h HSEC.TRIAL = false →
      l.length = rd s 0x10 SEC0.IMG_LEN → l.length = 128 + imgLength l + 64 → imgCheck s l = 0 →
      exec (.imgWrite (some l)) s
        = .next (kept s (imgDone 1 { s with imgSlots := Map.put none s.imgSlots (rd s 0x10 SEC0.IMG_SLOT) (some l) }))) ∧
    (yunagerRuns s = true → Unlocked s 0x10 →
      exec .imgSetPref s
        = .next (kept s (
            let t := wr h HSEC.PREF_VALID 1 (wr h HSEC.PREF_SLOT (rd s 0x10 SEC0.IMG_SLOT) s)
            imgDone 1 (showPref (wr h HSEC.ATTEMPTS 0 (wr h HSEC.TRIAL (rd t 0x10 SEC0.IMG_TRIAL) t))))) ∧
      exec .imgConfirm s = .next (kept s (imgDone 1 (confirmImage s)))) ∧
    (n < 2 → Unlocked s 0x10 → fuseBusy s = false → fuse s (hashFuse n) = 0 → fuse s (stateFuse n) = 0 → authorised s n = true →
      exec (.fuseEnroll n) s
        = .next (kept s (
            let d := (List.range 16).foldl (fun a w => a + rd s 0x10 (SEC0.FUSE_DATA w) * 2 ^ (32 * w)) 0
            fuseStart fuseEnroll n d (bitsToBlow 0 d + 1) (wr 0x10 SEC0.FUSE_RESULT 0 (useAuth s))))) ∧
    (n < 2 → Unlocked s 0x10 → fuseBusy s = false → enrolled s n = true → authorised s n = true →
      exec (.fuseRevoke n) s
        = .next (kept s (fuseStart fuseRevoke n 0 (if revoked s n then 0 else 1) (wr 0x10 SEC0.FUSE_RESULT 0 (useAuth s))))) ∧
    (Unlocked s 0x10 → fuseBusy s = false → enrolled s 0 = true ∨ enrolled s 1 = true →
      exec .fuseLock s = .next (kept s (fuseStart fuseLock 0 0 (if ownerLock s then 0 else 1) (wr 0x10 SEC0.FUSE_RESULT 0 s)))) ∧
    (n < 2 → Unlocked s 0x10 → fuseBusy s = true →
      exec (.fuseEnroll n) s = .next (kept s (fuseResult fuseEnroll 2 s)) ∧ exec (.fuseRevoke n) s = .next (kept s (fuseResult fuseRevoke 2 s)) ∧
      exec .fuseLock s = .next (kept s (fuseResult fuseLock 2 s))) ∧
    (n < 64 → v ≤ 64 → Unlocked s 0x12 → fuseBusy s = false → rdb s h HSEC.TRIAL = false → versionRuns s n v = true →
      exec (.rbRaise n v) s = .next (kept s (fuseStart fuseRaise n v (v - rollback s n) (wr 0x12 SEC2.RB_RESULT 0 s)))) ∧
    (n < 64 → v ≤ 64 → Unlocked s 0x12 → versionRuns s n v = false → exec (.rbRaise n v) s = .next (kept s (wr 0x12 SEC2.RB_RESULT 2 s))) ∧
    (rd s h HSEC.FUSE_OP ≠ 0 → rd s h HSEC.FUSE_AT ≤ startOf (now s + 1) →
      exec (.fuseDone n) s = .next { fuseEnd n s with clock := s.clock, pending := s.pending })

/-- R479 to R487: measurements, quotes, debug, the random source; R405, R406: Mews images. -/
def Obligations.MeasurementsAndDebug : Prop :=
  ∀ (s : State) (p k : Nat) (q l pub : List Byte),
    let h := held 0x10
    (Unlocked s 0x11 → rdb s 0x11 SEC1.MEAS_EXT_GO = false → s.clock.running = true →
      exec .measExtGo s
        = .next (kept s (
            let d := (List.range 16).foldl (fun a w => a + rd s 0x11 (SEC1.MEAS_EXT w) * 2 ^ (32 * w)) 0
            measure 7 kindHost (now s) 0 d (wr 0x11 SEC1.MEAS_EXT_GO 1 s)))) ∧
    (Unlocked s 0x11 → quoting s = true →
      exec .quoteRequest s = .next (kept s (raise 0x11 SEC1.evQUOTE_DONE [2] (wr 0x11 SEC1.QUOTE_STATUS 2 s)))) ∧
    (Unlocked s 0x11 → quoting s = false →
      exec .quoteRequest s
        = .next (kept s (
            let n := (List.range 8).foldl (fun a i => a + rd s 0x11 (SEC1.QUOTE_NONCE i) * 2 ^ (32 * i)) 0
            let t := wr h HSEC.NONCE n (wr h HSEC.QUOTE_ADDR (rd64 s 0x11 SEC1.QUOTE_ADDR_LO SEC1.QUOTE_ADDR_HI) s)
            wr 0x11 SEC1.QUOTE_CMD 1 (wr 0x11 SEC1.QUOTE_STATUS 0 (wr h HSEC.QUOTE_AT (now t + 4) t))))) ∧
    (rd s h HSEC.QUOTE_AT ≠ 0 → rd s h HSEC.QUOTE_AT ≤ now s + 1 →
      exec .quoteSnapshot s = .next (kept s (wr h HSEC.QUOTE_AT 0 { s with quoteSnap := some (quoteBytes s) }))) ∧
    (s.quoteSnap = some q →
      exec .quoteWritten s
        = .next (kept s (raise 0x11 SEC1.evQUOTE_DONE [1] (wr 0x11 SEC1.QUOTE_CMD 0 (wr 0x11 SEC1.QUOTE_STATUS 1
            { s with quoteSnap := none,
                     quoteOut := some (rd s h HSEC.QUOTE_ADDR, q ++ (Config.ed25519Sign identitySecret q ++ List.replicate 64 0).take 64) }))))) ∧
    (Unlocked s 0x12 → rdb s 0x12 SEC2.DBG_STATUS_THROTTLED = false → rngFailed s = false →
      exec .dbgRequest s
        = .next (kept s (
            let t := forEach (List.range 8) (fun i t => wr 0x12 (SEC2.DBG_CHAL i) ((draw 256 s).1 / 2 ^ (32 * i)) t) (draw 256 s).2
            wr h HSEC.CHAL_TICK (t.clock.tick + 1) (wr 0x12 SEC2.DBG_STATUS_CHAL_VALID 1 t)))) ∧
    (Unlocked s 0x12 → rdb s 0x12 SEC2.DBG_STATUS_THROTTLED = true ∨ rngFailed s = true →
      exec .dbgRequest s = .next (kept s (raise 0x12 SEC2.evDEBUG_REFUSED [] s))) ∧
    (Unlocked s 0x12 → responseOk s = true → bit (leAt (responseBytes s) 0 4) 31 = false →
      exec .dbgSubmit s
        = .next (kept s (
            let r := responseBytes s
            let t := wr h HSEC.GRANT_SCOPE (leAt r 0 4) (wr h HSEC.GRANT_SLOT (leAt r 8 1) (wr h HSEC.GRANT_TICKS (leAt r 4 4) s))
            wr h HSEC.GRANT_DUE (now t + 2) t))) ∧
    (Unlocked s 0x12 → responseOk s = false →
      exec .dbgSubmit s
        = .next (kept s (raise 0x12 SEC2.evDEBUG_REFUSED [] (inc 0x12 SEC2.DBG_FAILS (wr h HSEC.FAIL_TICK (s.clock.tick + 1)
            (wr 0x12 SEC2.DBG_STATUS_THROTTLED 1 (wr 0x12 SEC2.DBG_STATUS_CHAL_VALID 0 s))))))) ∧
    (Unlocked s 0x12 → exec .dbgRelock s = .next (kept s (endGrant (wr h HSEC.GRANT_DUE 0 s)))) ∧
    (rd s h HSEC.GRANT_DUE ≠ 0 → rd s h HSEC.GRANT_DUE ≤ now s + 1 →
      exec .debugGrant s
        = .next (kept s (
            let d := rd s h HSEC.GRANT_TICKS
            let scope := rd s h HSEC.GRANT_SCOPE
            let slot := rd s h HSEC.GRANT_SLOT
            let t := wr h HSEC.GRANT_DUE 0 (wr h HSEC.GRANTED 1 (wr 0x12 SEC2.DBG_STATUS_SCOPE scope s))
            let t := wr 0x12 SEC2.DBG_REMAIN (if d = 0 then 0xFFFFFFFF else d) t
            raise 0x12 SEC2.evDEBUG_GRANTED [scope, slot, d]
              (extendMeas ⟨2, kindGrant, now t, 0, Config.sha512 (toLe 4 scope ++ toLe 4 d ++ toLe 1 slot)⟩ t)))) ∧
    (rdb s h HSEC.GRANTED = true → rd s 0x12 SEC2.DBG_REMAIN = 0 → exec .debugExpiry s = .next (kept s (endGrant s))) ∧
    (rdb s 0x12 SEC2.DBG_STATUS_CHAL_VALID = true → rd s h HSEC.CHAL_TICK + 80000 ≤ s.clock.tick + 1 →
      exec .dbgChallengeExpiry s = .next (kept s (wr 0x12 SEC2.DBG_STATUS_CHAL_VALID 0 s))) ∧
    (rngFailed s = false →
      exec .rngTestFail s = .next (kept s (raiseFault 0x12 SEC2.evRNG_FAIL (locUnit 3 1) false [] (wr 0x12 SEC2.RNG_STATUS_RNG_FAIL 1 s)))) ∧
    (rngFailed s = true → exec .rngRecover s = .next (kept s (wr 0x12 SEC2.RNG_STATUS_RNG_FAIL 0 s))) ∧
    (p < 2 → k < 5 → exec (.keyDbe p k) s = .next (kept s (keyDbe p k (wr (instBase 0x12) COM.PAGE_FAULT_UNCORRECTED 1 s)))) ∧
    (Unlocked s 0x1C2 → rdb s 0x1C2 MEW2.LOAD_STATUS_BUSY = false → rd s 0x1C2 MEW2.LOAD_ROLE = 0 →
      exec (.mewsLoadStart true) s
        = .next (kept s (mewsLoadDone 1 (wr (held 0x1C0) HMEW.LOAD_ROLE 0 (wrb (held 0x1C0) HMEW.LOAD_HOST true s))))) ∧
    (∀ r, Unlocked s 0x1C2 → rdb s 0x1C2 MEW2.LOAD_STATUS_BUSY = false → rd s 0x1C2 MEW2.LOAD_ROLE = r → 0x20 ≤ r → r < 0xFF →
      roleState s r = roleUnassigned ∨ roleState s r = roleStopped →
      exec (.mewsLoadStart true) s
        = .next (kept s (wr 0x1C2 MEW2.LOAD_CTRL_START 1 (wr 0x1C2 MEW2.LOAD_STATUS_BUSY 1
            (wr (held 0x1C0) HMEW.LOAD_ROLE r (wrb (held 0x1C0) HMEW.LOAD_HOST true s)))))) ∧
    (rdb s 0x1C2 MEW2.LOAD_STATUS_BUSY = true → rdb s 0x1C2 MEW2.LOAD_CTRL_FROM_ARCADE = false →
      exec (.mewsLoadDone none pub) s = .next (kept s (mewsLoadDone 6 s)) ∧
      (mewsLoadResult s l pub ≠ 0 → exec (.mewsLoadDone (some l) pub) s = .next (kept s (mewsLoadDone (mewsLoadResult s l pub) s))) ∧
      (mewsLoadResult s l pub = 0 →
        exec (.mewsLoadDone (some l) pub) s
          = .next (kept s (measureNow (if leAt l 0x0A 1 = 0 then 4 else 5) kindMews (leAt l 0x28 8) (Config.sha512 (l.take (l.length - 64)))
              (mewsLoadDone 0 (takeImage (rd s (held 0x1C0) HMEW.LOAD_ROLE) (mewsImage l) s))))))

/-- R498, R501, R502: power requests; R44, R339, R495 to R500: the transitions between modes. -/
def Obligations.PowerRequestsAndModes : Prop :=
  ∀ (s : State) (target low count phase loc : Nat) (ppb : Int) (ok : Bool),
    let h := held 0x20
    let asked := fun (op target low : Nat) => keepQueue s (wr 0x20 PWR0.PWR_REQ_OP op (wr 0x20 PWR0.PWR_REQ_TARGET target (wr 0x20 PWR0.PWR_REQ_LOW_STATE low
      (pwrReq op (target % 8) (low % 4) true s))))
    (canAsk s true = true → Unlocked s 0x20 →
      exec (.pwrReqMode target true) s = asked 1 target 0 ∧ exec (.pwrReqDormant low true) s = asked 2 0 low ∧
      exec (.pwrReqRestart true) s = asked 3 0 0 ∧ exec (.pwrReqRestartRecovery true) s = asked 4 0 0 ∧ exec (.pwrReqCancel true) s = asked 5 0 0) ∧
    (canAsk s false = true →
      exec (.pwrReqMode target false) s
        = keepQueue s (wr 0x20 PWR0.PWR_REQ_OP 1 (wr 0x20 PWR0.PWR_REQ_TARGET target (wr 0x20 PWR0.PWR_REQ_LOW_STATE 0 (pwrReq 1 (target % 8) 0 false s))))) ∧
    (drains (trKind s) = true → replaying s = false → rdb s (held 0x100) HSCH.STOP = true ∨ rdb s (held 0x100) HSCH.STOP_FILL = true → drainOver s = true →
      exec .drainComplete s = keepQueue s (drainEnd s)) ∧
    (mode s = modeSelftest →
      (rdb s 0xD0 FLW.FLW_STATUS_READY = true → exec (.selftestDone true 0) s
        = keepQueue s (setMode modeCommission (if rdb s h HPWR.TEST_ASKED then causeRequest else causeBoot)
            (wr h HPWR.TEST_PASSED 1 (wr h HPWR.TEST_ASKED 0 s)))) ∧
      (locLevel loc ≠ 0 →
        exec (.selftestDone false loc) s
          = keepQueue s (raiseFault 0x20 PWR0.evMODE_CHANGE loc false
              [modeSelftest, modeRecovery, if rdb s h HPWR.TEST_ASKED then causeRequest else causeBoot]
              (inc 0x20 PWR0.MODE_CHANGES (wr 0x20 PWR0.MODE_SINCE_TICK s.clock.tick
                (wr 0x20 PWR0.PWR_STATUS_MODE modeRecovery (wr h HPWR.TEST_ASKED 0 s))))))) ∧
    (trDue s trLeanEntry = true → replaying s = false →
      exec .leanEntry s
        = keepQueue s (startTr trLeanOff 1 (forEach (List.range 8) leanNarrow (rebuildPlan (leanSuspend
            (setMode modeLean causeRequest (wr (held 0x100) HSCH.LEAN_C 1 s))))))) ∧
    (trDue s trLeanOff = true → rd s h HPWR.AT - 2 ≤ s.nextCommit →
      exec .leanSliceOff s
        = keepQueue s (
            let x := rd s h HPWR.SLICE
            examinePending (endTr (setDomain (7 + x) false (wr 0x180 (CWY.SLICE_STATE x) 5 (wr h HPWR.OLD_STATE (rd s 0x180 (CWY.SLICE_STATE x)) s)))))) ∧
    (trDue s trLeanExit = true → replaying s = false →
      exec (.leanExit ok) s
        = keepQueue s (examinePending (endTr (setMode (if fencedSlice (endLean ok s) < 3 then modeGuarded else modeService) causeRequest (endLean ok s))))) ∧
    (trKind s = trDormant → rd s h HPWR.LOW = 0 →
      exec (.dormantEntryComplete count phase ppb) s
        = keepQueue s (
            let t := holdPorts (endLeft (commitRest s))
            afterEntry (enterIdle (wr (held 0x100) HSCH.STOP 0 (wr (held 0x100) HSCH.STOP_FILL 0 t))))) ∧
    (trKind s = trDormant → rd s h HPWR.LOW ≠ 0 → s.clock.tickOpen = true →
      exec (.dormantEntryComplete count phase ppb) s
        = keepQueue s (
            let t := holdPorts (endLeft (commitRest s))
            afterEntry (enterLow (rd s h HPWR.LOW) count phase ppb (wr (held 0x100) HSCH.STOP 0 (wr (held 0x100) HSCH.STOP_FILL 0 t))))) ∧
    (rdb s h HPWR.WAKING = true →
      exec (.wakeComplete count phase ppb) s
        = keepQueue s (
            let t := clockResumes count phase ppb (wr h HPWR.WAKING 0 s)
            let t := monWake t.clock.tick t
            if trKind t = trWake then startTr trWake 1 (setDomains (runDomains t) (setPower 0 t)) else t))

/-- R493, R504 to R513: wake sources, alarms, the feed, the domains. -/
def Obligations.WakesAlarmsAndFeed : Prop :=
  ∀ (s : State) (ms i b count phase d ticks : Nat) (ppb : Int) (v low : Bool),
    let h := held 0x20
    (rdb s 0x21 PWR1.WAKE_STATUS_LEVEL = false → rdb s h HPWR.STANDBY = true →
      exec (.wakePin ms) s
        = keepQueue s (
            let t := wr 0x21 PWR1.WAKE_STATUS_LEVEL 1 s
            let t := if powerState t = 0 then wr h HPWR.WAKE_TICK (t.clock.tick + 1) t else t
            if rd t h HPWR.WAKE_MS ≠ 0 ∧ ms + 1 < rd t h HPWR.WAKE_MS + 100 then wr h HPWR.WAKE_HELD 1 (inc 0x21 PWR1.WAKES_LIMITED t)
            else acceptPin ms t)) ∧
    (rdb s h HPWR.WAKE_HELD = true → rdb s 0x21 PWR1.WAKE_STATUS_LEVEL = true → rd s h HPWR.WAKE_MS + 100 ≤ ms + 1 →
      exec (.wakeLimitExpiry ms) s = keepQueue s (acceptPin ms (wr h HPWR.WAKE_HELD 0 s))) ∧
    (rdb s 0x21 PWR1.WAKE_STATUS_LEVEL = true →
      exec .wakeInactive s
        = .next (kept s (
            let t := wr h HPWR.WAKE_HELD 0 (wr h HPWR.WAKE_TICK 0 (wr 0x21 PWR1.WAKE_STATUS_LEVEL 0 s))
            if rdb t 0x21 PWR1.WAKE_STATUS_STUCK then raise 0x21 PWR1.evWAKE_STUCK [0] (wr 0x21 PWR1.WAKE_STATUS_STUCK 0 t) else t))) ∧
    (powerState s = 0 → rdb s 0x21 PWR1.WAKE_STATUS_LEVEL = true → rdb s 0x21 PWR1.WAKE_STATUS_STUCK = false → rd s h HPWR.WAKE_TICK ≠ 0 →
      rd s h HPWR.WAKE_TICK + 80000 ≤ s.clock.tick →
      exec .wakeStuck s = .next (kept s (raise 0x21 PWR1.evWAKE_STUCK [1] (wr 0x21 PWR1.WAKE_STATUS_STUCK 1 s)))) ∧
    (rd s 0x20 PWR0.SLEEP_TIMER ≠ 0 → mode s = modeDormant → timerOver s count = true → exec (.sleepTimerWake count) s = keepQueue s (wakeBy 2 s)) ∧
    (i < 8 → pd0On s = true → max 1 (rd s 0x21 (PWR1.ALM_DEB i)) ≤ ms → bit (rd s 0x21 PWR1.ALM_CTRL_EN) i = true → bit (rd s 0x21 PWR1.FROZEN) i = false →
      (v == bit (rd s 0x21 PWR1.ALM_CTRL_POLARITY) i) ≠ bit (rd s 0x21 PWR1.ALM_STATE) i →
      exec (.alarmChange i v ms) s = keepQueue s (almTake i v (almChatter i s))) ∧
    (i < 8 → pd0On s = true → max 1 (rd s 0x21 PWR1.CHAT_WINDOW) ≤ ticks → bit (rd s 0x21 PWR1.FROZEN) i = true →
      exec (.alarmRelease i v ticks) s
        = keepQueue s (almTake i v (raise 0x21 PWR1.evALM_CHATTER [i, 0]
            (wr 0x21 PWR1.FROZEN (setBit (rd s 0x21 PWR1.FROZEN) i false) { s with almTimes := s.almTimes.filter (fun x => x.1 ≠ i) })))) ∧
    (pd0On s = true →
      exec (.pmbusPoll none) s
        = keepQueue s (
            let n := rd s h HPWR.POLL_FAILS
            let t := wr h HPWR.POLL_FAILS (min 3 (n + 1)) (inc 0x21 PWR1.PMBUS_ERRORS s)
            if n = 2 then raise 0x21 PWR1.evPMBUS_LOST [1] (wr 0x21 PWR1.FEED_STATUS_BUDGET_KNOWN 0 t) else t)) ∧
    (pd0On s = true →
      exec (.pmbusPoll (some b)) s
        = keepQueue s (
            let t := wr 0x21 PWR1.FEED_STATUS_BUDGET_KNOWN 1 (wr h HPWR.POLL_FAILS 0 (wr h HPWR.BUDGET b (wr h HPWR.BUDGET_TICK s.clock.tick s)))
            let t := if rd s h HPWR.POLL_FAILS = 3 then raise 0x21 PWR1.evPMBUS_LOST [0] t else t
            if mode t = modeDormant ∧ rdb t h HPWR.BY_BUDGET ∧ rd t 0x21 PWR1.LEAN_MIN_MW + rd t 0x21 PWR1.HYST_MW ≤ b then wakeBy 5 t else t)) ∧
    (pd0On s = true → v ≠ feedWarn s →
      exec (.feedWarn v) s = .next (kept s (raise 0x21 PWR1.evFEED_WARN [b2n v] (wrb 0x21 PWR1.FEED_STATUS_WARN v s)))) ∧
    (pd0On s = true → rdb s h HPWR.FAILED = false →
      exec .feedFail s
        = .next (kept s (
            let t := wr 0x21 PWR1.FEED_STATUS_FAIL 1 (clearPending (endTr s))
            let t := wr h HPWR.FEED_AT (now t + 2) (wr h HPWR.FEED_ACTED 0 (wr h HPWR.FAILED 1 t))
            let e := { mkEv t 0x21 PWR1.evFEED_FAIL 0 false [] with deferred := true }
            let t := appendFlog e t
            if t.deferred.length < 256 then { t with deferred := t.deferred ++ [e] } else { t with deferredLost := t.deferredLost + 1 }))) ∧
    (rdb s h HPWR.FAILED = true → rd s h HPWR.FEED_AT ≠ 0 → low = true ∨ holdupOver s = true →
      exec (.holdupEnd low count phase ppb) s
        = keepQueue s (
            let n := (acceptedFrames s).length
            let t := forEach (acceptedFrames s) (fun e t => countOutcome e.port e.cls ocAbandoned t) s
            let t := wr 0x20 PWR0.ABANDONED_LAST n (wr h HPWR.FEED_AT 0 t)
            let t := appendFlog (mkEv t 0x21 PWR1.evFEED_FAIL 0 false [n]) t
            let t := if t.clock.running then sleepRecord (t.clock.tick + 1) (curTime t ((64 - t.clock.block) * blockCycles)) count phase ppb t else t
            let t := deepState 0 { t with resumeRec := [] }
            showDormant 3 1 (endTr { t with clock := { t.clock with running := false, tickOpen := false } }))) ∧
    (pd0On s = true → rdb s h HPWR.FAILED = true → rd s h HPWR.FEED_AT = 0 → rdb s h HPWR.VIN = true →
      exec .feedReturn s = keepQueue s (wakeBy 6 (wr 0x21 PWR1.FEED_STATUS_FAIL 0 s))) ∧
    (d < 20 → rd s h (HPWR.READY d) ≠ 0 → rd s h (HPWR.READY d) ≤ now s + 1 →
      exec (.domainReady d) s = .next (kept s (wr h (HPWR.READY d) 0 (resetDomain d s))))

/-- R9, R325, R517 to R533: accesses to the register pages. -/
def Obligations.RegisterAccesses : Prop :=
  ∀ (s : State) (p off v same lo n cyc b : Nat) (i : PageInfo) (d : List Nat), pageInfo p = some i →
    (Unlocked s p → exec (.pageCommitRequest p) s = .next (kept s (commitRequest p s))) ∧
    (rd s p COM.PAGE_LOCK_LOCK ≠ 0 →
      exec (.pageCommitRequest p) s = .next (kept s (wr p COM.PAGE_COMMIT_RESULT 3 (lockViolation p 0x20 s)))) ∧
    (s.clock.running = true → Map.get 0 s.commitReq p ≠ 0 →
      exec (.pageCommit p) s = .next (kept s (commitPages (commitWith p s) (atBoundary s)))) ∧
    (Unlocked s 0 → exec .commitAll s = .next (kept s (wr 0 GEN.COMMIT_ALL 1 s))) ∧
    (Unlocked s p → exec (.softReset p) s = .next (kept s (softReset p s))) ∧
    (Unlocked s p → bit v 1 = false →
      exec (.pageCtrlWrite p v) s = .next (kept s (wr p COM.PAGE_CTRL_VIEW_STAGED (bitsOf v 2 1) (writeEnable p (bit v 0) s)))) ∧
    (exec (.pageLock p 1) s = .next (kept s (wr p COM.PAGE_LOCK_LOCK 1 s)) ∧
     exec (.pageLock p 3) s = .next (kept s (wr p COM.PAGE_LOCK_LOCK 1 (wr p COM.PAGE_LOCK_STICKY 1 s))) ∧
     (rdb s p COM.PAGE_LOCK_STICKY = false → exec (.pageLock p 0) s = .next (kept s (wr p COM.PAGE_LOCK_LOCK 0 s))) ∧
     (rdb s p COM.PAGE_LOCK_STICKY = true → exec (.pageLock p 0) s = .next (kept s s))) ∧
    (Unlocked s p →
      exec (.pageEventSet p v) s
        = .next (kept s { s with evq := s.evq ++ ((List.range i.evBits).filter (bit v)).map (fun b =>
            { mkEv s p b 0 false [] with abs := now s + 1, test := true }) })) ∧
    (Unlocked s p ∨ lockFree p off = true →
      exec (.eventClear p off v same) s
        = .next (kept s (forEach ((wordFields p off).filter (fun f => f.acc = .w1c)) (fun f t =>
            writeField p f (bitsOf v f.lo f.width - (bitsOf v f.lo f.width &&& bitsOf same f.lo f.width)) t) s))) ∧
    (blocksRun s = false → b < i.evBits → exec (.deferredEvent p b d) s = .next (kept s (raise p b d s))) ∧
    (exec (.counterReadClear p off lo n) s = .next (kept s (clearRC p off (some (lo, n)) { s with hostRead := readWord s p off }))) ∧
    (exec (.latchingRead 0x30 0x48 cyc) s = .next (kept s { showNow cyc s with hostRead := readWord (showNow cyc s) 0x30 0x48 })) ∧
    (off < 4096 → exec (.registerWrite p off v 3) s = .next (kept s (badAccess p off s))) ∧
    (off < 4096 → off % 4 = 0 → Unlocked s p → terminalsOwn s p off = false → ownCommand p off = false → dataReadOnly p off = false →
      tableBusy s p off = false → p ≠ 0 → p ≠ 0x11 → p ≠ 0xB1 → p ≠ 0xD0 →
      exec (.registerWrite p off v 15) s = .next (kept s (writeFields p off v s)))

/-- R534, R538, R541, R542: the event ring, the fault log, the monitors; R83, R100, R132: the tables of a fibre port. -/
def Obligations.EventRingAndTables : Prop :=
  ∀ (s : State) (v f : Nat) (r : LogRec), f < 2 →
    (Unlocked s 0 → rd s 0 GEN.EVT_CTRL_STATE = 0 → 6 ≤ rd s 0 GEN.EVT_CFG_EVT_LOG2_LEN → rd s 0 GEN.EVT_WB_LO % 8 = 0 →
      exec .evtStart s = .next (kept s (wr 0 GEN.EVT_CTRL_RESULT 1 (wr 0 GEN.EVT_CTRL_STATE 1 (wr 0 GEN.EVT_HEAD 0 (wr 0 GEN.EVT_TAIL 0 s)))))) ∧
    (Unlocked s 0 → rd s 0 GEN.EVT_CTRL_STATE ≠ 0 → exec .evtStart s = .next (kept s (wr 0 GEN.EVT_CTRL_RESULT 5 s))) ∧
    (Unlocked s 0 → rd s 0 GEN.EVT_CTRL_STATE = 1 → rd s (held 0) HGEN.STOP_AT = 0 →
      exec .evtStop s = .next (kept s (wr 0 GEN.EVT_CTRL_RESULT 1 (wr (held 0) HGEN.STOP_AT (now s + 4) s)))) ∧
    (Unlocked s 0 → exec (.evtTailWrite v) s = .next (kept s (wr 0 GEN.EVT_TAIL v s))) ∧
    (TableFree s 1 → (rd s 1 FLOG.TBL_ADDR + 2 ^ 32 - rd s 1 FLOG.FLOG_FIRST) % 2 ^ 32 < rd s 1 FLOG.FLOG_COUNT →
      Map.get none s.flog (rd s 1 FLOG.TBL_ADDR % 16384) = some r →
      exec .flogRead s = .next (kept s (tblResult 1 0 (loadData 1 (evWords r.ev 0 ++ [r.num]) s)))) ∧
    (TableFree s 0x200 → rd s 0x200 MON0.TBL_ADDR_WINDOW = 3 ∨ 48 ≤ rd s 0x200 MON0.TBL_ADDR_CHANNEL →
      exec .monReadSet s = .next (kept s (tblResult 0x200 3 s))) ∧
    (TableFree s 0x200 → rd s 0x200 MON0.TBL_ADDR_WINDOW ≠ 3 → rd s 0x200 MON0.TBL_ADDR_CHANNEL < 48 →
      exec .monReadSet s
        = .next (kept s (
            let c := rd s 0x200 MON0.TBL_ADDR_CHANNEL
            let w := rd s 0x200 MON0.TBL_ADDR_WINDOW
            let p := rd s 0x200 MON0.TBL_ADDR_PREVIOUS
            let x := monSet s.monSnap (monKey c w p)
            let t := forEach (List.range 64) (fun i t => wr 0x201 (MON1.BIN i) (Map.get 0 x.bins i) t) s
            let t := wr 0x201 MON1.MIN (ofSigned 32 x.lo) (wr 0x201 MON1.MAX (ofSigned 32 x.hi) (wr 0x201 MON1.COUNT x.count t))
            let t := wr64 0x201 MON1.SUM_LO MON1.SUM_HI (ofSigned 64 x.sum) (wr 0x201 MON1.START_TICK x.start t)
            let t := wrb 0x201 MON1.FLAGS_EMPTY (decide (x.count = 0)) (wrb 0x201 MON1.FLAGS_PARTIAL x.isPartial t)
            tblResult 0x200 0 (wr 0x201 MON1.FLAGS_CHANNEL c (wr 0x201 MON1.FLAGS_WINDOW w (wr 0x201 MON1.FLAGS_PREVIOUS p t)))))) ∧
    (TableFree s 0x200 → rd s 0x200 MON0.TBL_ADDR_CHANNEL < 48 →
      (let c := rd s 0x200 MON0.TBL_ADDR_CHANNEL
       exec .monReadConfig s = .next (kept s (tblResult 0x200 0 (readRecord 0x200 (Tab.mcfg c) (MCFG.fields c) s))) ∧
       (monCheck s = 0 → exec .monWriteConfig s = .next (kept s (tblResult 0x200 0 (stageRecord 0x200 (Tab.mcfg c) (MCFG.fields c) s)))) ∧
       (monCheck s ≠ 0 →
         exec .monWriteConfig s = .next (kept s (raise 0x200 MON0.evCONFIG_REFUSED [c, monCheck s] (tblResult 0x200 (monCheck s) s)))))) ∧
    (TableFree s (fibN f 1) →
      (let p := fibN f 1
       let a := rd s p FB1.TBL_ADDR
       exec (.xgemFilterRead f) s = .next (kept s (tblResult p 0 (readRecord p (Tab.xgf f a) XGF.fields s))) ∧
       exec (.xgemFilterWrite f) s
         = .next (kept s (tblResult p (filterResult s f a) (if filterResult s f a = 0 then stageRecord p (Tab.xgf f a) XGF.fields s else s))) ∧
       exec (.xgemFilterInvalidate f) s = .next (kept s (tblResult p 0 (wrStaged p (Tab.xgf f a) XGF.VALID 0 s))))) ∧
    (TableFree s (fibN f 3) →
      (let p := fibN f 3
       let a := rd s p FB3.TBL_ADDR
       exec (.allocSlotRead f) s
         = .next (kept s (tblResult p 0 (wr (Tab.asl f a) ASL.SHORTFALL_BYTES 0 (readRecord p (Tab.asl f a) ASL.fields (showSlot f a s))))) ∧
       exec (.allocSlotWrite f) s
         = .next (kept s (tblResult p (slotResult s f a) (if slotResult s f a = 0 then stageRecord p (Tab.asl f a) ASL.fields s else s))) ∧
       (a ≠ 0 → exec (.allocSlotUnbind f) s = .next (kept s (tblResult p 0 (wrStaged p (Tab.asl f a) ASL.BOUND 0 s)))) ∧
       (a = 0 → exec (.allocSlotUnbind f) s = .next (kept s (tblResult p 2 s)))))

/-- One step: the command at the front, run with the queue's rest. That an empty queue idles is the model's own choice (assumption log,
entry 3). -/
def Obligations.StepTakesTheFront : Prop :=
  (∀ (c : Instr) (q : List Instr) (s : State), step { s with pending := c :: q } = exec c { s with pending := q }) ∧
  (∀ s : State, s.pending = [] → step s = .next s)

/-- No command stops the terminal, none touches the queue. -/
def Obligations.EveryCommandCompletes : Prop :=
  ∀ (c : Instr) (s : State), ∃ t, exec c s = .next t ∧ t.pending = s.pending

/-- The commands that wait are all taken, one a step. -/
def Obligations.QueueDrains : Prop :=
  ∀ s : State, ∃ t : State, Host.Core.run Sys2Proof.core s.pending.length s = .next t ∧ t.pending = []

/-- Which commands may move the clock: the boundaries, TICK_ALIGN, and the commands of the power sequencer and of the pins. -/
def Obligations.WhatMovesTheClock : Prop :=
  ∀ (c : Instr) (s t : State), exec c s = .next t →
    ((∀ n, c ≠ .fuseDone n) → t.otp = s.otp) ∧
    (¬ MovesClock c → t.clock = s.clock)

/-- R470, R477: blowing is for ever; the counters never go back. -/
def Obligations.FusesOnlyBlow : Prop :=
  ∀ s t : State, step s = .next t →
    (∀ k b, bit (fuse s k) b = true → bit (fuse t k) b = true) ∧ ∀ n, rollback s n ≤ rollback t n

/-- The form of the fuse array. -/
def Obligations.FuseArrayStaysCanonical : Prop :=
  ∀ s t : State, Map.wf 0 s.otp = true → step s = .next t → Map.wf 0 t.otp = true

/-- R8 and the reset columns of the register tables; the model's choice of the instant is log entry 2. -/
def Obligations.ResetState : Prop :=
  let r := State.reset
  r.pending = [] ∧ r.clock.running = false ∧ r.work = [] ∧ r.evq = [] ∧ r.deferred = [] ∧ r.leafq = [] ∧ r.buffers = [] ∧
  Map.wf 0 r.otp = true ∧ r.otp = [] ∧ mode r = modeBoot ∧ powerState r = 0 ∧ rdb r (held 0x10) HSEC.ROM = true ∧
  (∀ p, rd r p COM.PAGE_CTRL_ENABLE = 1 ∧ Unlocked r p) ∧
  (∀ p < 8, rd r (krb p) KRB.PORT_CTRL_EN = 0) ∧ (∀ n < 64, ringState r n = ringStopped) ∧ ∀ c < 8, inService r c = true

/-- R477. -/
def Obligations.RollbackCounters : Prop :=
  ∀ (s : State) (n v : Nat), n < 64 →
    rollback s n = topBit (fuse s (16 + n)) ∧
    ((∀ i < 64, bit v i = false) → topBit v = 0) ∧
    (∀ i < 64, bit v i = true → (∀ j, i < j → j < 64 → bit v j = false) → topBit v = i + 1) ∧
    topBit v ≤ 64 ∧
    (rollback s n ≤ rollback (blow (16 + n) v s) n) ∧
    (∀ l, imgCheck s l = 0 → n = 0 → rollback s n ≤ imgVersion l) ∧
    (∀ l pub, mewsLoadResult s l pub = 0 → (mewsImage l).counter = n → rollback s n ≤ (mewsImage l).version)

/-- R37, Table 1.6. -/
def Obligations.LocationCodes : Prop :=
  ∀ (l d sub u a b : Nat), l < 8 → d < 16 → sub < 64 → u < 64 → a < 32 → b < 256 →
    let c := locCode l d sub u a b
    (c < 2 ^ 32 ∧ c / 2 ^ 29 = l ∧ c / 2 ^ 25 % 16 = d ∧ c / 2 ^ 19 % 64 = sub ∧ c / 2 ^ 13 % 64 = u ∧ c / 2 ^ 8 % 32 = a ∧ c % 256 = b) ∧
    (locLevel c = l ∧ locSubsystem c = sub) ∧
    locCell sub u a b = locCode 1 0 sub u a b ∧ locWord sub u a = locCode 2 0 sub u a 0xFF ∧
    locUnit sub u = locCode 4 0 sub u 0x1F 0xFF ∧ locSub sub = locCode 5 0 sub 0x3F 0x1F 0xFF ∧
    locDie d = locCode 6 d 0x3F 0x3F 0x1F 0xFF ∧ locModule = locCode 7 0xF 0x3F 0x3F 0x1F 0xFF ∧
    locSub 0x19 = 0xA0CFFFFF ∧ locDie 8 = 0xD1FFFFFF ∧ locModule = 0xFFFFFFFF

/-- R29; check 1 of R222. -/
def Obligations.ExpressReservationLimit : Prop :=
  ∀ (s : State) (p : Nat) (a b : Bool), p < 8 → (a || b) = true →
    let t := (if b then applyStaged 0x150 else id) ((if a then applyStaged 0x101 else id) s)
    let limit := if kerbMode t p = 2 then 20000000 else if kerbMode t p = 1 then 5000000 else 500000
    portCmax t p = 2 * limit ∧
    (limit < portERes t p →
      (schedCheck t).1 ≠ 0 ∧
      (a = true → rd (commitSched a b s) 0x101 COM.PAGE_COMMIT_RESULT = 2) ∧
      (b = true → rd (commitSched a b s) 0x150 COM.PAGE_COMMIT_RESULT = 2) ∧
      ∀ (pg : Nat) (g : Machine.Field), 0x10000 ≤ pg → g.off * 8 + g.lo < 32768 → rd (commitSched a b s) pg g = rd s pg g) ∧
    ((schedCheck t).1 = 0 → portERes t p ≤ limit)

/-- R24, R93: one of the copies passes, the other is a duplicate. -/
def Obligations.RecoveryPassesOnce : Prop :=
  ∀ (s s' : State) (f f' i tick tick' q : Nat) (w : Wk), f < 2 → f' < 2 → q < 65536 →
    0 < rd w.v (Tab.flow i) SREC.HIST_LEN → rd w.v (Tab.flow i) SREC.HIST_LEN ≤ 128 →
    (vectorRecover s f (Tab.flow i) tick q w).1 = true →
    (vectorRecover s' f' (Tab.flow i) tick' q (vectorRecover s f (Tab.flow i) tick q w).2).1 = false

/-- R520, R521. -/
def Obligations.StageThenCommit : Prop :=
  ∀ (s : State) (p v : Nat) (f : Machine.Field), p < 0x1000 → f.acc = .rws → f.off * 8 + f.lo < 32768 →
    f.key p ≠ COM.PAGE_STATUS_STAGED.key p → stagedOf s p = [] →
    let t := writeField p f v s
    let u := applyStaged p t
    rd t p f = rd s p f ∧ rdStaged t p f = v % 2 ^ f.width ∧ rd t p COM.PAGE_STATUS_STAGED = 1 ∧
    rd u p f = v % 2 ^ f.width ∧ rd u p COM.PAGE_STATUS_STAGED = 0 ∧ stagedOf u p = [] ∧ RegsKeptBut [p] s u

/-- R528. -/
def Obligations.LockedPage : Prop :=
  ∀ (c : Instr) (p : Nat) (s : State), hostPage c = some p → locked s p = true →
    exec c s = .next s ∨ ∃ off, exec c s = .next (kept s (lockViolation p off s))

/-- R527, writes while BUSY. -/
def Obligations.BusyTable : Prop :=
  ∀ (c : Instr) (p : Nat) (s : State), tablePage c = some p → Unlocked s p → rd s p TBL.BUSY ≠ 0 →
    exec c s = .next s ∨ exec c s = .next (kept s (wr p TBL.CMD_LOST 1 s))

/-- R205, R206, Table 7.6. That a staged P4 segment without references takes its first by INC is the model's reading (Machine/Square.lean). -/
def Obligations.ReferenceCounts : Prop :=
  ∀ (s : State) (r cls h k : Nat),
    let m := getBuf s h
    let out := fun op => refOp op r cls h k s
    (∀ op h', h' ≠ h → getBuf (out op).1 h' = getBuf s h') ∧
    (∀ op, (out op).2 = false → (out op).1.buffers = s.buffers) ∧
    (poolsOn s = true → badHandle s h = false → m.allocated = true →
      (m.parked = false → m.count ≠ 255 → (out opInc).2 = true ∧ getBuf (out opInc).1 h = { m with count := m.count + 1, holders := m.holders ||| 2 ^ cls }) ∧
      ((out opHandover).2 = true ∧ getBuf (out opHandover).1 h = { m with holders := m.holders ||| 2 ^ cls }) ∧
      (bit m.holders cls = true → 1 < m.count → (out opDec).2 = true ∧ getBuf (out opDec).1 h = { m with count := m.count - 1 }) ∧
      (bit m.holders cls = true → m.count ≤ 1 →
        (let t := (out opDec).1
         (out opDec).2 = true ∧ (getBuf t h).count = 0 ∧ (getBuf t h).holders = 0 ∧ (getBuf t h).allocated = false ∧
         (handlePool h < 4 ∨ withheld s h = false →
           getBuf t h = { m with count := 0, holders := 0, allocated := false, parked := withheld s h }) ∧
         (handlePool h < 4 → withheld s h = false → t.freed = s.freed ++ [h]))) ∧
      (m.parked = true → refReason s opInc cls h = 5) ∧ (bit m.holders cls = false → refReason s opDec cls h = 2) ∧
      (m.parked = false → m.count = 255 → refReason s opInc cls h = 3)) ∧
    (poolsOn s = true → badHandle s h = false → m.allocated = false →
      refReason s opDec cls h = 1 ∧ refReason s opHandover cls h = 7 ∧ (handlePool h ≠ 4 → refReason s opInc cls h = 7)) ∧
    (poolsOn s = true → badHandle s h = true → ∀ op, refReason s op cls h = 4) ∧
    (poolsOn s = false → ∀ op, refReason s op cls h = 6)

/-- R249: no fraction of a bit is lost between uses. -/
def Obligations.PolicerRefills : Prop :=
  ∀ (p : Profile) (b : Buckets) (k1 k2 : Nat), b.last ≤ k1 → k1 ≤ k2 → k2 < 2 ^ 32 → b.tcRes < 512 → b.teRes < 512 →
    let c := refillBuckets p k2 b
    refillBuckets p k2 (refillBuckets p k1 b) = c ∧ c.last = k2 ∧
    (p.mode = 0 → c = { b with last := k2 }) ∧
    (p.mode ≠ 0 → c.tc ≤ 8 * p.cbs ∧ c.te ≤ 8 * p.ebs ∧ c.tcRes < 512 ∧ c.teRes < 512 ∧
      (c.tc = 8 * p.cbs → c.tcRes = 0) ∧ (c.te = 8 * p.ebs → c.teRes = 0) ∧
      c.tc * 512 + c.tcRes = min (8 * p.cbs * 512) (b.tc * 512 + b.tcRes + (k2 - b.last) * p.cir)) ∧
    (p.mode = 2 → c.te * 512 + c.teRes = min (8 * p.ebs * 512) (b.te * 512 + b.teRes + (k2 - b.last) * p.pir))

/-- R250, Table 8.6. -/
def Obligations.ColourDecisions : Prop :=
  ∀ (p : Profile) (incoming n : Nat) (b : Buckets),
    (p.mode = 0 → colourFrame p incoming n b = (green, b)) ∧
    (p.mode = 1 →
      (n ≤ b.tc → (incoming = green ∨ p.aware = false) → colourFrame p incoming n b = (green, { b with tc := b.tc - n })) ∧
      (¬ (n ≤ b.tc ∧ (incoming = green ∨ p.aware = false)) → n ≤ b.te → (incoming ≠ red ∨ p.aware = false) →
        colourFrame p incoming n b = (yellow, { b with te := b.te - n })) ∧
      (¬ (n ≤ b.tc ∧ (incoming = green ∨ p.aware = false)) → ¬ (n ≤ b.te ∧ (incoming ≠ red ∨ p.aware = false)) →
        colourFrame p incoming n b = (red, b))) ∧
    (p.mode = 2 →
      ((incoming = red ∧ p.aware = true) ∨ b.te < n → colourFrame p incoming n b = (red, b)) ∧
      (¬ ((incoming = red ∧ p.aware = true) ∨ b.te < n) → (incoming = yellow ∧ p.aware = true) ∨ b.tc < n →
        colourFrame p incoming n b = (yellow, { b with te := b.te - n })) ∧
      (¬ ((incoming = red ∧ p.aware = true) ∨ b.te < n) → ¬ ((incoming = yellow ∧ p.aware = true) ∨ b.tc < n) →
        colourFrame p incoming n b = (green, { b with te := b.te - n, tc := b.tc - n })))

/-- R530, Table 0.4 (W1C). -/
def Obligations.FirstInTickAndClears : Prop :=
  (∀ (pg b : Nat) (d d' : List Nat) (s : State), raiseFirst pg b d' (raiseFirst pg b d s) = raiseFirst pg b d s) ∧
  (∀ (p v i : Nat) (s : State), i < 32 →
    bit (rd (writeField p COM.PAGE_EVENT v s) p COM.PAGE_EVENT) i = (bit (rd s p COM.PAGE_EVENT) i && !bit v i))

/-- R59, R61, R65; the regions are those of Table 2.8 (R64). -/
def Obligations.MemoryLayout : Prop :=
  ∀ (word : Nat → Nat) (a raw j c r r' b i n : Nat), c < 8 →
    (rawBytes = stripes * stripeRaw + tailBytes ∧ stripes = 419430 ∧ stripeRaw = 10240 ∧ tailBytes = 4096 ∧ stripeData = 8192 ∧ stripeWords = 2048 ∧
      stripeData = 4 * stripeWords ∧ stripeRaw = stripeData + checkArea ∧ checkArea = checkUsed + checkReserved ∧ checkUsed = 1792 ∧
      channelData = 0xCCCCC000) ∧
    (a < channelData → rawKind (rawOf a) = .data a ∧ rawByte word (rawOf a) = some (word (a / 4) / 2 ^ (8 * (a % 4)) % 256)) ∧
    (a < channelData → j < 7 →
      checkBitOf a + j = 8 * (a / 8192 * 10240 + 8192) + (7 * (a % 8192 / 4) + j) ∧ (7 * (a % 8192 / 4) + j) / 8 < 1792 ∧
      ∃ v, rawByte word ((checkBitOf a + j) / 8) = some v ∧ bit v ((checkBitOf a + j) % 8) = bit (Config.checkBits (word (a / 4))) j) ∧
    (raw < stripes * stripeRaw → 8192 + 1792 ≤ raw % 10240 → rawByte word raw = some 0) ∧
    (stripes * stripeRaw ≤ raw → rawKind raw = .tail) ∧
    (partnerOf c = (if c < 4 then c + 4 else c - 4) ∧ isPrimary c = decide (c < 4) ∧ mirrorOf ⟨c, a⟩ = ⟨partnerOf c, a⟩ ∧ partnerOf c / 2 ≠ c / 2) ∧
    (flowPlace r = ⟨r % 4, r / 4 * 128⟩ ∧ (r < 5242880 → regionAt (flowPlace r).addr = some regFlow ∧ (flowPlace r).addr + 128 ≤ regFlow.base + regFlow.size)) ∧
    (treePlace b a = ⟨a / 4096 % 4, (if b = 0 then 0x0A000000 else 0x12000000) + a / 16384 * 4096 + a % 4096⟩ ∧
      (a < 2 ^ 29 → regionAt (treePlace b a).addr = some (if b = 0 then regBankA else regBankB))) ∧
    (p3Place i = ⟨i % 8, 0x33000000 + i / 8 * 9728⟩ ∧ (i < 1048576 → regionAt (p3Place i).addr = some regP3 ∧ (p3Place i).addr + 9728 ≤ regP3.base + regP3.size)) ∧
    (slotPlace i = ⟨i % 8, 0x7F000000 + i / 8 * 65536⟩ ∧ (i < stageSlots → regionAt (slotPlace i).addr = some regP4 ∧ (slotPlace i).addr + 65536 ≤ regP4.base + regP4.size)) ∧
    jitterChannel n = n % 8 ∧
    (r < r' →
      ((flowPlace r).channel = (flowPlace r').channel → (flowPlace r).addr + 128 ≤ (flowPlace r').addr) ∧
      ((p3Place r).channel = (p3Place r').channel → (p3Place r).addr + 9728 ≤ (p3Place r').addr) ∧
      ((slotPlace r).channel = (slotPlace r').channel → (slotPlace r).addr + 65536 ≤ (slotPlace r').addr))

/-- R201, R202, R205. -/
def Obligations.RoundaboutOrder : Prop :=
  ∀ (s : State) (c k i r r' : Nat) (q : BufReq), r < 12 → r' < 12 → i < 12 → c < 2 ^ 64 → (∀ x ∈ s.requests, x.requester < 12) →
    rankOf c ((4 * (c % 3) + i) % 12) = i ∧ rankOf (startOf k + c) r = rankOf c r ∧
    (∃ d < 3, rankOf (c + d) r < 4) ∧
    (q ∈ ranking s c ↔ q ∈ s.requests ∧ q.cycle < c) ∧
    (ranking s c).Pairwise (fun x y => rankOf c x.requester ≤ rankOf c y.requester) ∧
    (let l := (ranking s c).take (4 - givenIn s c)
     let t := grantCycle c s
     t.won.map (fun w => (w.req, w.cycle)) = s.won.map (fun w => (w.req, w.cycle)) ++ l.map (fun q => (q, c)) ∧
     t.requests = s.requests.filter (fun x => decide (∀ y ∈ l, y.requester ≠ x.requester)) ∧
     (givenIn s c ≤ 4 → givenIn t c = givenIn s c + l.length ∧ givenIn t c ≤ 4)) ∧
    (rd s (held 0xE0) HSQR.REF_COUNT ≤ 4 → refTurn (noteTurn r c s) r' c = true → rankOf c r < rankOf c r')
end

