-- ==== Sys2Proof/Laws/State.lean ====
section
/-! SUPPORT. One lemma per field of the state and per basic update: what the update leaves alone. -/

namespace Sys2Proof.Machine

variable (pg owner : Nat) (f : Field) (v : Nat) (e : EvRec) (s t : State)

/-! ## Writing a register field -/

@[simp] theorem wr_pending : (wr pg f v s).pending = s.pending := rfl
@[simp] theorem wr_clock : (wr pg f v s).clock = s.clock := rfl
@[simp] theorem wr_otp : (wr pg f v s).otp = s.otp := rfl
@[simp] theorem wr_staged : (wr pg f v s).staged = s.staged := rfl
@[simp] theorem wr_commitReq : (wr pg f v s).commitReq = s.commitReq := rfl
@[simp] theorem wr_wordResets : (wr pg f v s).wordResets = s.wordResets := rfl
@[simp] theorem wr_softResets : (wr pg f v s).softResets = s.softResets := rfl
@[simp] theorem wr_latches : (wr pg f v s).latches = s.latches := rfl
@[simp] theorem wr_hostRead : (wr pg f v s).hostRead = s.hostRead := rfl
@[simp] theorem wr_firsts : (wr pg f v s).firsts = s.firsts := rfl
@[simp] theorem wr_evq : (wr pg f v s).evq = s.evq := rfl
@[simp] theorem wr_deferred : (wr pg f v s).deferred = s.deferred := rfl
@[simp] theorem wr_openFaults : (wr pg f v s).openFaults = s.openFaults := rfl
@[simp] theorem wr_blockFault : (wr pg f v s).blockFault = s.blockFault := rfl
@[simp] theorem wr_lateCounts : (wr pg f v s).lateCounts = s.lateCounts := rfl
@[simp] theorem wr_nextCommit : (wr pg f v s).nextCommit = s.nextCommit := rfl
@[simp] theorem wr_evtSlots : (wr pg f v s).evtSlots = s.evtSlots := rfl
@[simp] theorem wr_evtLostNow : (wr pg f v s).evtLostNow = s.evtLostNow := rfl
@[simp] theorem wr_flog : (wr pg f v s).flog = s.flog := rfl
@[simp] theorem wr_flogCopied : (wr pg f v s).flogCopied = s.flogCopied := rfl
@[simp] theorem wr_pagePend : (wr pg f v s).pagePend = s.pagePend := rfl
@[simp] theorem wr_vecs : (wr pg f v s).vecs = s.vecs := rfl
@[simp] theorem wr_writeBacks : (wr pg f v s).writeBacks = s.writeBacks := rfl
@[simp] theorem wr_mons : (wr pg f v s).mons = s.mons := rfl
@[simp] theorem wr_monSnap : (wr pg f v s).monSnap = s.monSnap := rfl
@[simp] theorem wr_fresh : (wr pg f v s).fresh = s.fresh := rfl
@[simp] theorem wr_rxSlots : (wr pg f v s).rxSlots = s.rxSlots := rfl
@[simp] theorem wr_txSlots : (wr pg f v s).txSlots = s.txSlots := rfl
@[simp] theorem wr_measLog : (wr pg f v s).measLog = s.measLog := rfl
@[simp] theorem wr_measDue : (wr pg f v s).measDue = s.measDue := rfl
@[simp] theorem wr_imgSlots : (wr pg f v s).imgSlots = s.imgSlots := rfl
@[simp] theorem wr_quoteSnap : (wr pg f v s).quoteSnap = s.quoteSnap := rfl
@[simp] theorem wr_quoteOut : (wr pg f v s).quoteOut = s.quoteOut := rfl
@[simp] theorem wr_sysOut : (wr pg f v s).sysOut = s.sysOut := rfl
@[simp] theorem wr_resumeRec : (wr pg f v s).resumeRec = s.resumeRec := rfl
@[simp] theorem wr_buffers : (wr pg f v s).buffers = s.buffers := rfl
@[simp] theorem wr_freed : (wr pg f v s).freed = s.freed := rfl
@[simp] theorem wr_parkedFree : (wr pg f v s).parkedFree = s.parkedFree := rfl
@[simp] theorem wr_dbeParked : (wr pg f v s).dbeParked = s.dbeParked := rfl
@[simp] theorem wr_dbeSlots : (wr pg f v s).dbeSlots = s.dbeSlots := rfl
@[simp] theorem wr_requests : (wr pg f v s).requests = s.requests := rfl
@[simp] theorem wr_won : (wr pg f v s).won = s.won := rfl
@[simp] theorem wr_slots : (wr pg f v s).slots = s.slots := rfl
@[simp] theorem wr_slotFree : (wr pg f v s).slotFree = s.slotFree := rfl
@[simp] theorem wr_p4Waits : (wr pg f v s).p4Waits = s.p4Waits := rfl
@[simp] theorem wr_refWaits : (wr pg f v s).refWaits = s.refWaits := rfl
@[simp] theorem wr_leafq : (wr pg f v s).leafq = s.leafq := rfl
@[simp] theorem wr_macs : (wr pg f v s).macs = s.macs := rfl
@[simp] theorem wr_cands : (wr pg f v s).cands = s.cands := rfl
@[simp] theorem wr_gaspMsg : (wr pg f v s).gaspMsg = s.gaspMsg := rfl
@[simp] theorem wr_snDraws : (wr pg f v s).snDraws = s.snDraws := rfl
@[simp] theorem wr_treeLines : (wr pg f v s).treeLines = s.treeLines := rfl
@[simp] theorem wr_pllHist : (wr pg f v s).pllHist = s.pllHist := rfl
@[simp] theorem wr_reasm : (wr pg f v s).reasm = s.reasm := rfl
@[simp] theorem wr_allocs : (wr pg f v s).allocs = s.allocs := rfl
@[simp] theorem wr_unboundSeen : (wr pg f v s).unboundSeen = s.unboundSeen := rfl
@[simp] theorem wr_dataKeys : (wr pg f v s).dataKeys = s.dataKeys := rfl
@[simp] theorem wr_nextKeys : (wr pg f v s).nextKeys = s.nextKeys := rfl
@[simp] theorem wr_upPloam : (wr pg f v s).upPloam = s.upPloam := rfl
@[simp] theorem wr_upOmci : (wr pg f v s).upOmci = s.upOmci := rfl
@[simp] theorem wr_lastPloam : (wr pg f v s).lastPloam = s.lastPloam := rfl
@[simp] theorem wr_predicted : (wr pg f v s).predicted = s.predicted := rfl
@[simp] theorem wr_bursts : (wr pg f v s).bursts = s.bursts := rfl
@[simp] theorem wr_upWire : (wr pg f v s).upWire = s.upWire := rfl
@[simp] theorem wr_thIn : (wr pg f v s).thIn = s.thIn := rfl
@[simp] theorem wr_nand : (wr pg f v s).nand = s.nand := rfl
@[simp] theorem wr_chunkData : (wr pg f v s).chunkData = s.chunkData := rfl
@[simp] theorem wr_segCrc : (wr pg f v s).segCrc = s.segCrc := rfl
@[simp] theorem wr_arcWrites : (wr pg f v s).arcWrites = s.arcWrites := rfl
@[simp] theorem wr_detached : (wr pg f v s).detached = s.detached := rfl
@[simp] theorem wr_shrinks : (wr pg f v s).shrinks = s.shrinks := rfl
@[simp] theorem wr_gaps : (wr pg f v s).gaps = s.gaps := rfl
@[simp] theorem wr_dirDirty : (wr pg f v s).dirDirty = s.dirDirty := rfl
@[simp] theorem wr_dirHome : (wr pg f v s).dirHome = s.dirHome := rfl
@[simp] theorem wr_dirHome4 : (wr pg f v s).dirHome4 = s.dirHome4 := rfl
@[simp] theorem wr_dirCmd : (wr pg f v s).dirCmd = s.dirCmd := rfl
@[simp] theorem wr_ringCmd : (wr pg f v s).ringCmd = s.ringCmd := rfl
@[simp] theorem wr_txts : (wr pg f v s).txts = s.txts := rfl
@[simp] theorem wr_caps : (wr pg f v s).caps = s.caps := rfl
@[simp] theorem wr_bufBytes : (wr pg f v s).bufBytes = s.bufBytes := rfl
@[simp] theorem wr_front : (wr pg f v s).front = s.front := rfl
@[simp] theorem wr_ingress : (wr pg f v s).ingress = s.ingress := rfl
@[simp] theorem wr_imgA : (wr pg f v s).imgA = s.imgA := rfl
@[simp] theorem wr_imgB : (wr pg f v s).imgB = s.imgB := rfl
@[simp] theorem wr_cul : (wr pg f v s).cul = s.cul := rfl
@[simp] theorem wr_wire : (wr pg f v s).wire = s.wire := rfl
@[simp] theorem wr_flowCache : (wr pg f v s).flowCache = s.flowCache := rfl
@[simp] theorem wr_flushList : (wr pg f v s).flushList = s.flushList := rfl
@[simp] theorem wr_flowCmd : (wr pg f v s).flowCmd = s.flowCmd := rfl
@[simp] theorem wr_missFilter : (wr pg f v s).missFilter = s.missFilter := rfl
@[simp] theorem wr_work : (wr pg f v s).work = s.work := rfl
@[simp] theorem wr_early : (wr pg f v s).early = s.early := rfl
@[simp] theorem wr_maps : (wr pg f v s).maps = s.maps := rfl
@[simp] theorem wr_roleRx : (wr pg f v s).roleRx = s.roleRx := rfl
@[simp] theorem wr_roleRet : (wr pg f v s).roleRet = s.roleRet := rfl
@[simp] theorem wr_roleHandles : (wr pg f v s).roleHandles = s.roleHandles := rfl
@[simp] theorem wr_msgQueue : (wr pg f v s).msgQueue = s.msgQueue := rfl
@[simp] theorem wr_images : (wr pg f v s).images = s.images := rfl
@[simp] theorem wr_mcores : (wr pg f v s).mcores = s.mcores := rfl
@[simp] theorem wr_imem : (wr pg f v s).imem = s.imem := rfl
@[simp] theorem wr_dmem : (wr pg f v s).dmem = s.dmem := rfl
@[simp] theorem wr_bulk : (wr pg f v s).bulk = s.bulk := rfl
@[simp] theorem wr_ckpts : (wr pg f v s).ckpts = s.ckpts := rfl
@[simp] theorem wr_portWrites : (wr pg f v s).portWrites = s.portWrites := rfl
@[simp] theorem wr_roleDue : (wr pg f v s).roleDue = s.roleDue := rfl
@[simp] theorem wr_tribs : (wr pg f v s).tribs = s.tribs := rfl
@[simp] theorem wr_perfLog : (wr pg f v s).perfLog = s.perfLog := rfl
@[simp] theorem wr_framerBad : (wr pg f v s).framerBad = s.framerBad := rfl
@[simp] theorem wr_almTimes : (wr pg f v s).almTimes = s.almTimes := rfl
@[simp] theorem wr_deferredLost : (wr pg f v s).deferredLost = s.deferredLost := rfl
@[simp] theorem wr_optOut : (wr pg f v s).optOut = s.optOut := rfl

/-! ## Staging a write -/

@[simp] theorem wrStaged_pending : (wrStaged owner pg f v s).pending = s.pending := rfl
@[simp] theorem wrStaged_clock : (wrStaged owner pg f v s).clock = s.clock := rfl
@[simp] theorem wrStaged_otp : (wrStaged owner pg f v s).otp = s.otp := rfl
@[simp] theorem wrStaged_commitReq : (wrStaged owner pg f v s).commitReq = s.commitReq := rfl
@[simp] theorem wrStaged_wordResets : (wrStaged owner pg f v s).wordResets = s.wordResets := rfl
@[simp] theorem wrStaged_softResets : (wrStaged owner pg f v s).softResets = s.softResets := rfl
@[simp] theorem wrStaged_latches : (wrStaged owner pg f v s).latches = s.latches := rfl
@[simp] theorem wrStaged_hostRead : (wrStaged owner pg f v s).hostRead = s.hostRead := rfl
@[simp] theorem wrStaged_firsts : (wrStaged owner pg f v s).firsts = s.firsts := rfl
@[simp] theorem wrStaged_evq : (wrStaged owner pg f v s).evq = s.evq := rfl
@[simp] theorem wrStaged_deferred : (wrStaged owner pg f v s).deferred = s.deferred := rfl
@[simp] theorem wrStaged_openFaults : (wrStaged owner pg f v s).openFaults = s.openFaults := rfl
@[simp] theorem wrStaged_blockFault : (wrStaged owner pg f v s).blockFault = s.blockFault := rfl
@[simp] theorem wrStaged_lateCounts : (wrStaged owner pg f v s).lateCounts = s.lateCounts := rfl
@[simp] theorem wrStaged_nextCommit : (wrStaged owner pg f v s).nextCommit = s.nextCommit := rfl
@[simp] theorem wrStaged_evtSlots : (wrStaged owner pg f v s).evtSlots = s.evtSlots := rfl
@[simp] theorem wrStaged_evtLostNow : (wrStaged owner pg f v s).evtLostNow = s.evtLostNow := rfl
@[simp] theorem wrStaged_flog : (wrStaged owner pg f v s).flog = s.flog := rfl
@[simp] theorem wrStaged_flogCopied : (wrStaged owner pg f v s).flogCopied = s.flogCopied := rfl
@[simp] theorem wrStaged_pagePend : (wrStaged owner pg f v s).pagePend = s.pagePend := rfl
@[simp] theorem wrStaged_vecs : (wrStaged owner pg f v s).vecs = s.vecs := rfl
@[simp] theorem wrStaged_writeBacks : (wrStaged owner pg f v s).writeBacks = s.writeBacks := rfl
@[simp] theorem wrStaged_mons : (wrStaged owner pg f v s).mons = s.mons := rfl
@[simp] theorem wrStaged_monSnap : (wrStaged owner pg f v s).monSnap = s.monSnap := rfl
@[simp] theorem wrStaged_fresh : (wrStaged owner pg f v s).fresh = s.fresh := rfl
@[simp] theorem wrStaged_rxSlots : (wrStaged owner pg f v s).rxSlots = s.rxSlots := rfl
@[simp] theorem wrStaged_txSlots : (wrStaged owner pg f v s).txSlots = s.txSlots := rfl
@[simp] theorem wrStaged_measLog : (wrStaged owner pg f v s).measLog = s.measLog := rfl
@[simp] theorem wrStaged_measDue : (wrStaged owner pg f v s).measDue = s.measDue := rfl
@[simp] theorem wrStaged_imgSlots : (wrStaged owner pg f v s).imgSlots = s.imgSlots := rfl
@[simp] theorem wrStaged_quoteSnap : (wrStaged owner pg f v s).quoteSnap = s.quoteSnap := rfl
@[simp] theorem wrStaged_quoteOut : (wrStaged owner pg f v s).quoteOut = s.quoteOut := rfl
@[simp] theorem wrStaged_sysOut : (wrStaged owner pg f v s).sysOut = s.sysOut := rfl
@[simp] theorem wrStaged_resumeRec : (wrStaged owner pg f v s).resumeRec = s.resumeRec := rfl
@[simp] theorem wrStaged_buffers : (wrStaged owner pg f v s).buffers = s.buffers := rfl
@[simp] theorem wrStaged_freed : (wrStaged owner pg f v s).freed = s.freed := rfl
@[simp] theorem wrStaged_parkedFree : (wrStaged owner pg f v s).parkedFree = s.parkedFree := rfl
@[simp] theorem wrStaged_dbeParked : (wrStaged owner pg f v s).dbeParked = s.dbeParked := rfl
@[simp] theorem wrStaged_dbeSlots : (wrStaged owner pg f v s).dbeSlots = s.dbeSlots := rfl
@[simp] theorem wrStaged_requests : (wrStaged owner pg f v s).requests = s.requests := rfl
@[simp] theorem wrStaged_won : (wrStaged owner pg f v s).won = s.won := rfl
@[simp] theorem wrStaged_slots : (wrStaged owner pg f v s).slots = s.slots := rfl
@[simp] theorem wrStaged_slotFree : (wrStaged owner pg f v s).slotFree = s.slotFree := rfl
@[simp] theorem wrStaged_p4Waits : (wrStaged owner pg f v s).p4Waits = s.p4Waits := rfl
@[simp] theorem wrStaged_refWaits : (wrStaged owner pg f v s).refWaits = s.refWaits := rfl
@[simp] theorem wrStaged_leafq : (wrStaged owner pg f v s).leafq = s.leafq := rfl
@[simp] theorem wrStaged_macs : (wrStaged owner pg f v s).macs = s.macs := rfl
@[simp] theorem wrStaged_cands : (wrStaged owner pg f v s).cands = s.cands := rfl
@[simp] theorem wrStaged_gaspMsg : (wrStaged owner pg f v s).gaspMsg = s.gaspMsg := rfl
@[simp] theorem wrStaged_snDraws : (wrStaged owner pg f v s).snDraws = s.snDraws := rfl
@[simp] theorem wrStaged_treeLines : (wrStaged owner pg f v s).treeLines = s.treeLines := rfl
@[simp] theorem wrStaged_pllHist : (wrStaged owner pg f v s).pllHist = s.pllHist := rfl
@[simp] theorem wrStaged_reasm : (wrStaged owner pg f v s).reasm = s.reasm := rfl
@[simp] theorem wrStaged_allocs : (wrStaged owner pg f v s).allocs = s.allocs := rfl
@[simp] theorem wrStaged_unboundSeen : (wrStaged owner pg f v s).unboundSeen = s.unboundSeen := rfl
@[simp] theorem wrStaged_dataKeys : (wrStaged owner pg f v s).dataKeys = s.dataKeys := rfl
@[simp] theorem wrStaged_nextKeys : (wrStaged owner pg f v s).nextKeys = s.nextKeys := rfl
@[simp] theorem wrStaged_upPloam : (wrStaged owner pg f v s).upPloam = s.upPloam := rfl
@[simp] theorem wrStaged_upOmci : (wrStaged owner pg f v s).upOmci = s.upOmci := rfl
@[simp] theorem wrStaged_lastPloam : (wrStaged owner pg f v s).lastPloam = s.lastPloam := rfl
@[simp] theorem wrStaged_predicted : (wrStaged owner pg f v s).predicted = s.predicted := rfl
@[simp] theorem wrStaged_bursts : (wrStaged owner pg f v s).bursts = s.bursts := rfl
@[simp] theorem wrStaged_upWire : (wrStaged owner pg f v s).upWire = s.upWire := rfl
@[simp] theorem wrStaged_thIn : (wrStaged owner pg f v s).thIn = s.thIn := rfl
@[simp] theorem wrStaged_nand : (wrStaged owner pg f v s).nand = s.nand := rfl
@[simp] theorem wrStaged_chunkData : (wrStaged owner pg f v s).chunkData = s.chunkData := rfl
@[simp] theorem wrStaged_segCrc : (wrStaged owner pg f v s).segCrc = s.segCrc := rfl
@[simp] theorem wrStaged_arcWrites : (wrStaged owner pg f v s).arcWrites = s.arcWrites := rfl
@[simp] theorem wrStaged_detached : (wrStaged owner pg f v s).detached = s.detached := rfl
@[simp] theorem wrStaged_shrinks : (wrStaged owner pg f v s).shrinks = s.shrinks := rfl
@[simp] theorem wrStaged_gaps : (wrStaged owner pg f v s).gaps = s.gaps := rfl
@[simp] theorem wrStaged_dirDirty : (wrStaged owner pg f v s).dirDirty = s.dirDirty := rfl
@[simp] theorem wrStaged_dirHome : (wrStaged owner pg f v s).dirHome = s.dirHome := rfl
@[simp] theorem wrStaged_dirHome4 : (wrStaged owner pg f v s).dirHome4 = s.dirHome4 := rfl
@[simp] theorem wrStaged_dirCmd : (wrStaged owner pg f v s).dirCmd = s.dirCmd := rfl
@[simp] theorem wrStaged_ringCmd : (wrStaged owner pg f v s).ringCmd = s.ringCmd := rfl
@[simp] theorem wrStaged_txts : (wrStaged owner pg f v s).txts = s.txts := rfl
@[simp] theorem wrStaged_caps : (wrStaged owner pg f v s).caps = s.caps := rfl
@[simp] theorem wrStaged_bufBytes : (wrStaged owner pg f v s).bufBytes = s.bufBytes := rfl
@[simp] theorem wrStaged_front : (wrStaged owner pg f v s).front = s.front := rfl
@[simp] theorem wrStaged_ingress : (wrStaged owner pg f v s).ingress = s.ingress := rfl
@[simp] theorem wrStaged_imgA : (wrStaged owner pg f v s).imgA = s.imgA := rfl
@[simp] theorem wrStaged_imgB : (wrStaged owner pg f v s).imgB = s.imgB := rfl
@[simp] theorem wrStaged_cul : (wrStaged owner pg f v s).cul = s.cul := rfl
@[simp] theorem wrStaged_wire : (wrStaged owner pg f v s).wire = s.wire := rfl
@[simp] theorem wrStaged_flowCache : (wrStaged owner pg f v s).flowCache = s.flowCache := rfl
@[simp] theorem wrStaged_flushList : (wrStaged owner pg f v s).flushList = s.flushList := rfl
@[simp] theorem wrStaged_flowCmd : (wrStaged owner pg f v s).flowCmd = s.flowCmd := rfl
@[simp] theorem wrStaged_missFilter : (wrStaged owner pg f v s).missFilter = s.missFilter := rfl
@[simp] theorem wrStaged_work : (wrStaged owner pg f v s).work = s.work := rfl
@[simp] theorem wrStaged_early : (wrStaged owner pg f v s).early = s.early := rfl
@[simp] theorem wrStaged_maps : (wrStaged owner pg f v s).maps = s.maps := rfl
@[simp] theorem wrStaged_roleRx : (wrStaged owner pg f v s).roleRx = s.roleRx := rfl
@[simp] theorem wrStaged_roleRet : (wrStaged owner pg f v s).roleRet = s.roleRet := rfl
@[simp] theorem wrStaged_roleHandles : (wrStaged owner pg f v s).roleHandles = s.roleHandles := rfl
@[simp] theorem wrStaged_msgQueue : (wrStaged owner pg f v s).msgQueue = s.msgQueue := rfl
@[simp] theorem wrStaged_images : (wrStaged owner pg f v s).images = s.images := rfl
@[simp] theorem wrStaged_mcores : (wrStaged owner pg f v s).mcores = s.mcores := rfl
@[simp] theorem wrStaged_imem : (wrStaged owner pg f v s).imem = s.imem := rfl
@[simp] theorem wrStaged_dmem : (wrStaged owner pg f v s).dmem = s.dmem := rfl
@[simp] theorem wrStaged_bulk : (wrStaged owner pg f v s).bulk = s.bulk := rfl
@[simp] theorem wrStaged_ckpts : (wrStaged owner pg f v s).ckpts = s.ckpts := rfl
@[simp] theorem wrStaged_portWrites : (wrStaged owner pg f v s).portWrites = s.portWrites := rfl
@[simp] theorem wrStaged_roleDue : (wrStaged owner pg f v s).roleDue = s.roleDue := rfl
@[simp] theorem wrStaged_tribs : (wrStaged owner pg f v s).tribs = s.tribs := rfl
@[simp] theorem wrStaged_perfLog : (wrStaged owner pg f v s).perfLog = s.perfLog := rfl
@[simp] theorem wrStaged_framerBad : (wrStaged owner pg f v s).framerBad = s.framerBad := rfl
@[simp] theorem wrStaged_almTimes : (wrStaged owner pg f v s).almTimes = s.almTimes := rfl
@[simp] theorem wrStaged_deferredLost : (wrStaged owner pg f v s).deferredLost = s.deferredLost := rfl
@[simp] theorem wrStaged_optOut : (wrStaged owner pg f v s).optOut = s.optOut := rfl

/-! ## Queueing an event -/

@[simp] theorem pushEv_pending : (pushEv e s).pending = s.pending := by unfold pushEv; split <;> first | rfl | (split <;> rfl)
@[simp] theorem pushEv_clock : (pushEv e s).clock = s.clock := by unfold pushEv; split <;> first | rfl | (split <;> rfl)
@[simp] theorem pushEv_otp : (pushEv e s).otp = s.otp := by unfold pushEv; split <;> first | rfl | (split <;> rfl)
@[simp] theorem pushEv_regs : (pushEv e s).regs = s.regs := by unfold pushEv; split <;> first | rfl | (split <;> rfl)
@[simp] theorem pushEv_staged : (pushEv e s).staged = s.staged := by unfold pushEv; split <;> first | rfl | (split <;> rfl)
@[simp] theorem pushEv_commitReq : (pushEv e s).commitReq = s.commitReq := by unfold pushEv; split <;> first | rfl | (split <;> rfl)
@[simp] theorem pushEv_wordResets : (pushEv e s).wordResets = s.wordResets := by unfold pushEv; split <;> first | rfl | (split <;> rfl)
@[simp] theorem pushEv_softResets : (pushEv e s).softResets = s.softResets := by unfold pushEv; split <;> first | rfl | (split <;> rfl)
@[simp] theorem pushEv_latches : (pushEv e s).latches = s.latches := by unfold pushEv; split <;> first | rfl | (split <;> rfl)
@[simp] theorem pushEv_hostRead : (pushEv e s).hostRead = s.hostRead := by unfold pushEv; split <;> first | rfl | (split <;> rfl)
@[simp] theorem pushEv_firsts : (pushEv e s).firsts = s.firsts := by unfold pushEv; split <;> first | rfl | (split <;> rfl)
@[simp] theorem pushEv_openFaults : (pushEv e s).openFaults = s.openFaults := by unfold pushEv; split <;> first | rfl | (split <;> rfl)
@[simp] theorem pushEv_blockFault : (pushEv e s).blockFault = s.blockFault := by unfold pushEv; split <;> first | rfl | (split <;> rfl)
@[simp] theorem pushEv_lateCounts : (pushEv e s).lateCounts = s.lateCounts := by unfold pushEv; split <;> first | rfl | (split <;> rfl)
@[simp] theorem pushEv_nextCommit : (pushEv e s).nextCommit = s.nextCommit := by unfold pushEv; split <;> first | rfl | (split <;> rfl)
@[simp] theorem pushEv_evtSlots : (pushEv e s).evtSlots = s.evtSlots := by unfold pushEv; split <;> first | rfl | (split <;> rfl)
@[simp] theorem pushEv_evtLostNow : (pushEv e s).evtLostNow = s.evtLostNow := by unfold pushEv; split <;> first | rfl | (split <;> rfl)
@[simp] theorem pushEv_flog : (pushEv e s).flog = s.flog := by unfold pushEv; split <;> first | rfl | (split <;> rfl)
@[simp] theorem pushEv_flogCopied : (pushEv e s).flogCopied = s.flogCopied := by unfold pushEv; split <;> first | rfl | (split <;> rfl)
@[simp] theorem pushEv_pagePend : (pushEv e s).pagePend = s.pagePend := by unfold pushEv; split <;> first | rfl | (split <;> rfl)
@[simp] theorem pushEv_vecs : (pushEv e s).vecs = s.vecs := by unfold pushEv; split <;> first | rfl | (split <;> rfl)
@[simp] theorem pushEv_writeBacks : (pushEv e s).writeBacks = s.writeBacks := by unfold pushEv; split <;> first | rfl | (split <;> rfl)
@[simp] theorem pushEv_mons : (pushEv e s).mons = s.mons := by unfold pushEv; split <;> first | rfl | (split <;> rfl)
@[simp] theorem pushEv_monSnap : (pushEv e s).monSnap = s.monSnap := by unfold pushEv; split <;> first | rfl | (split <;> rfl)
@[simp] theorem pushEv_rxSlots : (pushEv e s).rxSlots = s.rxSlots := by unfold pushEv; split <;> first | rfl | (split <;> rfl)
@[simp] theorem pushEv_txSlots : (pushEv e s).txSlots = s.txSlots := by unfold pushEv; split <;> first | rfl | (split <;> rfl)
@[simp] theorem pushEv_measLog : (pushEv e s).measLog = s.measLog := by unfold pushEv; split <;> first | rfl | (split <;> rfl)
@[simp] theorem pushEv_measDue : (pushEv e s).measDue = s.measDue := by unfold pushEv; split <;> first | rfl | (split <;> rfl)
@[simp] theorem pushEv_imgSlots : (pushEv e s).imgSlots = s.imgSlots := by unfold pushEv; split <;> first | rfl | (split <;> rfl)
@[simp] theorem pushEv_quoteSnap : (pushEv e s).quoteSnap = s.quoteSnap := by unfold pushEv; split <;> first | rfl | (split <;> rfl)
@[simp] theorem pushEv_quoteOut : (pushEv e s).quoteOut = s.quoteOut := by unfold pushEv; split <;> first | rfl | (split <;> rfl)
@[simp] theorem pushEv_sysOut : (pushEv e s).sysOut = s.sysOut := by unfold pushEv; split <;> first | rfl | (split <;> rfl)
@[simp] theorem pushEv_resumeRec : (pushEv e s).resumeRec = s.resumeRec := by unfold pushEv; split <;> first | rfl | (split <;> rfl)
@[simp] theorem pushEv_buffers : (pushEv e s).buffers = s.buffers := by unfold pushEv; split <;> first | rfl | (split <;> rfl)
@[simp] theorem pushEv_freed : (pushEv e s).freed = s.freed := by unfold pushEv; split <;> first | rfl | (split <;> rfl)
@[simp] theorem pushEv_parkedFree : (pushEv e s).parkedFree = s.parkedFree := by unfold pushEv; split <;> first | rfl | (split <;> rfl)
@[simp] theorem pushEv_dbeParked : (pushEv e s).dbeParked = s.dbeParked := by unfold pushEv; split <;> first | rfl | (split <;> rfl)
@[simp] theorem pushEv_dbeSlots : (pushEv e s).dbeSlots = s.dbeSlots := by unfold pushEv; split <;> first | rfl | (split <;> rfl)
@[simp] theorem pushEv_requests : (pushEv e s).requests = s.requests := by unfold pushEv; split <;> first | rfl | (split <;> rfl)
@[simp] theorem pushEv_won : (pushEv e s).won = s.won := by unfold pushEv; split <;> first | rfl | (split <;> rfl)
@[simp] theorem pushEv_slots : (pushEv e s).slots = s.slots := by unfold pushEv; split <;> first | rfl | (split <;> rfl)
@[simp] theorem pushEv_slotFree : (pushEv e s).slotFree = s.slotFree := by unfold pushEv; split <;> first | rfl | (split <;> rfl)
@[simp] theorem pushEv_p4Waits : (pushEv e s).p4Waits = s.p4Waits := by unfold pushEv; split <;> first | rfl | (split <;> rfl)
@[simp] theorem pushEv_refWaits : (pushEv e s).refWaits = s.refWaits := by unfold pushEv; split <;> first | rfl | (split <;> rfl)
@[simp] theorem pushEv_leafq : (pushEv e s).leafq = s.leafq := by unfold pushEv; split <;> first | rfl | (split <;> rfl)
@[simp] theorem pushEv_macs : (pushEv e s).macs = s.macs := by unfold pushEv; split <;> first | rfl | (split <;> rfl)
@[simp] theorem pushEv_pllHist : (pushEv e s).pllHist = s.pllHist := by unfold pushEv; split <;> first | rfl | (split <;> rfl)
@[simp] theorem pushEv_treeLines : (pushEv e s).treeLines = s.treeLines := by unfold pushEv; split <;> first | rfl | (split <;> rfl)
@[simp] theorem pushEv_cands : (pushEv e s).cands = s.cands := by unfold pushEv; split <;> first | rfl | (split <;> rfl)
@[simp] theorem pushEv_gaspMsg : (pushEv e s).gaspMsg = s.gaspMsg := by unfold pushEv; split <;> first | rfl | (split <;> rfl)
@[simp] theorem pushEv_snDraws : (pushEv e s).snDraws = s.snDraws := by unfold pushEv; split <;> first | rfl | (split <;> rfl)
@[simp] theorem pushEv_reasm : (pushEv e s).reasm = s.reasm := by unfold pushEv; split <;> first | rfl | (split <;> rfl)
@[simp] theorem pushEv_allocs : (pushEv e s).allocs = s.allocs := by unfold pushEv; split <;> first | rfl | (split <;> rfl)
@[simp] theorem pushEv_unboundSeen : (pushEv e s).unboundSeen = s.unboundSeen := by unfold pushEv; split <;> first | rfl | (split <;> rfl)
@[simp] theorem pushEv_dataKeys : (pushEv e s).dataKeys = s.dataKeys := by unfold pushEv; split <;> first | rfl | (split <;> rfl)
@[simp] theorem pushEv_nextKeys : (pushEv e s).nextKeys = s.nextKeys := by unfold pushEv; split <;> first | rfl | (split <;> rfl)
@[simp] theorem pushEv_upPloam : (pushEv e s).upPloam = s.upPloam := by unfold pushEv; split <;> first | rfl | (split <;> rfl)
@[simp] theorem pushEv_upOmci : (pushEv e s).upOmci = s.upOmci := by unfold pushEv; split <;> first | rfl | (split <;> rfl)
@[simp] theorem pushEv_lastPloam : (pushEv e s).lastPloam = s.lastPloam := by unfold pushEv; split <;> first | rfl | (split <;> rfl)
@[simp] theorem pushEv_predicted : (pushEv e s).predicted = s.predicted := by unfold pushEv; split <;> first | rfl | (split <;> rfl)
@[simp] theorem pushEv_bursts : (pushEv e s).bursts = s.bursts := by unfold pushEv; split <;> first | rfl | (split <;> rfl)
@[simp] theorem pushEv_upWire : (pushEv e s).upWire = s.upWire := by unfold pushEv; split <;> first | rfl | (split <;> rfl)
@[simp] theorem pushEv_thIn : (pushEv e s).thIn = s.thIn := by unfold pushEv; split <;> first | rfl | (split <;> rfl)
@[simp] theorem pushEv_nand : (pushEv e s).nand = s.nand := by unfold pushEv; split <;> first | rfl | (split <;> rfl)
@[simp] theorem pushEv_chunkData : (pushEv e s).chunkData = s.chunkData := by unfold pushEv; split <;> first | rfl | (split <;> rfl)
@[simp] theorem pushEv_segCrc : (pushEv e s).segCrc = s.segCrc := by unfold pushEv; split <;> first | rfl | (split <;> rfl)
@[simp] theorem pushEv_arcWrites : (pushEv e s).arcWrites = s.arcWrites := by unfold pushEv; split <;> first | rfl | (split <;> rfl)
@[simp] theorem pushEv_detached : (pushEv e s).detached = s.detached := by unfold pushEv; split <;> first | rfl | (split <;> rfl)
@[simp] theorem pushEv_shrinks : (pushEv e s).shrinks = s.shrinks := by unfold pushEv; split <;> first | rfl | (split <;> rfl)
@[simp] theorem pushEv_gaps : (pushEv e s).gaps = s.gaps := by unfold pushEv; split <;> first | rfl | (split <;> rfl)
@[simp] theorem pushEv_dirDirty : (pushEv e s).dirDirty = s.dirDirty := by unfold pushEv; split <;> first | rfl | (split <;> rfl)
@[simp] theorem pushEv_dirHome : (pushEv e s).dirHome = s.dirHome := by unfold pushEv; split <;> first | rfl | (split <;> rfl)
@[simp] theorem pushEv_dirHome4 : (pushEv e s).dirHome4 = s.dirHome4 := by unfold pushEv; split <;> first | rfl | (split <;> rfl)
@[simp] theorem pushEv_dirCmd : (pushEv e s).dirCmd = s.dirCmd := by unfold pushEv; split <;> first | rfl | (split <;> rfl)
@[simp] theorem pushEv_ringCmd : (pushEv e s).ringCmd = s.ringCmd := by unfold pushEv; split <;> first | rfl | (split <;> rfl)
@[simp] theorem pushEv_txts : (pushEv e s).txts = s.txts := by unfold pushEv; split <;> first | rfl | (split <;> rfl)
@[simp] theorem pushEv_caps : (pushEv e s).caps = s.caps := by unfold pushEv; split <;> first | rfl | (split <;> rfl)
@[simp] theorem pushEv_bufBytes : (pushEv e s).bufBytes = s.bufBytes := by unfold pushEv; split <;> first | rfl | (split <;> rfl)
@[simp] theorem pushEv_front : (pushEv e s).front = s.front := by unfold pushEv; split <;> first | rfl | (split <;> rfl)
@[simp] theorem pushEv_ingress : (pushEv e s).ingress = s.ingress := by unfold pushEv; split <;> first | rfl | (split <;> rfl)
@[simp] theorem pushEv_imgA : (pushEv e s).imgA = s.imgA := by unfold pushEv; split <;> first | rfl | (split <;> rfl)
@[simp] theorem pushEv_imgB : (pushEv e s).imgB = s.imgB := by unfold pushEv; split <;> first | rfl | (split <;> rfl)
@[simp] theorem pushEv_cul : (pushEv e s).cul = s.cul := by unfold pushEv; split <;> first | rfl | (split <;> rfl)
@[simp] theorem pushEv_wire : (pushEv e s).wire = s.wire := by unfold pushEv; split <;> first | rfl | (split <;> rfl)
@[simp] theorem pushEv_flowCache : (pushEv e s).flowCache = s.flowCache := by unfold pushEv; split <;> first | rfl | (split <;> rfl)
@[simp] theorem pushEv_flushList : (pushEv e s).flushList = s.flushList := by unfold pushEv; split <;> first | rfl | (split <;> rfl)
@[simp] theorem pushEv_flowCmd : (pushEv e s).flowCmd = s.flowCmd := by unfold pushEv; split <;> first | rfl | (split <;> rfl)
@[simp] theorem pushEv_missFilter : (pushEv e s).missFilter = s.missFilter := by unfold pushEv; split <;> first | rfl | (split <;> rfl)
@[simp] theorem pushEv_work : (pushEv e s).work = s.work := by unfold pushEv; split <;> first | rfl | (split <;> rfl)
@[simp] theorem pushEv_early : (pushEv e s).early = s.early := by unfold pushEv; split <;> first | rfl | (split <;> rfl)
@[simp] theorem pushEv_maps : (pushEv e s).maps = s.maps := by unfold pushEv; split <;> first | rfl | (split <;> rfl)
@[simp] theorem pushEv_roleRx : (pushEv e s).roleRx = s.roleRx := by unfold pushEv; split <;> first | rfl | (split <;> rfl)
@[simp] theorem pushEv_roleRet : (pushEv e s).roleRet = s.roleRet := by unfold pushEv; split <;> first | rfl | (split <;> rfl)
@[simp] theorem pushEv_roleHandles : (pushEv e s).roleHandles = s.roleHandles := by unfold pushEv; split <;> first | rfl | (split <;> rfl)
@[simp] theorem pushEv_msgQueue : (pushEv e s).msgQueue = s.msgQueue := by unfold pushEv; split <;> first | rfl | (split <;> rfl)
@[simp] theorem pushEv_images : (pushEv e s).images = s.images := by unfold pushEv; split <;> first | rfl | (split <;> rfl)
@[simp] theorem pushEv_mcores : (pushEv e s).mcores = s.mcores := by unfold pushEv; split <;> first | rfl | (split <;> rfl)
@[simp] theorem pushEv_imem : (pushEv e s).imem = s.imem := by unfold pushEv; split <;> first | rfl | (split <;> rfl)
@[simp] theorem pushEv_dmem : (pushEv e s).dmem = s.dmem := by unfold pushEv; split <;> first | rfl | (split <;> rfl)
@[simp] theorem pushEv_bulk : (pushEv e s).bulk = s.bulk := by unfold pushEv; split <;> first | rfl | (split <;> rfl)
@[simp] theorem pushEv_ckpts : (pushEv e s).ckpts = s.ckpts := by unfold pushEv; split <;> first | rfl | (split <;> rfl)
@[simp] theorem pushEv_portWrites : (pushEv e s).portWrites = s.portWrites := by unfold pushEv; split <;> first | rfl | (split <;> rfl)
@[simp] theorem pushEv_roleDue : (pushEv e s).roleDue = s.roleDue := by unfold pushEv; split <;> first | rfl | (split <;> rfl)
@[simp] theorem pushEv_tribs : (pushEv e s).tribs = s.tribs := by unfold pushEv; split <;> first | rfl | (split <;> rfl)
@[simp] theorem pushEv_perfLog : (pushEv e s).perfLog = s.perfLog := by unfold pushEv; split <;> first | rfl | (split <;> rfl)
@[simp] theorem pushEv_framerBad : (pushEv e s).framerBad = s.framerBad := by unfold pushEv; split <;> first | rfl | (split <;> rfl)
@[simp] theorem pushEv_almTimes : (pushEv e s).almTimes = s.almTimes := by unfold pushEv; split <;> first | rfl | (split <;> rfl)
@[simp] theorem pushEv_optOut : (pushEv e s).optOut = s.optOut := by unfold pushEv; split <;> first | rfl | (split <;> rfl)

end Sys2Proof.Machine
end

