-- ==== Sys2Proof/Laws/Store.lean ====
section
/-! SUPPORT. The laws of the sparse maps: what a read answers after a write, and that every operation keeps the canonical form. -/

namespace Sys2Proof

variable {α : Type}

theorem Map.get_insertKey_same (d : α) (k : Nat) (v : α) (m : Map α) (h : ∀ p ∈ m, p.1 ≠ k) : Map.get d (Map.insertKey k v m) k = v := by
  induction m with
  | nil => simp [Map.insertKey, Map.get]
  | cons p r ih =>
    obtain ⟨j, w⟩ := p
    have hj : j ≠ k := h (j, w) (by simp)
    by_cases hk : k < j
    · simp [Map.insertKey, hk, Map.get]
    · simp [Map.insertKey, hk, Map.get, hj, ih (fun q hq => h q (by simp [hq]))]

theorem Map.get_insertKey_other (d : α) {k j : Nat} (v : α) (m : Map α) (h : j ≠ k) : Map.get d (Map.insertKey k v m) j = Map.get d m j := by
  induction m with
  | nil => simp [Map.insertKey, Map.get, Ne.symm h]
  | cons p r ih =>
    obtain ⟨i, w⟩ := p
    by_cases hk : k < i
    · simp [Map.insertKey, hk, Map.get, Ne.symm h]
    · by_cases hi : i = j
      · simp only [Map.insertKey, if_neg hk, Map.get, if_pos hi]
      · simp only [Map.insertKey, hk, if_false, Map.get, hi, ih]

theorem Map.get_erase_same (d : α) (m : Map α) (k : Nat) : Map.get d (Map.erase m k) k = d := by
  induction m with
  | nil => rfl
  | cons p r ih =>
    obtain ⟨j, w⟩ := p
    by_cases hj : j = k
    · simpa [Map.erase, hj] using ih
    · simpa [Map.erase, hj, Map.get] using ih

theorem Map.get_erase_other (d : α) (m : Map α) {k j : Nat} (h : j ≠ k) : Map.get d (Map.erase m k) j = Map.get d m j := by
  induction m with
  | nil => rfl
  | cons p r ih =>
    obtain ⟨i, w⟩ := p
    by_cases hi : i = k
    · subst hi; simpa [Map.erase, Map.get, Ne.symm h] using ih
    · by_cases hij : i = j
      · subst hij; simp [Map.erase, Map.get, h]
      · simpa [Map.erase, hi, Map.get, hij] using ih

/-- A read of the key just written answers what was written. -/
theorem Map.get_put_same [DecidableEq α] (d : α) (m : Map α) (k : Nat) (v : α) : Map.get d (Map.put d m k v) k = v := by
  unfold Map.put
  split
  · rename_i h; rw [Map.get_erase_same, h]
  · exact Map.get_insertKey_same d k v _ (by intro p hp; simpa [Map.erase] using (List.mem_filter.mp hp).2)

/-- A write leaves every other key alone. -/
theorem Map.get_put_other [DecidableEq α] (d c : α) (m : Map α) {k j : Nat} (v : α) (h : j ≠ k) : Map.get d (Map.put c m k v) j = Map.get d m j := by
  unfold Map.put
  split
  · exact Map.get_erase_other d m h
  · rw [Map.get_insertKey_other d v _ h, Map.get_erase_other d m h]

/-- Nothing listed reads as the default. -/
@[simp] theorem Map.get_nil (d : α) (k : Nat) : Map.get d ([] : Map α) k = d := rfl

theorem Map.mem_insertKey {k : Nat} {v : α} {m : Map α} {p : Nat × α} : p ∈ Map.insertKey k v m ↔ p = (k, v) ∨ p ∈ m := by
  induction m with
  | nil => simp [Map.insertKey]
  | cons q r ih =>
    obtain ⟨j, w⟩ := q
    by_cases hk : k < j
    · simp [Map.insertKey, hk]
    · simp only [Map.insertKey, hk, if_false, List.mem_cons, ih]; exact or_left_comm

theorem Map.insertKey_rising {k : Nat} {v : α} {m : Map α} (hm : m.Pairwise (fun p q => p.1 < q.1)) (hk : ∀ p ∈ m, p.1 ≠ k) :
    (Map.insertKey k v m).Pairwise (fun p q => p.1 < q.1) := by
  induction m with
  | nil => simp [Map.insertKey]
  | cons p r ih =>
    obtain ⟨j, w⟩ := p
    have hr := List.pairwise_cons.mp hm
    by_cases h : k < j
    · simp only [Map.insertKey, h, if_true]
      refine List.pairwise_cons.mpr ⟨?_, hm⟩
      intro q hq
      rcases List.mem_cons.mp hq with rfl | hq
      · exact h
      · exact Nat.lt_trans h (hr.1 q hq)
    · simp only [Map.insertKey, h, if_false]
      refine List.pairwise_cons.mpr ⟨?_, ih hr.2 (fun q hq => hk q (by simp [hq]))⟩
      intro q hq
      rcases Map.mem_insertKey.mp hq with rfl | hq
      · have := hk (j, w) (by simp); simp only at this ⊢; omega
      · exact hr.1 q hq

theorem Map.wf_iff [DecidableEq α] {d : α} {m : Map α} :
    Map.wf d m = true ↔ m.Pairwise (fun p q => p.1 < q.1) ∧ ∀ p ∈ m, p.2 ≠ d := by
  simp [Map.wf, List.all_eq_true]

/-- Nothing listed is the canonical form of nothing. -/
@[simp] theorem Map.wf_nil [DecidableEq α] (d : α) : Map.wf d ([] : Map α) = true := by simp [Map.wf]

theorem Map.wf_filter [DecidableEq α] {d : α} {m : Map α} (f : Nat × α → Bool) (h : Map.wf d m = true) : Map.wf d (m.filter f) = true := by
  rw [Map.wf_iff] at h ⊢
  exact ⟨h.1.filter _, fun p hp => h.2 p (List.mem_filter.mp hp).1⟩

/-- Removing a key keeps the canonical form. -/
theorem Map.wf_erase [DecidableEq α] {d : α} {m : Map α} (k : Nat) (h : Map.wf d m = true) : Map.wf d (Map.erase m k) = true := Map.wf_filter _ h

/-- Writing a key keeps the canonical form. -/
theorem Map.wf_put [DecidableEq α] {d : α} {m : Map α} (k : Nat) (v : α) (h : Map.wf d m = true) : Map.wf d (Map.put d m k v) = true := by
  have he := Map.wf_erase k h
  unfold Map.put
  split
  · exact he
  · rename_i hv
    rw [Map.wf_iff] at he ⊢
    refine ⟨Map.insertKey_rising he.1 (fun p hp => by simpa [Map.erase] using (List.mem_filter.mp hp).2), ?_⟩
    intro p hp
    rcases Map.mem_insertKey.mp hp with rfl | hp
    · exact hv
    · exact he.2 p hp

end Sys2Proof
end

