-- ==== Sys2Proof/Laws/Ops.lean ====
section
/-! SUPPORT. What the named operations over the state do: register reads after writes, events, faults, and the frames of each. -/

namespace Sys2Proof.Machine

variable {s t : State} {pg q b loc tag : Nat} {f g : Field} {v n : Nat} {d : List Nat} {masked : Bool} {e : EvRec}

/-! ## Settling a command -/

/-- A settled command answers its effect, with the clock, the queue and the fuses as before it. -/
theorem settle_eq (s t : State) :
    settle s t = .next { t with clock := s.clock, pending := s.pending, otp := s.otp } := rfl

/-- Settling changes nothing of an effect that left the clock, the queue and the fuses alone. -/
theorem settle_of_kept (hc : t.clock = s.clock) (hp : t.pending = s.pending) (ho : t.otp = s.otp) : settle s t = .next t := by
  rw [settle_eq, ← hc, ← hp, ← ho]

/-- A command whose condition holds has its effect. -/
theorem onlyIf_true {c : Bool} {h : State → State} (hc : c = true) : onlyIf c h s = h s := by rw [onlyIf, if_pos hc]

/-- A command whose condition does not hold changes nothing. -/
theorem onlyIf_false {c : Bool} {h : State → State} (hc : c = false) : onlyIf c h s = s := by rw [onlyIf, hc]; rfl

/-! ## Registers -/

/-- A register read depends on the register store alone. -/
theorem rd_of_regs (h : t.regs = s.regs) (pg : Nat) (f : Field) : rd t pg f = rd s pg f := by rw [rd, rd, h]

/-- A field reads as what was written, cut to its width. -/
@[simp] theorem rd_wr_self (s : State) (pg : Nat) (f : Field) (v : Nat) : rd (wr pg f v s) pg f = v % 2 ^ f.width :=
  Map.get_put_same ..

/-- A write of one field leaves every other field alone. -/
theorem rd_wr_other (h : g.key q ≠ f.key pg) : rd (wr pg f v s) q g = rd s q g := Map.get_put_other _ _ _ _ h

/-- Fields of different pages have different addresses. -/
theorem key_ne_of_page (hp : q ≠ pg) (hf : f.off * 8 + f.lo < 32768) (hg : g.off * 8 + g.lo < 32768) : g.key q ≠ f.key pg := by
  unfold Field.key; omega

/-- A write to one page leaves every other page alone. -/
theorem rd_wr_page (hp : q ≠ pg) (hf : f.off * 8 + f.lo < 32768) (hg : g.off * 8 + g.lo < 32768) :
    rd (wr pg f v s) q g = rd s q g := rd_wr_other (key_ne_of_page hp hf hg)

/-- A write to one field of a page leaves the fields at other addresses of the page alone. -/
theorem rd_wr_off (h : g.off * 8 + g.lo ≠ f.off * 8 + f.lo) : rd (wr pg f v s) pg g = rd s pg g :=
  rd_wr_other (by unfold Field.key; omega)

theorem wrb_eq (pg : Nat) (f : Field) (c : Bool) (s : State) : wrb pg f c s = wr pg f (b2n c) s := rfl

theorem inc_eq (pg : Nat) (f : Field) (s : State) : inc pg f s = wr pg f (min (2 ^ f.width - 1) (rd s pg f + 1)) s := rfl

/-- A counter counts up to its all-ones value and stays there (R42). -/
@[simp] theorem rd_addc_self (s : State) (pg : Nat) (f : Field) (n : Nat) :
    rd (addc pg f n s) pg f = min (2 ^ f.width - 1) (rd s pg f + n) := by
  have h := Nat.two_pow_pos f.width
  rw [addc, rd_wr_self, Nat.mod_eq_of_lt (by omega)]

@[simp] theorem rd_inc_self (s : State) (pg : Nat) (f : Field) : rd (inc pg f s) pg f = min (2 ^ f.width - 1) (rd s pg f + 1) :=
  rd_addc_self s pg f 1

theorem rd_addc_other (h : g.key q ≠ f.key pg) : rd (addc pg f n s) q g = rd s q g := rd_wr_other h

theorem rd_inc_other (h : g.key q ≠ f.key pg) : rd (inc pg f s) q g = rd s q g := rd_wr_other h

theorem rd_countLate_other (h : g.key q ≠ f.key pg) : rd (countLate pg f n s) q g = rd s q g := by
  rw [countLate]; split
  · rfl
  · exact rd_addc_other h

theorem rd_wrb_other {c : Bool} (h : g.key q ≠ f.key pg) : rd (wrb pg f c s) q g = rd s q g := rd_wr_other h

@[simp] theorem rdb_wrb_self (s : State) (pg : Nat) (f : Field) (c : Bool) (hw : 0 < f.width) : rdb (wrb pg f c s) pg f = c := by
  have h : 2 ≤ 2 ^ f.width := by
    calc 2 = 2 ^ 1 := rfl
      _ ≤ 2 ^ f.width := Nat.pow_le_pow_right (by omega) hw
  cases c
  · simp [rdb, wrb, b2n]
  · simp [rdb, wrb, b2n, Nat.mod_eq_of_lt (show 1 < 2 ^ f.width by omega)]

/-- A write keeps the register store in canonical form only per default; the keys stay strictly rising. -/
theorem wr_other_fields (pg : Nat) (f : Field) (v : Nat) (s : State) : { wr pg f v s with regs := s.regs } = s := rfl

/-! ## Staging -/

/-- A staged write is what the staging copy holds. -/
theorem rdStaged_wrStaged_self (owner : Nat) : rdStaged (wrStaged owner pg f v s) pg f = v % 2 ^ f.width := by
  simp [rdStaged, wrStaged, Map.get_put_same]

/-- A staged write changes no value in effect but the owner page's STAGED flag. -/
theorem rd_wrStaged {owner : Nat} (h : g.key q ≠ COM.PAGE_STATUS_STAGED.key owner) : rd (wrStaged owner pg f v s) q g = rd s q g := by
  rw [wrStaged]; exact (rd_wr_other h).trans (rd_of_regs rfl _ _)

/-! ## Events and faults -/

@[simp] theorem rd_pushEv (e : EvRec) (s : State) (pg : Nat) (f : Field) : rd (pushEv e s) pg f = rd s pg f :=
  rd_of_regs (pushEv_regs e s) pg f
@[simp] theorem rd_raise (q b : Nat) (d : List Nat) (s : State) (pg : Nat) (f : Field) : rd (raise q b d s) pg f = rd s pg f := rd_pushEv ..
@[simp] theorem raise_regs (q b : Nat) (d : List Nat) (s : State) : (raise q b d s).regs = s.regs := pushEv_regs ..

/-- While blocks run, an event joins the queue of its block. -/
theorem pushEv_running (h : blocksRun s = true) : pushEv e s = { s with evq := s.evq ++ [e] } := by rw [pushEv, if_pos h]

theorem raise_running (h : blocksRun s = true) : raise pg b d s = { s with evq := s.evq ++ [mkEv s pg b 0 false d] } := pushEv_running h

/-- An event touches the event queues and the free-value counter alone. -/
theorem pushEv_frame (e : EvRec) (s : State) :
    { pushEv e s with evq := s.evq, deferred := s.deferred, fresh := s.fresh, deferredLost := s.deferredLost } = s := by
  unfold pushEv; split
  · rfl
  · split <;> rfl

@[simp] theorem raise_clock (q b : Nat) (d : List Nat) (s : State) : (raise q b d s).clock = s.clock := pushEv_clock ..
@[simp] theorem raise_pending (q b : Nat) (d : List Nat) (s : State) : (raise q b d s).pending = s.pending := pushEv_pending ..
@[simp] theorem raise_otp (q b : Nat) (d : List Nat) (s : State) : (raise q b d s).otp = s.otp := pushEv_otp ..

@[simp] theorem raiseFirst_regs (q b : Nat) (d : List Nat) (s : State) : (raiseFirst q b d s).regs = s.regs := by
  unfold raiseFirst; split <;> simp
@[simp] theorem rd_raiseFirst (q b : Nat) (d : List Nat) (s : State) (pg : Nat) (f : Field) : rd (raiseFirst q b d s) pg f = rd s pg f :=
  rd_of_regs (raiseFirst_regs q b d s) pg f
@[simp] theorem raiseFirst_clock (q b : Nat) (d : List Nat) (s : State) : (raiseFirst q b d s).clock = s.clock := by
  unfold raiseFirst; split <;> simp
@[simp] theorem raiseFirst_pending (q b : Nat) (d : List Nat) (s : State) : (raiseFirst q b d s).pending = s.pending := by
  unfold raiseFirst; split <;> simp
@[simp] theorem raiseFirst_otp (q b : Nat) (d : List Nat) (s : State) : (raiseFirst q b d s).otp = s.otp := by
  unfold raiseFirst; split <;> simp

/-- Within one tick a second occurrence raises nothing (R530). -/
theorem raiseFirst_again (h : firstKey pg b 0 ∈ s.firsts) : raiseFirst pg b d s = s := by rw [raiseFirst, if_pos h]

/-- A fault with none before it in its block, and no masking in progress, raises its event and no DOUBLE_FAULT (R36). -/
theorem raiseFault_first (h : earlierFault s = 0) (hb : s.blockFault = 0) :
    raiseFault pg b loc masked d s = { pushEv (mkEv s pg b loc masked d) s with blockFault := loc } := by
  rw [raiseFault, h, noteDouble, if_pos rfl, pushEv_blockFault, if_pos hb]

/-- Opening a fault's masking adds it to the open faults, and nothing else. -/
theorem openFault_frame (tag loc : Nat) (s : State) : { openFault tag loc s with openFaults := s.openFaults } = s := rfl

/-- Closing a fault's masking leaves no fault of its tag open. -/
theorem closeFault_none (tag : Nat) (s : State) : ∀ p ∈ (closeFault tag s).openFaults, p.1 ≠ tag := by
  intro p hp; simpa using (List.mem_filter.mp hp).2

end Sys2Proof.Machine
end

