-- ==== Sys2Proof/Laws/Safety.lean ====
section
/-! SUPPORT. How the meanings answer: in terms of `kept`, under their conditions. -/

namespace Sys2Proof.Machine

variable {s t : State} {p off : Nat} {c : Bool} {f : State → State}

/-- A settled command answers its effect, the core fields kept. -/
theorem settle_kept (s t : State) : settle s t = .next (kept s t) := rfl

/-- A settled command whose condition holds. -/
theorem settle_onlyIf (h : c = true) : settle s (onlyIf c f s) = .next (kept s (f s)) := by rw [onlyIf_true h]; rfl

/-- A settled command whose condition does not hold leaves the state as it is. -/
theorem settle_onlyIf_false (h : c = false) : settle s (onlyIf c f s) = .next s := by rw [onlyIf_false h]; rfl

/-- Keeping a state's own core fields changes nothing. -/
@[simp] theorem kept_self (s : State) : kept s s = s := rfl

theorem kept_of (h : KeepsCore s t) : kept s t = t := by
  obtain ⟨hc, hp, ho⟩ := h; rw [kept, ← hc, ← hp, ← ho]

@[simp] theorem kept_clock (s t : State) : (kept s t).clock = s.clock := rfl
@[simp] theorem kept_pending (s t : State) : (kept s t).pending = s.pending := rfl
@[simp] theorem kept_otp (s t : State) : (kept s t).otp = s.otp := rfl
@[simp] theorem kept_regs (s t : State) : (kept s t).regs = t.regs := rfl
@[simp] theorem rd_kept (s t : State) (pg : Nat) (g : Field) : rd (kept s t) pg g = rd t pg g := rfl

/-- A host command on an unlocked page acts. -/
theorem hostCmd_unlocked (h : Unlocked s p) : hostCmd p off f s = f s := by simp [hostCmd, locked, rdb, h]

/-- A host command on a locked page is turned away (R528). -/
theorem hostCmd_locked (h : locked s p = true) : hostCmd p off f s = lockViolation p off s := by simp [hostCmd, h]

/-- A table command of a free page acts. -/
theorem tblCmd_free (h : TableFree s p) : tblCmd p f s = f s := by simp [tblCmd, hostCmd, locked, rdb, h.1, h.2]

/-- A table command of a free page acts, whoever gives it. -/
theorem tblCmdOf_free (b : Bool) (h : TableFree s p) : tblCmdOf b p f s = f s := by
  cases b
  · simp [tblCmdOf, rdb, h.2]
  · simp [tblCmdOf, tblCmd_free h]

/-- A table command while another is in progress sets CMD_LOST and nothing else (R527). -/
theorem tblCmd_busy (h : Unlocked s p) (hb : rd s p TBL.BUSY ≠ 0) : tblCmd p f s = wr p TBL.CMD_LOST 1 s := by
  simp [tblCmd, hostCmd, locked, rdb, h, hb]

end Sys2Proof.Machine
end

