-- ==== Sys2Proof/Machine/Connector.lean ====
section
/-! DEFINITION. What the module shows at its connector: contacts, pulls, outputs that float with their domain, and the identities that the
host link and the test access port give (R454, R549 to R551, R556, R558, R572). -/

namespace Sys2Proof.Machine

/-! ## Contacts (R549 to R551) -/

/-- A contact: row A to F as 0 to 5, and column 1 to 120. -/
structure Contact where
  row : Nat
  col : Nat
  deriving DecidableEq, Repr

/-- The two contacts of a differential pair whose pairs begin in column `base`: even pairs in rows B and C, odd pairs in E and F; P first. -/
def pairContacts (base i : Nat) : Contact × Contact :=
  let r := if i % 2 = 0 then 1 else 4
  (⟨r, base + i / 2⟩, ⟨r + 1, base + i / 2⟩)

/-- The pairs of lane `l` of Kerb port `p`, terminal to partner and back (Table 19.2). -/
def krbTx (p l : Nat) : Contact × Contact := pairContacts 17 (4 * p + l)
def krbRx (p l : Nat) : Contact × Contact := pairContacts 34 (4 * p + l)
/-- The pairs of host lane `l`. -/
def hostTx (l : Nat) : Contact × Contact := pairContacts 51 l
def hostRx (l : Nat) : Contact × Contact := pairContacts 53 l

/-- The contact of low-speed slot `n` (R551). -/
def slotContact (n : Nat) : Contact := ⟨[0, 2, 4].getD (n % 3) 0, 57 + n / 3⟩

/-- The low-speed signals (Table 19.3). -/
inductive LowSpeed where
  | porst | warm | wake | bootSel | feedWarn | feedFail | pmbScl | pmbSda | pmbAlert | optScl | optSda | ppsIn | cap1
  | lamp (n : Nat) | alm (n : Nat) | tdmRxd (h : Nat) | tdmTxd (h : Nat) | tdmClk (h : Nat) | tdmFs (h : Nat)
  | tck | tms | tdi | tdo | trst | uartTx | uartRx
  deriving DecidableEq, Repr

/-- A signal's slot (Table 19.3). -/
def LowSpeed.slot : LowSpeed → Nat
  | .porst => 0 | .warm => 1 | .wake => 2 | .bootSel => 3 | .feedWarn => 4 | .feedFail => 5
  | .pmbScl => 6 | .pmbSda => 7 | .pmbAlert => 8 | .optScl => 9 | .optSda => 10 | .ppsIn => 11 | .cap1 => 12
  | .lamp n => 13 + n | .alm n => 17 + n
  | .tdmRxd h => 25 + 4 * h | .tdmTxd h => 26 + 4 * h | .tdmClk h => 27 + 4 * h | .tdmFs h => 28 + 4 * h
  | .tck => 41 | .tms => 42 | .tdi => 43 | .tdo => 44 | .trst => 45 | .uartTx => 46 | .uartRx => 47

/-- Order in which contacts touch on insertion: long, medium, short; they break in reverse (Table 19.1). -/
inductive ContactLength where
  | long | medium | short
  deriving DecidableEq, Repr

/-- Distance from full seating at which a length touches, in tenths of a millimetre (Table 19.1). -/
def ContactLength.touches : ContactLength → Nat
  | .long => 20
  | .medium => 12
  | .short => 5

/-- What the module's own pull makes of an input that nothing drives: high, low, or no pull (Table 19.7). -/
def LowSpeed.pull : LowSpeed → Option Bool
  | .porst => some false
  | .warm | .feedWarn | .feedFail | .alm _ | .uartRx | .tms | .tdi => some true
  | .wake | .bootSel | .ppsIn | .cap1 | .tck | .trst => some false
  | _ => none

/-! ## Outputs whose domain is off (R492, R558) -/

/-- The outputs of Table 19.8. -/
inductive Output where
  | krbTx (port : Nat) | kref | hostTx | tdm | uartTx | lamp | openDrain
  deriving DecidableEq, Repr

/-- 3V3_SB is there and the terminal is not OFF: PD0 drives its outputs. -/
def pd0Drives (s : State) : Bool := rdb s (held 0x20) HPWR.STANDBY && decide (rd s 0x20 PWR0.PWR_STATUS_STATE ≠ 4)

/-- An output floats: its domain is off, PORST_N holds every domain but PD0 in reset, or PD0 itself is off (R558, R561, Table 19.8). -/
def floats (s : State) (o : Output) : Bool :=
  let off := fun d => rdb s (held 0x20) HPWR.PORST || !bit (rd s 0x20 PWR0.PD_STATUS) d
  match o with
  | .krbTx p => if p < 4 then off 13 else off 14
  | .kref => off 13 && off 14
  | .hostTx => off 15
  | .tdm => off 17
  | .uartTx => off 2
  | .lamp => !pd0Drives s
  | .openDrain => !pd0Drives s

/-! ## Identities -/

/-- The PCI Express endpoint (Table 15.2). -/
structure Endpoint where
  vendor : Nat
  device : Nat
  classCode : Nat
  bar0Bytes : Nat
  bar2Bytes : Nat
  msixAt : Nat
  pendingAt : Nat
  vectors : Nat
  payloads : List Nat
  readRequest : Nat
  readTags : Nat
  deriving DecidableEq, Repr

/-- The terminal's endpoint; its revision ID is PAGE_IDENT.REVISION. -/
def endpoint : Endpoint := ⟨0x1F5A, 0x5048, 0x028000, 2 ^ 24, 2 ^ 14, 0, 0x2000, 64, [128, 256], 512, 32⟩

/-- IDCODE of the test access port (R572). -/
def idcode : Nat := 0x1504856F

end Sys2Proof.Machine
end

