-- ==== Sys2Proof/Tests/Base.lean ====
section
/-! SUPPORT. Small states for the tests: the state after reset with a few register fields set. -/

namespace Sys2Proof.Tests

open Sys2Proof.Machine

/-- The state after reset with the listed fields set: page, field, value. -/
def st (l : List (Nat × Field × Nat)) : State := l.foldl (fun s x => wr x.1 x.2.1 x.2.2 s) State.reset

/-- The same with the clock running at the start of a block. -/
def stAt (tick block : Nat) (l : List (Nat × Field × Nat)) : State :=
  { st l with clock := ⟨true, tick, block, false, 0⟩ }

/-- Fibre port A with its activation machine in a state, not lost, transmitting. -/
def actSt (a : Nat) : State := st [(0x42, FB2.ACT_STATUS_STATE, a), (fibHeld 0, HFIB.LOST, 0), (0x43, FB3.US_CTRL_TX_EN, 1),
  (0x20, PWR0.PWR_STATUS_MODE, 4), (held 0x42, HACT.EQD_AT, 1)]

/-- Fibre port B has long been in SYNC and A, the timing port, is lost. -/
def bGood : State := { stAt 90000 0 [(fibHeld 1, HFIB.SYNC_TICK, 1), (0x40, FB0.TP_STATUS_PLL_STATE, 1), (fibHeld 1, HFIB.FIRST_SYNC, 1)] with
  clock := ⟨true, 90000, 63, true, 0⟩ }

/-- SERVICE with the clock running, 100 blocks in, the home map. -/
def svc : State := stAt 1 36 [(0x20, PWR0.PWR_STATUS_MODE, 4), (held 0x180, HCWY.FAULT_AT 1, 100), (held 0x180, HCWY.FAULT_MASKED 1, 1), (held 0x180, HCWY.GUARD_AT, 1)]

/-- A frame in the MAC of Kerb port 3. -/
def mac3 : MacEnt := ⟨3, 0, { blankEnt with id := 7, port := 3 }, false, 0⟩

/-- SERVICE with Kerb port 3 up in Kerb-X4 and the listed frames in the MACs. -/
def kerb3 (l : List MacEnt) : State :=
  { wr 0x83 KRB.PORT_CTRL_MODE 2 (wr 0x83 KRB.PORT_STATUS_TX_LANES 15 (wr 0x83 KRB.PORT_CTRL_EN 1 (wr 0x83 KRB.PORT_CTRL_LPI_EN 1
      (wr 0x83 KRB.PORT_STATUS_LINK 2 (wr 0x83 KRB.PORT_STATUS_RX_LANES 15 svc))))) with macs := l }

/-- A leaf of Kerb port 3 with a frame ready, under an enabled tree. -/
def leaf3 : State :=
  { wr (Tab.pnode 3) NODE.ENABLE 1 (wr (Tab.svc 0) NODE.ENABLE 1 (wr (Tab.svc 0) NODE.PARENT 3 (wr (Tab.sub 0) NODE.ENABLE 1
      (wr (Tab.leaf 0) LEAF.ENABLE 1 (kerb3 []))))) with
    leafq := [{ blankEnt with id := 1, leaf := 0, port := 3, cls := 2, length := 100, handle := 5 }] }

/-- SERVICE with the Mews enabled and core 5 in a state. -/
def mews5 (m : MCore) : State :=
  putCore 5 m (wr (Tab.role 0x40) ROLE.BUDGET 10 (wr (held 0x1C0) (HMEW.DISP 5) 2 (wr 0x20 PWR0.PD_STATUS 0xFFFFF (wr 0x1C0 MEW0.MEW_CTRL_EN 1 svc))))

end Sys2Proof.Tests
end

