-- ==== Sys2Proof/WellFormed.lean ====
section
/-! DEFINITION. Which commands the spec can name: every operand within the range of what it stands for (a port, a lane, a page, a core
cycle of a block). A meaning is given to every command all the same: one that names nothing leaves the state as it is. -/

namespace Sys2Proof

/-- Every operand of the command is in range: Kerb ports 0 to 7, lane groups 0 to 8, fibre ports 0 and 1, core cycles 0 to 2 429 (R4), pages and
offsets of BAR0 (R516), byte enables, and the counts that the block's chapters give. -/
def Instr.wellFormed (c : Instr) : Bool :=
  match c with
  | .tickBoundary => true
  | .blockBoundary => true
  | .tickAlign extra => decide (extra < 155520)
  | .journalEntry src cyc => decide (src < 14) && decide (cyc < 2430)
  | .recovReset stream => decide (stream < 8388608)
  | .blockCommit masked _ _ => masked.all (fun c => decide (c < 3))
  | .transmitOpportunity port cyc => (decide (port < 8) || decide (port = 10)) && decide (cyc < 2430)
  | .kerbFrameStart port cyc => decide (port < 8) && decide (cyc < 2430)
  | .kerbTxComplete port cyc => decide (port < 8) && decide (cyc < 2430)
  | .scrubVisit word _ _ => (decide (word.page < 4096) && decide (word.sub < 64) && decide (word.unit < 64) && decide (word.array < 32))
  | .registerScrub page offset _ => decide (page < 4096) && decide (offset < 4096)
  | .clockFault => true
  | .referencePartFault part => (decide (part = 1) || decide (part = 2))
  | .channelOut channel => decide (channel < 8)
  | .channelBack channel => decide (channel < 8)
  | .rebuildDone channel => decide (channel < 8)
  | .losAsserted port => decide (port < 2)
  | .losDeasserted port => decide (port < 2)
  | .eqSwapRequest port cyc => decide (port < 2) && decide (cyc < 2430)
  | .eqSwapped port cyc => decide (port < 2) && decide (cyc < 2430)
  | .eqCapture port samples => decide (port < 2) && decide (samples.length ≤ 4096)
  | .eqHuntReset port => decide (port < 2)
  | .psyncCandidate port pos _ _ _ => decide (port < 2) && decide (pos < 6220800)
  | .downstreamFrame port pos _ _ _ _ cyc => decide (port < 2) && decide (pos < 6220800) && decide (cyc < 2430)
  | .fecCodeword port _ _ => decide (port < 2)
  | .signalDegradeWindow port => decide (port < 2)
  | .signalFailChange port => decide (port < 2)
  | .xgemFrame port header _ _ _ bytes => decide (port < 2) && decide (header < 18446744073709551616) && decide (bytes.length ≤ 65536)
  | .reasmTimeout port portId => decide (port < 2) && decide (portId < 65536)
  | .xgemFilterRead port => decide (port < 2)
  | .xgemFilterWrite port => decide (port < 2)
  | .xgemFilterInvalidate port => decide (port < 2)
  | .timingPortChange => true
  | .tpForce => true
  | .tpWtrExpiry => true
  | .tpStartupTimeout => true
  | .rejoinStalled port => decide (port < 2)
  | .rejoinEndCmd port => decide (port < 2)
  | .rogueShut port _ cyc => decide (port < 2) && decide (cyc < 2430)
  | .rogueClear port => decide (port < 2)
  | .actEnWrite port _ => decide (port < 2)
  | .burstProfile port rate _ _ _ _ => decide (port < 2) && decide (rate < 4)
  | .serialNumberGrant port => decide (port < 2)
  | .assignOnuId port vendor vssn onuId _ _ => decide (port < 2) && decide (vendor < 4294967296) && decide (vssn < 4294967296) && decide (onuId < 1024)
  | .rangingGrant port => decide (port < 2)
  | .rangingTime port _ _ _ _ => decide (port < 2)
  | .eqdApply port => decide (port < 2)
  | .deactivateOnuId port _ _ => decide (port < 2)
  | .disableSerialNumber port vendor vssn _ _ _ => decide (port < 2) && decide (vendor < 4294967296) && decide (vssn < 4294967296)
  | .tuningControl port _ _ => decide (port < 2)
  | .keyControl port _ _ _ => decide (port < 2)
  | .keySwitch port => decide (port < 2)
  | .assignAllocId port alloc _ _ _ => decide (port < 2) && decide (alloc < 16384)
  | .sleepAllow port _ _ next _ _ => decide (port < 2) && decide (next < 8)
  | .changePowerLevel port _ _ => decide (port < 2)
  | .to1Expiry port => decide (port < 2)
  | .to2Expiry port => decide (port < 2)
  | .actCmdO11 port => decide (port < 2)
  | .actCmdO23 port => decide (port < 2)
  | .actCmdO4 port => decide (port < 2)
  | .actCmdO51 port => decide (port < 2)
  | .actCmdO6 port => decide (port < 2)
  | .actCmdO7 port => decide (port < 2)
  | .actCmdLeaveO7 port => decide (port < 2)
  | .applyEqd port => decide (port < 2)
  | .bwmapDecoded port _ grants cyc => decide (port < 2) && grants.all (fun g => decide (g.alloc < 16384)) && decide (cyc < 2430)
  | .extensionCutoff port cyc => decide (port < 2) && decide (cyc < 2430)
  | .burstSerialiseStart port cyc => decide (port < 2) && decide (cyc < 2430)
  | .burstStart port cyc => decide (port < 2) && decide (cyc < 2430)
  | .burstEnd port cyc => decide (port < 2) && decide (cyc < 2430)
  | .allocSlotRead port => decide (port < 2)
  | .allocSlotWrite port => decide (port < 2)
  | .allocSlotUnbind port => decide (port < 2)
  | .keyComplete src => decide (src < 12)
  | .frameLastByte src _ cyc => decide (src < 10) && decide (cyc < 2430)
  | .ruleLoadStart _ => true
  | .ruleLoadDone _ => true
  | .bankSwapRequest => true
  | .bankSwap => true
  | .bankRetired => true
  | .defaultTableRead => true
  | .defaultTableWrite => true
  | .culRelease index => decide (index < 4096)
  | .culExport index ring => decide (index < 4096) && decide (ring < 64)
  | .culReleaseAll => true
  | .culTableRead => true
  | .ageingVisit record => decide (record < 8388608)
  | .flowRead => true
  | .flowWrite => true
  | .flowInsert => true
  | .flowUpdate => true
  | .flowDelete => true
  | .flowLookupCmd => true
  | .flowFlush => true
  | .flowFlushDone => true
  | .flowEnable => true
  | .flowTableReady => true
  | .bufferRequest requester _ carve cls cyc => decide (requester < 12) && decide (carve < 3) && decide (cls < 13) && decide (cyc < 2430)
  | .bufferAnswer requester cyc => decide (requester < 12) && decide (cyc < 2430)
  | .refInc requester cls handle cyc => decide (requester < 12) && decide (cls < 13) && decide (handle < 4294967296) && decide (cyc < 2430)
  | .refHandover requester cls handle cyc => decide (requester < 12) && decide (cls < 13) && decide (handle < 4294967296) && decide (cyc < 2430)
  | .refDec requester cls handle cyc => decide (requester < 12) && decide (cls < 13) && decide (handle < 4294967296) && decide (cyc < 2430)
  | .p4Stage requester cls op segment => decide (requester < 12) && decide (cls < 13) && (decide (op < 4) && decide (0 < op)) && decide (segment < 33554432)
  | .p4StageReady segment bad => decide (segment < 33554432) && bad.all (fun p => decide (p < 8))
  | .sqrDisable => true
  | .sqrEnable => true
  | .poolsReady => true
  | .sqrTableRead => true
  | .sqrTableAlloc => true
  | .sqrTableInc => true
  | .sqrTableDec => true
  | .sqrInvalidCmd => true
  | .logClear => true
  | .gateConfigChange port => decide (port < 8)
  | .gateListStart port cyc => decide (port < 8) && decide (cyc < 2430)
  | .gateEntryChange port cyc => decide (port < 8) && decide (cyc < 2430)
  | .gateReadAdmin => true
  | .gateWriteAdmin => true
  | .gateReadOper => true
  | .nodeRead => true
  | .nodeWrite => true
  | .nodeReadClearRefused => true
  | .bolRead => true
  | .bolWrite => true
  | .bolReadClear => true
  | .policerSweep index => decide (index < 131072)
  | .schDupMismatch unit => decide (unit ≤ 0x0C)
  | .bolDupMismatch => true
  | .sliceCheckFailed slice check unit _ => decide (slice < 3) && decide (check < 6) && (if check = 2 then decide (unit = 0) || decide (unit = 6) else if check = 3 then decide (unit = 7) else if check < 2 then decide (0 < unit) && decide (unit < 6) else decide (unit = 8))
  | .sliceResetCheck slice _ cyc => decide (slice < 3) && decide (cyc < 2430)
  | .enterGuarded => true
  | .sliceTestDone slice _ => decide (slice < 3)
  | .sliceAutoReturn slice => decide (slice < 3)
  | .rtsTest slice => decide (slice < 3)
  | .rtsReturn slice => decide (slice < 3)
  | .rtsFence slice => decide (slice < 3)
  | .sliceReturned => true
  | .manualFenceEffect => true
  | .faultInjArm value => decide (value < 4294967296)
  | .laneLost port lane cause _ _ col => decide (port < 9) && decide (lane < 4) && decide (cause < 5) && decide (col < 16384)
  | .fallbackRequestRx port rxOk r _ cyc => decide (port < 8) && decide (rxOk < 16) && decide (r < 16384) && decide (cyc < 2430)
  | .resumeMarkerRx port off bytes _ cyc => decide (port < 8) && decide (off < 65536) && decide (bytes.length ≤ 65536) && decide (cyc < 2430)
  | .scheduledMarker port partnerOk => decide (port < 8) && decide (partnerOk < 16)
  | .laneRestore port lane => decide (port < 8) && decide (lane < 4)
  | .krefCtrlWrite value => decide (value < 4294967296)
  | .prbsInjSingle port lane => decide (port < 9) && decide (lane < 4)
  | .prbsInjBurst port lane => decide (port < 9) && decide (lane < 4)
  | .prbsLock port lane _ _ => decide (port < 9) && decide (lane < 4)
  | .laneCtrlWrite port lane value => decide (port < 9) && decide (lane < 4) && decide (value < 4294967296)
  | .lpiEntry port => decide (port < 8)
  | .kerbFrameReceived port bytes cyc => decide (port < 8) && decide (bytes.length ≤ 65536) && decide (cyc < 2430)
  | .pauseReceived port opcode enable times cyc => decide (port < 8) && (decide (opcode = 0x0001) || decide (opcode = 0x0101)) && decide (enable < 256) && (decide (times.length ≤ 8) && times.all (fun t => decide (t < 65536))) && decide (cyc < 2430)
  | .pauseExpiry port queue => decide (port < 8) && decide (queue < 8)
  | .linkUp port tx rx ids skews => decide (port < 8) && decide (tx < 16) && decide (rx < 16) && decide (ids < 256) && decide (skews < 4294967296)
  | .portCtrlWrite port value => decide (port < 8) && decide (value < 4294967296)
  | .krbTableRead port => decide (port < 8)
  | .krbTableWrite port => decide (port < 8)
  | .timeMeasurement cyc => decide (cyc < 2430)
  | .captureEdge input _ len cyc => decide (input < 2) && decide (0 < len) && decide (cyc < 2430)
  | .inputStuck input _ _ => decide (input < 2)
  | .ppsLost => true
  | .ppsArm => true
  | .stepApply => true
  | .stepSet cyc => decide (cyc < 2430)
  | .stepAdjust cyc => decide (cyc < 2430)
  | .stepAccept cyc => decide (cyc < 2430)
  | .stepDiscard => true
  | .clearUncertain => true
  | .autoAccept => true
  | .todLoad _ => true
  | .txtsPop port _ => decide (port < 8)
  | .capPop input => decide (input < 2)
  | .lampArm output => decide (output < 4)
  | .lampPulse output cyc => decide (output < 4) && decide (cyc < 2430)
  | .hwyRxFrame hwy _ _ cyc => decide (hwy < 4) && decide (cyc < 2430)
  | .hwyTxFrame hwy cyc => decide (hwy < 4) && decide (cyc < 2430)
  | .hwyClockLost hwy => decide (hwy < 4)
  | .crc4Interwork index => decide (index < 64)
  | .tribPacketise index => decide (index < 64)
  | .perfSecond => true
  | .binClosed => true
  | .framerFault hwy _ => decide (hwy < 4)
  | .tribRead => true
  | .tribWrite => true
  | .tribReadClear => true
  | .perfBinRead => true
  | .mewsDispatch core => decide (core < 8)
  | .bundleIssue core => decide (core < 8)
  | .xferComplete core => decide (core < 8)
  | .ckptComplete core => decide (core < 8)
  | .taskWait core => decide (core < 8)
  | .taskOverrun core => decide (core < 8)
  | .taskTrap core => decide (core < 8)
  | .messageDelivery cyc => decide (cyc < 2430)
  | .ballocRetry core => decide (core < 8)
  | .mewsCoreFault core unit array _ => decide (core < 8) && decide (unit < 6) && decide (array < 2)
  | .roleRestart role => decide (role < 256)
  | .routerFault unit => decide (unit < 2)
  | .coreTestDone core _ => decide (core < 8)
  | .coreCmdTest core => decide (core < 8)
  | .coreCmdOff core => decide (core < 8)
  | .roleRead => true
  | .roleWrite _ => true
  | .roleStart _ => true
  | .roleStop _ => true
  | .roleReadClear => true
  | .roleChanged role => decide (role < 256)
  | .mewsLoadStart _ => true
  | .mewsLoadDone _ _ => true
  | .mewCtrlWrite value => decide (value < 4294967296)
  | .segmentTake cyc => decide (cyc < 2430)
  | .segmentWriteDone wear => (decide (wear.length ≤ 8) && wear.all (fun w => decide (w ≤ 100)))
  | .fillTimeout entry => decide (entry < 4194304)
  | .dirFlush => true
  | .dirRead => true
  | .dirLookup => true
  | .dirCreate => true
  | .dirDelete => true
  | .dirRepair bytes => decide (bytes.length ≤ 65536)
  | .dirSetState => true
  | .dirScan => true
  | .dirSysRead => true
  | .ringTableRead => true
  | .ringTableWrite => true
  | .ringTableReadClear => true
  | .packageLost package => decide (package < 8)
  | .gapRepairTimeout _ => true
  | .yunagerStepEnd _ => true
  | .yunagerStepTimeout => true
  | .pairMiscompare => true
  | .takeover => true
  | .pairTestDone pair _ => decide (pair < 2)
  | .pairCmdTest pair => decide (pair < 2)
  | .pairCmdOff pair => decide (pair < 2)
  | .pairCmdSwap pair => decide (pair < 2)
  | .yunagerRestart => true
  | .funcModeEffect => true
  | .ringTailWrite ring value => decide (ring < 64) && decide (value < 4294967296)
  | .ringStart ring => decide (ring < 64)
  | .ringStop ring => decide (ring < 64)
  | .ringStopped ring => decide (ring < 64)
  | .txDescriptorFetch ring desc bytes cyc => decide (ring < 64) && decide (desc.length ≤ 8) && decide (bytes.length ≤ 65536) && decide (cyc < 2430)
  | .hostLinkDown => true
  | .hostLinkUp width speed => (decide (width = 1) || decide (width = 2) || decide (width = 4)) && (decide (speed = 1) || decide (speed = 2))
  | .functionLevelReset => true
  | .d3hotEntry => true
  | .romBoot _ => true
  | .hbootGo bytes => bytes.all (fun l => decide (l.length ≤ 33554432))
  | .imgWrite bytes => bytes.all (fun l => decide (l.length ≤ 33554432))
  | .imgSetPref => true
  | .imgConfirm => true
  | .fuseEnroll slot => decide (slot < 2)
  | .fuseRevoke slot => decide (slot < 2)
  | .fuseLock => true
  | .rbRaise counter value => decide (counter < 64) && decide (value < 128)
  | .measExtGo => true
  | .quoteRequest => true
  | .quoteSnapshot => true
  | .quoteWritten => true
  | .dbgRequest => true
  | .dbgSubmit => true
  | .dbgRelock => true
  | .debugGrant => true
  | .debugExpiry => true
  | .dbgChallengeExpiry => true
  | .rngTestFail => true
  | .rngRecover => true
  | .keyDbe port key => decide (port < 2) && decide (key < 5)
  | .pwrReqMode target _ => decide (target < 8)
  | .pwrReqDormant low _ => decide (low < 4)
  | .pwrReqRestart _ => true
  | .pwrReqRestartRecovery _ => true
  | .pwrReqCancel _ => true
  | .drainComplete => true
  | .selftestDone _ loc => decide (loc < 4294967296)
  | .leanEntry => true
  | .leanSliceOff => true
  | .leanExit _ => true
  | .dormantEntryComplete _ _ _ => true
  | .wakePin _ => true
  | .sleepTimerWake _ => true
  | .alarmChange input _ _ => decide (input < 8)
  | .alarmRelease input _ _ => decide (input < 8)
  | .wakeComplete _ _ _ => true
  | .pmbusPoll _ => true
  | .feedWarn _ => true
  | .feedFail => true
  | .holdupEnd _ _ _ _ => true
  | .feedReturn => true
  | .wakeStuck => true
  | .domainReady domain => decide (domain < 20)
  | .pageCommitRequest page => decide (page < 4096)
  | .pageCommit page => decide (page < 4096)
  | .commitAll => true
  | .softReset page => decide (page < 4096)
  | .pageCtrlWrite page value => decide (page < 4096) && decide (value < 4294967296)
  | .pageLock page value => decide (page < 4096) && decide (value < 4294967296)
  | .pageEventSet page value => decide (page < 4096) && decide (value < 4294967296)
  | .eventClear page off value same => decide (page < 4096) && decide (off < 4096) && decide (value < 4294967296) && decide (same < 4294967296)
  | .counterReadClear page off lo _ => decide (page < 4096) && decide (off < 4096) && decide (lo < 32)
  | .latchingRead page off cyc => decide (page < 4096) && decide (off < 4096) && decide (cyc < 2430)
  | .registerWrite page off value be => decide (page < 4096) && decide (off < 4096) && decide (value < 4294967296) && decide (be < 16)
  | .evtStart => true
  | .evtStop => true
  | .evtTailWrite value => decide (value < 4294967296)
  | .deferredEvent page evBit detail => decide (page < 4096) && decide (evBit < 32) && decide (detail.length ≤ 4)
  | .flogRead => true
  | .monReadSet => true
  | .monWriteConfig => true
  | .monReadConfig => true
  | .porstAssert => true
  | .porstDeassert _ => true
  | .warmReset _ => true
  | .standbyPowerUp => true
  | .vinSwitchClose => true
  | .vinSwitchOpen => true
  | .moduleWithdrawn => true
  | .optRead addr off => (decide (addr = 0xA0) || decide (addr = 0xA2) || decide (addr = 0xA4) || decide (addr = 0xA6)) && decide (off < 256)
  | .extestLoad => true
  | .tapReset _ => true
  | .fuseDone _ => true
  | .krefUnlock _ => true
  | .hostLinkError kind => decide (kind < 3)
  | .wakeInactive => true
  | .wakeLimitExpiry _ => true
  | .msixVectorUnmask vector => decide (vector < 64)

end Sys2Proof
end

