-- ==== Sys2Proof/Tests/Slice0.lean ====
section
/-! SUPPORT. Tests: ill-formed commands, the spec's worked examples, one step here and there, and a witness of the hypotheses of every
statement of Certificates/Slice0/Obligations.lean. -/

namespace Sys2Proof.Tests

open Sys2Proof.Machine

/-! ## Well-formedness -/

/-- In-range commands are well formed. -/
theorem test_well_formed : ([.tickBoundary, .journalEntry 13 2429, .laneLost 8 3 0 8 0 0, .linkUp 7 15 15 228 0, .registerWrite 0x200 0x110 5 15,
    .transmitOpportunity 10 0] : List Instr).all (fun c => c.wellFormed) = true := by decide

/-- Ill-formed commands, one operand out of range in each. -/
theorem test_ill_formed_0 : ([.tickAlign 155520,
    .journalEntry 14 0,
    .journalEntry 0 2430,
    .recovReset 8388608,
    .blockCommit [4] [] 0,
    .transmitOpportunity 9 0,
    .kerbFrameStart 8 0,
    .scrubVisit ⟨0, 64, 0, 0, 0, .plain⟩ .clean 0,
    .registerScrub 4096 0 .clean,
    .registerScrub 0 4096 .clean,
    .referencePartFault 3,
    .channelOut 8] : List Instr).all (fun c => !c.wellFormed) = true := by decide

/-- Ill-formed commands, one operand out of range in each. -/
theorem test_ill_formed_1 : ([.losAsserted 2,
    .psyncCandidate 0 6220800 0 0 true,
    .xgemFrame 0 18446744073709551616 true true 0 [],
    .reasmTimeout 0 65536,
    .burstProfile 0 4 0 0 none [],
    .assignOnuId 0 4294967296 0 0 none [],
    .assignOnuId 0 0 4294967296 0 none [],
    .assignOnuId 0 0 0 1024 none [],
    .assignAllocId 0 16384 true none [],
    .sleepAllow 0 true 0 8 none [],
    .bwmapDecoded 0 true [⟨16384, 0, 0, false, false⟩] 0,
    .keyComplete 12] : List Instr).all (fun c => !c.wellFormed) = true := by decide

/-- Ill-formed commands, one operand out of range in each. -/
theorem test_ill_formed_2 : ([.frameLastByte 10 true 0,
    .culRelease 4096,
    .culExport 0 64,
    .ageingVisit 8388608,
    .bufferRequest 12 0 0 0 0,
    .bufferRequest 0 0 3 0 0,
    .bufferRequest 0 0 0 13 0,
    .refInc 0 0 4294967296 0,
    .p4Stage 0 0 4 0,
    .p4Stage 0 0 1 33554432,
    .p4StageReady 0 (some 8),
    .policerSweep 131072] : List Instr).all (fun c => !c.wellFormed) = true := by decide

/-- Ill-formed commands, one operand out of range in each. -/
theorem test_ill_formed_3 : ([.schDupMismatch 13,
    .sliceCheckFailed 3 0 0 none,
    .sliceCheckFailed 0 6 0 none,
    .sliceCheckFailed 0 0 9 none,
    .faultInjArm 4294967296,
    .laneLost 9 0 0 0 0 0,
    .laneLost 0 4 0 0 0 0,
    .laneLost 0 0 5 0 0 0,
    .laneLost 0 0 0 0 0 16384,
    .fallbackRequestRx 0 16 0 true 0,
    .fallbackRequestRx 0 0 16384 true 0,
    .resumeMarkerRx 0 65536 [] true 0] : List Instr).all (fun c => !c.wellFormed) = true := by decide

/-- Ill-formed commands, one operand out of range in each. -/
theorem test_ill_formed_4 : ([.scheduledMarker 0 16,
    .pauseReceived 0 258 0 [] 0,
    .pauseReceived 0 0x0001 256 [] 0,
    .pauseReceived 0 0x0001 0 [65537] 0,
    .pauseExpiry 0 8,
    .linkUp 0 16 0 0 0,
    .linkUp 0 0 16 0 0,
    .linkUp 0 0 0 256 0,
    .linkUp 0 0 0 0 4294967296,
    .captureEdge 2 true 4 0,
    .captureEdge 0 true 0 0,
    .lampArm 4] : List Instr).all (fun c => !c.wellFormed) = true := by decide

/-- Ill-formed commands, one operand out of range in each. -/
theorem test_ill_formed_5 : ([.hwyRxFrame 4 [] true 0,
    .crc4Interwork 64,
    .mewsDispatch 8,
    .mewsCoreFault 0 6 0 0,
    .mewsCoreFault 0 0 2 0,
    .roleRestart 256,
    .routerFault 2,
    .segmentWriteDone [101],
    .fillTimeout 4194304,
    .packageLost 8,
    .pairTestDone 2 true,
    .txDescriptorFetch 0 (List.replicate 9 0) [] 0] : List Instr).all (fun c => !c.wellFormed) = true := by decide

/-- Ill-formed commands, one operand out of range in each. -/
theorem test_ill_formed_6 : ([.hostLinkUp 5 1,
    .hostLinkUp 1 3,
    .fuseEnroll 2,
    .rbRaise 64 0,
    .rbRaise 0 128,
    .keyDbe 0 5,
    .pwrReqMode 8 true,
    .pwrReqDormant 4 true,
    .selftestDone true 4294967296,
    .alarmChange 8 true 0,
    .domainReady 20,
    .eventClear 0 4096 0 0] : List Instr).all (fun c => !c.wellFormed) = true := by decide

/-- Ill-formed commands, one operand out of range in each. -/
theorem test_ill_formed_7 : ([.eventClear 0 0 0 4294967296,
    .counterReadClear 0 0 32 0,
    .registerWrite 0 0 0 16,
    .deferredEvent 0 32 [],
    .deferredEvent 0 0 (List.replicate 5 0),
    .optRead 167 0,
    .optRead 0xA0 256,
    .hostLinkError 3,
    .msixVectorUnmask 64] : List Instr).all (fun c => !c.wellFormed) = true := by decide

/-! ## Worked examples of the spec -/

/-- R37, R272, R437: the location codes the spec gives. -/
theorem test_location_examples : locSub 0x19 = 0xA0CFFFFF ∧ locUnit 0x1A 3 = 0x80D07FFF ∧ locDie 8 = 0xD1FFFFFF := by decide

/-- R260: the fallback map of Carriageway 1. -/
theorem test_fallback_map : regionOwner 1 1 = 0 ∧ regionOwner 1 4 = 2 ∧ regionOwner 1 7 = 0 ∧ regionOwner 1 5 = 2 ∧ regionOwner 3 4 = 1 := by decide

/-- R201: in cycle 1 000 requester 4 stands first and requester 3 last. -/
theorem test_ranking : rankOf 1000 4 = 0 ∧ rankOf 1000 5 = 1 ∧ rankOf 1000 0 = 8 ∧ rankOf 1000 3 = 11 := by decide

/-- Chapter 11: at −20 ppb INCR is 0x0337_0B97_BA9F. -/
theorem test_servo_increment : incrFor (-20) = 0x03370B97BA9F ∧ incrFor 0 = nominalIncr := by decide

/-- R540: with E = 8 and S = 1, 7 348 cycles land in bin 10 and 3 000 cycles in bin 7. -/
theorem test_monitor_bins : monBin 1 0 (8 + 256) 7348 = 10 ∧ monBin 1 0 (8 + 256) 3000 = 7 := by decide

/-- R22: 5.906 25 µs is 7 348 core cycles. -/
theorem test_bound_cycles : nsCycles 5906 = 7348 := by decide

/-- R477: bits 0 to 4 blown make 5; with bits 5 and 6 as well, 7. -/
theorem test_rollback_example : topBit 0x1F = 5 ∧ topBit (0x60 ||| 0x1F) = 7 := by decide

set_option maxRecDepth 20000 in
/-- Table 7.6: HANDOVER and INC to Kerb egress make COUNT 2 and HOLDERS 0x0005; a third DEC is a double free. -/
theorem test_reference_example :
    let s := { wr 0xE0 SQR0.SQR_STATUS_READY 1 State.reset with buffers := [(0, some ⟨1, 1, 0, 3, true, false⟩)] }
    let a := refDo opInc 6 clKerb 0 0 (refDo opHandover 6 clKerb 0 0 s)
    let b := refDo opDec 6 clKerb 0 0 (refDo opDec 6 clKerb 0 0 a)
    (getBuf a 0).count = 2 ∧ (getBuf a 0).holders = 5 ∧ (getBuf b 0).allocated = false ∧ refReason b opDec clKerb 0 = 1 := by decide

/-! ## Steps -/

/-- An empty queue idles; no word spells a command. -/
theorem test_idle : step State.reset = .next State.reset ∧ decodeTableWord 16 0 = none := ⟨rfl, rfl⟩

/-- A step takes the front command and leaves the rest. -/
theorem test_step_takes_front :
    (match step { svc with pending := [.rngRecover, .tickBoundary] } with | .next t => t.pending | _ => []) = [.tickBoundary] := rfl

set_option maxRecDepth 20000 in
/-- A write to a word of a locked page is counted. -/
theorem test_lock :
    (match exec (.registerWrite 0x30 0x10C 5 15) (wr 0x30 COM.PAGE_LOCK_LOCK 1 svc) with
      | .next t => rd t 0 GEN.LOCKED_WRITES | _ => 0) = 1 := by decide

/-! ## Witnesses of the statements' hypotheses -/

theorem wit_FibreReceiverCommands :
    rd State.reset (fibPage 0) FB0.DS_STATUS_LOS = 1 ∧ rd (st [(0x40, FB0.DS_STATUS_LOS, 0)]) (fibPage 0) FB0.DS_STATUS_LOS = 0
    ∧ Unlocked State.reset (fibPage 1) ∧ rd State.reset (fibPage 1) FB0.EQ_CTRL_SWAP = 0
    ∧ (let s := st [(0x40, FB0.EQ_CTRL_SWAP, 1), (0x40, FB0.EQ_SHADOW 7, 0x1000)]
       rd s (fibPage 0) FB0.EQ_CTRL_SWAP = 1 ∧ rd s (fibHeld 0) HFIB.SWAP_AT + 51 ≤ startOf (now s) + 51
        ∧ 0x1000 ≤ (rdS s (fibPage 0) (FB0.EQ_SHADOW 7)).natAbs)
    ∧ (rdS (st [(0x40, FB0.EQ_SHADOW 7, 0xF001)]) (fibPage 0) (FB0.EQ_SHADOW 7)).natAbs < 0x1000 := by decide

theorem wit_HuntCaptureAndCodewords :
    (let s := st [(0x40, FB0.DS_CTRL_RX_EN, 1)]
     rd s (fibPage 0) FB0.DS_CTRL_RX_EN = 1 ∧ syncState s 0 = syHunt ∧ syncState s 0 ≤ syPre ∧ (s.cands.filter (fun c => c.1 = 0)).length < 4
      ∧ 4 ≤ ((List.replicate 4 ((0, 0, 0) : Nat × Nat × Nat)).filter (fun c => c.1 = 0)).length)
    ∧ (let s := stAt 16 0 [(0x40, FB0.DS_CTRL_RX_EN, 1)]
       rd s (fibHeld 0) HFIB.HUNT_RESET = 0 ∧ rd s (fibHeld 0) HFIB.HUNT_TICK + 16 ≤ s.clock.tick)
    ∧ (let s := st [(0x60, FB0.DS_STATUS_SYNC_STATE, 2), (0x60, FB0.DS_STATUS_LOS, 0)]
       syncState s 1 = sySync ∧ rd s (fibPage 1) FB0.EQ_CTRL_CAPTURE_EN = 1 ∧ rd s (fibPage 1) FB0.EQ_CTRL_FREEZE = 0
        ∧ rd s (fibPage 1) FB0.DS_STATUS_LOS = 0
        ∧ rd s (fibHeld 1) HFIB.CAP_TICK ≠ s.clock.tick + 1 ∧ sySync ≤ syncState s 1
        ∧ 1 ≤ max 1 (rd s (fibN 1 1) FB1.FEC_CTRL_MAX_ITER) ∧ max 1 (rd s (fibN 1 1) FB1.FEC_CTRL_MAX_ITER) < 16) := by decide

theorem wit_DownstreamFramesAndXgem :
    (let s := st [(0x40, FB0.DS_CTRL_RX_EN, 1), (0x40, FB0.DS_STATUS_SYNC_STATE, 2), (Tab.xgf 0 3, XGF.VALID, 1), (Tab.xgf 0 3, XGF.PORT_ID, 9), (fibHeld 0, HFIB.LOST, 0)]
     rd s (fibPage 0) FB0.DS_CTRL_RX_EN = 1 ∧ syncState s 0 = sySync ∧ 0 % 6220800 = rd s (fibHeld 0) HFIB.POS
      ∧ 1 % 2 ^ 51 = (rd s (fibHeld 0) HFIB.SFC + 1) % 2 ^ 51 ∧ rd s (fibHeld 0) HFIB.LOST = 0 ∧ rd s (fibHeld 0) HFIB.DEAD = 0
      ∧ rd s (Tab.xgf 0 3) XGF.ENC_REQ = 0 ∧ keyValid (wr 0x42 FB2.KEY_STATUS_VALID 1 s) 0 1 = true
      ∧ rdb s (Tab.xgf 0 3) XGF.VALID = true ∧ rd s (Tab.xgf 0 3) XGF.PORT_ID = 9)
    ∧ (let s := stAt 8000 0 [(0x41, FB1.SD_THRESH, 0)]
       rd s (fibHeld 0) HFIB.SD_TICK + 8000 ≤ s.clock.tick ∧ rd s (fibN 0 1) FB1.SD_THRESH ≤ rd s (fibHeld 0) HFIB.SD_BITS
        ∧ rd s (fibPage 0) FB0.DS_STATUS_SD = 0)
    ∧ (let s := st [(fibHeld 1, HFIB.SF_RUN, 4), (fibHeld 1, HFIB.LOST, 0)]
       rd s (fibPage 1) FB0.DS_STATUS_SF = 0 ∧ rd s (fibHeld 1) HFIB.LOST = 0 ∧ lossM s 1 ≤ rd s (fibHeld 1) HFIB.SF_RUN) := by decide

theorem wit_capture_samples : ∃ l : List (Bool × Int), l.length = 1024 := ⟨List.replicate 1024 (true, 0), List.length_replicate⟩

theorem wit_xgem_header (x : Nat) : hecFix (x * 2 ^ 13 + Config.hec x % 2 ^ 13) = some (x * 2 ^ 13 + Config.hec x % 2 ^ 13) := by
  have h : Config.hec x % 2 ^ 13 < 2 ^ 13 := Nat.mod_lt _ (by decide)
  have e : (x * 2 ^ 13 + Config.hec x % 2 ^ 13) / 2 ^ 13 = x := by omega
  rw [hecFix, if_pos]; rw [hecOk, e, decide_eq_true_iff]; omega

/-- A header with port-ID 9, in clear and with key 1, and the idle port-ID. -/
theorem wit_xgem_fields : (xgPort (9 * 2 ^ 32), xgKey (9 * 2 ^ 32), xgKey (9 * 2 ^ 32 + 2 ^ 48), xgPort (0xFFFF * 2 ^ 32)) = (9, 0, 1, 0xFFFF) := by
  decide

theorem wit_xgem_filter :
    filterOf (st [(Tab.xgf 0 0, XGF.VALID, 1), (Tab.xgf 0 0, XGF.PORT_ID, 9)]) 0 9 = some 0 := by decide +kernel

theorem wit_TimingPortRejoinAndRogue :
    (bGood.clock.tickOpen = true ∧ lossChange bGood = true)
    ∧ (let s := wr (held 0x40) HTP.FORCE 1 (wr (fibHeld 0) HFIB.LOST 0 bGood)
       s.clock.tickOpen = true ∧ lossChange s = false ∧ rd s (held 0x40) HTP.FORCE = 1 ∧ Unlocked s 0x40 ∧ wtrDue s = false ∧ startupDue s (s.clock.tick + 1) = false
        ∧ qualifies s (1 - timingPort s) = true)
    ∧ qualifies State.reset (1 - timingPort State.reset) = false
    ∧ (let s := wr 0x40 FB0.TP_CTRL_POLICY 2 (wr 0x40 FB0.TP_CTRL_PREFERRED 1 (wr (held 0x40) HTP.QUAL_TICK 1 (wr 0x40 FB0.TP_WTR 0 bGood)))
       wtrDue s = true ∧ pllState s ≠ 0)
    ∧ (let s := wr 0x40 FB0.TP_STATUS_PLL_STATE 0 bGood
       pllState s = 0 ∧ tpPolicy s ≠ 0 ∧ rd s (fibHeld (timingPort s)) HFIB.FIRST_SYNC = 0
        ∧ startupDue s (s.clock.tick + 1) = true ∧ rd s (fibHeld (1 - timingPort s)) HFIB.FIRST_SYNC ≠ 0 ∧ rd s (fibHeld (1 - timingPort s)) HFIB.FIRST_SYNC + 79999 ≤ s.clock.tick)
    ∧ (let s := stAt 90000 0 [(0x61, FB1.RJ_STREAMS, 2), (fibHeld 1, HFIB.LOST, 0)]
       rd s (fibN 1 1) FB1.RJ_STREAMS ≠ 0 ∧ rd s (fibHeld 1) HFIB.LOST = 0 ∧ rd s (fibHeld 1) HFIB.STALLED = 0
        ∧ rd s (fibHeld 1) HFIB.RET_TICK + rd s (fibN 1 1) FB1.RJ_WARN ≤ s.clock.tick)
    ∧ Unlocked State.reset (fibN 0 1) ∧ rd State.reset (fibN 0 3) FB3.US_STATUS_ROGUE_SHUT = 0 ∧ burstLow State.reset 0 = true
    ∧ burstLow (wr (fibHeld 0) HUPS.ENABLE_AT 1 State.reset) 0 = false
    ∧ (let s := wr (fibHeld 0) HUPS.ENABLE_AT 1 (stAt 2 0 [])
       rd s (fibHeld 0) HUPS.ENABLE_AT + tickCycles ≤ startOf (now s) + 0) := by decide

theorem wit_ActivationMessages :
    (∀ a ∈ [2, 3, 4, 5, 7], ploamOpen (actSt a) 0 = true ∧ hostAct (actSt a) 0 = false ∧ micOf (actSt a) 0 none ≠ some false
      ∧ micOf (actSt a) 0 (some true) ≠ some false
      ∧ actState (actSt a) 0 = a ∧ rd (actSt a) (fibN 0 3) FB3.US_CTRL_TX_EN = 1 ∧ rngFailed (actSt a) = false)
    ∧ rd (wr (held 0x10) HSEC.KEY_BAD 8 (actSt 4)) (held 0x10) HSEC.KEY_BAD / 2 ^ (8 * 0) / 8 % 2 = 1
    ∧ (let s := wr (fibHeld 0) HFIB.FRAME_NO 5 (wr (fibHeld 0) HACT.EQD_AT 5 (actSt 5))
       rd s (fibHeld 0) HACT.EQD_AT ≠ 0 ∧ rd s (fibHeld 0) HACT.EQD_AT ≤ rd s (fibHeld 0) HFIB.FRAME_NO) := by decide

theorem wit_names_port : ∀ s p, namesPort s p (rd s (fibN p 2) FB2.SN_VENDOR) (vssn s p) = true := by intro s p; simp [namesPort]

theorem wit_KeyAllocAndSleepMessages :
    (let s := wr 0x42 FB2.KEY_STATUS_SWITCH_PENDING 1 (actSt 5)
     ploamOpen s 0 = true ∧ hostAct s 0 = false ∧ hostPloam s 0 = false ∧ rngFailed s = false ∧ micOf s 0 (some true) ≠ some false
      ∧ rd s (fibN 0 2) FB2.KEY_STATUS_SWITCH_PENDING = 1 ∧ rd s (fibHeld 0) HACT.SWITCH_SFC ≤ rd s (fibHeld 0) HFIB.SFC
      ∧ Unlocked s (fibN 0 2) ∧ sleepOk s 0 0 = false) := by decide

theorem wit_sleep_allowed : sleepOk (wr 0x42 FB2.PM_CTRL_WSL_ALLOW 1 (actSt 5)) 0 80 = true := by decide +kernel

theorem wit_ActivationCommandsAndTimers :
    (∀ a ∈ [2, 3, 4, 5, 6, 7], let s := wr 0x42 FB2.ACT_DATA_ONU_ID 5 (wr 0x42 FB2.ACT_STATUS_HOST_ASSIST 1 (actSt a))
      Unlocked s (fibN 0 2) ∧ rd s (fibN 0 2) FB2.ACT_STATUS_HOST_ASSIST = 1 ∧ actState s 0 = a
        ∧ rd s (fibN 0 2) FB2.ACT_DATA_ONU_ID ≠ 0x3FF ∧ rd s (fibHeld 0) HFIB.LOST = 0)
    ∧ Unlocked (actSt 4) (fibN 0 2) ∧ rd (actSt 4) (fibN 0 2) FB2.ACT_STATUS_HOST_ASSIST = 0
    ∧ (∀ a ∈ [4, 6], let s := wr (fibHeld 0) HACT.TO1 1 (wr (fibHeld 0) HACT.TO2 1 (actSt a))
        actState s 0 = a ∧ rd s (fibHeld 0) HACT.TO1 ≠ 0 ∧ rd s (fibHeld 0) HACT.TO1 ≤ s.clock.tick + 1
        ∧ rd s (fibHeld 0) HACT.TO2 ≠ 0 ∧ rd s (fibHeld 0) HACT.TO2 ≤ s.clock.tick + 1) := by decide

/-- A burst of fibre port A at a stage, due at once. -/
def burstOf (stage : Nat) : Burst := ⟨0, 1, 5, 0, 10, 100, false, false, 0, 0, false, stage, [], [], []⟩

theorem wit_BurstLifecycle :
    (actState (actSt 5) 0 = actO51 ∧ rd (actSt 5) (fibN 0 2) FB2.PM_STATUS_STATE ≠ 3 ∧ rd (actSt 5) (fibN 0 3) FB3.US_CTRL_TX_EN = 1)
    ∧ burstAt { actSt 5 with bursts := [burstOf 0] } 0 0 (startOf 0 + 0) cutCycles = some (burstOf 0)
    ∧ burstAt { actSt 5 with bursts := [burstOf 1] } 0 1 (startOf 0 + 0) serCycles = some (burstOf 1)
    ∧ burstAt { actSt 5 with bursts := [burstOf 2] } 0 2 (startOf 0 + 0) 0 = some (burstOf 2)
    ∧ [burstOf 3].find? (fun c => decide (c.fibre = 0 ∧ c.stage = 3 ∧ c.start + c.dur ≤ startOf 0 + 10)) = some (burstOf 3) := by decide

theorem wit_RuleTreeBanks :
    (let f : InFrame := ⟨3, 0, false, 0, [], [], blankItem, 0⟩
     let s := { State.reset with front := [f] }
     s.front.find? (earlyKey s 3) = some f)
    ∧ (let f : InFrame := ⟨3, 0, false, 0, [], [], blankItem, 0⟩
       let s := { State.reset with ingress := [f] }
       s.front.find? (earlyKey s 3) = none ∧ s.ingress.find? (waitingKey 3) = some f)
    ∧ Unlocked State.reset 0xC8 ∧ rd State.reset 0xC8 CLS.LOAD_STATUS_BUSY = 0 ∧ loadRefused State.reset = false
    ∧ loadRefused (st [(0xC8, CLS.DRAIN_B, 1)]) = true
    ∧ rd (st [(0xC8, CLS.LOAD_STATUS_BUSY, 1)]) 0xC8 CLS.LOAD_STATUS_BUSY = 1 ∧ rd State.reset 0xC8 CLS.LOAD_CTRL_FROM_ARCADE = 0
    ∧ bankState (st [(0xC8, CLS.BANK_STATUS_B_STATE, 2)]) (standbyBank State.reset) = 2 ∧ swapPending State.reset = false
    ∧ bankState State.reset (standbyBank State.reset) ≠ 2
    ∧ (let s := st [(0xC8, CLS.BANK_STATUS_B_STATE, 2), (0xC8, CLS.BANK_STATUS_SWAP_PENDING, 1), (held 0xC8, HCLS.SWAP_AT, 1)]
       swapPending s = true ∧ rd s (held 0xC8) HCLS.SWAP_AT ≤ now s + 1 ∧ bankState s (standbyBank s) = 2)
    ∧ (let s := st [(0xC8, CLS.BANK_STATUS_B_STATE, 3)]
       bankState s (standbyBank s) = 3 ∧ rd s 0xC8 (drainCount (standbyBank s)) = 0 ∧ rd s (held 0xC8) HCLS.SWAPPED ≤ s.nextCommit)
    ∧ loadResult [] 0 = 2 := by decide

theorem wit_partKey : partKey State.reset 8 ⟨0, 5, 7, 0, 0, 0, List.replicate 64 0, []⟩ = true := by decide +kernel

theorem wit_DefaultActionsAndCulDeSac :
    TableFree State.reset 0xC8 ∧ TableFree State.reset 0xC9 ∧ Unlocked State.reset 0xC9
    ∧ oneTerminal (rd State.reset 0xC8 (TBL.DATA 0)) = false
    ∧ (let s := st [(0xC8, TBL.DATA 0, 1)]
       oneTerminal (rd s 0xC8 (TBL.DATA 0)) = true ∧ bit (rd s 0xC8 (TBL.DATA 0)) 6 = false)
    ∧ (let s := st [(0xC8, TBL.DATA 0, 64)]
       oneTerminal (rd s 0xC8 (TBL.DATA 0)) = true ∧ bit (rd s 0xC8 (TBL.DATA 0)) 6 = true)
    ∧ State.reset.cul.find? (fun x => decide (x.index = rd State.reset 0xC9 CUL.TBL_ADDR)) = none
    ∧ ([⟨0, 0, 0, 0, 0, 0, 0, 0, 0, 0, 0⟩] : List CulEnt).find? (fun x => decide (x.index = 0)) = some ⟨0, 0, 0, 0, 0, 0, 0, 0, 0, 0, 0⟩ := by decide

theorem wit_SliceChecksAndReset :
    svc.clock.running = true ∧ journalOpen svc = true ∧ rd svc 0x180 (CWY.SLICE_STATE 1) = 0 ∧ replaying svc = false
    ∧ mapFor svc (now svc) = (3, false) ∧ mode svc = modeService
    ∧ (∀ y, y < 3 → y ≠ 1 → rd svc 0x180 (CWY.SLICE_STATE y) = 0)
    ∧ replaying (wr 0x190 XNG.XNG_STATUS_REPLAY 1 svc) = true ∧ journalOpen (wr 0x190 XNG.XNG_STATUS_REPLAY 1 svc) = true
    ∧ rd (wr 0x190 XNG.XNG_STATUS_REPLAY 1 svc) 0x180 (CWY.SLICE_STATE 1) = 0
    ∧ (let s := wr 0x180 (CWY.SLICE_STATE 1) 1 svc
       rd s 0x180 (CWY.SLICE_STATE 1) = 1 ∧ rd s (held 0x180) (HCWY.FAULT_AT 1) = now s ∧ rd s (held 0x180) (HCWY.FAULT_MASKED 1) = 1)
    ∧ rd svc (held 0x180) HCWY.GUARD_AT ≠ 0 ∧ rd svc (held 0x180) HCWY.GUARD_AT ≤ now svc + 1 := by decide

theorem wit_SliceTestAndReturn :
    (let s := stAt 4000 0 [(0x180, CWY.SLICE_STATE 2, 3), (0x20, PWR0.PWR_STATUS_MODE, 4)]
     rd s 0x180 (CWY.SLICE_STATE 2) = 3 ∧ rd s (held 0x180) (HCWY.TEST_TICK 2) + 3999 ≤ s.clock.tick ∧ mode s = modeService
      ∧ Unlocked s 0x180 ∧ rtsBusy s = false ∧ mode s ≠ modeGuarded)
    ∧ (let s := stAt 1000000 0 [(0x180, CWY.SLICE_STATE 2, 2), (0x20, PWR0.PWR_STATUS_MODE, 5), (0x180, CWY.CWY_STATUS_FENCED, 2),
         (0x180, CWY.SLICE_TEST_PASSED 2, 1), (0x180, CWY.RTS_HOLD, 8)]
       mode s = modeGuarded ∧ rd s 0x180 CWY.CWY_STATUS_FENCED = 2 ∧ rd s 0x180 (CWY.SLICE_TEST_PASSED 2) = 1
        ∧ rtsHost s = false
        ∧ rd s (held 0x180) (HCWY.FENCE_TICK 2) + rd s 0x180 CWY.RTS_HOLD ≤ s.clock.tick + 1 ∧ recentReturns s 2 < rd s 0x180 CWY.RTS_MAX
        ∧ rtsBusy s = false ∧ rd s 0x180 (CWY.SLICE_STATE 2) = 2 ∧ mode s ≠ modeService)
    ∧ rtsBusy (st [(held 0x180, HCWY.RTS_OP, 2)]) = true ∧ rtsDue (st [(held 0x180, HCWY.RTS_OP, 2)]) 2 = true
    ∧ rtsDue (st [(held 0x180, HCWY.RTS_OP, 3)]) 3 = true
    ∧ bit (2 ^ 31) 31 = true ∧ bit 0 31 = false ∧ rd (st [(0x180, CWY.CWY_CTRL_INJ_ALLOW, 1)]) 0x180 CWY.CWY_CTRL_INJ_ALLOW = 1 := by decide

/-- A frame of the Crossing's receive side at the journal. -/
def crossingFrame : InFrame := ⟨12, 0, false, 0, [], [], blankItem, 0⟩

theorem wit_JournalEntryAndTimedWork :
    (let s := { svc with ingress := [crossingFrame] }
     s.clock.running = true ∧ journalOpen s = true ∧ pickIngress s 12 (startOf (now s) + 7) = some crossingFrame
      ∧ pickIngress s 12 (startOf (now s) + 2000) = some crossingFrame ∧ pickIngress s 3 (startOf (now s) + 7) = none
      ∧ (let x := (formItem crossingFrame (now s) 7 s).1
         let r := itemRegion (formItem crossingFrame (now s) 7 s).2 x
         let slice := regionOwner (mapFor s (now s)).1 r
         entersInRank s slice (now s) x.source 7 = true ∧ ledgerRecords s slice (now s) < 2040 ∧ journalRoom s slice (now s) r = true)
      ∧ (let x := (formItem crossingFrame (now s + 1) (-430) s).1
         let r := itemRegion (formItem crossingFrame (now s + 1) (-430) s).2 x
         let slice := regionOwner (mapFor s (now s + 1)).1 r
         let u := { s with early := [{ blankItem with source := 13, entry := -430 }] }
         entersInRank s slice (now s + 1) x.source (-430) = true ∧ entersInRank u slice (now s + 1) x.source (-430) = false
          ∧ ledgerRecords s slice (now s + 1) < 2040 ∧ journalRoom s slice (now s + 1) r = true)) := by decide

theorem wit_StreamResetAtItsTime :
    (let s := stAt 9 0 [(Tab.flow 5, FREC.TYPE, 2), (Tab.flow 5, SREC.RESET_TICKS, 3)]
     let v := viewState s (regionOwner (mapFor s (now s)).1 (5 % 192)) (now s)
     s.clock.running = true ∧ s.clock.block = 0 ∧ rd v (Tab.flow 5) FREC.TYPE = 2 ∧ rd v (Tab.flow 5) SREC.RESET_TICKS ≠ 0
      ∧ rd v (Tab.flow 5) SREC.TAKE_ANY = 0
      ∧ rd v (Tab.flow 5) SREC.RESET_TICKS ≤ (s.clock.tick % 2 ^ 32 + 2 ^ 32 - rd v (Tab.flow 5) SREC.LAST_PASS) % 2 ^ 32) := by decide

theorem wit_AgeingVisitProposesRemoval :
    (let s := stAt 9 0 [(0xD0, FLW.FLW_CTRL_EN, 1), (Tab.flow 5, FREC.TYPE, 1), (Tab.flow 5, FREC.IDLE_OVERRIDE, 3)]
     s.clock.running = true ∧ rd s 0xD0 FLW.FLW_CTRL_EN = 1 ∧ 5 < flowBase s
      ∧ agedOut (viewState s (regionOwner (mapFor s (now s)).1 (bucketRegion s (5 / 8))) (now s)) (s.clock.tick % 2 ^ 32) 5 = true) := by
  decide +kernel

theorem wit_CommitAndSerialisation :
    (svc.clock.running = true ∧ svc.nextCommit + 2 ≤ now svc)
    ∧ kerbUp (kerb3 []) 3 = true ∧ kerbX4 (kerb3 []) 3 = true ∧ sending (kerb3 []) 3 = none ∧ rd (kerb3 []) (krb 3) KRB.PORT_CTRL_LPI_EN = 1
    ∧ rd (kerb3 []) (krbHeld 3) HKRB.IDLE_FROM + nsCycles (rd (kerb3 []) (krb 3) KRB.LPI_ENTRY) ≤ startOf (now (kerb3 []) + 1)
    ∧ (kerb3 []).macs.any (fun y => decide (y.port = 3)) = false
    ∧ (let x := { mac3 with started := true }
       sending (kerb3 [x]) 3 = some x ∧ x.at_ ≤ startOf (now (kerb3 [x])) + 0) := by decide

theorem wit_mac_pick : macPick (kerb3 [mac3]) 3 0 = some mac3 ∧ poisoned (kerb3 [mac3]) mac3.ent = false := by decide +kernel

theorem wit_transmit_opportunity : (transmitOpportunity 3 0 leaf3).macs.length ≠ leaf3.macs.length := by decide +kernel

theorem wit_poisoned :
    (let s := { kerb3 [mac3] with buffers := [(mac3.ent.handle, some ⟨1, 0, 0, 0, true, true⟩)] }
     macPick s 3 0 = some mac3 ∧ poisoned s mac3.ent = true) := by decide +kernel

theorem wit_LanesFallbackAndLinks :
    (let s := kerb3 []
     rd s (lan 3) (LAN.LANE_STATUS_LOST 1) = 0 ∧ kerbUp s 3 = true ∧ kerbX4 s 3 = true ∧ bit (rd s (krb 3) KRB.PORT_STATUS_RX_LANES) 1 = true
      ∧ 2 ≤ lanes 13 ∧ lanes 1 < 2 ∧ s.front = [] ∧ wantLanes s 3 (15 % 16) = rd s (krb 3) KRB.PORT_STATUS_TX_LANES
      ∧ lanes (wantLanes s 3 (13 % 16)) < lanes (rd s (krb 3) KRB.PORT_STATUS_TX_LANES) ∧ 0 < lanes (wantLanes s 3 (13 % 16)))
    ∧ kerbUp svc 3 = false ∧ rd svc (lan 3) (LAN.LANE_STATUS_LOST 1) = 0
    ∧ (let s := { wr (lan 3) (LAN.LANE_STATUS_LOST 1) 1 (kerb3 []) with clock := ⟨true, 100000, 0, false, 0⟩ }
       rd s (lan 3) (LAN.LANE_STATUS_LOST 1) = 1 ∧ rd s (krbHeld 3) (HKRB.BAD_TICK 1) + rd s (krb 3) KRB.RESTORE_TICKS ≤ s.clock.tick ∧ mode s ≠ modeLean)
    ∧ rd svc (lan 8) (LAN.LANE_STATUS_LOST 1) = 0
    ∧ (let s := wr 0x83 KRB.PORT_STATUS_LINK 1 (wr 0x20 PWR0.PD_STATUS 0xFFFFF (kerb3 []))
       portEn s 3 = true ∧ kerbDomain s 3 = true ∧ kerbUp s 3 = false ∧ upLanes s 3 15 15 = true
        ∧ (let u := { s with clock := ⟨true, 100, 0, false, 0⟩ }
           rd u (krbHeld 3) HKRB.UP_FROM + max 1 (rd u (krb 3) KRB.UP_HOLD) ≤ u.clock.tick)) := by decide

/-- A frame of 64 bytes being received on Kerb port 3. -/
def rx3 (late : Bool) : InFrame := ⟨3, 0, late, 0, [], [], { blankItem with source := 3, port := 3, length := 64, aux := [64] }, 0⟩

theorem wit_KerbReceptionAndPause :
    ((kerb3 []).front.any (fun g => decide (g.src = 3)) = false)
    ∧ ([rx3 false].find? (ofPort 3) = some (rx3 false) ∧ rxFault (kerb3 []) 3 ((rx3 false).item.aux.getD 0 0) true = none)
    ∧ ([rx3 true].find? (ofPort 3) = some (rx3 true) ∧ (rx3 true).overflow = true)
    ∧ rxFault (kerb3 []) 3 64 false = some KRB.RX_FCS_ERR
    ∧ (∀ m ∈ [0, 1, 2], let s := wr 0x83 KRB.PORT_CTRL_PAUSE_MODE m (kerb3 []); kerbUp s 3 = true ∧ pauseMode s 3 = m)
    ∧ (let s := holdQueue 3 2 0 100 (kerb3 [])
       isHeld s 3 2 = true ∧ rd s (krbHeld 3) (HKRB.HELD_UNTIL 2) ≤ startOf (now s) + 2430) := by decide

theorem wit_KerbControlRegisters :
    Unlocked svc 0xA9 ∧ anyPortEn svc = false ∧ anyPortEn (kerb3 []) = true ∧ Unlocked (kerb3 []) 0xA9
    ∧ (∀ v ∈ [0, 1], rd (wr 0xA9 KREF.KREF_STATUS_LOCKED v svc) 0xA9 KREF.KREF_STATUS_LOCKED = v)
    ∧ Unlocked svc (lan 3) ∧ portEn svc 3 = false ∧ Unlocked svc (krb 3) ∧ rd svc 0xA9 KREF.KREF_STATUS_SPREAD_ON = 0 ∧ bit 5 0 = true
    ∧ (∀ v ∈ [0, 1], let s := wr (lan 3) (LAN.LANE_STATUS_PRBS_LOCK 2) v (wr (lan 3) (LAN.LANE_CTRL_CHECK_EN 2) 1 svc)
        rd s (lan 3) (LAN.LANE_CTRL_CHECK_EN 2) = 1 ∧ rd s (lan 3) (LAN.LANE_STATUS_PRBS_LOCK 2) = v)
    ∧ TableFree svc (krb 3) ∧ krbRecord svc 3 = some (Tab.filt 3 0, FILT.fields)
    ∧ krbRecord (wr (krb 3) KRB.TBL_ADDR_INDEX 16 svc) 3 = none ∧ TableFree (wr (krb 3) KRB.TBL_ADDR_INDEX 16 svc) (krb 3) := by decide

theorem wit_BoundariesAndChannels :
    (let s := stAt 1 63 []; let s := { s with nextCommit := now s - 1 }
     s.clock.tickOpen = false ∧ s.clock.running = true ∧ s.clock.block = 63 ∧ commitsDone s = true)
    ∧ (State.reset.clock.tickOpen = false ∧ State.reset.clock.running = false ∧ clockMayStart State.reset = true)
    ∧ (let s := { svc with nextCommit := now svc - 1 }
       s.clock.running = true ∧ s.clock.tickOpen = false ∧ s.clock.block < 63 ∧ commitsDone s = true)
    ∧ (let s := { st [(0x20, PWR0.PWR_STATUS_MODE, 3), (held 0x40, HTP.ALIGN, 1)] with clock := ⟨true, 5, 0, true, 0⟩ }
       s.clock.running = true ∧ s.clock.tickOpen = true ∧ rdb s (held 0x40) HTP.ALIGN = true ∧ 100 < tickCycles ∧ mode s = modeCommission)
    ∧ inService svc 3 = true ∧ inService (setService 3 false svc) 3 = false
    ∧ (let s := setRebuilding 3 true svc; inService s 3 = true ∧ bit (rd s 0 GEN.GEN_STATUS_CHAN_REBUILDING) 3 = true
        ∧ inService s 7 = true ∧ bit (rd s 0 GEN.GEN_STATUS_CHAN_REBUILDING) 7 = false) := by decide +kernel

theorem wit_Scrubbing :
    (let w : WordAt := ⟨0xE2, 4, 1, 0, 64, .frameData 5⟩
     let s := { svc with buffers := [(5, some ⟨1, 0, 0, 0, true, false⟩)] }
     wordThere s w = true ∧ noBuffer (uncorrected w.page s) 5 = false
      ∧ noBuffer (raiseFault w.page noBit (wordLoc w) false [w.addr] (uncorrected w.page s)) 5 = false)
    ∧ (let w : WordAt := ⟨0xD0, 0x31, 0, 0, 128, .flowRecord 5 false⟩
       wordThere svc w = true ∧ copyGood (uncorrected w.page svc) w false = true ∧ copyGood (uncorrected w.page svc) w true = false
        ∧ wordThere svc ⟨0xD0, 0x33, 0, 0, 128, .flowRecord 5 false⟩ = false)
    ∧ noBuffer (uncorrected 0xE2 svc) 0xFFFFFFFF = true
    ∧ (pageInfo 0xE0).isSome = true := by decide +kernel

theorem wit_PinsAndSupplies :
    (let r := State.reset
     pin r HPWR.PORST = false ∧ pin r HPWR.STANDBY = true ∧ pin r HPWR.VIN = true ∧ warmOk r = true ∧ pd0On r = true
      ∧ rdb r (held 0x10) HSEC.GRANTED = false ∧ powerState r ≤ 1 ∧ pin r HPWR.SCAN = false
      ∧ (appendFlog { mkEv r 0 GEN.evCLOCK_FAULT (locDie 0) false [] with deferred := true } r).deferred.length < 256)
    ∧ (∀ v ∈ [0, 1], let s := st [(held 0x20, HPWR.PORST, 1), (held 0x20, HPWR.VIN, v)]
       pin s HPWR.PORST = true ∧ pin s HPWR.STANDBY = true ∧ pin s HPWR.VIN = decide (v = 1))
    ∧ (let s := st [(held 0x20, HPWR.VIN, 0), (held 0x20, HPWR.POWER_ON, 1)]
       pin s HPWR.VIN = false ∧ pin s HPWR.STANDBY = true ∧ pin s HPWR.PORST = false ∧ pin s HPWR.POWER_ON = true)
    ∧ pin (st [(held 0x20, HPWR.SCAN, 1)]) HPWR.SCAN = true := by decide +kernel

theorem wit_MarketSquareCommands :
    (requestOk 3 1 clIngress = true ∧ (serveTo (startOf (now svc) + 50) svc).requests.any (fun x => decide (x.requester = 3)) = false)
    ∧ (let w : WonReq := ⟨⟨2, 100, 1, clIngress, startOf (now svc) + 46⟩, startOf (now svc) + 47, 5⟩
       let s := { svc with won := [w] }
       (serveTo (startOf (now s) + 50) s).won.find? (fun x => decide (x.req.requester = 2 ∧ x.cycle + 3 = startOf (now s) + 50)) = some w
        ∧ w.handle ≠ emptyHandle)
    ∧ (let s := st [(held 0xE0, HSQR.BUILDING, 1), (0xE0, COM.PAGE_CTRL_ENABLE, 1)]
       rdb s (held 0xE0) HSQR.BUILDING = true ∧ rdb s 0xE0 COM.PAGE_CTRL_ENABLE = true ∧ Unlocked s 0xE0)
    ∧ (let s := wr 0xE0 COM.PAGE_CTRL_ENABLE 0 svc
       Unlocked s 0xE0 ∧ rdb s 0xE0 COM.PAGE_CTRL_ENABLE = false ∧ poolsConfigOk s = true) ∧ TableFree svc 0xE2 ∧ Unlocked svc 0xE2
    ∧ (let s := wr 0xE2 SQR2.TBL_ADDR 2 (wr 0xE0 SQR0.SQR_STATUS_READY 1 svc)
       poolsOn s = true ∧ TableFree s 0xE2 ∧ badHandle s (rd s 0xE2 SQR2.TBL_ADDR) = false ∧ handlePool (rd s 0xE2 SQR2.TBL_ADDR) ≤ 3
        ∧ rd s 0xE2 SQR2.TBL_ADDR % 4 ≠ 3) := by decide +kernel

theorem wit_FlowTableCommands :
    TableFree svc 0xD0 ∧ Unlocked svc 0xD0 ∧ rdb svc 0xD0 FLW.FLW_CTRL_EN = false ∧ flowBase svc = rd svc (held 0xD0) HFLW.BASE
    ∧ rd svc 0xD0 FLW.HASH_SEED = rd svc (held 0xD0) HFLW.SEED
    ∧ rdb (st [(held 0xD0, HFLW.FLUSHING, 1)]) (held 0xD0) HFLW.FLUSHING = true
    ∧ (st [(held 0xD0, HFLW.FLUSHING, 1)]).flushList = []
    ∧ rdb (st [(held 0xD0, HFLW.FREEING, 1)]) (held 0xD0) HFLW.FREEING = true := by decide +kernel

theorem wit_GatesNodesAndPolicers :
    (let s := wr (Tab.gateAdmin 3 0) GENT.INTERVAL 100 (wr 0x102 (SCH2.GATE_CTRL_LIST_LEN 3) 1 (wr 0x102 (SCH2.CYCLE_TIME 3) 1000000 svc))
     Unlocked s 0x102 ∧ gateReason s 3 = 0) ∧ gateReason svc 3 ≠ 0 ∧ Unlocked svc 0x102
    ∧ (let s := wr (held 0x100) (HSCH.START_NS 3) 1 svc
       rd s (held 0x100) (HSCH.START_NS 3) ≠ 0 ∧ reached s 5 (rd s (held 0x100) (HSCH.START_NS 3) - 1) = true)
    ∧ (let s := wr (held 0x100) (HSCH.WAIT 3) 1 (wr (held 0x100) (HSCH.OPER 3) 1 svc)
       rdb s (held 0x100) (HSCH.OPER 3) = true ∧ reached s 5 (entryOver s 3) = true)
    ∧ TableFree svc 0x102 ∧ gatePending svc (rd svc 0x102 SCH2.TBL_ADDR_PORT) = false
    ∧ gatePending (wr 0x102 (SCH2.CONFIG_CHANGE 0) 1 svc) (rd svc 0x102 SCH2.TBL_ADDR_PORT) = true
    ∧ TableFree svc 0x101 ∧ nodeRecord svc = some (Tab.leaf 0, LEAF.fields) ∧ rd svc 0x101 SCH1.TBL_ADDR_LEVEL = 0
    ∧ TableFree svc 0x140 ∧ bolIndexOk svc = true ∧ zeroBurst svc = false
    ∧ (let s := wr 0x140 (TBL.DATA 0) 0x55555555 (wr 0x140 BOL.TBL_ADDR_TABLE 1 svc); bolIndexOk s = true ∧ rdb s 0x140 BOL.TBL_ADDR_TABLE = true)
    ∧ (∃ v < 16, let s := wr 0x140 (TBL.DATA 0) v (wr 0x140 BOL.TBL_ADDR_TABLE 1 svc)
        bolIndexOk s = true ∧ zeroBurst s = true ∧ TableFree s 0x140) := by decide +kernel

theorem wit_ServoAndSteps :
    (let s := wr (held 0x30) HTIM.COUNT (servoTicks svc) svc
     servoTicks s ≤ rd s (held 0x30) HTIM.COUNT ∧ rdb s 0x30 TIM0.CLK_CTRL_SOURCE = false)
    ∧ (let s := { st [(held 0x30, HTIM.STEP_AT 1, 1)] with clock := ⟨true, 5, 0, true, 0⟩ }
       s.clock.tickOpen = true ∧ [0, 1, 2].filter (stepDue s) = [1])
    ∧ (∀ v ∈ [0, 1], let s := wr 0x30 TIM0.CLK_STATUS_STEP_PENDING v (wr 0x30 TIM0.CLK_CTRL_SERVO_MODE v svc)
        Unlocked s 0x30 ∧ hwServo s = decide (v = 0) ∧ rdb s 0x30 TIM0.CLK_STATUS_STEP_PENDING = decide (v = 1))
    ∧ clkState (wr 0x30 TIM0.CLK_STATUS_STATE clkUncertain svc) = clkUncertain
    ∧ (let s := { wr 0x30 TIM0.CLK_CTRL_AUTO_ACCEPT 1 (wr 0x30 TIM0.CLK_STATUS_STEP_PENDING 1 svc) with clock := ⟨true, 900000, 5, false, 0⟩ }
       rdb s 0x30 TIM0.CLK_CTRL_AUTO_ACCEPT = true ∧ rdb s 0x30 TIM0.CLK_STATUS_STEP_PENDING = true ∧ rd s (held 0x30) (HTIM.STEP_AT 0) = 0
        ∧ rd s (held 0x30) HTIM.FIRST_TICK + rd s 0x30 TIM0.ACCEPT_HOLD ≤ s.clock.tick)
    ∧ (let s := wr 0x40 FB0.DS_STATUS_SYNC_STATE 2 svc
       rd s 0x30 TIM0.TOD_CMD_PORT = 0
        ∧ ((rd64 s 0x30 TIM0.TOD_SFC_LO TIM0.TOD_SFC_HI : Int) - rd64 s 0x40 FB0.SFC_LO FB0.SFC_HI).natAbs ≤ 2 ^ 30
        ∧ rd s 0x40 FB0.DS_STATUS_SYNC_STATE = 2) := by decide +kernel

theorem wit_CapturesAndOutputs :
    (let s := wr 0x31 (TIM1.CAP_CTRL_EN 1) 1 svc
     s.clock.running = true ∧ rdb s 0x31 (TIM1.CAP_CTRL_EN 1) = true ∧ rdb s 0x31 (TIM1.CAP_STATUS_STUCK 1) = false ∧ edgeTooSoon s 1 100 = false
      ∧ edgeTooSoon (wr 0x31 (TIM1.CAP_CTRL_MIN_TICKS 1) 5 (wr (held 0x30) (HTIM.LAST_EDGE 1) 243001 s)) 1 100 = true)
    ∧ rdb (wr 0x31 (TIM1.CAP_STATUS_STUCK 1) 1 svc) 0x31 (TIM1.CAP_STATUS_STUCK 1) = true
    ∧ (let s := { wr 0x31 (TIM1.CAP_STATUS_LOST 0) 0 svc with clock := ⟨true, 20000, 5, false, 0⟩ }
       rdb s 0x31 (TIM1.CAP_STATUS_LOST 0) = false ∧ rd s (held 0x30) (HTIM.LAST_EDGE 0) + 16000 * tickCycles ≤ startOf (now s) + 1)
    ∧ Unlocked svc 0x30 ∧ Unlocked svc 0x31 ∧ Unlocked svc 0x32
    ∧ (let s := wr (held 0x30) (HTIM.L_RUN 2) 1 svc
       rd s (held 0x30) (HTIM.L_RUN 2) ≠ 0 ∧ reached s 5 (rd s (held 0x30) (HTIM.L_NEXT 2)) = true) := by decide +kernel

/-- SERVICE with highway 0 enabled and its clock good, and tributary 0 enabled on it, a framed E1 gathering one frame a packet. -/
def trib0 : State :=
  { wr 0x20 PWR0.PD_STATUS 0xFFFFF (wr 0x1A0 (TRM0.HWY_CTRL_EN 0) 1 (wr 0x1A0 (TRM0.HWY_STATUS_CLK_OK 0) 1 (wr (Tab.trib 0) TRIB.ENABLE 1
      (wr (Tab.trib 0) TRIB.FRAMING 2 (wr (Tab.trib 0) TRIB.ALIGN_STATE 3 (wr (Tab.trib 0) TRIB.CE_MODE 1 (wr (Tab.trib 0) TRIB.FRAMES 1 svc))))))) with
    tribs := [(0, some { tribBlank with gather := [0], mfRestart := 3200 })],
    clock := ⟨true, 100, 0, false, 0⟩ }

theorem wit_TramlinesCommands :
    hwyOn trib0 0 = true ∧ rdb trib0 0x1A0 (TRM0.HWY_STATUS_CLK_OK 0) = true ∧ tribOn trib0 0 = true ∧ framing trib0 0 = 2
    ∧ tr trib0 0 TRIB.ALIGN_STATE = 3 ∧ rdb trib0 (Tab.trib 0) TRIB.CRC4_INTERWORK = false ∧ (trib trib0 0).mf = false
    ∧ tr trib0 0 TRIB.CE_MODE ≠ 0 ∧ tr trib0 0 TRIB.FRAMES ≠ 0 ∧ tr trib0 0 TRIB.FRAMES ≤ (trib trib0 0).gather.length ∧ admissionOpen trib0 0 = true
    ∧ 3200 ≤ (trib trib0 0).mfRestart ∧ frameMayStart trib0 0 (frameSyncCycle trib0 0) = true ∧ hwyTiming trib0 0 = 0
    ∧ (let s := wr 0x1A0 (TRM0.HWY_CTRL_TIMING 0) 2 trib0; hwyOn s 0 = true ∧ frameMayStart s 0 7 = true ∧ hwyTiming s 0 = 2)
    ∧ State.reset.clock.tick % 8000 = 0 ∧ State.reset.clock.tick % 7200000 = 0
    ∧ TableFree svc 0x1A1 ∧ TableFree svc 0x1A2
    ∧ (let s := wr 0x1A1 (TBL.DATA 0) 0x0E000200 (wr 0x1A1 (TBL.DATA 4) 64 svc)
       tribCheck s (dataField s 0x1A1) = 0 ∧ TableFree s 0x1A1)
    ∧ tribCheck svc (dataField svc 0x1A1) ≠ 0 := by decide +kernel

theorem wit_MewsCoreCommands :
    (let s := mews5 (mcoreIdle [])
     rdb s 0x1C0 MEW0.MEW_CTRL_EN = true ∧ coreWorks s 5 = true ∧ (coreOf s 5).role = 0 ∧ rd s (held 0x1C0) (HMEW.DISP 5) = s.clock.tick + 1)
    ∧ (let s := mews5 { mcoreIdle [] with role := 0x41, waiting := true, outs := [] }
       (coreOf s 5).role ≠ 0 ∧ (coreOf s 5).waiting = true ∧ (coreOf s 5).ckptRun = none ∧ (coreOf s 5).xfers = []
        ∧ (coreOf s 5).outs.all (fun p => portOk s p.1 p.2) = true)
    ∧ (let s := mews5 { mcoreIdle [] with role := 0x41, rep := 0, cycles := 10, ckptRun := some (0, 4), stalled := some (3, 64) }
       (coreOf s 5).ckptRun = some (0, 4) ∧ (coreOf s 5).stalled = some (3, 64) ∧ (coreOf s 5).rep = 0 ∧ (coreOf s 5).waiting = false
        ∧ roleF s (taskRole (coreOf s 5)) ROLE.BUDGET ≤ (coreOf s 5).cycles ∧ rosanegRole (taskRole (coreOf s 5)) = false
        ∧ (askNow 9 64 carveControl clMews s).1 = emptyHandle) := by decide +kernel

theorem wit_bundle_issue :
    (let s := setCoreState 5 coreRunning (wr (Tab.role 0x40) ROLE.CODE_BUNDLES 4 (mews5 { mcoreIdle [] with role := 0x41 }))
     let m := coreOf s 5
     let x := taskCtx s 5 (taskRole m)
     let b := taskBundle s 5 m
     canIssue s 5 = true ∧ bundleStalls x m b = false ∧ bundleTrap x (land m) b = 0)
    ∧ (let s := setCoreState 5 coreRunning (mews5 { mcoreIdle [] with role := 0x41 })
       let m := coreOf s 5
       canIssue s 5 = true ∧ bundleStalls (taskCtx s 5 (taskRole m)) m (taskBundle s 5 m) = false
        ∧ bundleTrap (taskCtx s 5 (taskRole m)) (land m) (taskBundle s 5 m) ≠ 0) := by decide +kernel

theorem wit_stall_and_grant :
    (let s := { setCoreState 5 coreRunning (mews5 { mcoreIdle [] with role := 0x41, xfers := [(0, 0, 16)] })
        with imem := [(5 * 4096, 0x3C * 2 ^ 26)] }
     let m := coreOf s 5
     canIssue s 5 = true ∧ bundleStalls (taskCtx s 5 (taskRole m)) m (taskBundle s 5 m) = true)
    ∧ (let s := wr 0xE0 SQR0.SQR_STATUS_READY 1 (mews5 { mcoreIdle [] with role := 0x41, stalled := some (3, 64) })
       (coreOf s 5).stalled = some (3, 64) ∧ (askNow 9 64 carveControl clMews s).1 ≠ emptyHandle) := by decide +kernel

theorem wit_MewsRouterAndRoles :
    (let s := { svc with msgQueue := [(12, ⟨0, []⟩), (3, ⟨1, []⟩), (12, ⟨2, []⟩)] }
     (routerGone s (startOf (now s) + 20)).2 < 2 ∧ routerNext s 20 0 = some 12 ∧ routerNext s 20 8 = some 3 ∧ routerNext s 0 0 = some 3) ∧
    (let s := wr (Tab.role 0) ROLE.STATE 0 (mews5 (mcoreIdle []))
     coreWorks s 5 = true ∧ Unlocked s 0x1C0 ∧ rd s 0x1C0 (MEW0.CORE_ROLES 5) = 0 ∧ rd s 0x1C0 (MEW0.CORE_STANDBY_FOR 5) = 0
      ∧ rd (wr 0x1C0 (MEW0.CORE_ROLES 5) 2 s) 0x1C0 (MEW0.CORE_ROLES 5) ≠ 0)
    ∧ (let s := { setCoreState 5 coreTesting (wr (held 0x1C0) (HMEW.TEST 5) 1 svc) with clock := ⟨true, 900, 5, false, 0⟩ }
       coreState s 5 = coreTesting ∧ rd s (held 0x1C0) (HMEW.TEST 5) ≠ 0 ∧ rd s (held 0x1C0) (HMEW.TEST 5) + 799 ≤ s.clock.tick)
    ∧ (let s := { wr (Tab.role 0x40) ROLE.STATE roleRestarting svc with clock := ⟨true, 900, 0, true, 0⟩, roleDue := [0x40, 0x140] }
       s.clock.tickOpen = true ∧ 0x40 ∈ s.roleDue ∧ roleState s 0x40 = roleRestarting ∧ 0x40 + 256 ∈ s.roleDue)
    ∧ TableFree svc 0x1C1 ∧ tblRole svc = 0
    ∧ (let s := { wr 0x1C1 TBL.ADDR 0x40 (wr (Tab.role 0x40) ROLE.STATE roleStopped (mews5 (mcoreIdle [])))
        with images := [(0x40, some ⟨[], [], 0, 0, 0, 0, 0, 0, 0, 0⟩)] }
       TableFree s 0x1C1 ∧ tblRole s = 0x40 ∧ roleState s (tblRole s) = roleStopped ∧ (roleImage s (tblRole s)).isNone = false
        ∧ coreWorks s (roleCore s (tblRole s)) = true)
    ∧ (let s := wr 0x1C1 TBL.ADDR 0x40 (wr (Tab.role 0x40) ROLE.STATE roleRunning svc)
       TableFree s 0x1C1 ∧ roleState s (tblRole s) = roleRunning ∧ (coreOf s (roleCore s (tblRole s))).role ≠ tblRole s + 1) := by decide +kernel

theorem wit_StoreCommands :
    refTurn svc 3 (startOf (now svc) + 5) = true ∧ (let s := { svc with slots := [⟨7, 0, false, false, 0⟩] }; slotOf s 7 = some ⟨7, 0, false, false, 0⟩)
    ∧ (let s := { stAt 90000 0 [(Tab.dir 3, DIRE.STATE, 1), (Tab.dir 3, DIRE.OPEN_SEG, 2), (0x1E0, ARC0.ARC_CTRL_EN, 1), (0x1E0, ARC0.ARC_STATUS_READY, 1)] with dirDirty := [3] }
       s.clock.running = true ∧ s.clock.block = 0 ∧ s.dirDirty ≠ [] ∧ storeOn s = true
        ∧ (let v := viewState s (objectSlice s (now s) (dirId s 3)) (now s); openIncomplete v 3 = true ∧ dirState v 3 ≠ dirFree)
        ∧ rd s (Tab.dir 3) HDIR.CHUNK_TICK + max 1 (rd s 0x1E0 ARC0.FILL_TIMEOUT) ≤ s.clock.tick)
    ∧ bit (rd (wr 0x1E0 ARC0.ARC_STATUS_PACKAGES_OK 255 svc) 0x1E0 ARC0.ARC_STATUS_PACKAGES_OK) 3 = true := by decide +kernel

/-- A fill frame ready in a leaf of the Arcade's port node, under an enabled tree, with the store writing. -/
def fillReady : State :=
  { st [(Tab.pnode 11, NODE.ENABLE, 1), (Tab.svc 0, NODE.ENABLE, 1), (Tab.svc 0, NODE.PARENT, 11), (Tab.sub 0, NODE.ENABLE, 1), (Tab.leaf 0, LEAF.ENABLE, 1),
      (0x20, PWR0.PWR_STATUS_MODE, 4), (0x1E0, ARC0.ARC_CTRL_EN, 1), (0x1E0, ARC0.ARC_STATUS_READY, 1)] with
    clock := ⟨true, 1, 36, false, 0⟩
    leafq := [{ blankEnt with id := 1, leaf := 0, port := 11, cls := 2, length := 100, handle := 5 }] }

theorem wit_segment_take :
    storeOn fillReady = true ∧ rdb fillReady 0x1E0 ARC0.ARC_STATUS_FLUSHING = false
    ∧ (chooseAt 11 3 fillReady).any (fun z => !poisoned (depart z.1 (if z.2.1 then countOverride z.1 z.2.2 else z.2.2)) z.1) = true := by decide +kernel

theorem wit_gap :
    (let s := { stAt 2900000 0 [(Tab.dir 3, DIRE.STATE, 1), (Tab.dir 3, DIRE.OBJECT_ID, 9)] with gaps := [⟨3, 9, 0, 1, 0, 5, false⟩] }
     s.gaps[0]? = some ⟨3, 9, 0, 1, 0, 5, false⟩ ∧ 5 + rd s 0x1E0 ARC0.REPAIR_TICKS ≤ s.clock.tick ∧ gapOpen s ⟨3, 9, 0, 1, 0, 5, false⟩ = true) := by
  decide +kernel

theorem wit_DirectoryAndRingCommands :
    TableFree svc 0x1E1
    ∧ TableFree svc 0x1E2 ∧ arcIndexOk svc = true ∧ rdb svc 0x1E2 ARC2.TBL_ADDR_TABLE = false
    ∧ arcIndexOk (st [(0x1E2, ARC2.TBL_ADDR_INDEX, 512)]) = false
    ∧ (let s := st [(0x1E2, ARC2.TBL_ADDR_TABLE, 1)]
       TableFree s 0x1E2 ∧ arcIndexOk s = true ∧ rdb s 0x1E2 ARC2.TBL_ADDR_TABLE = true ∧ dataField s 0x1E2 READER.VALID ≠ 1)
    ∧ (∃ v ∈ [1, 2 ^ 31, 2 ^ 16, 0xFFFFFFFF], let s := st [(0x1E2, ARC2.TBL_ADDR_TABLE, 1), (0x1E2, TBL.DATA 0, v)]
       dataField s 0x1E2 READER.VALID = 1 ∧ rdb s (Tab.ring (dataField s 0x1E2 READER.RING)) RING.VALID = false) := by decide +kernel

/-- Yunager runs. -/
def thl (l : List (Nat × Field × Nat)) : State := stAt 5000 0 (l ++ [(0x10, SEC0.BOOT_STATUS_STAGE, 1), (held 8, HTHL.STOPPED, 0)])

theorem wit_TownHallCommands :
    (let s := { thl [(held 8, HTHL.STEP, 100), (held 8, HTHL.FUNC_AT, 5)] with clock := ⟨true, 5000, 0, true, 0⟩ }
     s.clock.tickOpen = true ∧ stepsRun s = true ∧ rd s (held 8) HTHL.STEP ≠ 0 ∧ rd s (held 8) HTHL.STEP ≤ s.clock.tick
      ∧ rd s (held 8) HTHL.STEP + 8 ≤ s.clock.tick + 1 ∧ rd s (held 8) HTHL.FUNC_AT ≠ 0 ∧ rd s (held 8) HTHL.FUNC_AT ≤ now s + 1 ∧ s.portWrites = [])
    ∧ rdb (thl [(held 8, HTHL.TAKE, 1)]) (held 8) HTHL.TAKE = true
    ∧ (let s := setPair 1 pairTesting (thl []); pairState s 1 = pairTesting ∧ rd s (held 8) (HTHL.TEST 1) + 4000 ≤ s.clock.tick + 1)
    ∧ (let s := setPair 1 pairStandby (thl [])
       Unlocked s 8 ∧ 1 ≠ activePair s ∧ pairState s 1 = pairStandby ∧ rdb s (held 8) HTHL.TAKE = false)
    ∧ (let s := stAt 5000 0 [(0x10, SEC0.BOOT_STATUS_STAGE, 1), (held 8, HTHL.STOPPED, 1)]
       rdb s (held 8) HTHL.STOPPED = true ∧ yunagerRuns s = true) := by decide +kernel

theorem wit_HostPortCommands :
    (∀ v ∈ [2, 8], let s := wr 0xB1 (HST1.RING_CFG_LOG2_LEN 3) v svc
      Unlocked s 0xB1 ∧ ringState s 3 = ringStopped ∧ ringConfigBad s 3 = decide (v = 2)
       ∧ ((100 + 65536 - rd s 0xB1 (HST1.HEAD 3)) % 65536 > ringLen s 3 ↔ v = 2))
    ∧ (let s := wr 0xB1 (HST1.RING_CTRL_STATE 3) ringRunning (wr 0xB1 (HST1.TAIL 3) 4 (wr 0xB1 (HST1.RING_CFG_KIND 3) 1
          (wr 0xB0 HST0.HST_CTRL_EN 1 (wr 0xB0 HST0.HST_STATUS_LINK_UP 1 svc))))
       ringState s 3 = ringRunning ∧ rd s (held 0xB1) (HHST.STOP_AT 3) = 0 ∧ txPosted s 3 = true ∧ txWaits s 3 = false ∧ txFirst s 3 100 = true
        ∧ rdb s 0xB0 HST0.HST_CTRL_EN = true ∧ rdb s 0xB0 HST0.HST_STATUS_LINK_UP = true ∧ rd s (held 0xB1) HHST.TX_TICK < 2000
        ∧ txType ([0, 0, 0, 0].map (· % 2 ^ 32)) = 0 ∧ txHeld s < 256 ∧ rd s 0xB0 HST0.HST_STATUS_DSTATE = 0)
    ∧ rdb svc 0xB0 HST0.HST_STATUS_LINK_UP = false ∧ rdb svc 0xB0 HST0.HST_CTRL_LINK_HOLD = false := by decide +kernel

theorem wit_BootImagesAndFuses :
    (let s := State.reset; let h := held 0x10
     rdb s h HSEC.ROM = true ∧ s.resumeRec = [] ∧ Unlocked s 0x10 ∧ Unlocked s 0x12 ∧ rdb s h HSEC.TRIAL = false)
    ∧ rdb (st [(held 0x10, HSEC.WAKING, 1)]) (held 0x10) HSEC.WAKING = true
    ∧ rd (st [(0x10, SEC0.BOOT_STATUS_STAGE, 2)]) 0x10 SEC0.BOOT_STATUS_STAGE = 2
    ∧ (let s := st [(0x10, SEC0.BOOT_STATUS_STAGE, 1), (0x10, SEC0.IMG_SLOT, 1)]
       yunagerRuns s = true ∧ rd s 0x10 SEC0.IMG_SLOT ≠ rd s 0x10 SEC0.BOOT_STATUS_SLOT)
    ∧ (let s := st [(held 0x10, HSEC.FUSE_OP, 1), (held 0x10, HSEC.FUSE_AT, 0)]
       rd s (held 0x10) HSEC.FUSE_OP ≠ 0 ∧ rd s (held 0x10) HSEC.FUSE_AT ≤ startOf (now s + 1) ∧ fuseBusy s = true) := by decide +kernel

theorem wit_MeasurementsAndDebug :
    Unlocked svc 0x11 ∧ rdb svc 0x11 SEC1.MEAS_EXT_GO = false ∧ svc.clock.running = true ∧ quoting svc = false
    ∧ quoting (st [(0x11, SEC1.QUOTE_CMD, 1), (held 0x10, HSEC.QUOTE_AT, 1)]) = true
    ∧ (let s := stAt 100000 3 [(held 0x10, HSEC.QUOTE_AT, 3), (held 0x10, HSEC.GRANT_DUE, 3), (held 0x10, HSEC.GRANTED, 1), (0x12, SEC2.DBG_STATUS_CHAL_VALID, 1)]
       rd s (held 0x10) HSEC.QUOTE_AT ≠ 0 ∧ rd s (held 0x10) HSEC.QUOTE_AT ≤ now s + 1 ∧ rd s (held 0x10) HSEC.GRANT_DUE ≠ 0
        ∧ rd s (held 0x10) HSEC.GRANT_DUE ≤ now s + 1 ∧ rdb s (held 0x10) HSEC.GRANTED = true ∧ rd s 0x12 SEC2.DBG_REMAIN = 0
        ∧ rdb s 0x12 SEC2.DBG_STATUS_CHAL_VALID = true ∧ rd s (held 0x10) HSEC.CHAL_TICK + 80000 ≤ s.clock.tick + 1)
    ∧ Unlocked svc 0x12 ∧ rdb svc 0x12 SEC2.DBG_STATUS_THROTTLED = false ∧ rngFailed svc = false
    ∧ rdb (st [(0x12, SEC2.DBG_STATUS_THROTTLED, 1)]) 0x12 SEC2.DBG_STATUS_THROTTLED = true ∧ rngFailed (st [(0x12, SEC2.RNG_STATUS_RNG_FAIL, 1)]) = true
    ∧ responseOk svc = false
    ∧ Unlocked svc 0x1C2 ∧ rdb svc 0x1C2 MEW2.LOAD_STATUS_BUSY = false ∧ rd svc 0x1C2 MEW2.LOAD_ROLE = 0
    ∧ (let s := st [(0x1C2, MEW2.LOAD_ROLE, 0x40)]
       Unlocked s 0x1C2 ∧ rdb s 0x1C2 MEW2.LOAD_STATUS_BUSY = false ∧ rd s 0x1C2 MEW2.LOAD_ROLE = 0x40 ∧ roleState s 0x40 = roleUnassigned)
    ∧ (let s := st [(0x1C2, MEW2.LOAD_STATUS_BUSY, 1)]
       rdb s 0x1C2 MEW2.LOAD_STATUS_BUSY = true ∧ rdb s 0x1C2 MEW2.LOAD_CTRL_FROM_ARCADE = false ∧ mewsLoadResult s [] [] ≠ 0) := by decide +kernel

theorem wit_PowerRequestsAndModes :
    (rdb (wr 0xD0 FLW.FLW_STATUS_READY 1 svc) 0xD0 FLW.FLW_STATUS_READY = true ∧ canAsk svc true = true ∧ Unlocked svc 0x20 ∧ canAsk (wr 0x10 SEC0.BOOT_STATUS_STAGE 1 svc) false = true ∧ replaying svc = false)
    ∧ (let s := wr (held 0x100) HSCH.STOP 1 (wr (held 0x20) HPWR.KIND trDrainDormant svc)
       drains (trKind s) = true ∧ rdb s (held 0x100) HSCH.STOP = true ∧ drainOver s = true)
    ∧ mode (wr 0x20 PWR0.PWR_STATUS_MODE modeSelftest svc) = modeSelftest ∧ locLevel (locDie 0) ≠ 0
    ∧ (∀ k ∈ [trLeanEntry, trLeanOff, trLeanExit], let s := { wr (held 0x20) HPWR.AT 5 (wr (held 0x20) HPWR.KIND k svc) with nextCommit := 98 }
        trDue s k = true ∧ rd s (held 0x20) HPWR.AT - 2 ≤ s.nextCommit)
    ∧ (∀ v ∈ [0, 2], let s := { wr (held 0x20) HPWR.LOW v (wr (held 0x20) HPWR.KIND trDormant svc) with clock := ⟨true, 5, 0, true, 0⟩ }
        trKind s = trDormant ∧ rd s (held 0x20) HPWR.LOW = v ∧ s.clock.tickOpen = true)
    ∧ rdb (wr (held 0x20) HPWR.WAKING 1 svc) (held 0x20) HPWR.WAKING = true := by decide +kernel

theorem wit_WakesAlarmsAndFeed :
    (let s := st [(0x20, PWR0.PWR_STATUS_STATE, 2), (0x20, PWR0.PWR_STATUS_MODE, 0), (0x20, PWR0.SLEEP_TIMER, 7)]
     (∃ k ∈ [0, 2 ^ 30, 2 ^ 47], timerOver s k = true) ∧ holdupOver (wr (held 0x20) HPWR.FEED_AT 2 s) = true ∧
     rdb s 0x21 PWR1.WAKE_STATUS_LEVEL = false ∧ rdb s (held 0x20) HPWR.STANDBY = true ∧ powerState s ≠ 0 ∧ rd s (held 0x20) HPWR.WAKE_MS = 0
      ∧ powerState (wr 0x21 PWR1.WAKE_STATUS_LEVEL 1 s) = powerState s ∧ rd s 0x20 PWR0.SLEEP_TIMER ≠ 0 ∧ mode s = modeDormant)
    ∧ (let s := { svc with clock := ⟨true, 90000, 5, false, 0⟩, regs := (st [(0x21, PWR1.WAKE_STATUS_LEVEL, 1), (held 0x20, HPWR.WAKE_HELD, 1),
          (held 0x20, HPWR.WAKE_TICK, 5), (0x21, PWR1.ALM_CTRL_EN, 4), (held 0x20, HPWR.FAILED, 1), (held 0x20, HPWR.FEED_AT, 3),
          (held 0x20, HPWR.READY 3, 4)]).regs }
       rdb s (held 0x20) HPWR.WAKE_HELD = true ∧ rdb s 0x21 PWR1.WAKE_STATUS_LEVEL = true ∧ rd s (held 0x20) HPWR.WAKE_MS + 100 ≤ 200 + 1
        ∧ powerState s = 0 ∧ rdb s 0x21 PWR1.WAKE_STATUS_STUCK = false ∧ rd s (held 0x20) HPWR.WAKE_TICK ≠ 0
        ∧ rd s (held 0x20) HPWR.WAKE_TICK + 80000 ≤ s.clock.tick ∧ pd0On s = true ∧ bit (rd s 0x21 PWR1.ALM_CTRL_EN) 2 = true
        ∧ bit (rd s 0x21 PWR1.FROZEN) 2 = false ∧ rdb s (held 0x20) HPWR.FAILED = true ∧ rd s (held 0x20) HPWR.FEED_AT ≠ 0
        ∧ rd s (held 0x20) (HPWR.READY 3) ≠ 0 ∧ rd s (held 0x20) (HPWR.READY 3) ≤ now s + 1)
    ∧ (let s := State.reset
       (true == bit (rd s 0x21 PWR1.ALM_CTRL_POLARITY) 2) ≠ bit (rd s 0x21 PWR1.ALM_STATE) 2 ∨ (false == bit (rd s 0x21 PWR1.ALM_CTRL_POLARITY) 2) ≠ bit (rd s 0x21 PWR1.ALM_STATE) 2)
    ∧ bit (rd (st [(0x21, PWR1.FROZEN, 4)]) 0x21 PWR1.FROZEN) 2 = true
    ∧ (pd0On svc = true ∧ rd svc (held 0x20) HPWR.POLL_FAILS = 0 ∧ mode svc ≠ modeDormant ∧ rdb svc (held 0x20) HPWR.FAILED = false
        ∧ rd svc (held 0x20) HPWR.FEED_AT = 0 ∧ rdb svc (held 0x20) HPWR.VIN = true ∧ feedWarn svc = false) := by decide +kernel

theorem wit_RegisterAccesses :
    (pageInfo 0x83).isSome = true ∧ Unlocked svc 0x83 ∧ rd (wr 0x83 COM.PAGE_LOCK_LOCK 1 svc) 0x83 COM.PAGE_LOCK_LOCK ≠ 0
    ∧ (svc.clock.running = true ∧ Map.get 0 ({ svc with commitReq := [(0x83, 3)] }).commitReq 0x83 ≠ 0) ∧ Unlocked svc 0
    ∧ bit 5 1 = false ∧ (∀ v ∈ [0, 1], rdb (wr 0x83 COM.PAGE_LOCK_STICKY v svc) 0x83 COM.PAGE_LOCK_STICKY = decide (v = 1))
    ∧ blocksRun State.reset = false ∧ (pageInfo 0x83).all (fun i => decide (2 < i.evBits)) = true
    ∧ terminalsOwn svc 0x83 0x48 = false ∧ ownCommand 0x83 0x48 = false ∧ dataReadOnly 0x83 0x48 = false ∧ tableBusy svc 0x83 0x48 = false := by
  decide +kernel

theorem wit_EventRingAndTables :
    (let s := wr 0 GEN.EVT_CFG_EVT_LOG2_LEN 8 svc
     Unlocked s 0 ∧ rd s 0 GEN.EVT_CTRL_STATE = 0 ∧ 6 ≤ rd s 0 GEN.EVT_CFG_EVT_LOG2_LEN ∧ rd s 0 GEN.EVT_WB_LO % 8 = 0)
    ∧ (let s := wr 0 GEN.EVT_CTRL_STATE 1 svc; rd s 0 GEN.EVT_CTRL_STATE = 1 ∧ rd s (held 0) HGEN.STOP_AT = 0)
    ∧ (let e : LogRec := ⟨mkEv svc 8 1 0 false [], 0⟩
       let s := { wr 1 FLOG.TBL_ADDR 1 (wr 1 FLOG.FLOG_COUNT 1 svc) with flog := [(1, some e)] }
       TableFree s 1 ∧ (rd s 1 FLOG.TBL_ADDR + 2 ^ 32 - rd s 1 FLOG.FLOG_FIRST) % 2 ^ 32 < rd s 1 FLOG.FLOG_COUNT
        ∧ Map.get none s.flog (rd s 1 FLOG.TBL_ADDR % 16384) = some e)
    ∧ TableFree svc 0x200 ∧ rd svc 0x200 MON0.TBL_ADDR_WINDOW ≠ 3 ∧ rd svc 0x200 MON0.TBL_ADDR_CHANNEL < 48
    ∧ rd (wr 0x200 MON0.TBL_ADDR_WINDOW 3 svc) 0x200 MON0.TBL_ADDR_WINDOW = 3
    ∧ TableFree svc (fibN 1 1) ∧ TableFree svc (fibN 1 3) ∧ rd svc (fibN 1 3) FB3.TBL_ADDR = 0
    ∧ rd (wr (fibN 1 3) FB3.TBL_ADDR 5 svc) (fibN 1 3) FB3.TBL_ADDR ≠ 0 := by decide +kernel

theorem wit_StepTakesTheFront : State.reset.pending = [] := rfl

theorem wit_WhatMovesTheClock : (∃ t, exec .rngRecover svc = .next t) ∧ (∀ n, Instr.rngRecover ≠ .fuseDone n) ∧ ¬ MovesClock .rngRecover :=
  ⟨⟨_, rfl⟩, fun _ h => Instr.noConfusion h, fun h => h⟩

theorem wit_FusesOnlyBlow :
    (let s := { State.reset with otp := [(18, 3)] }
     step s = .next s ∧ bit (fuse s 18) 1 = true) := by
  refine ⟨rfl, ?_⟩
  show decide ((Config.fused 18 ||| 3) / 2 ^ 1 % 2 = 1) = true
  rw [← Nat.testBit_eq_decide_div_mod_eq, Nat.testBit_or]
  exact Bool.or_eq_true _ _ ▸ Or.inr (by decide)

theorem wit_FuseArrayStaysCanonical : Map.wf 0 State.reset.otp = true ∧ step State.reset = .next State.reset := ⟨rfl, rfl⟩

theorem wit_RollbackCounters : (List.range 64).all (fun i => !bit 0 i) = true ∧ bit 32 5 = true
    ∧ ((List.range 64).filter (fun j => decide (5 < j))).all (fun j => !bit 32 j) = true ∧ topBit 32 = 6 ∧ topBit (2 ^ 63) = 64 := by decide

theorem wit_LocationCodes : (7 < 8 ∧ 15 < 16 ∧ 63 < 64 ∧ 31 < 32 ∧ 255 < 256 : Prop) ∧ locSub 0x19 = 0xA0CFFFFF := by decide

theorem wit_ExpressReservationLimit :
    let s := wr (Tab.pnode 3) NODE.ENABLE 1 (wr (Tab.svc 0) NODE.ENABLE 1 (wr (Tab.svc 0) NODE.PARENT 3 (wr (Tab.sub 0) NODE.ENABLE 1
      (wr (Tab.leaf 0) LEAF.ENABLE 1 (wr (Tab.leaf 0) LEAF.CLASS 2 (wr (Tab.leaf 0) LEAF.CIR 500001 State.reset))))))
    500000 < portERes s 3 ∧ kerbMode s 3 = 0 := by decide

theorem wit_RecoveryPassesOnce :
    let w : Wk := ⟨wr (Tab.flow 5) SREC.HIST_LEN 2 (wr (Tab.flow 5) SREC.TAKE_ANY 1 State.reset), [], [], [], []⟩
    rd w.v (Tab.flow 5) SREC.HIST_LEN = 2 ∧ (vectorRecover State.reset 0 (Tab.flow 5) 9 65535 w).1 = true := by decide

theorem wit_StageThenCommit : FB2.ACT_CTRL_ACT_EN.acc = .rws ∧ FB2.ACT_CTRL_ACT_EN.off * 8 + FB2.ACT_CTRL_ACT_EN.lo < 32768
    ∧ FB2.ACT_CTRL_ACT_EN.key 0x42 ≠ COM.PAGE_STATUS_STAGED.key 0x42 ∧ stagedOf State.reset 0x42 = [] := by decide

theorem wit_LockedPage :
    hostPage (.registerWrite 0x30 0x108 5 15) = some 0x30 ∧ hostPage (.roleStop true) = some 0x1C1 ∧ hostPage (.roleStop false) = none
      ∧ hostPage (.registerWrite 0x40 0x10 5 15) = none ∧ locked (wr 0x30 COM.PAGE_LOCK_LOCK 1 svc) 0x30 = true := by decide

theorem wit_BusyTable : tablePage .flowInsert = some 0xD0 ∧ Unlocked (wr 0xD0 TBL.BUSY 1 svc) 0xD0 ∧ rd (wr 0xD0 TBL.BUSY 1 svc) 0xD0 TBL.BUSY ≠ 0 := by decide

theorem wit_ReferenceCounts :
    let s := { wr 0xE0 SQR0.SQR_STATUS_READY 1 State.reset with buffers := [(0, some ⟨1, 1, 0, 3, true, false⟩)] }
    poolsOn s = true ∧ badHandle s 0 = false ∧ (getBuf s 0).allocated = true ∧ bit (getBuf s 0).holders 0 = true ∧ (getBuf s 0).count ≤ 1
      ∧ badHandle s 1 = false ∧ (getBuf s 1).allocated = false ∧ badHandle s 0xFFFFFFFF = true ∧ poolsOn State.reset = false := by decide

theorem wit_PolicerRefills : (let b : Buckets := ⟨100, 511, 0, 0, 5⟩; b.last ≤ 6 ∧ b.tcRes < 512 ∧ b.teRes < 512)
    ∧ refillBuckets ⟨2, false, 4096, 8192, 1000, 1000⟩ 6 ⟨100, 511, 0, 0, 5⟩ = ⟨108, 511, 16, 0, 6⟩ := by decide

theorem wit_ColourDecisions :
    colourFrame ⟨1, true, 0, 0, 0, 0⟩ green 64 ⟨64, 0, 64, 0, 0⟩ = (green, ⟨0, 0, 64, 0, 0⟩)
    ∧ colourFrame ⟨1, true, 0, 0, 0, 0⟩ yellow 64 ⟨64, 0, 64, 0, 0⟩ = (yellow, ⟨64, 0, 0, 0, 0⟩)
    ∧ (colourFrame ⟨1, true, 0, 0, 0, 0⟩ red 64 ⟨64, 0, 64, 0, 0⟩).1 = red
    ∧ (colourFrame ⟨2, true, 0, 0, 0, 0⟩ red 64 ⟨64, 0, 64, 0, 0⟩).1 = red
    ∧ (colourFrame ⟨2, true, 0, 0, 0, 0⟩ yellow 64 ⟨64, 0, 64, 0, 0⟩).1 = yellow
    ∧ colourFrame ⟨2, true, 0, 0, 0, 0⟩ green 64 ⟨64, 0, 64, 0, 0⟩ = (green, ⟨0, 0, 0, 0, 0⟩) := by decide

theorem wit_FirstInTickAndClears : rd (writeField 0x30 COM.PAGE_EVENT 5 (wr 0x30 COM.PAGE_EVENT 7 svc)) 0x30 COM.PAGE_EVENT = 2 := by decide

/-- The worked example of R65: flow record 1 000 003. -/
theorem wit_MemoryLayout :
    flowPlace 1000003 = ⟨3, 0x01E84800⟩ ∧ mirrorOf (flowPlace 1000003) = ⟨7, 0x01E84800⟩ ∧ rawOf 0x01E84800 = 39999488 ∧ checkBitOf 0x01E84800 = 40006080 * 8
    ∧ 0x01E84800 < channelData ∧ rawKind 39999488 = .data 0x01E84800 ∧ rawKind (8192 + 1792) = .zero ∧ rawKind (2 ^ 32 - 1) = .tail
    ∧ regionAt 0xCCCCBFFF = some regReserved ∧ regionAt 0xCCCCC000 = none := by decide

theorem wit_RoundaboutOrder :
    let s := { State.reset with requests := [⟨0, 100, 0, 1, 9⟩, ⟨9, 100, 2, 7, 9⟩, ⟨5, 100, 0, 0, 9⟩, ⟨3, 100, 0, 0, 10⟩] }
    (ranking s 10).map (·.requester) = [5, 9, 0] ∧ (grantCycle 10 s).requests.map (·.requester) = [3] ∧ givenIn (grantCycle 10 s) 10 = 3
    ∧ refTurn (noteTurn 5 10 s) 9 10 = true ∧ refTurn (noteTurn 5 10 s) 4 10 = false := by decide

end Sys2Proof.Tests
end

/-! What the commands of chapter 0 answer: how every command settles, the queue, the clock and the fuses, the boundaries, the memory
channels, the accesses to the register pages, and the state after reset. -/

namespace Sys2Proof.Machine

/-! ## How a command settles -/

/-- QUOTE_WRITTEN settles whether a quote waits or none does. -/
theorem execQuoteWritten_settles (s : State) : ∃ t, execQuoteWritten s = settle s t := by
  unfold execQuoteWritten
  cases s.quoteSnap with
  | none => exact ⟨_, rfl⟩
  | some q => exact ⟨_, rfl⟩

/-- What a command can answer: a command of the power sequencer, the pins or the boundaries keeps the queue and the fuses; FUSE_DONE keeps
the clock and the queue; every other command settles, with all three kept. -/
theorem exec_answers (c : Instr) (s : State) :
    (∃ t, exec c s = settle s t) ∨ (MovesClock c ∧ ∃ t, exec c s = keepQueue s t) ∨
    ((∃ n, c = .fuseDone n) ∧ ∃ t : State, exec c s = .next { t with clock := s.clock, pending := s.pending }) := by
  cases c with
  | fuseDone n => exact .inr (.inr ⟨⟨n, rfl⟩, _, rfl⟩)
  | quoteWritten => exact .inl (execQuoteWritten_settles s)
  | tickBoundary | blockBoundary | tickAlign | pwrReqMode | pwrReqDormant | pwrReqRestart | pwrReqRestartRecovery | pwrReqCancel
  | drainComplete | selftestDone | leanEntry | leanSliceOff | leanExit | dormantEntryComplete | wakeComplete | wakePin | wakeLimitExpiry
  | sleepTimerWake | alarmChange | alarmRelease | pmbusPoll | holdupEnd | feedReturn | porstAssert | porstDeassert | warmReset
  | standbyPowerUp | vinSwitchClose | moduleWithdrawn | extestLoad | tapReset | clockFault =>
    exact .inr (.inl ⟨trivial, _, rfl⟩)
  | _ => exact .inl ⟨_, rfl⟩

theorem exec_completes (c : Instr) (s : State) : ∃ t, exec c s = .next t ∧ t.pending = s.pending := by
  obtain ⟨t, h⟩ | ⟨-, t, h⟩ | ⟨-, t, h⟩ := exec_answers c s
  · exact ⟨_, h, rfl⟩
  · exact ⟨_, h, rfl⟩
  · exact ⟨_, h, rfl⟩

/-- Settles O42: each of the three ways in which a command answers keeps the queue. -/
theorem everyCommandCompletes : Obligations.EveryCommandCompletes := exec_completes

/-- Settles O44: a settled command keeps the clock and the fuses, a command of the power sequencer the fuses, FUSE_DONE the clock. -/
theorem whatMovesTheClock : Obligations.WhatMovesTheClock := by
  intro c s t ht
  obtain ⟨u, h⟩ | ⟨hc, u, h⟩ | ⟨⟨n, hn⟩, u, h⟩ := exec_answers c s
  · obtain rfl := Host.Outcome.next.inj (h.symm.trans ht)
    exact ⟨fun _ => rfl, fun _ => rfl⟩
  · obtain rfl := Host.Outcome.next.inj (h.symm.trans ht)
    exact ⟨fun _ => rfl, fun hnc => absurd hc hnc⟩
  · obtain rfl := Host.Outcome.next.inj (h.symm.trans ht)
    exact ⟨fun hf => absurd hn (hf n), fun _ => rfl⟩

/-! ## The queue -/

/-- A step with a command in front runs it with the queue's rest. -/
theorem step_cons (c : Instr) (q : List Instr) (s : State) : step { s with pending := c :: q } = exec c { s with pending := q } := rfl

theorem step_of_front {c : Instr} {q : List Instr} {s : State} (h : s.pending = c :: q) : step s = exec c { s with pending := q } := by
  rw [step, h]

theorem step_of_empty {s : State} (h : s.pending = []) : step s = .next s := by rw [step, h]

/-- A step takes one command off the queue. -/
theorem step_shortens {c : Instr} {q : List Instr} {s : State} (h : s.pending = c :: q) : ∃ t, step s = .next t ∧ t.pending = q := by
  rw [step_of_front h]; exact exec_completes c _

/-- A run whose first step completes goes on from the state that the step answers. -/
theorem run_succ {M : Host.Core} {k : Nat} {s t : M.State} (h : M.step s = .next t) : M.run (k + 1) s = M.run k t := by
  simp only [Host.Core.run, h]

/-- As many steps as commands wait take them all. -/
theorem run_drains (q : List Instr) (s : State) (h : s.pending = q) :
    ∃ t : State, Host.Core.run core q.length s = .next t ∧ t.pending = [] := by
  induction q generalizing s with
  | nil => exact ⟨s, rfl, h⟩
  | cons c q ih =>
    obtain ⟨t, hstep, ht⟩ := step_shortens h
    obtain ⟨u, hrun, hu⟩ := ih t ht
    exact ⟨u, (run_succ hstep).trans hrun, hu⟩

/-- Settles O41: by the definition of a step. -/
theorem stepTakesTheFront : Obligations.StepTakesTheFront := ⟨step_cons, fun _ => step_of_empty⟩

/-- Settles O43, by induction on the queue: each step takes one command and completes. -/
theorem queueDrains : Obligations.QueueDrains := fun s => run_drains s.pending s rfl

/-! ## The state after reset -/

/-- After reset every field reads its reset value. -/
theorem rd_reset (p : Nat) (f : Field) : rd State.reset p f = f.rst := rfl

/-- After reset all eight memory channels are in service. -/
theorem inService_reset {c : Nat} (hc : c < 8) : inService State.reset c = true := by
  rw [inService, rd_reset]; decide +revert

/-- Settles O47: no register is listed after reset, so that each reads its reset value. -/
theorem resetState : Obligations.ResetState :=
  ⟨rfl, rfl, rfl, rfl, rfl, rfl, rfl, rfl, rfl, rfl, rfl, rfl, fun _ => ⟨rfl, rfl⟩, fun _ _ => rfl, fun _ _ => rfl, fun _ => inService_reset⟩

/-! ## The boundaries of the clock -/

/-- A command that keeps the queue, and whose condition holds. -/
theorem keepQueue_onlyIf {c : Bool} {f : State → State} {s : State} (h : c = true) : keepQueue s (onlyIf c f s) = keepQueue s (f s) := by
  rw [onlyIf_true h]

section Boundaries

variable {s : State}

theorem tickBoundary_running (ho : s.clock.tickOpen = false) (hr : s.clock.running = true) (hb : s.clock.block = 63)
    (hd : commitsDone s = true) : exec .tickBoundary s = keepQueue s (tickWork (nextTick s)) :=
  keepQueue_onlyIf (by simp [ho, hr, hb, hd])

theorem tickBoundary_start (ho : s.clock.tickOpen = false) (hr : s.clock.running = false) (hm : clockMayStart s = true) :
    exec .tickBoundary s = keepQueue s (tickWork (nextTick s)) :=
  keepQueue_onlyIf (by simp [ho, hr, hm])

theorem blockBoundary_within (hr : s.clock.running = true) (ho : s.clock.tickOpen = false) (hb : s.clock.block < 63)
    (hd : commitsDone s = true) :
    exec .blockBoundary s = keepQueue s (
      let t := { atBoundary s with clock := { (atBoundary s).clock with tickOpen := false } }
      if blocksRun t then blockWork t else idleWork t) :=
  (keepQueue_onlyIf (by simp [hr, hb, hd])).trans (by simp only [ho, Bool.false_eq_true, if_false])

theorem blockBoundary_first (hr : s.clock.running = true) (ho : s.clock.tickOpen = true) :
    exec .blockBoundary s = keepQueue s (
      let t := { atBoundary (swapPairs s) with clock := { (atBoundary (swapPairs s)).clock with tickOpen := false } }
      if blocksRun t then blockWork t else idleWork t) :=
  (keepQueue_onlyIf (by simp [hr, ho])).trans (by simp only [ho, if_true])

theorem tickAlign_lengthens {extra : Nat} (ho : s.clock.tickOpen = true) (ha : rdb s (held 0x40) HTP.ALIGN = true)
    (he : extra < tickCycles) (hm : mode s = modeCommission) :
    exec (.tickAlign extra) s = keepQueue s (
      let t := wr (held 0x40) HTP.ALIGN 0 (wr (held 0x40) HTP.ALIGNED 1 s)
      { t with clock := { t.clock with stretch := extra } }) :=
  keepQueue_onlyIf (by simp [ho, ha, he, hm])

end Boundaries

/-! ## Memory channels and reference parts -/

section Channels

variable {s : State} {c : Nat}

theorem channelOut_inService (hc : c < 8) (hi : inService s c = true) :
    exec (.channelOut c) s = .next (kept s (openFault (Tag.channel c) (locSub (0x30 + c)) (closeFault (Tag.channel c) (parkChannel c
      (raiseFault 0 GEN.evCHANNEL_OUT (locSub (0x30 + c)) (!channelHolds (setRebuilding c false (setService c false s)) c
          && readable (setRebuilding c false (setService c false s)) ((c + 4) % 8)) []
        (setRebuilding c false (setService c false s))))))) :=
  settle_onlyIf (by simp [hc, hi])

theorem channelBack_outOfService (hc : c < 8) (hi : inService s c = false) :
    exec (.channelBack c) s = .next (kept s (raise 0 GEN.evCHANNEL_BACK [c] (setRebuilding c true (setService c true s)))) :=
  settle_onlyIf (by simp [hc, hi])

/-- The mirrored regions of a channel can be read when it is in service and its REBUILDING bit is clear (R63). -/
theorem readable_of_inService (hi : inService s c = true) (hr : bit (rd s 0 GEN.GEN_STATUS_CHAN_REBUILDING) c = false) :
    readable s c = true := by
  rw [readable, hi, rebuilding, hr]; rfl

theorem rebuildDone_rebuilding (hc : c < 8) (hi : inService s c = true) (hr : rebuilding s c = true) (hp : readable s (partnerOf c) = true) :
    exec (.rebuildDone c) s = .next (kept s (raise 0 GEN.evREBUILD_DONE [c] (closeFault (Tag.channel c) (setRebuilding c false s)))) :=
  settle_onlyIf (by simp [hc, hi, hr, hp])

theorem referencePartFault_records {part : Nat} (h1 : 1 ≤ part) (h2 : part ≤ 2) :
    exec (.referencePartFault part) s = .next (kept s (raiseFault 0 noBit 0xFFFFFFFF false [part] s)) :=
  settle_onlyIf (decide_eq_true (show part = 1 ∨ part = 2 by omega))

end Channels

/-- Settles O20: each command meets the condition under which it acts. -/
theorem boundariesAndChannels : Obligations.BoundariesAndChannels := fun _ _ _ _ =>
  ⟨tickBoundary_running, tickBoundary_start, blockBoundary_within, blockBoundary_first, tickAlign_lengthens, channelOut_inService,
    channelBack_outOfService, fun hc hi hr hpi hpr => rebuildDone_rebuilding hc hi hr (readable_of_inService hpi hpr),
    referencePartFault_records⟩

/-! ## Commits, PAGE_CTRL, locks and events -/

section Access

variable {s : State} {p : Nat} {i : PageInfo}

theorem pageInfo_isSome (h : pageInfo p = some i) : (pageInfo p).isSome = true := by rw [h]; rfl

theorem locked_eq_false (h : Unlocked s p) : locked s p = false := by simp [locked, rdb, h]

theorem locked_eq_true (h : rd s p COM.PAGE_LOCK_LOCK ≠ 0) : locked s p = true := by simp [locked, rdb, h]

/-- A host command of an assigned and unlocked page has its effect. -/
theorem settle_hostCmd {off : Nat} {f : State → State} (hp : pageInfo p = some i) (h : Unlocked s p) :
    settle s (onlyIf (pageInfo p).isSome (hostCmd p off f) s) = .next (kept s (f s)) := by
  rw [settle_onlyIf (pageInfo_isSome hp), hostCmd_unlocked h]

theorem pageCommitRequest_unlocked (hp : pageInfo p = some i) (h : Unlocked s p) :
    exec (.pageCommitRequest p) s = .next (kept s (commitRequest p s)) :=
  (settle_onlyIf (pageInfo_isSome hp)).trans (by simp only [locked_eq_false h, Bool.false_eq_true, if_false])

theorem pageCommitRequest_locked (hp : pageInfo p = some i) (h : rd s p COM.PAGE_LOCK_LOCK ≠ 0) :
    exec (.pageCommitRequest p) s = .next (kept s (wr p COM.PAGE_COMMIT_RESULT 3 (lockViolation p 0x20 s))) :=
  (settle_onlyIf (pageInfo_isSome hp)).trans (by simp only [locked_eq_true h, if_true])

theorem pageCommit_requested (hr : s.clock.running = true) (hq : Map.get 0 s.commitReq p ≠ 0) :
    exec (.pageCommit p) s = .next (kept s (commitPages (commitWith p s) (atBoundary s))) :=
  settle_onlyIf (by simp [hr, hq])

theorem commitAll_unlocked (h : Unlocked s 0) : exec .commitAll s = .next (kept s (wr 0 GEN.COMMIT_ALL 1 s)) :=
  (settle_kept s _).trans (by rw [hostCmd_unlocked h])

theorem softReset_unlocked (hp : pageInfo p = some i) (h : Unlocked s p) : exec (.softReset p) s = .next (kept s (softReset p s)) :=
  settle_hostCmd hp h

theorem pageCtrlWrite_unlocked {v : Nat} (hp : pageInfo p = some i) (h : Unlocked s p) (hv : bit v 1 = false) :
    exec (.pageCtrlWrite p v) s = .next (kept s (wr p COM.PAGE_CTRL_VIEW_STAGED (bitsOf v 2 1) (writeEnable p (bit v 0) s))) :=
  (settle_hostCmd hp h).trans (by simp only [hv, Bool.false_eq_true, if_false])

/-- What PAGE_LOCK does to a page (R528): LOCK is set as written, but STICKY as it stood keeps it from clearing. -/
theorem pageLock_assigned {v : Nat} (hp : pageInfo p = some i) :
    exec (.pageLock p v) s = .next (kept s (
      let t := if bit v 1 then wr p COM.PAGE_LOCK_STICKY 1 s else s
      if bit v 0 then wr p COM.PAGE_LOCK_LOCK 1 t else if rdb s p COM.PAGE_LOCK_STICKY then t else wr p COM.PAGE_LOCK_LOCK 0 t)) :=
  settle_onlyIf (pageInfo_isSome hp)

theorem pageLock_unlocks (hp : pageInfo p = some i) (hs : rdb s p COM.PAGE_LOCK_STICKY = false) :
    exec (.pageLock p 0) s = .next (kept s (wr p COM.PAGE_LOCK_LOCK 0 s)) :=
  (pageLock_assigned hp).trans (by rw [hs]; rfl)

theorem pageLock_sticky (hp : pageInfo p = some i) (hs : rdb s p COM.PAGE_LOCK_STICKY = true) :
    exec (.pageLock p 0) s = .next (kept s s) :=
  (pageLock_assigned hp).trans (by rw [hs]; rfl)

theorem pageEventSet_unlocked {v : Nat} (hp : pageInfo p = some i) (h : Unlocked s p) :
    exec (.pageEventSet p v) s = .next (kept s { s with evq := s.evq ++ ((List.range i.evBits).filter (bit v)).map (fun b =>
      { mkEv s p b 0 false [] with abs := now s + 1, test := true }) }) :=
  (settle_kept s _).trans (by rw [hp]; simp only [hostCmd_unlocked h])

theorem eventClear_open {off v same : Nat} (hp : pageInfo p = some i) (h : Unlocked s p ∨ lockFree p off = true) :
    exec (.eventClear p off v same) s
      = .next (kept s (forEach ((wordFields p off).filter (fun f => f.acc = .w1c)) (fun f t =>
          writeField p f (bitsOf v f.lo f.width - (bitsOf v f.lo f.width &&& bitsOf same f.lo f.width)) t) s)) := by
  have hopen : ¬ (locked s p = true ∧ (!lockFree p off) = true) := by
    rintro ⟨hl, hf⟩
    rcases h with h | h
    · simp [locked_eq_false h] at hl
    · simp [h] at hf
  exact (settle_onlyIf (pageInfo_isSome hp)).trans (by simp only [if_neg hopen])

theorem deferredEvent_raised {b : Nat} {d : List Nat} (hp : pageInfo p = some i) (hr : blocksRun s = false) (hb : b < i.evBits) :
    exec (.deferredEvent p b d) s = .next (kept s (raise p b d s)) :=
  settle_onlyIf (by simp [hr, hp, hb])

/-! ## Reads and writes of words -/

/-- A write that does not enable all four bytes of a word is a bad access (R517). -/
theorem registerWrite_partial {off v be : Nat} (ho : off < 4096) (hbe : be % 16 ≠ 15) :
    exec (.registerWrite p off v be) s = .next (kept s (badAccess p off s)) :=
  (settle_kept s _).trans (by rw [if_pos (Or.inl hbe), Nat.mod_eq_of_lt ho])

/-- A write to a word that no command and no block of its own takes reaches the word's fields. -/
theorem regWrite_plain {off v : Nat} (hp : pageInfo p = some i) (hown : ownCommand p off = false) (hro : dataReadOnly p off = false)
    (hbusy : tableBusy s p off = false) (h0 : p ≠ 0) (h11 : p ≠ 0x11) (hB1 : p ≠ 0xB1) (hD0 : p ≠ 0xD0) :
    regWrite p off v s = writeFields p off v s := by
  simp [regWrite, hp, hown, hro, hbusy, h0, h11, hB1, hD0]

/-- A whole word's write on an assigned and unlocked page whose fields are not the terminal's own is a register write. -/
theorem registerWrite_whole {off v : Nat} (hp : pageInfo p = some i) (ho : off < 4096) (h4 : off % 4 = 0) (h : Unlocked s p)
    (ht : terminalsOwn s p off = false) : exec (.registerWrite p off v 15) s = .next (kept s (regWrite p off v s)) := by
  have hword : off % 4096 / 4 * 4 = off := by omega
  exact (settle_kept s _).trans (by simp [hword, h4, hp, locked_eq_false h, ht])

end Access

/-- Settles O39: each access meets the condition under which it acts. -/
theorem registerAccesses : Obligations.RegisterAccesses := fun _ _ _ _ _ _ _ _ _ _ _ hp =>
  ⟨pageCommitRequest_unlocked hp, pageCommitRequest_locked hp, pageCommit_requested, commitAll_unlocked, softReset_unlocked hp,
    pageCtrlWrite_unlocked hp,
    ⟨pageLock_assigned hp, pageLock_assigned hp, pageLock_unlocks hp, pageLock_sticky hp⟩,
    pageEventSet_unlocked hp, eventClear_open hp, deferredEvent_raised hp, rfl, rfl, fun ho => registerWrite_partial ho (by decide),
    fun ho h4 h ht hown hro hbusy h0 h11 hB1 hD0 =>
      (registerWrite_whole hp ho h4 h ht).trans (by rw [regWrite_plain hp hown hro hbusy h0 h11 hB1 hD0])⟩

end Sys2Proof.Machine

/-! The promises of chapter 1, and the commands that keep them: Express reservations, sequence recovery, location codes, the journals,
commits and the Kerb ports, scrubbing, pins and supplies, gates and nodes, the host port, power. -/

namespace Sys2Proof.Machine

/-! ## Express reservations -/

section Reservations

variable {s t : State} {p r st ev d pg v n : Nat} {a b : Bool} {f g : Field}

/-- The limit of R29 in kb/s, by the mode of the Kerb port. -/
def expressLimit (s : State) (p : Nat) : Nat := if kerbMode s p = 2 then 20000000 else if kerbMode s p = 1 then 5000000 else 500000

/-- The limit is half of the rate of the port's widest mode. -/
theorem portCmax_eq_two_limit (hp : p < 8) : portCmax s p = 2 * expressLimit s p := by
  simp only [portCmax, hp, if_true, kerbX4, decide_eq_true_eq, expressLimit]
  split
  · rfl
  · split <;> rfl

/-- A Kerb port above its limit offends against check 1. -/
theorem mem_check1_of_limit (hp : p < 8) (h : expressLimit s p < portERes s p) : nodeCode 3 p ∈ check1 s := by
  have hover : portCmax s p < 2 * portERes s p := by rw [portCmax_eq_two_limit hp]; omega
  exact List.mem_append_right _ (List.mem_map_of_mem (List.mem_filter.mpr ⟨List.mem_range.mpr hp, decide_eq_true hover⟩))

/-- With an offender of check 1, that check is the lowest that fails. -/
theorem schedCheck_of_mem_check1 (h : n ∈ check1 s) : (schedCheck s).1 = 1 := by
  obtain ⟨m, l, hl⟩ := List.exists_cons_of_ne_nil (List.ne_nil_of_mem h)
  simp [schedCheck, hl]

/-- The state with the staged copies of the scheduler's pages in effect, as a commit of page 0x101, of 0x150, or of both judges it. -/
def schedStaged (a b : Bool) (s : State) : State := (if b then applyStaged 0x150 else id) ((if a then applyStaged 0x101 else id) s)

/-- What a refused commit does of one of the scheduler's two pages: the check's number in the status, RESULT 2, and CFG_REFUSED (R222). -/
def refusePage (p st : Nat) (f : Field) (ev d r : Nat) (s : State) : State := raise st ev [r, d] (commitSettle p 2 (wr st f r s))

/-- The refusal of the node table's page, and that of the slots' page. -/
def refuseNodes (t s : State) : State :=
  refusePage 0x101 0x100 SCH0.SCH_STATUS_CFG_RESULT SCH0.evCFG_REFUSED (schedCheck t).2 (schedCheck t).1 s
def refuseSlots (t s : State) : State :=
  refusePage 0x150 0x150 UPA.UPA_STATUS_CFG_RESULT UPA.evCFG_REFUSED (slotCode t (schedOffenders t)) (schedCheck t).1 s

/-- A commit of the scheduler's pages that the checks refuse settles the pages committed and applies nothing. -/
theorem commitSched_refused (hr : (schedCheck (schedStaged a b s)).1 ≠ 0) :
    commitSched a b s =
      (if b then refuseSlots (schedStaged a b s) else id) ((if a then refuseNodes (schedStaged a b s) else id) s) := by
  cases a with
  | false =>
    cases b with
    | false => rfl
    | true =>
      simp only [schedStaged, if_true, Bool.false_eq_true, if_false, id_eq] at hr
      simp [commitSched, schedStaged, refuseSlots, refusePage, hr]
  | true =>
    cases b with
    | false =>
      simp only [schedStaged, if_true, Bool.false_eq_true, if_false, id_eq] at hr
      simp [commitSched, schedStaged, refuseNodes, refusePage, hr]
    | true =>
      simp only [schedStaged, if_true] at hr
      simp [commitSched, schedStaged, refuseSlots, refuseNodes, refusePage, hr]

theorem rd_refusePage_result : rd (refusePage p st f ev d r s) p COM.PAGE_COMMIT_RESULT = 2 := by
  rw [refusePage, rd_raise, commitSettle, if_neg (by decide), rd_wr_off (by decide), rd_wr_self]; rfl

theorem rd_refusePage_other (hp : pg ≠ p) (hst : pg ≠ st) (hf : f.off * 8 + f.lo < 32768) (hg : g.off * 8 + g.lo < 32768) :
    rd (refusePage p st f ev d r s) pg g = rd s pg g := by
  rw [refusePage, rd_raise, commitSettle, if_neg (by decide), rd_wr_page hp (by decide) hg, rd_wr_page hp (by decide) hg]
  exact rd_wr_page hst hf hg

/-- A refusal shows RESULT 2 on the pages committed. -/
theorem rd_refused_nodes_result (t s : State) :
    rd ((if b then refuseSlots t else id) (refuseNodes t s)) 0x101 COM.PAGE_COMMIT_RESULT = 2 := by
  have h : rd (refuseNodes t s) 0x101 COM.PAGE_COMMIT_RESULT = 2 := rd_refusePage_result
  cases b
  · exact h
  · exact (rd_refusePage_other (by decide) (by decide) (by decide) (by decide)).trans h

/-- A refusal changes no table record. -/
theorem rd_refused_record (t s : State) (hpg : 0x10000 ≤ pg) (hg : g.off * 8 + g.lo < 32768) :
    rd ((if b then refuseSlots t else id) ((if a then refuseNodes t else id) s)) pg g = rd s pg g := by
  have hnodes : rd ((if a then refuseNodes t else id) s) pg g = rd s pg g := by
    cases a
    · rfl
    · exact rd_refusePage_other (by omega) (by omega) (by decide) hg
  refine Eq.trans ?_ hnodes
  cases b
  · rfl
  · exact rd_refusePage_other (by omega) (by omega) (by decide) hg

end Reservations

/-- Settles O50: a Kerb port above its limit offends against check 1, so the commit is refused; one that passes has no offender. -/
theorem expressReservationLimit : Obligations.ExpressReservationLimit := by
  intro s p a b hp _
  change portCmax (schedStaged a b s) p = 2 * expressLimit (schedStaged a b s) p ∧
    (expressLimit (schedStaged a b s) p < portERes (schedStaged a b s) p → _ ∧ _) ∧ (_ → portERes _ p ≤ expressLimit (schedStaged a b s) p)
  have hover (h : expressLimit (schedStaged a b s) p < portERes (schedStaged a b s) p) : (schedCheck (schedStaged a b s)).1 = 1 :=
    schedCheck_of_mem_check1 (mem_check1_of_limit hp h)
  refine ⟨portCmax_eq_two_limit hp, fun h => ?_, fun h => ?_⟩
  · have hr : (schedCheck (schedStaged a b s)).1 ≠ 0 := by rw [hover h]; decide
    rw [commitSched_refused hr]
    refine ⟨hr, ?_, ?_, fun pg g hpg hg => rd_refused_record _ s hpg hg⟩
    · rintro rfl; exact rd_refused_nodes_result _ s
    · rintro rfl; exact rd_refusePage_result
  · exact Nat.le_of_not_lt fun hlt => absurd ((hover hlt).symm.trans h) (by decide)

/-! ## Sequence recovery -/

section Recovery

variable {s v v' : State} {f pg tick q : Nat} {w : Wk} {g : Field}

@[simp] theorem Wk.set_v (pg : Nat) (g : Field) (x : Nat) (w : Wk) : (w.set pg g x).v = wr pg g x w.v := rfl
@[simp] theorem Wk.count_v (pg : Nat) (g : Field) (n : Nat) (w : Wk) : (w.count pg g n).v = addc pg g n w.v := rfl

/-- The distance of a sequence number from the last one of the record (R93). -/
def seqDist (v : State) (pg q : Nat) : Int := toSigned 16 ((q + 65536 - rd v pg SREC.RECOV_SEQ) % 65536)

/-- The record holds a number as seen: it takes no number as new, and the number lies in the history with its bit set. -/
structure NumberSeen (v : State) (pg q : Nat) : Prop where
  settled : rd v pg SREC.TAKE_ANY = 0
  inHistory : -(rd v pg SREC.HIST_LEN : Int) < seqDist v pg q
  notNew : seqDist v pg q ≤ 0
  marked : bit (rd v pg SREC.HISTORY) (-seqDist v pg q).toNat = true

/-- Whether a number is seen depends on four fields of the record. -/
theorem NumberSeen.congr (h : NumberSeen v pg q) (ht : rd v' pg SREC.TAKE_ANY = rd v pg SREC.TAKE_ANY)
    (hl : rd v' pg SREC.HIST_LEN = rd v pg SREC.HIST_LEN) (hq : rd v' pg SREC.RECOV_SEQ = rd v pg SREC.RECOV_SEQ)
    (hh : rd v' pg SREC.HISTORY = rd v pg SREC.HISTORY) : NumberSeen v' pg q := by
  have hd : seqDist v' pg q = seqDist v pg q := by rw [seqDist, seqDist, hq]
  exact ⟨ht.trans h.settled, hl ▸ hd ▸ h.inHistory, hd ▸ h.notNew, hh ▸ hd ▸ h.marked⟩

/-- The last number is seen when the history's first bit is set. -/
theorem NumberSeen.of_last (ht : rd v pg SREC.TAKE_ANY = 0) (hl : 0 < rd v pg SREC.HIST_LEN)
    (hs : rd v pg SREC.RECOV_SEQ = q) (hh : rd v pg SREC.HISTORY % 2 = 1) : NumberSeen v pg q := by
  have hd : seqDist v pg q = 0 := by rw [seqDist, hs, Nat.add_sub_cancel_left]; rfl
  refine ⟨ht, ?_, Int.le_of_eq hd, ?_⟩
  · rw [hd]; omega
  · rw [hd]; simpa [bit] using hh

/-- A number that is seen does not pass again. -/
theorem NumberSeen.not_pass (h : NumberSeen w.v pg q) : (vectorRecover s f pg tick q w).1 = false := by
  obtain ⟨ht, hlo, hhi, hm⟩ := h
  have hany : rdb w.v pg SREC.TAKE_ANY = false := by simp [rdb, ht]
  have hwin : ¬ ((rd w.v pg SREC.HIST_LEN : Int) ≤ seqDist w.v pg q ∨ seqDist w.v pg q ≤ -(rd w.v pg SREC.HIST_LEN : Int)) := by omega
  have hnew : ¬ 1 ≤ seqDist w.v pg q := by omega
  unfold seqDist at hwin hnew hm
  simp only [vectorRecover, hany, Bool.false_eq_true, if_false, if_neg hwin, if_neg hnew, hm, if_true]

/-- Noting a passed copy leaves the record's fields alone, but for LAST_PASS and those that the model holds for the ports. -/
theorem rd_passCopy (hf : f < 2) (hpg : 0x1000000 ≤ pg) (hlast : g.off * 8 + g.lo ≠ 0x640) (hg : g.off * 8 + g.lo < 0x800) :
    rd (passCopy s f pg tick w).v pg g = rd w.v pg g := by
  have hpass : rd (addc (fibPage f + 1) FB1.FR_PASS 1 (wr pg (HSTR.ROGUE f) 0 (wr pg SREC.LAST_PASS tick w.v))) pg g = rd w.v pg g := by
    rw [rd_addc_other (key_ne_of_page (by unfold fibPage; omega) (by decide) (by omega)),
      rd_wr_off (by simp only [HSTR.ROGUE]; omega), rd_wr_off (by simpa only [SREC.LAST_PASS] using hlast)]
  unfold passCopy
  dsimp only
  split
  · exact (rd_wr_off (by simp only [HSTR.PASSED]; omega)).trans hpass
  · exact hpass

/-- Noting a passed copy keeps a number seen. -/
theorem NumberSeen.passCopy (h : NumberSeen w.v pg q) (hf : f < 2) (hpg : 0x1000000 ≤ pg) :
    NumberSeen (passCopy s f pg tick w).v pg q :=
  h.congr (rd_passCopy hf hpg (by decide) (by decide)) (rd_passCopy hf hpg (by decide) (by decide))
    (rd_passCopy hf hpg (by decide) (by decide)) (rd_passCopy hf hpg (by decide) (by decide))

theorem bit_setBit (n i : Nat) : bit (setBit n i true) i = true := by
  by_cases h : bit n i = true
  · simp [setBit, h]
  · have hp := Nat.two_pow_pos i
    simp only [setBit, h, Bool.false_eq_true, if_false, if_true]
    simp only [bit, decide_eq_true_eq] at h ⊢
    rw [Nat.add_div_right _ hp]; omega

/-- Cutting a number to more bits keeps its bit. -/
theorem bit_mod_two_pow {n i k : Nat} (h : i < k) : bit (n % 2 ^ k) i = bit n i := by
  simp only [bit, ← Nat.testBit_eq_decide_div_mod_eq, Nat.testBit_mod_two_pow, h, decide_true, Bool.true_and]

/-- A history shifted by the numbers between has its first bit set. -/
theorem shift_history_odd {n k h : Nat} (hk : 0 < k) (hh : 0 < h) : (n * 2 ^ k + 1) % 2 ^ h % 2 ^ 128 % 2 = 1 := by
  have hpow {m : Nat} (hm : 0 < m) : 2 ∣ 2 ^ m := Nat.pow_dvd_pow 2 (Nat.succ_le_of_lt hm)
  rw [Nat.mod_mod_of_dvd _ (hpow (by decide)), Nat.mod_mod_of_dvd _ (hpow hh)]
  have hshift : 2 ∣ n * 2 ^ k := Nat.dvd_mul_left_of_dvd (hpow hk) n
  omega

/-- A number within the history is seen once its bit is set (Table 3.5). -/
theorem NumberSeen.of_marked (ht : rd v pg SREC.TAKE_ANY = 0) (hlo : -(rd v pg SREC.HIST_LEN : Int) < seqDist v pg q)
    (hhi : seqDist v pg q ≤ 0) (h128 : rd v pg SREC.HIST_LEN ≤ 128) :
    NumberSeen (wr pg SREC.HISTORY (setBit (rd v pg SREC.HISTORY) (-seqDist v pg q).toNat true) v) pg q := by
  have keeps {g : Field} (hg : g.off * 8 + g.lo ≠ 0x680) (n : Nat) : rd (wr pg SREC.HISTORY n v) pg g = rd v pg g :=
    rd_wr_off hg
  have hd (n : Nat) : seqDist (wr pg SREC.HISTORY n v) pg q = seqDist v pg q := by rw [seqDist, seqDist, keeps (by decide)]
  refine ⟨(keeps (by decide) _).trans ht, ?_, ?_, ?_⟩
  · rwa [hd, keeps (by decide)]
  · rwa [hd]
  · rw [hd, rd_wr_self, bit_mod_two_pow (by simp only [SREC.HISTORY]; omega), bit_setBit]

/-- A copy that passes leaves its number seen (Table 3.5). -/
theorem vectorRecover_pass_seen (hf : f < 2) (hpg : 0x1000000 ≤ pg) (hq : q < 65536) (h0 : 0 < rd w.v pg SREC.HIST_LEN)
    (h128 : rd w.v pg SREC.HIST_LEN ≤ 128) (hpass : (vectorRecover s f pg tick q w).1 = true) :
    NumberSeen (vectorRecover s f pg tick q w).2.v pg q := by
  unfold vectorRecover at hpass ⊢
  dsimp only at hpass ⊢
  split at hpass
  next hany => -- TAKE_ANY: the number becomes the last one
    rw [if_pos hany]
    refine NumberSeen.passCopy (.of_last ?_ ?_ ?_ ?_) hf hpg
    · simp
    · simpa (disch := decide) [rd_wr_off] using h0
    · simpa (disch := decide) [rd_wr_off, SREC.RECOV_SEQ] using hq
    · simp (disch := decide) [rd_wr_off, SREC.HISTORY]
  next hany =>
    rw [if_neg hany]
    split at hpass
    next => cases hpass -- a rogue copy does not pass
    next hwin =>
      rw [if_neg hwin]
      have hany0 : rd w.v pg SREC.TAKE_ANY = 0 := by simpa [rdb] using hany
      split at hpass
      next hnew => -- ahead: the history shifts, and the number becomes the last one
        rw [if_pos hnew]
        refine NumberSeen.passCopy (.of_last ?_ ?_ ?_ ?_) hf hpg
        · simpa (disch := decide) [rd_wr_off, addc] using hany0
        · simpa (disch := decide) [rd_wr_off, addc] using h0
        · simpa [SREC.RECOV_SEQ] using hq
        · rw [Wk.set_v, rd_wr_off (f := SREC.RECOV_SEQ) (g := SREC.HISTORY) (by decide), Wk.set_v, rd_wr_self]
          exact shift_history_odd (by omega) h0
      next hnew =>
        rw [if_neg hnew]
        split at hpass
        next => cases hpass -- a duplicate does not pass
        next hbit => -- within the history: the number's bit is set
          rw [if_neg hbit]
          have hseen : NumberSeen _ pg q := .of_marked hany0 (by unfold seqDist; omega) (by unfold seqDist; omega) h128
          have keeps {g : Field} (hg : g.off * 8 + g.lo < 32768) (u : State) :
              rd (addc (fibPage f + 1) FB1.FR_OOO 1 u) pg g = rd u pg g :=
            rd_addc_other (key_ne_of_page (by unfold fibPage; omega) (by decide) hg)
          exact NumberSeen.passCopy (hseen.congr (keeps (by decide) _) (keeps (by decide) _) (keeps (by decide) _) (keeps (by decide) _)) hf hpg

end Recovery

/-- Settles O51: a copy that passes leaves its number seen, and a number that is seen does not pass. -/
theorem recoveryPassesOnce : Obligations.RecoveryPassesOnce := by
  intro s s' f f' i tick tick' q w hf _ hq h0 h128 hpass
  exact (vectorRecover_pass_seen hf (Nat.le_add_right _ _) hq h0 h128 hpass).not_pass

/-! ## Location codes -/

section LocationCode

variable {l d sub u a b : Nat}

/-- Each field of a code lies at its bits of Table 1.6. -/
theorem locCode_fields (hl : l < 8) (hd : d < 16) (hs : sub < 64) (hu : u < 64) (ha : a < 32) (hb : b < 256) :
    locCode l d sub u a b < 2 ^ 32 ∧ locCode l d sub u a b / 2 ^ 29 = l ∧ locCode l d sub u a b / 2 ^ 25 % 16 = d ∧
    locCode l d sub u a b / 2 ^ 19 % 64 = sub ∧ locCode l d sub u a b / 2 ^ 13 % 64 = u ∧ locCode l d sub u a b / 2 ^ 8 % 32 = a ∧
    locCode l d sub u a b % 256 = b := by
  unfold locCode; omega

end LocationCode

/-- Settles O49: the fields of a code do not overlap, and each level's code fills the fields below it. -/
theorem locationCodes : Obligations.LocationCodes := by
  intro l d sub u a b hl hd hs hu ha hb
  have hf := locCode_fields hl hd hs hu ha hb
  have ⟨_, hlevel, _, hsub, _⟩ := hf
  exact ⟨hf, ⟨hlevel, hsub⟩, rfl, rfl, rfl, rfl, rfl, rfl, rfl, rfl, rfl⟩

/-! ## Host commands and table commands -/

section Commands

variable {s : State} {p off : Nat} {c : Bool} {f : State → State}

/-- A host command that names what is there, on an unlocked page, has its effect. -/
theorem settle_onlyIf_hostCmd (hc : c = true) (h : Unlocked s p) : settle s (onlyIf c (hostCmd p off f) s) = .next (kept s (f s)) := by
  rw [settle_onlyIf hc, hostCmd_unlocked h]

/-- A table command on a free page has its effect. -/
theorem settle_tblCmd (h : TableFree s p) : settle s (tblCmd p f s) = .next (kept s (f s)) := by rw [tblCmd_free h]; rfl

end Commands

/-! ## The journal entry of a frame -/

section Journal

variable {s : State} {src cyc j : Nat} {f : InFrame} {e : Int}

/-- The item that a frame is formed into, its region, and the slice that takes it. -/
def entryItem (s : State) (f : InFrame) (j : Nat) (e : Int) : Item := (formItem f j e s).1
def entryRegion (s : State) (f : InFrame) (j : Nat) (e : Int) : Nat := itemRegion (formItem f j e s).2 (entryItem s f j e)
def entrySlice (s : State) (f : InFrame) (j : Nat) (e : Int) : Nat := regionOwner (mapFor s j).1 (entryRegion s f j e)

/-- The state with the frame formed and taken from its ingress buffer, the recirculation level following. -/
def entryLeft (s : State) (f : InFrame) (j : Nat) (e : Int) : State :=
  let t := { (formItem f j e s).2 with ingress := dropFirst (fun g => decide (g = f)) (formItem f j e s).2.ingress }
  if f.src = 11 then wr 0xC8 CLS.RECIRC_LEVEL (rd t 0xC8 CLS.RECIRC_LEVEL - 1) t else t

/-- No source that ranks behind the frame's has entered its journal in the same cycle (R574). -/
def entryInRank (s : State) (f : InFrame) (j : Nat) (e : Int) : Bool := entersInRank s (entrySlice s f j e) j (entryItem s f j e).source e

/-- The entry of a frame, by what stands in its way: its rank, the ledger, the journal's room. -/
theorem enterJournal_eq : enterJournal f j e s =
    if !entryInRank s f j e then s
    else if 2040 ≤ ledgerRecords s (entrySlice s f j e) j then
      let w := noteWait f j (CWY.LEDGER_FULL (entrySlice s f j e)) s
      if firstKey 0x180 CWY.evLEDGER_FULL 0 ∈ w.firsts then w else raiseFirst 0x180 CWY.evLEDGER_FULL [entrySlice s f j e] w
    else if !journalRoom s (entrySlice s f j e) j (entryRegion s f j e) then noteWait f j (CWY.LIMIT_WAITS (entrySlice s f j e)) s
    else if j = now s then injectFault (entrySlice s f j e) (workItem (entrySlice s f j e) j (entryItem s f j e) (entryLeft s f j e))
    else { entryLeft s f j e with early := (entryLeft s f j e).early ++ [entryItem s f j e] } := rfl

theorem enterJournal_outOfRank (h : entryInRank s f j e = false) : enterJournal f j e s = s := by simp [enterJournal_eq, h]

theorem enterJournal_ledgerFull (h : entryInRank s f j e = true) (hl : 2040 ≤ ledgerRecords s (entrySlice s f j e) j) :
    enterJournal f j e s =
      let w := noteWait f j (CWY.LEDGER_FULL (entrySlice s f j e)) s
      if firstKey 0x180 CWY.evLEDGER_FULL 0 ∈ w.firsts then w else raiseFirst 0x180 CWY.evLEDGER_FULL [entrySlice s f j e] w := by
  simp [enterJournal_eq, h, hl]

theorem enterJournal_noRoom (h : entryInRank s f j e = true) (hl : ledgerRecords s (entrySlice s f j e) j < 2040)
    (hr : journalRoom s (entrySlice s f j e) j (entryRegion s f j e) = false) :
    enterJournal f j e s = noteWait f j (CWY.LIMIT_WAITS (entrySlice s f j e)) s := by
  simp [enterJournal_eq, h, Nat.not_le.mpr hl, hr]

theorem enterJournal_enters (h : entryInRank s f j e = true) (hl : ledgerRecords s (entrySlice s f j e) j < 2040)
    (hr : journalRoom s (entrySlice s f j e) j (entryRegion s f j e) = true) :
    enterJournal f j e s =
      if j = now s then injectFault (entrySlice s f j e) (workItem (entrySlice s f j e) j (entryItem s f j e) (entryLeft s f j e))
      else { entryLeft s f j e with early := (entryLeft s f j e).early ++ [entryItem s f j e] } := by
  simp [enterJournal_eq, h, Nat.not_le.mpr hl, hr]

/-- An open journal's entry presents the first frame of the source that waits (R15). -/
theorem journalEntry_open (hs : src < 14) (hc : cyc < 2430) (hr : s.clock.running = true) (ho : journalOpen s = true) :
    exec (.journalEntry src cyc) s = .next (kept s (
      match pickIngress s src (startOf (now s) + cyc) with
      | none => s
      | some f => if cyc < 1944 then enterJournal f (now s) cyc s else enterJournal f (now s + 1) ((cyc : Int) - 2430) s)) :=
  settle_onlyIf (by simp [hs, hr, ho, blockCycles, hc])

theorem journalEntry_none (hs : src < 14) (hc : cyc < 2430) (hr : s.clock.running = true) (ho : journalOpen s = true)
    (hn : pickIngress s src (startOf (now s) + cyc) = none) : exec (.journalEntry src cyc) s = .next s := by
  rw [journalEntry_open hs hc hr ho, hn]; rfl

/-- A frame enters the journal of the block in progress, from core cycle 1 944 on that of the next. -/
theorem journalEntry_frame (hs : src < 14) (hc : cyc < 2430) (hr : s.clock.running = true) (ho : journalOpen s = true)
    (hf : pickIngress s src (startOf (now s) + cyc) = some f) (hnow : cyc < 1944 → j = now s ∧ e = cyc)
    (hnext : 1944 ≤ cyc → j = now s + 1 ∧ e = (cyc : Int) - 2430) :
    exec (.journalEntry src cyc) s = .next (kept s (enterJournal f j e s)) := by
  rw [journalEntry_open hs hc hr ho, hf]
  by_cases h : cyc < 1944
  · obtain ⟨rfl, rfl⟩ := hnow h
    simp only [h, if_true]
  · obtain ⟨rfl, rfl⟩ := hnext (by omega)
    simp only [h, if_false]

end Journal

/-- Settles O13: the frame is presented to its journal, and each branch of the entry answers as named. -/
theorem journalEntryAndTimedWork : Obligations.JournalEntryAndTimedWork := by
  intro s src cyc hs hc hr ho
  refine ⟨journalEntry_none hs hc hr ho, fun f j e hf hnow hnext => ?_⟩
  have hentry := journalEntry_frame hs hc hr ho hf hnow hnext
  refine ⟨fun hrank hl hroom => ⟨fun h => ?_, fun h => ?_⟩, fun hrank => ?_, fun hrank hl => ?_, fun hrank hl hroom => ?_⟩
  · rw [hentry, enterJournal_enters hrank hl hroom, if_pos (hnow h).1]; rfl
  · rw [hentry, enterJournal_enters hrank hl hroom, if_neg (by rw [(hnext h).1]; omega)]; rfl
  · rw [hentry, enterJournal_outOfRank hrank]; rfl
  · rw [hentry, enterJournal_ledgerFull hrank hl]; rfl
  · rw [hentry, enterJournal_noRoom hrank hl hroom]; rfl

/-! ## Commits, and a frame on a Kerb port -/

section Serialisation

variable {s : State} {p cyc cycles : Nat} {masked : List Nat} {failed : List (Nat × Bool)} {x : MacEnt}

theorem blockCommit_due (hr : s.clock.running = true) (hk : s.nextCommit + 2 ≤ now s) :
    exec (.blockCommit masked failed cycles) s = .next (kept s (releaseRefs (assemble 0 (assemble 1 (commitEnd s.nextCommit cycles
      (commitItems s.nextCommit failed (forEach masked (voteMasked s.nextCommit) { s with nextCommit := s.nextCommit + 1 }))))))) :=
  settle_onlyIf (by simp [hr, hk])

/-- A transmit opportunity at which a Kerb port's MAC takes a frame ends electrical idle. -/
theorem transmitOpportunity_kerb (hp : p < 8) (hm : (transmitOpportunity p cyc s).macs.length ≠ s.macs.length) :
    exec (.transmitOpportunity p cyc) s
      = .next (kept s (showIdle p (wr (krb p) KRB.PORT_STATUS_LPI 0 (transmitOpportunity p cyc s)))) :=
  (settle_onlyIf (decide_eq_true (Or.inl hp))).trans (congrArg _ (congrArg _ (if_pos ⟨hp, hm⟩)))

theorem transmitOpportunity_host : exec (.transmitOpportunity 10 cyc) s = .next (kept s (transmitOpportunity 10 cyc s)) :=
  (settle_onlyIf (by decide)).trans (congrArg _ (congrArg _ (if_neg fun h => absurd h.1 (by decide))))

/-- An idle MAC of a Kerb port that is up starts the frame of the highest queue that may start, or drops a poisoned one. -/
theorem kerbFrameStart_picked (hp : p < 8) (hu : kerbUp s p = true) (hi : sending s p = none) (hx : macPick s p cyc = some x) :
    exec (.kerbFrameStart p cyc) s = .next (kept s (
      if poisoned s x.ent then endMac ocContained x.ent s
      else { s with macs := s.macs.map (fun y => if y.ent.id = x.ent.id then { y with started := true, at_ := startOf (now s) + cyc } else y),
                    wire := Map.put none s.wire p (some (egressBytes s p (startOf (now s) + cyc) x.ent)) })) :=
  (settle_onlyIf (by simp [hp, hu, hi])).trans (by simp only [hx])

theorem kerbTxComplete_sending (hp : p < 8) (hx : sending s p = some x) (ht : x.at_ ≤ startOf (now s) + cyc) :
    exec (.kerbTxComplete p cyc) s
      = .next (kept s (startPending p (startOf (now s) + cyc) (wr (krbHeld p) HKRB.IDLE_FROM (startOf (now s) + cyc)
          (releaseEnt x.ent (removeMac x.ent (deliver x.ent (startOf (now s) + cyc) (stampSent p x (inc (krb p) KRB.TX_FRAMES s)))))))) :=
  (settle_onlyIf (by simp [hp, hx, ht])).trans (by simp only [hx])

theorem lpiEntry_idle (hp : p < 8) (h4 : kerbX4 s p = true) (hu : kerbUp s p = true) (he : rd s (krb p) KRB.PORT_CTRL_LPI_EN = 1)
    (hi : rd s (krbHeld p) HKRB.IDLE_FROM + nsCycles (rd s (krb p) KRB.LPI_ENTRY) ≤ startOf (now s + 1))
    (hm : s.macs.any (fun y => decide (y.port = p)) = false) :
    exec (.lpiEntry p) s = .next (kept s (showIdle p (wr (krb p) KRB.PORT_STATUS_LPI 1 s))) :=
  settle_onlyIf (by simp only [rdb, hp, h4, hu, he, hi, hm]; decide)

end Serialisation

/-- Settles O16: each command meets the condition under which it acts. -/
theorem commitAndSerialisation : Obligations.CommitAndSerialisation := fun _ _ _ _ _ _ _ =>
  ⟨blockCommit_due, transmitOpportunity_kerb, transmitOpportunity_host,
    fun hp hu hi hx hn => (kerbFrameStart_picked hp hu hi hx).trans (by simp only [hn, Bool.false_eq_true, if_false]),
    fun hp hu hi hx hn => (kerbFrameStart_picked hp hu hi hx).trans (by simp only [hn, if_true]), kerbTxComplete_sending, lpiEntry_idle⟩

/-! ## Scrubbing -/

section Scrub

variable {s : State} {w : WordAt} {b off h r pass page : Nat} {bad : Bool} {e : WordErr} {i : PageInfo}

/-- The pass counters: `pass` 1 ends a pass over SRAM, 2 one over LPDDR6 (R40). -/
def passDoneCount (pass : Nat) (t : State) : State :=
  if pass = 1 then inc 0 GEN.SCRUB_SRAM_PASSES t else if pass = 2 then inc 0 GEN.SCRUB_DDR_PASSES t else t

/-- A visit to a word that is there has the effect of what it meets, and counts its pass. -/
theorem scrubVisit_there (hw : wordThere s w = true) :
    exec (.scrubVisit w e pass) s = .next (kept s (passDoneCount pass (
      match e with
      | .clean => s
      | .single b => corrected w.page (cellLoc w (b % 39)) s
      | .double => doubleBit w s))) := by
  refine (settle_onlyIf hw).trans (congrArg _ (congrArg _ ?_))
  match pass with
  | 0 => rfl
  | 1 => rfl
  | 2 => rfl
  | n + 3 => rfl

theorem scrubVisit_absent (hw : wordThere s w = false) : exec (.scrubVisit w e pass) s = .next s := settle_onlyIf_false hw

/-- A visit that meets a double-bit error contains it by what holds the word (Table 1.7). -/
theorem scrubVisit_double (hw : wordThere s w = true) :
    exec (.scrubVisit w .double pass) s = .next (kept s (passDoneCount pass (doubleBit w s))) := scrubVisit_there hw

/-! What a double-bit error does, by what holds the word. -/

theorem doubleBit_mirrored (hk : w.kind = .mirrored bad) :
    doubleBit w s = raiseFault w.page noBit (wordLoc w) (copyGood (uncorrected w.page s) w bad) [w.addr] (uncorrected w.page s) := by
  simp only [doubleBit, hk]

theorem doubleBit_refetched (hk : w.kind = .treeCache ∨ (w.kind = .flowRecord h bad ∧ copyGood (uncorrected w.page s) w bad = true)) :
    doubleBit w s = raiseFault w.page noBit (wordLoc w) true [w.addr] (uncorrected w.page s) := by
  rcases hk with hk | ⟨hk, hg⟩
  · simp only [doubleBit, hk]
  · simp only [doubleBit, hk, hg, if_true]

theorem doubleBit_lostRecord (hk : w.kind = .flowRecord h bad) (hg : copyGood (uncorrected w.page s) w bad = false) :
    doubleBit w s = flowDbe h (wordLoc w) w.addr (uncorrected w.page s) := by
  simp only [doubleBit, hk, hg, Bool.false_eq_true, if_false]

theorem doubleBit_buffer (hk : w.kind = .bufferMeta h ∨ w.kind = .freeList h) :
    doubleBit w s = if noBuffer (uncorrected w.page s) h then uncorrected w.page s
      else containHolder h (parkDbe h (wordLoc w) w.addr (uncorrected w.page s)) := by
  rcases hk with hk | hk
  · simp only [doubleBit, hk]
  · simp only [doubleBit, hk]

theorem doubleBit_frameData (hk : w.kind = .frameData h)
    (hb : noBuffer (raiseFault w.page noBit (wordLoc w) false [w.addr] (uncorrected w.page s)) h = false) :
    doubleBit w s = containHolder h (raiseFault w.page noBit (wordLoc w) false [w.addr] (uncorrected w.page s)) := by
  simp only [doubleBit, hk, hb, Bool.false_eq_true, if_false]

theorem doubleBit_mews {c : Nat} (hk : w.kind = .mewsMemory c r) :
    doubleBit w s = roleDbe r (wordLoc w) (raiseFault w.page noBit (wordLoc w) false [w.addr] (uncorrected w.page s)) := by
  simp only [doubleBit, hk]

theorem doubleBit_key {c k : Nat} (hk : w.kind = .keyStore c k) : doubleBit w s = keyDbe c k (uncorrected w.page s) := by
  simp only [doubleBit, hk]

theorem doubleBit_plain (hk : w.kind = .plain) :
    doubleBit w s = raiseFault w.page noBit (wordLoc w) false [w.addr] (uncorrected w.page s) := by
  simp only [doubleBit, hk]

/-! The register scrubber (R524, R525). -/

theorem registerScrub_single (hi : pageInfo page = some i) :
    exec (.registerScrub page off (.single b)) s
      = .next (kept s (corrected page (locCell i.sub 0x3E (i.idx % 32) (b % 39)) s)) :=
  (settle_kept s _).trans (by simp only [hi])

theorem registerScrub_double (hi : pageInfo page = some i) :
    exec (.registerScrub page off .double) s
      = .next (kept s { regDouble page (off % 4096) i s with hostRead := 0xFFFFFFFF }) :=
  (settle_kept s _).trans (by simp only [hi])

theorem registerScrub_clean : exec (.registerScrub page off .clean) s = .next (kept s s) := by
  refine (settle_kept s _).trans ?_
  cases pageInfo page with
  | none => rfl
  | some i => rfl

end Scrub

/-- Settles O21: a visit has the effect of what it meets, and a double-bit error that of what holds the word. -/
theorem scrubbing : Obligations.Scrubbing := by
  intro s w b off h pass page bad i p r
  have double {t : State} (hw : wordThere s w = true) (ht : doubleBit w s = t) :
      exec (.scrubVisit w .double pass) s = .next (kept s (passDoneCount pass t)) := ht ▸ scrubVisit_double hw
  refine ⟨fun hw => ⟨scrubVisit_there hw, scrubVisit_there hw, fun hk => double hw (doubleBit_mirrored hk),
    fun hk => double hw (doubleBit_refetched hk), fun hk hg => double hw (doubleBit_lostRecord hk hg),
    fun hk hb => double hw ((doubleBit_buffer hk).trans (by simp only [hb, Bool.false_eq_true, if_false])),
    fun hk hb => double hw ((doubleBit_buffer hk).trans (by simp only [hb, if_true])),
    fun hk hb => double hw (doubleBit_frameData hk hb), fun hk => double hw (doubleBit_mews hk), fun hk => double hw (doubleBit_key hk),
    fun hk => double hw (doubleBit_plain hk)⟩,
    fun hw _ => scrubVisit_absent hw, registerScrub_single, registerScrub_double, registerScrub_clean⟩

/-! ## Pins and supplies -/

section Pins

variable {s : State} {b : Bool} {addr off v : Nat} {f g : Field}

/-- Driving one pin leaves another as it is held. -/
theorem pin_wr_other (h : g.off * 8 + g.lo ≠ f.off * 8 + f.lo) : pin (wr (held 0x20) f v s) g = pin s g := by
  rw [pin, rdb, rd_wr_off h]; rfl

theorem pin_wrb_other {c : Bool} (h : g.off * 8 + g.lo ≠ f.off * 8 + f.lo) : pin (wrb (held 0x20) f c s) g = pin s g := pin_wr_other h

theorem porstAssert_high (h : pin s HPWR.PORST = false) : exec .porstAssert s = keepQueue s (porstLow (porstState s)) :=
  keepQueue_onlyIf (by simp [h])

/-- The release of PORST_N with standby power there: BOOT_SEL is sampled, and VIN decides whether the ROM starts. -/
theorem porstDeassert_low (hp : pin s HPWR.PORST = true) (hs : pin s HPWR.STANDBY = true) :
    exec (.porstDeassert b) s = keepQueue s (
      let t := wr (held 0x20) HPWR.PORST 0 (wrb (held 0x20) HPWR.BOOT_PIN b s)
      if pin s HPWR.VIN then romStart b false t else showOff (wr (held 0x20) HPWR.POWER_ON 1 t)) := by
  have hvin : pin (wr (held 0x20) HPWR.PORST 0 (wrb (held 0x20) HPWR.BOOT_PIN b s)) HPWR.VIN = pin s HPWR.VIN :=
    (pin_wr_other (by decide)).trans (pin_wrb_other (by decide))
  exact (keepQueue_onlyIf (by simp [hp, hs])).trans (by simp only [hvin])

theorem warmReset_ok (h : warmOk s = true) :
    exec (.warmReset b) s = keepQueue s (warmReset b (wr (held 0x20) HPWR.FAILED 0 (wrb (held 0x20) HPWR.BOOT_PIN b s))) :=
  keepQueue_onlyIf h

theorem standbyPowerUp_held (h : pin s HPWR.PORST = true) :
    exec .standbyPowerUp s = keepQueue s (porstLow (wr (held 0x20) HPWR.STANDBY 1 (coldState s))) := keepQueue_onlyIf h

/-- VIN's switch closes while PORST_N is low: nothing else follows. -/
theorem vinSwitchClose_porstLow (hv : pin s HPWR.VIN = false) (hs : pin s HPWR.STANDBY = true) (hp : pin s HPWR.PORST = true) :
    exec .vinSwitchClose s = keepQueue s (wr (held 0x20) HPWR.VIN 1 s) := by
  have hp' : pin (wr (held 0x20) HPWR.VIN 1 s) HPWR.PORST = true := (pin_wr_other (by decide)).trans hp
  exact (keepQueue_onlyIf (by simp [hv, hs, hp])).trans (by simp [hp'])

/-- VIN's switch closes on a ROM that waited for it. -/
theorem vinSwitchClose_waited (hv : pin s HPWR.VIN = false) (hs : pin s HPWR.STANDBY = true) (hp : pin s HPWR.PORST = false)
    (ho : pin s HPWR.POWER_ON = true) :
    exec .vinSwitchClose s
      = keepQueue s (romStart (pin s HPWR.BOOT_PIN) false (wr (held 0x20) HPWR.POWER_ON 0 (wr (held 0x20) HPWR.VIN 1 s))) := by
  have keeps {g : Field} (hg : g.off * 8 + g.lo ≠ HPWR.VIN.off * 8 + HPWR.VIN.lo) : pin (wr (held 0x20) HPWR.VIN 1 s) g = pin s g :=
    pin_wr_other hg
  have hp' := (keeps (g := HPWR.PORST) (by decide)).trans hp
  have ho' := (keeps (g := HPWR.POWER_ON) (by decide)).trans ho
  exact (keepQueue_onlyIf (by simp [hv, hs, ho])).trans (by simp [hp', ho', keeps (g := HPWR.BOOT_PIN) (by decide)])

theorem vinSwitchOpen_closed (h : pin s HPWR.VIN = true) : exec .vinSwitchOpen s = .next (kept s (wr (held 0x20) HPWR.VIN 0 s)) :=
  settle_onlyIf h

theorem moduleWithdrawn_powered (h : pin s HPWR.STANDBY = true) :
    exec .moduleWithdrawn s
      = keepQueue s (wr (held 0x20) HPWR.STANDBY 0 (wr (held 0x20) HPWR.VIN 0 (porstLow (porstState s)))) :=
  keepQueue_onlyIf h

theorem optRead_served (h : pd0On s = true) (ha : addr = 0xA0 ∨ addr = 0xA2 ∨ addr = 0xA4 ∨ addr = 0xA6) (ho : off < 256) :
    exec (.optRead addr off) s = .next (kept s { s with optOut := some (addr, off, optByte s addr off) }) :=
  settle_onlyIf (by simp [h, ha, ho])

theorem extestLoad_ungranted (h : warmOk s = true) (hg : rdb s (held 0x10) HSEC.GRANTED = false) :
    exec .extestLoad s
      = keepQueue s (wr (held 0x20) HPWR.SCAN 1 (setDomains 1 (wr (held 0x10) HSEC.ROM 0 (clearTransition (warmState s))))) :=
  (keepQueue_onlyIf h).trans (by simp only [hg, Bool.false_eq_true, if_false])

theorem tapReset_scanning (h : pin s HPWR.SCAN = true) :
    exec (.tapReset b) s
      = keepQueue s (romStart b false (wr (held 0x20) HPWR.SCAN 0 (wrb (held 0x20) HPWR.BOOT_PIN b s))) :=
  keepQueue_onlyIf h

/-- The record that the loss of the core clock leaves for the first block that runs. -/
def clockFaultRec (s : State) : EvRec := { mkEv s 0 GEN.evCLOCK_FAULT (locDie 0) false [] with deferred := true }

theorem clockFault_deferred (hs : powerState s ≤ 1) (hp : pin s HPWR.PORST = false) (hb : pin s HPWR.STANDBY = true)
    (hc : pin s HPWR.SCAN = false) (hd : (appendFlog (clockFaultRec s) s).deferred.length < 256) :
    exec .clockFault s = keepQueue s (warmReset (pin s HPWR.BOOT_PIN)
      { appendFlog (clockFaultRec s) s with deferred := (appendFlog (clockFaultRec s) s).deferred ++ [clockFaultRec s] }) :=
  (keepQueue_onlyIf (by simp [hs, hp, hb, hc])).trans
    (congrArg (fun t => keepQueue s (warmReset (pin s HPWR.BOOT_PIN) t)) (if_pos hd))

end Pins

/-- Settles O22: each command meets the condition under which it acts. -/
theorem pinsAndSupplies : Obligations.PinsAndSupplies := fun _ _ _ _ =>
  ⟨porstAssert_high,
    fun hp hs hv => (porstDeassert_low hp hs).trans (by simp only [hv, if_true]),
    fun hp hs hv => (porstDeassert_low hp hs).trans (by simp only [hv, Bool.false_eq_true, if_false]),
    warmReset_ok, standbyPowerUp_held, vinSwitchClose_porstLow, vinSwitchClose_waited, vinSwitchOpen_closed, moduleWithdrawn_powered,
    optRead_served, extestLoad_ungranted, tapReset_scanning, clockFault_deferred⟩

/-! ## Gate lists, the scheduler's nodes, the Bollard -/

section GatesAndNodes

variable {s : State} {p cyc i u pg : Nat} {fs : List Field}

theorem gateConfigChange_pends (hp : p < 8) (h : Unlocked s 0x102) (hr : gateReason s p = 0) :
    exec (.gateConfigChange p) s = .next (kept s (wr 0x102 (SCH2.CONFIG_CHANGE p) 1 (wr 0x102 (SCH2.GATE_STATUS_RESULT p) 0 s))) :=
  (settle_onlyIf_hostCmd (decide_eq_true hp) h).trans (by simp only [hr, if_true])

theorem gateConfigChange_refused (hp : p < 8) (h : Unlocked s 0x102) (hr : gateReason s p ≠ 0) :
    exec (.gateConfigChange p) s = .next (kept s (raise 0x102 SCH2.evGATE_REFUSED [p, gateReason s p]
      (wr 0x102 (SCH2.GATE_STATUS_RESULT p) (gateReason s p) s))) :=
  (settle_onlyIf_hostCmd (decide_eq_true hp) h).trans (by simp only [hr, if_false])

theorem gateListStart_reached (hp : p < 8) (hs : rd s (held 0x100) (HSCH.START_NS p) ≠ 0)
    (hr : reached s cyc (rd s (held 0x100) (HSCH.START_NS p) - 1) = true) :
    exec (.gateListStart p cyc) s = .next (kept s (gateListStart p s)) :=
  settle_onlyIf (by simp [hp, hs, hr])

theorem gateEntryChange_over (hp : p < 8) (ho : rdb s (held 0x100) (HSCH.OPER p) = true) (hr : reached s cyc (entryOver s p) = true) :
    exec (.gateEntryChange p cyc) s = .next (kept s (gateNext p s)) :=
  settle_onlyIf (by simp [hp, ho, hr])

theorem gateReads_free (h : TableFree s 0x102) :
    exec .gateReadAdmin s = .next (kept s (tblResult 0x102 0 (readRecord 0x102 (gateAdminPage s) GENT.fields s))) ∧
    exec .gateReadOper s = .next (kept s (tblResult 0x102 0 (readRecord 0x102 (gateOperPage s) GENT.fields s))) :=
  ⟨settle_tblCmd h, settle_tblCmd h⟩

theorem gateWriteAdmin_idle (h : TableFree s 0x102) (hp : gatePending s (rd s 0x102 SCH2.TBL_ADDR_PORT) = false) :
    exec .gateWriteAdmin s = .next (kept s (tblResult 0x102 0 (wr (gateAdminPage s) GENT.GATES (dataField s 0x102 GENT.GATES)
      (wr (gateAdminPage s) GENT.INTERVAL (dataField s 0x102 GENT.INTERVAL) s)))) :=
  (settle_tblCmd h).trans (by simp only [hp, Bool.false_eq_true, if_false])

theorem gateWriteAdmin_pending (h : TableFree s 0x102) (hp : gatePending s (rd s 0x102 SCH2.TBL_ADDR_PORT) = true) :
    exec .gateWriteAdmin s = .next (kept s (tblResult 0x102 1 s)) :=
  (settle_tblCmd h).trans (by simp only [hp, if_true])

theorem nodeRead_there (h : TableFree s 0x101) (hn : nodeRecord s = some (pg, fs)) :
    exec .nodeRead s = .next (kept s (tblResult 0x101 0 (readRecord 0x101 pg fs s))) :=
  (settle_tblCmd h).trans (by simp only [nodeRead, hn])

theorem nodeWrite_there (h : TableFree s 0x101) (hn : nodeRecord s = some (pg, fs)) :
    exec .nodeWrite s = .next (kept s (tblResult 0x101 0 (stageRecord 0x101 pg fs s))) :=
  (settle_tblCmd h).trans (by simp only [hn])

theorem nodeReadClearRefused_leaf (h : TableFree s 0x101) (hl : rd s 0x101 SCH1.TBL_ADDR_LEVEL = 0) :
    exec .nodeReadClearRefused s
      = .next (kept s (wr (Tab.leaf (rd s 0x101 SCH1.TBL_ADDR_INDEX)) LEAF.REFUSED 0 (nodeRead s))) :=
  (settle_tblCmd h).trans (by simp only [hl, if_true])

theorem bolRead_there (h : TableFree s 0x140) (hi : bolIndexOk s = true) :
    exec .bolRead s = .next (kept s (tblResult 0x140 0 (readRecord 0x140 (bolRecord s).1 (bolRecord s).2 s))) :=
  (settle_tblCmd h).trans (by simp only [bolRead, hi, if_true])

theorem bolWrite_staged (h : TableFree s 0x140) (hi : bolIndexOk s = true) (hz : zeroBurst s = false) :
    exec .bolWrite s = .next (kept s (tblResult 0x140 0 (stageRecord 0x140 (bolRecord s).1 (bolRecord s).2 s))) :=
  (settle_tblCmd h).trans (by simp only [hi, hz, Bool.not_true, Bool.false_eq_true, if_false])

theorem bolWrite_zeroBurst (h : TableFree s 0x140) (hi : bolIndexOk s = true) (hz : zeroBurst s = true) :
    exec .bolWrite s = .next (kept s (tblResult 0x140 2 s)) :=
  (settle_tblCmd h).trans (by simp only [hi, hz, Bool.not_true, Bool.false_eq_true, if_false, if_true])

theorem bolReadClear_profile (h : TableFree s 0x140) (hi : bolIndexOk s = true) (ht : rdb s 0x140 BOL.TBL_ADDR_TABLE = true) :
    exec .bolReadClear s
      = .next (kept s (wr (bolRecord s).1 BPF.GREEN 0 (wr (bolRecord s).1 BPF.YELLOW 0 (wr (bolRecord s).1 BPF.RED 0 (bolRead s))))) :=
  (settle_tblCmd h).trans (by simp only [hi, ht, and_self, if_true])

theorem policerSweep_refreshes (hi : i < 131072) : exec (.policerSweep i) s = .next (kept s (sweepPolicer i s)) :=
  settle_onlyIf (decide_eq_true hi)

theorem schDupMismatch_masked (hu : u ≤ 0x0C) :
    exec (.schDupMismatch u) s = .next (kept s (raiseFault 0x100 SCH0.evDUP_MISMATCH (locUnit 0x15 u) true [] s)) :=
  settle_onlyIf (decide_eq_true hu)

end GatesAndNodes

/-- Settles O25: each command meets the condition under which it acts. -/
theorem gatesNodesAndPolicers : Obligations.GatesNodesAndPolicers := fun _ _ _ _ _ _ _ hp =>
  ⟨gateConfigChange_pends hp, gateConfigChange_refused hp, gateListStart_reached hp, gateEntryChange_over hp, gateReads_free,
    gateWriteAdmin_idle, gateWriteAdmin_pending, fun h hn => ⟨nodeRead_there h hn, nodeWrite_there h hn⟩, nodeReadClearRefused_leaf,
    bolRead_there, bolWrite_staged, bolWrite_zeroBurst, bolReadClear_profile, policerSweep_refreshes, rfl, schDupMismatch_masked⟩

/-! ## The host port -/

section HostPort

variable {s : State} {n v cyc width speed : Nat} {desc : List Nat} {bytes : List Byte}

theorem ringTailWrite_fits (hn : n < 64) (h : Unlocked s 0xB1) (hl : (v + 65536 - rd s 0xB1 (HST1.HEAD n)) % 65536 ≤ ringLen s n) :
    exec (.ringTailWrite n v) s = .next (kept s (wr 0xB1 (HST1.TAIL n) v s)) :=
  (settle_onlyIf_hostCmd (decide_eq_true hn) h).trans (by simp only [Nat.not_lt.mpr hl, if_false])

theorem ringTailWrite_tooMany (hn : n < 64) (h : Unlocked s 0xB1) (hl : ringLen s n < (v + 65536 - rd s 0xB1 (HST1.HEAD n)) % 65536) :
    exec (.ringTailWrite n v) s = .next (kept s (raise 0xB1 HST1.evTAIL_ERR [n] (ringResult n 4 s))) :=
  (settle_onlyIf_hostCmd (decide_eq_true hn) h).trans (by simp only [hl, if_true])

/-- START on a stopped ring with a good configuration clears its positions and runs it (R459). -/
theorem ringStart_good (hn : n < 64) (h : Unlocked s 0xB1) (hs : ringState s n = ringStopped) (hb : ringConfigBad s n = false) :
    exec (.ringStart n) s
      = .next (kept s (ringResult n 1 (wr 0xB1 (HST1.RING_CTRL_STATE n) ringRunning (wr (held 0xB1) (HHST.TX_WAIT n) 0
          (wr (held 0xB1) (HHST.RSVD n) 0 (wr (held 0xB1) (HHST.FETCHED n) 0 (wr (held 0xB1) (HHST.TX_DAMAGED n) 0
            (wr 0xB1 (HST1.HEAD n) 0 (wr 0xB1 (HST1.TAIL n) 0 s))))))))) :=
  (settle_onlyIf_hostCmd (decide_eq_true hn) h).trans (by simp only [hs, hb, ne_eq, not_true_eq_false, Bool.false_eq_true, if_false])

theorem ringStart_badConfig (hn : n < 64) (h : Unlocked s 0xB1) (hs : ringState s n = ringStopped) (hb : ringConfigBad s n = true) :
    exec (.ringStart n) s = .next (kept s (ringResult n 3 s)) :=
  (settle_onlyIf_hostCmd (decide_eq_true hn) h).trans (by simp only [hs, hb, ne_eq, not_true_eq_false, if_false, if_true])

theorem ringStart_notStopped (hn : n < 64) (h : Unlocked s 0xB1) (hs : ringState s n ≠ ringStopped) :
    exec (.ringStart n) s = .next (kept s (ringResult n 5 s)) :=
  (settle_onlyIf_hostCmd (decide_eq_true hn) h).trans (by simp only [hs, ne_eq, not_false_eq_true, if_true])

theorem ringStop_running (hn : n < 64) (h : Unlocked s 0xB1) (hs : ringState s n = ringRunning)
    (ha : rd s (held 0xB1) (HHST.STOP_AT n) = 0) :
    exec (.ringStop n) s = .next (kept s (ringResult n 1 (wr (held 0xB1) (HHST.STOP_AT n) (now s + 4) s))) :=
  (settle_onlyIf_hostCmd (decide_eq_true hn) h).trans (by simp only [hs, ha, and_self, if_true])

theorem ringStopped_checks (hn : n < 64) : exec (.ringStopped n) s = .next (kept s (txStopCheck n (rxStopCheck n s))) :=
  settle_onlyIf (decide_eq_true hn)

/-! The next descriptor of the ring that is first in Roundabout order (R465). -/

/-- The transmit engine may fetch ring n's next descriptor in cycle `cyc` of the block. -/
structure TxFetches (s : State) (n cyc : Nat) : Prop where
  ring : n < 64
  posted : txPosted s n = true
  enabled : rdb s 0xB0 HST0.HST_CTRL_EN = true
  linkUp : rdb s 0xB0 HST0.HST_STATUS_LINK_UP = true
  withinTick : rd s (held 0xB1) HHST.TX_TICK < 2000
  free : txWaits s n = false
  first : txFirst s n cyc = true

/-- A descriptor's words as fetched, and its position on ring n. -/
def txWords (desc : List Nat) : List Nat := desc.map (· % 2 ^ 32)
def txPos (s : State) (n : Nat) : Nat := rd s 0xB1 (HST1.HEAD n) + rd s (held 0xB1) (HHST.FETCHED n)

theorem TxFetches.descriptor (h : TxFetches s n cyc) :
    exec (.txDescriptorFetch n desc bytes cyc) s = .next (kept s (
      match txType (txWords desc) with
      | 0 => if 256 ≤ txHeld s then txHold n 1 s else hostFrame n (txPos s n) (txWords desc) bytes (startOf (now s) + cyc) (txTake n s)
      | 1 => if !serveOpen s ∨ 256 ≤ txHeld s then txHold n 2 s else txServe n (txPos s n) (txWords desc) bytes (startOf (now s) + cyc) s
      | 2 => txMessage n (txPos s n) (txWords desc) bytes (txTake n s)
      | 3 => txMessage n (txPos s n) (txWords desc) bytes (txTake n s)
      | _ => txReturn n (txPos s n) 8 (txTake n s))) := by
  obtain ⟨hn, hp, he, hl, ht, hw, hf⟩ := h
  exact settle_onlyIf (by simp [hn, hp, he, hl, ht, hw, hf])

theorem TxFetches.frame (h : TxFetches s n cyc) (ht : txType (txWords desc) = 0) (hh : txHeld s < 256) :
    exec (.txDescriptorFetch n desc bytes cyc) s
      = .next (kept s (hostFrame n (txPos s n) (txWords desc) bytes (startOf (now s) + cyc) (txTake n s))) :=
  h.descriptor.trans (by simp only [ht, Nat.not_le.mpr hh, if_false])

theorem TxFetches.serve (h : TxFetches s n cyc) (ht : txType (txWords desc) = 1) (hh : txHeld s < 256) (ho : serveOpen s = true) :
    exec (.txDescriptorFetch n desc bytes cyc) s
      = .next (kept s (txServe n (txPos s n) (txWords desc) bytes (startOf (now s) + cyc) s)) :=
  h.descriptor.trans (by simp only [ht, Nat.not_le.mpr hh, ho, Bool.not_true, Bool.false_eq_true, or_self, if_false])

theorem TxFetches.message (h : TxFetches s n cyc) (ht : txType (txWords desc) = 2 ∨ txType (txWords desc) = 3) :
    exec (.txDescriptorFetch n desc bytes cyc) s = .next (kept s (txMessage n (txPos s n) (txWords desc) bytes (txTake n s))) := by
  rcases ht with ht | ht
  · exact h.descriptor.trans (by simp only [ht])
  · exact h.descriptor.trans (by simp only [ht])

/-! The link (R454, R466, R467). -/

theorem hostLinkDown_up (h : rdb s 0xB0 HST0.HST_STATUS_LINK_UP = true) :
    exec .hostLinkDown s = .next (kept s (
      let t := wr (held 0xB1) HHST.LINK_LOST 1 (inc 0xB0 HST0.LINK_DOWNS (setLink 0 0 0 s))
      raise 0xB0 HST0.evLINK_CHANGE (linkFields t) t)) :=
  settle_onlyIf h

theorem functionLevelReset_up (h : rdb s 0xB0 HST0.HST_STATUS_LINK_UP = true) :
    exec .functionLevelReset s = .next (kept s (wr (held 0xB1) HHST.FLR_DUE 1 (raise 0xB0 HST0.evFLR [] (inc 0xB0 HST0.FLRS s)))) :=
  settle_onlyIf h

/-- An unmasked vector whose pending bit is set sends its message (R456). -/
theorem msixVectorUnmask_up (hn : n < 64) (h : rdb s 0xB0 HST0.HST_STATUS_LINK_UP = true) :
    exec (.msixVectorUnmask n) s = .next (kept s (
      if (vec s n).pendingBit then sendVec n (vec s n).itr (setVec n { vec s n with masked := false, pendingBit := false } s)
      else setVec n { vec s n with masked := false } s)) :=
  settle_onlyIf (by simp [hn, h])

theorem hostLinkUp_down (h : rdb s 0xB0 HST0.HST_STATUS_LINK_UP = false) (hh : rdb s 0xB0 HST0.HST_CTRL_LINK_HOLD = false)
    (hw : width = 1 ∨ width = 2 ∨ width = 4) (hs : speed = 1 ∨ speed = 2) :
    exec (.hostLinkUp width speed) s
      = .next (kept s (raise 0xB0 HST0.evLINK_CHANGE (linkFields (setLink 1 width speed s)) (setLink 1 width speed s))) :=
  settle_onlyIf (by simp [h, hh, hw, hs])

theorem d3hotEntry_up (h : rdb s 0xB0 HST0.HST_STATUS_LINK_UP = true) (hd : rd s 0xB0 HST0.HST_STATUS_DSTATE = 0) :
    exec .d3hotEntry s = .next (kept s (
      let t := wr 0xB0 HST0.HST_STATUS_DSTATE 3 s
      if (List.range 64).any (fun k => ringState t k = ringRunning) then wr (held 0xB1) HHST.LINK_LOST 1 t else t)) :=
  settle_onlyIf (by simp [h, hd])

end HostPort

/-- Settles O34: each command meets the condition under which it acts. -/
theorem hostPortCommands : Obligations.HostPortCommands := fun _ _ _ _ _ _ _ _ hn =>
  ⟨ringTailWrite_fits hn, ringTailWrite_tooMany hn, ringStart_good hn, ringStart_badConfig hn, ringStart_notStopped hn,
    ringStop_running hn, ringStopped_checks hn,
    fun hp he hl ht hw hf =>
      have h : TxFetches _ _ _ := ⟨hn, hp, he, hl, ht, hw, hf⟩
      ⟨h.frame, h.serve, h.message⟩,
    fun h => ⟨hostLinkDown_up h, functionLevelReset_up h, msixVectorUnmask_up hn h⟩, hostLinkUp_down, d3hotEntry_up, rfl, rfl, rfl⟩

/-! ## Power requests and modes -/

section Power

variable {s : State} {op target low count phase loc : Nat} {ppb : Int} {ok : Bool}

/-- What a request does: its operands are shown, and it is judged (R498). -/
def requestPower (op target low : Nat) (byHost : Bool) (s : State) : State :=
  wr 0x20 PWR0.PWR_REQ_OP op (wr 0x20 PWR0.PWR_REQ_TARGET target (wr 0x20 PWR0.PWR_REQ_LOW_STATE low
    (pwrReq op (target % 8) (low % 4) byHost s)))

/-- A request by host software that can be made, on an unlocked page, is judged. -/
theorem askPower_host (hc : canAsk s true = true) (h : Unlocked s 0x20) :
    askPower op target low true s = keepQueue s (requestPower op target low true s) :=
  (keepQueue_onlyIf hc).trans (by simp only [if_true, hostCmd_unlocked h]; rfl)

/-- Yunager's request meets no lock. -/
theorem askPower_yunager (hc : canAsk s false = true) :
    askPower op target low false s = keepQueue s (requestPower op target low false s) :=
  keepQueue_onlyIf hc

theorem drainComplete_over (hk : drains (trKind s) = true) (hr : replaying s = false)
    (hs : rdb s (held 0x100) HSCH.STOP = true ∨ rdb s (held 0x100) HSCH.STOP_FILL = true) (ho : drainOver s = true) :
    exec .drainComplete s = keepQueue s (drainEnd s) :=
  keepQueue_onlyIf (by simp [hk, hr, hs, ho])

theorem selftestDone_passed (hm : mode s = modeSelftest) (hr : rdb s 0xD0 FLW.FLW_STATUS_READY = true) :
    exec (.selftestDone true 0) s
      = keepQueue s (setMode modeCommission (if rdb s (held 0x20) HPWR.TEST_ASKED then causeRequest else causeBoot)
          (wr (held 0x20) HPWR.TEST_PASSED 1 (wr (held 0x20) HPWR.TEST_ASKED 0 s))) :=
  keepQueue_onlyIf (by simp [hm, hr])

/-- A failed SELFTEST names its location in the record of the change to RECOVERY (Table 17.4). -/
theorem selftestDone_failed (hm : mode s = modeSelftest) (hl : locLevel loc ≠ 0) :
    exec (.selftestDone false loc) s
      = keepQueue s (raiseFault 0x20 PWR0.evMODE_CHANGE loc false
          [modeSelftest, modeRecovery, if rdb s (held 0x20) HPWR.TEST_ASKED then causeRequest else causeBoot]
          (inc 0x20 PWR0.MODE_CHANGES (wr 0x20 PWR0.MODE_SINCE_TICK s.clock.tick
            (wr 0x20 PWR0.PWR_STATUS_MODE modeRecovery (wr (held 0x20) HPWR.TEST_ASKED 0 s))))) :=
  keepQueue_onlyIf (by simp [hm, hl])

theorem leanEntry_due (hd : trDue s trLeanEntry = true) (hr : replaying s = false) :
    exec .leanEntry s = keepQueue s (startTr trLeanOff 1 (forEach (List.range 8) leanNarrow (rebuildPlan (leanSuspend
      (setMode modeLean causeRequest (wr (held 0x100) HSCH.LEAN_C 1 s)))))) :=
  keepQueue_onlyIf (by simp [hd, hr])

theorem leanSliceOff_due (hd : trDue s trLeanOff = true) (hc : rd s (held 0x20) HPWR.AT - 2 ≤ s.nextCommit) :
    exec .leanSliceOff s = keepQueue s (
      let x := rd s (held 0x20) HPWR.SLICE
      examinePending (endTr (setDomain (7 + x) false (wr 0x180 (CWY.SLICE_STATE x) 5
        (wr (held 0x20) HPWR.OLD_STATE (rd s 0x180 (CWY.SLICE_STATE x)) s))))) :=
  keepQueue_onlyIf (by simp [hd, hc])

theorem leanExit_due (hd : trDue s trLeanExit = true) (hr : replaying s = false) :
    exec (.leanExit ok) s = keepQueue s (examinePending (endTr
      (setMode (if fencedSlice (endLean ok s) < 3 then modeGuarded else modeService) causeRequest (endLean ok s)))) :=
  keepQueue_onlyIf (by simp [hd, hr])

/-- Work has ended as the entry into DORMANT finds it: the blocks committed, the frames left ended, the ports held, admission's stop
lifted (Table 17.5). -/
def dormantWorkEnded (s : State) : State :=
  wr (held 0x100) HSCH.STOP 0 (wr (held 0x100) HSCH.STOP_FILL 0 (holdPorts (endLeft (commitRest s))))

theorem dormantEntryComplete_idle (hk : trKind s = trDormant) (hl : rd s (held 0x20) HPWR.LOW = 0) :
    exec (.dormantEntryComplete count phase ppb) s = keepQueue s (afterEntry (enterIdle (dormantWorkEnded s))) :=
  (keepQueue_onlyIf (by simp [hk, hl])).trans (by simp only [hl, if_true]; rfl)

/-- The low states below IDLE are entered at a tick boundary (R502). -/
theorem dormantEntryComplete_low (hk : trKind s = trDormant) (hl : rd s (held 0x20) HPWR.LOW ≠ 0) (ho : s.clock.tickOpen = true) :
    exec (.dormantEntryComplete count phase ppb) s
      = keepQueue s (afterEntry (enterLow (rd s (held 0x20) HPWR.LOW) count phase ppb (dormantWorkEnded s))) :=
  (keepQueue_onlyIf (by simp [hk, ho])).trans (by simp only [hl, if_false]; rfl)

theorem wakeComplete_waking (h : rdb s (held 0x20) HPWR.WAKING = true) :
    exec (.wakeComplete count phase ppb) s = keepQueue s (
      let t := clockResumes count phase ppb (wr (held 0x20) HPWR.WAKING 0 s)
      let t := monWake t.clock.tick t
      if trKind t = trWake then startTr trWake 1 (setDomains (runDomains t) (setPower 0 t)) else t) :=
  keepQueue_onlyIf h

end Power

/-- Settles O37: each command meets the condition under which it acts. -/
theorem powerRequestsAndModes : Obligations.PowerRequestsAndModes := fun _ _ _ _ _ _ _ _ =>
  ⟨fun hc h => ⟨askPower_host hc h, askPower_host hc h, askPower_host hc h, askPower_host hc h, askPower_host hc h⟩,
    askPower_yunager, drainComplete_over, fun hm => ⟨selftestDone_passed hm, selftestDone_failed hm⟩, leanEntry_due, leanSliceOff_due,
    leanExit_due, dormantEntryComplete_idle, dormantEntryComplete_low, wakeComplete_waking⟩

end Sys2Proof.Machine

/-! Chapter 2: how a channel's raw bytes are laid out, its regions, and the places of what lies in them. -/

namespace Sys2Proof.Machine

/-! ## The raw bytes of a channel (R59) -/

section RawBytes

variable {st b n raw a : Nat}

/-- The data bytes of a stripe come first. -/
theorem rawKind_data (hst : st < stripes) (hb : b < stripeData) :
    rawKind (st * stripeRaw + b) = .data (st * stripeData + b) := by
  simp only [stripes, stripeData] at hst hb
  have hdiv : (st * 10240 + b) / 10240 = st := by omega
  have hmod : (st * 10240 + b) % 10240 = b := by omega
  have hin : ¬ 419430 * 10240 ≤ st * 10240 + b := by omega
  simp only [rawKind, stripes, stripeRaw, stripeData, hdiv, hmod, hin, hb, if_true, if_false]

/-- The bytes that hold check bits follow the stripe's data. -/
theorem rawKind_check (hst : st < stripes) (hb : b < checkUsed) :
    rawKind (st * stripeRaw + stripeData + b) = .check st b := by
  simp only [stripes, checkUsed] at hst hb
  have hdiv : (st * 10240 + 8192 + b) / 10240 = st := by omega
  have hmod : (st * 10240 + 8192 + b) % 10240 = 8192 + b := by omega
  have hin : ¬ 419430 * 10240 ≤ st * 10240 + 8192 + b := by omega
  have hcheck : ¬ 8192 + b < 8192 := by omega
  simp only [rawKind, stripes, stripeRaw, stripeData, checkUsed, hdiv, hmod, hin, hcheck, Nat.add_lt_add_iff_left, hb, if_true, if_false,
    Nat.add_sub_cancel_left]

/-- The last bytes of a stripe are reserved. -/
theorem rawKind_reserved (hin : raw < stripes * stripeRaw) (hb : stripeData + checkUsed ≤ raw % stripeRaw) : rawKind raw = .zero := by
  have hdata : ¬ raw % stripeRaw < stripeData := by omega
  simp only [rawKind, Nat.not_le.mpr hin, hdata, Nat.not_lt.mpr hb, if_false]

theorem rawKind_tail (h : stripes * stripeRaw ≤ raw) : rawKind raw = .tail := if_pos h

/-- A data address lies in one of the stripes. -/
theorem stripe_of_data (ha : a < channelData) : a / stripeData < stripes :=
  Nat.div_lt_of_lt_mul (by rwa [Nat.mul_comm])

/-- The raw byte of a data address holds that address, so no two data addresses share one. -/
theorem rawKind_rawOf (ha : a < channelData) : rawKind (rawOf a) = .data a := by
  rw [rawOf, rawKind_data (stripe_of_data ha) (Nat.mod_lt a (by decide)), Nat.div_add_mod']

theorem rawByte_data {word : Nat → Nat} (h : rawKind raw = .data a) : rawByte word raw = some (word (a / 4) / 2 ^ (8 * (a % 4)) % 256) := by
  rw [rawByte, h]

theorem rawByte_zero {word : Nat → Nat} (h : rawKind raw = .zero) : rawByte word raw = some 0 := by
  rw [rawByte, h]

/-- The sum of the powers of two at the places where `p` holds. -/
def powersWhere (p : Nat → Bool) (k : Nat) : Nat := (((List.range k).filter p).map (2 ^ ·)).sum

theorem powersWhere_succ_of_true {p : Nat → Bool} {k : Nat} (h : p k = true) : powersWhere p (k + 1) = 2 ^ k + powersWhere p k := by
  simp only [powersWhere, List.range_succ, List.filter_append, List.filter_cons, h, if_true, List.filter_nil, List.map_append, List.map_cons,
    List.map_nil, List.sum_append_nat, List.sum_cons, List.sum_nil, Nat.add_zero]
  exact Nat.add_comm _ _

theorem powersWhere_succ_of_false {p : Nat → Bool} {k : Nat} (h : p k = false) : powersWhere p (k + 1) = powersWhere p k := by
  simp only [powersWhere, List.range_succ, List.filter_append, List.filter_cons, h, Bool.false_eq_true, if_false, List.filter_nil,
    List.append_nil]

theorem powersWhere_lt (p : Nat → Bool) (k : Nat) : powersWhere p k < 2 ^ k := by
  induction k with
  | zero => exact Nat.zero_lt_one
  | succ k ih =>
    have hpow : 2 ^ (k + 1) = 2 ^ k + 2 ^ k := Nat.two_pow_succ k
    cases h : p k with
    | true => rw [powersWhere_succ_of_true h]; omega
    | false => rw [powersWhere_succ_of_false h]; omega

/-- The sum's bits are `p`: the power added last sets bit k, which is clear in the sum so far, and leaves the bits below. -/
theorem testBit_powersWhere (p : Nat → Bool) {k i : Nat} (hi : i < k) : (powersWhere p k).testBit i = p i := by
  induction k with
  | zero => exact absurd hi (Nat.not_lt_zero i)
  | succ k ih =>
    have hlast : (powersWhere p k).testBit k = false := Nat.testBit_lt_two_pow (powersWhere_lt p k)
    obtain hik | rfl := Nat.lt_succ_iff_lt_or_eq.mp hi
    · cases h : p k with
      | true => rw [powersWhere_succ_of_true h, Nat.testBit_two_pow_add_gt hik, ih hik]
      | false => rw [powersWhere_succ_of_false h, ih hik]
    · cases h : p i with
      | true => rw [powersWhere_succ_of_true h, Nat.testBit_two_pow_add_eq, hlast]; rfl
      | false => rw [powersWhere_succ_of_false h, hlast]

theorem bit_powersWhere (p : Nat → Bool) {k i : Nat} (hi : i < k) : bit (powersWhere p k) i = p i := by
  rw [bit, ← Nat.testBit_eq_decide_div_mod_eq, testBit_powersWhere p hi]

/-- Check bit n mod 7 of word n div 7 of a stripe, which bit n of the stripe's check area holds. -/
def stripeCheckBit (word : Nat → Nat) (st n : Nat) : Bool := bit (Config.checkBits (word (st * stripeWords + n / 7))) (n % 7)

theorem rawByte_check {word : Nat → Nat} (hst : st < stripes) (hb : b < checkUsed) :
    rawByte word (st * stripeRaw + stripeData + b) = some (powersWhere (fun i => stripeCheckBit word st (8 * b + i)) 8) := by
  rw [rawByte, rawKind_check hst hb]
  rfl

theorem rawByte_stripeCheckBit {word : Nat → Nat} (hst : st < stripes) (hn : n < 7 * stripeWords) :
    ∃ v, rawByte word (st * stripeRaw + stripeData + n / 8) = some v ∧ bit v (n % 8) = stripeCheckBit word st n := by
  refine ⟨_, rawByte_check hst (Nat.div_lt_of_lt_mul hn), (bit_powersWhere _ (Nat.mod_lt n (by decide))).trans ?_⟩
  rw [Nat.div_add_mod]

/-- Where the check bits of a data address lie: which bit of the check area, of which stripe. -/
theorem checkBitOf_add (a j : Nat) : checkBitOf a + j = 8 * (a / 8192 * 10240 + 8192) + (7 * (a % 8192 / 4) + j) := by
  simp only [checkBitOf, stripeData, stripeRaw]; omega

/-- The 7 check bits of the words of a stripe fill its check area but for the reserved bytes. -/
theorem checkBit_fits {j : Nat} (a : Nat) (hj : j < 7) : 7 * (a % 8192 / 4) + j < 7 * stripeWords := by
  simp only [stripeWords]; omega

/-- The check bits of the word at a data address are read back from where they lie. -/
theorem rawByte_checkBitOf {word : Nat → Nat} {j : Nat} (ha : a < channelData) (hj : j < 7) :
    ∃ v, rawByte word ((checkBitOf a + j) / 8) = some v ∧ bit v ((checkBitOf a + j) % 8) = bit (Config.checkBits (word (a / 4))) j := by
  have hword : a / 8192 * 2048 + (7 * (a % 8192 / 4) + j) / 7 = a / 4 := by omega
  have hbit : (7 * (a % 8192 / 4) + j) % 7 = j := by omega
  obtain ⟨v, hv, hb⟩ := rawByte_stripeCheckBit (word := word) (stripe_of_data ha) (checkBit_fits a hj)
  simp only [stripeCheckBit, stripeRaw, stripeData, stripeWords, hword, hbit] at hv hb
  rw [checkBitOf_add, Nat.mul_add_div (by decide), Nat.mul_add_mod]
  exact ⟨v, hv, hb⟩

end RawBytes

/-! ## Mirror pairs (R61) -/

theorem partnerOf_eq {c : Nat} (hc : c < 8) : partnerOf c = if c < 4 then c + 4 else c - 4 := by
  unfold partnerOf; split <;> omega

/-- The partner lies in another package: package p carries channels 2p and 2p + 1. -/
theorem partnerOf_package (c : Nat) : partnerOf c / 2 ≠ c / 2 := by
  unfold partnerOf; omega

/-! ## Regions (R64, Table 2.8) -/

theorem regions_disjoint : ∀ g ∈ regions, ∀ h ∈ regions, g = h ∨ g.base + g.size ≤ h.base ∨ h.base + h.size ≤ g.base := by decide

/-- An address between the bounds of a region lies in that region, and in no other. -/
theorem regionAt_eq_some {g : Region} {addr : Nat} (hg : g ∈ regions) (hlo : g.base ≤ addr) (hhi : addr < g.base + g.size) :
    regionAt addr = some g := by
  have hsome : (regionAt addr).isSome = true := List.find?_isSome.mpr ⟨g, hg, decide_eq_true ⟨hlo, hhi⟩⟩
  obtain ⟨h, hh⟩ := Option.isSome_iff_exists.mp hsome
  have hin : h.base ≤ addr ∧ addr < h.base + h.size := by simpa only [decide_eq_true_eq] using List.find?_some hh
  have hgh : g = h := (regions_disjoint g hg h (List.mem_of_find?_eq_some hh)).resolve_right (by omega)
  rw [hh, hgh]

/-! ## Places (R65) -/

section Places

variable {g : Region} {k m size i r r' a : Nat}

/-- Item i of those dealt out over k channels lies wholly in a region that holds m of them per channel. -/
theorem place_in_region (hg : g ∈ regions) (hsize : 0 < size) (hfit : m * size ≤ g.size) (hi : i < k * m) :
    regionAt (g.base + i / k * size) = some g ∧ g.base + i / k * size + size ≤ g.base + g.size := by
  have hrow : (i / k + 1) * size ≤ m * size := Nat.mul_le_mul_right size (Nat.div_lt_of_lt_mul hi)
  rw [Nat.succ_mul] at hrow
  exact ⟨regionAt_eq_some hg (by omega) (by omega), by omega⟩

/-- Of two items dealt out over k channels that meet in one channel, the later one starts where the earlier one has ended. -/
theorem place_disjoint (base size : Nat) (hlt : r < r') (hchan : r % k = r' % k) : base + r / k * size + size ≤ base + r' / k * size := by
  have hrow : r / k < r' / k := Nat.lt_of_not_le fun hle => by
    have hmul : k * (r' / k) ≤ k * (r / k) := Nat.mul_le_mul_left k hle
    have hr := Nat.div_add_mod r k
    have hr' := Nat.div_add_mod r' k
    omega
  have hsize : (r / k + 1) * size ≤ r' / k * size := Nat.mul_le_mul_right size hrow
  rw [Nat.succ_mul] at hsize
  omega

/-- A rule-tree bank of 512 MiB fills its region in each of the four channels. -/
theorem treeOffset_lt (ha : a < 2 ^ 29) : a / 16384 * 4096 + a % 4096 < 128 * mib := by
  simp only [mib]; omega

theorem treePlace_in_bank (b : Nat) (ha : a < 2 ^ 29) : regionAt (treePlace b a).addr = some (if b = 0 then regBankA else regBankB) := by
  have hg : (if b = 0 then regBankA else regBankB) ∈ regions := by split <;> decide
  have hsize : (if b = 0 then regBankA else regBankB).size = 128 * mib := by split <;> rfl
  rw [treePlace, Nat.add_assoc]
  exact regionAt_eq_some hg (Nat.le_add_right _ _) (Nat.add_lt_add_left (by rw [hsize]; exact treeOffset_lt ha) _)

theorem treePlace_eq (b a : Nat) :
    treePlace b a = ⟨a / 4096 % 4, (if b = 0 then 0x0A000000 else 0x12000000) + a / 16384 * 4096 + a % 4096⟩ := by
  unfold treePlace; split <;> rfl

theorem flowPlace_eq (r : Nat) : flowPlace r = ⟨r % 4, r / 4 * 128⟩ := by
  rw [flowPlace, regFlow, Nat.zero_add]

theorem flowPlace_in_region (hr : r < 5242880) :
    regionAt (flowPlace r).addr = some regFlow ∧ (flowPlace r).addr + 128 ≤ regFlow.base + regFlow.size :=
  place_in_region (m := 1310720) (by decide) (by decide) (by decide) hr

theorem p3Place_in_region (hi : i < 1048576) :
    regionAt (p3Place i).addr = some regP3 ∧ (p3Place i).addr + 9728 ≤ regP3.base + regP3.size :=
  place_in_region (m := 131072) (by decide) (by decide) (by decide) hi

theorem slotPlace_in_region (hi : i < stageSlots) :
    regionAt (slotPlace i).addr = some regP4 ∧ (slotPlace i).addr + 65536 ≤ regP4.base + regP4.size :=
  place_in_region (m := 19712) (by decide) (by decide) (by decide) hi

end Places

/-- Settles O59: the raw layout by stripe and byte, the pairs by cases on the channel, the places by the row of each item in its channel. -/
theorem memoryLayout : Obligations.MemoryLayout := fun _ a _ _ _ r _ b i _ hc =>
  ⟨by decide, fun ha => ⟨rawKind_rawOf ha, rawByte_data (rawKind_rawOf ha)⟩,
    fun ha hj => ⟨checkBitOf_add a _, Nat.div_lt_of_lt_mul (checkBit_fits a hj), rawByte_checkBitOf ha hj⟩,
    fun hin hb => rawByte_zero (rawKind_reserved hin hb), rawKind_tail, ⟨partnerOf_eq hc, rfl, rfl, partnerOf_package _⟩,
    ⟨flowPlace_eq r, flowPlace_in_region⟩, ⟨treePlace_eq b a, treePlace_in_bank b⟩, ⟨rfl, p3Place_in_region⟩, ⟨rfl, slotPlace_in_region⟩,
    rfl, fun hlt => ⟨place_disjoint _ _ hlt, place_disjoint _ _ hlt, place_disjoint _ _ hlt⟩⟩

end Sys2Proof.Machine

/-! The fibre downstream (chapter 3): the receiver and its equaliser, hunting, captures, codewords, frames and XGEM frames, the timing port,
rejoins and the rogue monitor; the reset of a stream; the event ring, the fault log, the monitors and the tables of a fibre port. -/

namespace Sys2Proof.Machine

/-! ## Flags -/

section Flags

variable {s : State} {p : Nat} {f : Field}

theorem rdb_of_eq_zero (h : rd s p f = 0) : rdb s p f = false := by simp [rdb, h]

theorem rdb_of_eq_one (h : rd s p f = 1) : rdb s p f = true := by simp [rdb, h]

end Flags

/-! ## Loss of signal and the equaliser -/

section Receiver

variable {s : State} {p cyc : Nat}

theorem losAsserted_clear (hp : p < 2) (h : rd s (fibPage p) FB0.DS_STATUS_LOS = 0) :
    exec (.losAsserted p) s
      = .next (kept s (freezePll (raise (fibPage p) FB0.evLOS_CHANGE [1] (wr (fibPage p) FB0.DS_STATUS_LOS 1 s)))) :=
  settle_onlyIf (by simp [hp, rdb_of_eq_zero h])

theorem losDeasserted_set (hp : p < 2) (h : rd s (fibPage p) FB0.DS_STATUS_LOS = 1) :
    exec (.losDeasserted p) s
      = .next (kept s (freezePll (raise (fibPage p) FB0.evLOS_CHANGE [0] (wr (fibPage p) FB0.DS_STATUS_LOS 0 s)))) :=
  settle_onlyIf (by simp [hp, rdb_of_eq_one h])

/-- A swap request with none pending notes the cycle from which the 2 048 symbols count. -/
theorem swapRequest_first (h : rd s (fibPage p) FB0.EQ_CTRL_SWAP = 0) :
    swapRequest p cyc s = wr (fibPage p) FB0.EQ_CTRL_SWAP 1 (wr (fibHeld p) HFIB.SWAP_AT (startOf (now s) + cyc + 1) s) := by
  simp [swapRequest, rdb_of_eq_zero h]

theorem eqSwapRequest_first (hp : p < 2) (hu : Unlocked s (fibPage p)) (h : rd s (fibPage p) FB0.EQ_CTRL_SWAP = 0) :
    exec (.eqSwapRequest p cyc) s
      = .next (kept s (wr (fibPage p) FB0.EQ_CTRL_SWAP 1 (wr (fibHeld p) HFIB.SWAP_AT (startOf (now s) + cyc + 1) s))) :=
  (settle_onlyIf_hostCmd (decide_eq_true hp) hu).trans (by rw [swapRequest_first h])

/-- A swap that is due clears SWAP; the main cursor of the shadow set decides whether the sets are exchanged (R72). -/
theorem eqSwapped_due (hp : p < 2) (hs : rd s (fibPage p) FB0.EQ_CTRL_SWAP = 1)
    (hd : rd s (fibHeld p) HFIB.SWAP_AT + 51 ≤ startOf (now s) + cyc) :
    exec (.eqSwapped p cyc) s = .next (kept s (
      if (rdS s (fibPage p) (FB0.EQ_SHADOW 7)).natAbs < 0x1000 then
        raise (fibPage p) FB0.evEQ_REFUSED [rd s (fibPage p) (FB0.EQ_SHADOW 7)] (wr (fibPage p) FB0.EQ_CTRL_SWAP 0 s)
      else raise (fibPage p) FB0.evEQ_SWAPPED [1 - rd s (fibPage p) FB0.EQ_CTRL_ACTIVE_SET]
        (wr (fibPage p) FB0.EQ_CTRL_ACTIVE_SET (1 - rd s (fibPage p) FB0.EQ_CTRL_ACTIVE_SET)
          (swapSets p (wr (fibPage p) FB0.EQ_CTRL_SWAP 0 s))))) := by
  have hshadow : rd (wr (fibPage p) FB0.EQ_CTRL_SWAP 0 s) (fibPage p) (FB0.EQ_SHADOW 7) = rd s (fibPage p) (FB0.EQ_SHADOW 7) :=
    rd_wr_off (by decide)
  have hset : rd (wr (fibPage p) FB0.EQ_CTRL_SWAP 0 s) (fibPage p) FB0.EQ_CTRL_ACTIVE_SET = rd s (fibPage p) FB0.EQ_CTRL_ACTIVE_SET :=
    rd_wr_off (by decide)
  have hcursor : rdS (wr (fibPage p) FB0.EQ_CTRL_SWAP 0 s) (fibPage p) (FB0.EQ_SHADOW 7) = rdS s (fibPage p) (FB0.EQ_SHADOW 7) :=
    congrArg (toSigned 16) hshadow
  exact (settle_onlyIf (by simp [hp, rdb_of_eq_one hs, hd])).trans (by simp only [hcursor, hshadow, hset])

end Receiver

/-- Settles O1: each command meets the condition under which it acts; the cursor's magnitude decides a swap. -/
theorem fibreReceiverCommands : Obligations.FibreReceiverCommands := fun _ _ _ hp =>
  ⟨losAsserted_clear hp, losDeasserted_set hp, eqSwapRequest_first hp,
    fun hs hd hc => (eqSwapped_due hp hs hd).trans (by rw [if_neg (Nat.not_lt.mpr hc)]),
    fun hs hd hc => (eqSwapped_due hp hs hd).trans (by rw [if_pos hc])⟩

/-! ## Hunting, captures and codewords -/

section Hunting

variable {s : State} {p pos errs sfc bits iters : Nat} {l : List (Bool × Int)}

/-- A match of the hunter joins the candidates, of which a port holds four (R74). -/
theorem psyncCandidate_matched (hp : p < 2) (hr : rd s (fibPage p) FB0.DS_CTRL_RX_EN = 1) (hs : syncState s p ≤ syPre) (he : errs ≤ 1) :
    exec (.psyncCandidate p pos errs sfc true) s = .next (kept s (
      if 4 ≤ (s.cands.filter (fun c => c.1 = p)).length then inc (fibPage p) FB0.HUNT_COUNTS_CAND_OVERFLOW s
      else setSync p syPre { s with cands := s.cands ++ [(p, pos % 6220800, sfc % 2 ^ 51)] })) :=
  settle_onlyIf (by simp [hp, rxEn, rdb_of_eq_one hr, hs, he])

theorem eqHuntReset_due (hp : p < 2) (hr : rd s (fibPage p) FB0.DS_CTRL_RX_EN = 1) (hs : syncState s p = syHunt)
    (h0 : rd s (fibHeld p) HFIB.HUNT_RESET = 0) (ht : rd s (fibHeld p) HFIB.HUNT_TICK + 16 ≤ s.clock.tick) :
    exec (.eqHuntReset p) s
      = .next (kept s (forEach (List.range 18) (fun i s => wr (fibPage p) (FB0.EQ_ACTIVE i) (if i = 7 then 0x4000 else 0)
          (wr (fibPage p) (FB0.EQ_SHADOW i) (if i = 7 then 0x4000 else 0) s)) (wr (fibHeld p) HFIB.HUNT_RESET 1 s))) :=
  settle_onlyIf (by simp [hp, hs, rxEn, rdb_of_eq_one hr, rdb_of_eq_zero h0, ht])

/-- What a completed capture of the samples does (R73): to the host's ring, or dropped, or to the buffer of the port's role. -/
def captured (p : Nat) (l : List (Bool × Int)) (u : State) : State :=
  if hostEq u p then
    (sendEntry (rd u 8 THL.EQ_RING) 8 p
      (toLe 4 u.clock.tick ++ toLe 4 (min 3037 (rd u (fibPage p) FB0.EQ_CTRL_CAPTURE_OFFSET)) ++ toLe 8 0 ++ l.flatMap sampleWord) u).1
  else if roleState u (1 + p) ≠ roleRunning then inc 0x1C0 MEW0.CAPTURE_DROPPED u
  else
    sendHw (reqFibre p) (1 + p) tagCapture [0x3C000 + 0x2000 * p + 0x1000 * (u.clock.tick % 2)]
      (dmemWrite (rd u (Tab.role (1 + p)) ROLE.CORE) (0x3C000 + 0x2000 * p + 0x1000 * (u.clock.tick % 2)) (l.flatMap sampleWord) u)

theorem eqCapture_complete (hp : p < 2) (hs : syncState s p = sySync) (he : rd s (fibPage p) FB0.EQ_CTRL_CAPTURE_EN = 1)
    (hf : rd s (fibPage p) FB0.EQ_CTRL_FREEZE = 0) (hl : rd s (fibPage p) FB0.DS_STATUS_LOS = 0) (hn : l.length = 1024)
    (ht : rd s (fibHeld p) HFIB.CAP_TICK ≠ s.clock.tick + 1) :
    exec (.eqCapture p l) s = .next (kept s (captured p l (wr (fibHeld p) HFIB.CAP_TICK (s.clock.tick + 1) s))) :=
  settle_onlyIf (by simp [hp, hs, rdb_of_eq_one he, rdb_of_eq_zero hf, rdb_of_eq_zero hl, hn, ht])

/-- A codeword of a port that delivers, by the iterations the decoder runs and the bits it corrected (R78, R79). -/
theorem fecCodeword_delivered (hp : p < 2) (hs : sySync ≤ syncState s p) :
    exec (.fecCodeword p iters bits) s = .next (kept s (
      if max 1 (rd s (fibN p 1) FB1.FEC_CTRL_MAX_ITER) < iters then
        addc (fibHeld p) HFIB.UC_TICK 1 (inc (fibN p 1) FB1.FEC_UNCORR_CW (inc (fibN p 1) FB1.FEC_CW s))
      else if bits = 0 then inc (fibN p 1) FB1.FEC_CW s
      else addc (fibHeld p) HFIB.CB_TICK bits (addc (fibHeld p) HFIB.SD_BITS bits
        (addc (fibN p 1) FB1.FEC_CORR_BITS bits (inc (fibN p 1) FB1.FEC_CORR_CW (inc (fibN p 1) FB1.FEC_CW s)))))) := by
  have hiter : maxIter (inc (fibN p 1) FB1.FEC_CW s) p = max 1 (rd s (fibN p 1) FB1.FEC_CTRL_MAX_ITER) :=
    congrArg (max 1) (rd_wr_off (by decide))
  exact (settle_onlyIf (by simp [hp, delivers, hs])).trans (by simp only [hiter])

end Hunting

/-- Settles O2: each command meets the condition under which it acts, and its branch is the one named. -/
theorem huntCaptureAndCodewords : Obligations.HuntCaptureAndCodewords := fun _ _ _ _ _ _ _ _ hp =>
  ⟨fun hr hs he hc => (psyncCandidate_matched hp hr hs he).trans (by rw [if_neg (Nat.not_le.mpr hc)]),
    fun hr hs he hc => (psyncCandidate_matched hp hr hs he).trans (by rw [if_pos hc]),
    eqHuntReset_due hp, eqCapture_complete hp,
    fun hs hi => (fecCodeword_delivered hp hs).trans (by rw [if_neg (Nat.not_lt.mpr hi), if_pos rfl]),
    fun hs hi => (fecCodeword_delivered hp hs).trans (by rw [if_pos hi]),
    fun hs hi hb => (fecCodeword_delivered hp hs).trans (by rw [if_neg (Nat.not_lt.mpr hi), if_neg hb])⟩

/-! ## Downstream frames, signal degrade and fail -/

section Frames

variable {s : State} {p pos errs sfc cyc : Nat} {ppb : Int} {ok : Bool}

/-- The frame judged is numbered, its arrival and the port's frequency noted; then what every frame in SYNC brings. -/
def frameArrived (p sfc cyc : Nat) (ppb : Int) (g : State) : State :=
  let n := wr (fibHeld p) HFIB.DEAD 0 (wr (fibHeld p) HFIB.FRAME_NO (rd g (fibHeld p) HFIB.FRAME_NO + 1) g)
  frameInSync p sfc cyc (wr (fibHeld p) HUPS.PSBD (startOf (now n) + cyc) (wrS (fibHeld p) HFIB.PPB ppb n))

/-- A PSBd at the position of the flywheel is good when at most two bits of its PSync are wrong and its SFC is valid and the next (R75). -/
theorem downstreamFrame_flywheel (hp : p < 2) (hr : rd s (fibPage p) FB0.DS_CTRL_RX_EN = 1) (hs : syncState s p = sySync)
    (hpos : pos % 6220800 = rd s (fibHeld p) HFIB.POS) :
    exec (.downstreamFrame p pos errs sfc ok ppb cyc) s = .next (kept s (frameArrived p (sfc % 2 ^ 51) cyc ppb (
      if (decide (errs ≤ 2) && ok) = true ∧ sfc % 2 ^ 51 = (rd s (fibHeld p) HFIB.SFC + 1) % 2 ^ 51 then goodFrame p (sfc % 2 ^ 51) cyc s
      else badFrame p cyc s))) := by
  have hdue : frameDue s p (pos % 6220800) = true := by simp [frameDue, hs, sySync, syHunt, syPre, hpos]
  have hpre : ¬ syncState s p = syPre := by rw [hs]; decide
  exact (settle_onlyIf (by simp [hp, rxEn, rdb_of_eq_one hr, hdue])).trans (by simp only [if_neg hpre]; rfl)

/-- SD is declared at the end of a window whose corrected bits reach SD_THRESH (R79). -/
theorem signalDegradeWindow_declares (hp : p < 2) (ht : rd s (fibHeld p) HFIB.SD_TICK + 8000 ≤ s.clock.tick)
    (hb : rd s (fibN p 1) FB1.SD_THRESH ≤ rd s (fibHeld p) HFIB.SD_BITS) (h : rd s (fibPage p) FB0.DS_STATUS_SD = 0) :
    exec (.signalDegradeWindow p) s
      = .next (kept s (raise (fibPage p) FB0.evSD [1] (wr (fibPage p) FB0.DS_STATUS_SD 1
          (wr (fibHeld p) HFIB.SD_BITS 0 (wr (fibHeld p) HFIB.SD_TICK s.clock.tick s))))) := by
  have hpage : fibPage p ≠ fibHeld p := by unfold fibHeld held; omega
  have hsd : rdb (wr (fibHeld p) HFIB.SD_BITS 0 (wr (fibHeld p) HFIB.SD_TICK s.clock.tick s)) (fibPage p) FB0.DS_STATUS_SD = false :=
    rdb_of_eq_zero (by rw [rd_wr_page hpage (by decide) (by decide), rd_wr_page hpage (by decide) (by decide), h])
  exact (settle_onlyIf (by simp [hp, ht])).trans (by simp only [decide_eq_true hb, hsd]; rfl)

/-- SF declared on a port that is not lost is the fault of the port's loss (R77, R79). -/
theorem sfRecord_present (h : rd s (fibHeld p) HFIB.LOST = 0) :
    sfRecord p s = raiseFault (fibPage p) FB0.evSF (locSub (6 + p)) false [1] s := by
  simp [sfRecord, fibLost, rdb_of_eq_zero h]

theorem signalFailChange_declares (hp : p < 2) (hsf : rd s (fibPage p) FB0.DS_STATUS_SF = 0) (hl : rd s (fibHeld p) HFIB.LOST = 0)
    (hm : lossM s p ≤ rd s (fibHeld p) HFIB.SF_RUN) :
    exec (.signalFailChange p) s
      = .next (kept s (loseFibre p (raiseFault (fibPage p) FB0.evSF (locSub (6 + p)) false [1]
          (wr (fibHeld p) HFIB.SYNC_TICK 0 (wr (fibPage p) FB0.DS_STATUS_SF 1 s))))) := by
  have hpage : fibHeld p ≠ fibPage p := by unfold fibHeld held; omega
  have hlost : rd (wr (fibHeld p) HFIB.SYNC_TICK 0 (wr (fibPage p) FB0.DS_STATUS_SF 1 s)) (fibHeld p) HFIB.LOST = 0 := by
    rw [rd_wr_off (by decide), rd_wr_page hpage (by decide) (by decide), hl]
  have hdecl : (!rdb s (fibPage p) FB0.DS_STATUS_SF) = true ∧ lossM s p ≤ rd s (fibHeld p) HFIB.SF_RUN :=
    ⟨by rw [rdb_of_eq_zero hsf]; rfl, hm⟩
  exact (settle_onlyIf (decide_eq_true hp)).trans (by simp only [if_pos hdecl, sfRecord_present hlost])

end Frames

/-! ## XGEM frames -/

section Xgem

variable {s : State} {p pid hdr h pos at_ idx : Nat} {lf hu u : Bool} {d : List Byte}

theorem xgemIn_unmatched (hm : filterOf s p pid = none) : xgemIn p pid idx lf pos d s = inc (fibN p 1) FB1.FILTER_MISS s := by
  unfold xgemIn; rw [hm]

/-- A matched frame in clear, where no encryption is required, is reassembled as it stands (R82, R85). -/
theorem xgemIn_clear (hm : filterOf s p pid = some at_) (he : rd s (Tab.xgf p at_) XGF.ENC_REQ = 0) :
    xgemIn p pid 0 lf pos d s = reassemble p pid (rd s (Tab.xgf p at_) XGF.KIND)
      (if rdb s (Tab.xgf p at_) XGF.PROTECTED then rd s (Tab.xgf p at_) XGF.STREAM + 1 else 0) lf d s := by
  unfold xgemIn; simp [hm, rdb_of_eq_zero he]

/-- A matched frame under a valid key is deciphered and reassembled (R85). -/
theorem xgemIn_keyed (hm : filterOf s p pid = some at_) (hi : idx ≠ 0) (hk : keyValid s p idx = true) :
    xgemIn p pid idx lf pos d s = reassemble p pid (rd s (Tab.xgf p at_) XGF.KIND)
      (if rdb s (Tab.xgf p at_) XGF.PROTECTED then rd s (Tab.xgf p at_) XGF.STREAM + 1 else 0) lf
      (cipher s p idx (rd s (fibHeld p) HFIB.SFC) pos d) s := by
  unfold xgemIn; simp [hm, hi, hk]

/-- A header that checks, or does with one bit turned, gives its frame: the idle one, a spoilt one, or one for the filter (R80). -/
theorem xgemFrame_header (hp : p < 2) (hs : sySync ≤ syncState s p) (hl : rd s (fibHeld p) HFIB.LOST = 0)
    (hd : rd s (fibHeld p) HFIB.DEAD = 0) (hh : hecFix hdr = some h) :
    exec (.xgemFrame p hdr false u pos d) s = .next (kept s (
      if xgPort h = 0xFFFF then s else if u then xgemSpoilt p (xgPort h) s
      else xgemIn p (xgPort h) (xgKey h) (xgLast h) pos (d.take (xgPli h)) s)) :=
  (settle_onlyIf (by simp [hp, delivers, hs, fibLost, rdb_of_eq_zero hl, rdb_of_eq_zero hd])).trans
    (by simp only [hh, Bool.false_eq_true, if_false])

/-- A header that no correction mends ends the payload of its downstream frame (R80). -/
theorem xgemFrame_uncorrectable (hp : p < 2) (hs : sySync ≤ syncState s p) (hl : rd s (fibHeld p) HFIB.LOST = 0)
    (hd : rd s (fibHeld p) HFIB.DEAD = 0) (hh : hu = true ∨ hecFix hdr = none) :
    exec (.xgemFrame p hdr hu u pos d) s = .next (kept s (xgemDead p s)) := by
  have hnone : (if hu then none else hecFix hdr) = none := by
    rcases hh with hh | hh <;> simp [hh]
  exact (settle_onlyIf (by simp [hp, delivers, hs, fibLost, rdb_of_eq_zero hl, rdb_of_eq_zero hd])).trans (by simp only [hnone])

theorem xgemFrame_spoilt (hp : p < 2) (hs : sySync ≤ syncState s p) (hl : rd s (fibHeld p) HFIB.LOST = 0)
    (hd : rd s (fibHeld p) HFIB.DEAD = 0) (hh : hecFix hdr = some h) (hpid : xgPort h = pid) (hne : pid ≠ 0xFFFF) :
    exec (.xgemFrame p hdr false true pos d) s = .next (kept s (xgemSpoilt p pid s)) := by
  rw [xgemFrame_header hp hs hl hd hh, hpid, if_neg hne, if_pos rfl]

/-- A good frame of a port-ID that is not the idle one goes to the filter with its first PLI bytes (R80, R82). -/
theorem xgemFrame_good (hp : p < 2) (hs : sySync ≤ syncState s p) (hl : rd s (fibHeld p) HFIB.LOST = 0)
    (hd : rd s (fibHeld p) HFIB.DEAD = 0) (hh : hecFix hdr = some h) (hpid : xgPort h = pid) (hne : pid ≠ 0xFFFF) :
    exec (.xgemFrame p hdr false false pos d) s = .next (kept s (xgemIn p pid (xgKey h) (xgLast h) pos (d.take (xgPli h)) s)) := by
  rw [xgemFrame_header hp hs hl hd hh, hpid, if_neg hne, if_neg Bool.false_ne_true]

theorem reasmTimeout_drops (hp : p < 2) :
    exec (.reasmTimeout p pid) s
      = .next (kept s (dropReasm p (fun r => decide (r.portId = pid) && decide (r.frame + 2 ≤ rd s (fibHeld p) HFIB.FRAME_NO)) s)) :=
  settle_onlyIf (decide_eq_true hp)

end Xgem

/-- Settles O3: a frame by the rule of the flywheel, an XGEM frame by its header and the filter entry that its port-ID matches. -/
theorem downstreamFramesAndXgem : Obligations.DownstreamFramesAndXgem := by
  intro s p pos errs sfc cyc at_ hdr h pid ppb hu u d hp
  refine ⟨fun hr hs hpos he hsfc => ?good, fun hr hs hpos he => ?bad, signalDegradeWindow_declares hp, signalFailChange_declares hp,
    fun hs hl hd => ⟨fun hh hidle => ?idle, xgemFrame_spoilt hp hs hl hd, fun hh hpid hne hm => ?miss, fun hh hpid hne hm =>
      ⟨fun hkey henc => ?clear, fun hkey hval => ?keyed⟩, xgemFrame_uncorrectable hp hs hl hd⟩, reasmTimeout_drops hp⟩
  case good => rw [downstreamFrame_flywheel hp hr hs hpos, if_pos ⟨by simp [he], hsfc⟩]; rfl
  case bad => rw [downstreamFrame_flywheel hp hr hs hpos, if_neg (fun hgood => by simp [Nat.not_le.mpr he] at hgood)]; rfl
  case idle => rw [xgemFrame_header hp hs hl hd hh, if_pos hidle]
  case miss => rw [xgemFrame_good hp hs hl hd hh hpid hne, xgemIn_unmatched hm]
  case clear => rw [xgemFrame_good hp hs hl hd hh hpid hne, hkey, xgemIn_clear hm henc]
  case keyed => rw [xgemFrame_good hp hs hl hd hh hpid hne, xgemIn_keyed hm hkey hval]

/-! ## The timing port -/

section TimingPort

variable {s : State}

/-- At an open tick boundary an automatic change by loss goes before a forced one (R87, R88). -/
theorem timingPortChange_loss (ho : s.clock.tickOpen = true) (hl : lossChange s = true) :
    exec .timingPortChange s = .next (kept s (changePort (1 - timingPort s) s)) :=
  (settle_onlyIf ho).trans (by simp only [hl, if_true])

theorem timingPortChange_forced (ho : s.clock.tickOpen = true) (hl : lossChange s = false) (hf : rd s (held 0x40) HTP.FORCE = 1) :
    exec .timingPortChange s = .next (kept s (wr 0x40 FB0.TP_STATUS_FORCE_RESULT 1 (changePort (1 - timingPort s) s))) :=
  (settle_onlyIf ho).trans (by simp only [hl, rdb_of_eq_one hf, Bool.false_eq_true, if_false, if_true])

/-- An automatic change is due, by loss, wait-to-restore or start-up: a force is refused with 3 (R88). -/
theorem tpForce_automatic (hu : Unlocked s 0x40) (h : lossChange s = true ∨ wtrDue s = true ∨ startupDue s (s.clock.tick + 1) = true) :
    exec .tpForce s = .next (kept s (raise 0x40 FB0.evTP_REFUSED [3] (wr 0x40 FB0.TP_STATUS_FORCE_RESULT 3 s))) :=
  (settle_kept s _).trans (by rw [hostCmd_unlocked hu, if_pos h])

/-- No automatic change is due: a force waits for the boundary when the other port qualifies, else it is refused with 2 (R88). -/
theorem tpForce_free (hu : Unlocked s 0x40) (hl : lossChange s = false) (hw : wtrDue s = false)
    (hs : startupDue s (s.clock.tick + 1) = false) :
    exec .tpForce s = .next (kept s (
      if qualifies s (1 - timingPort s) then wr (held 0x40) HTP.FORCE 1 s
      else raise 0x40 FB0.evTP_REFUSED [2] (wr 0x40 FB0.TP_STATUS_FORCE_RESULT 2 s))) := by
  refine (settle_kept s _).trans ?_
  rw [hostCmd_unlocked hu]
  cases hq : qualifies s (1 - timingPort s) <;> simp [hl, hw, hs]

theorem tpWtrExpiry_due (ho : s.clock.tickOpen = true) (hw : wtrDue s = true) (hl : pllState s ≠ 0) :
    exec .tpWtrExpiry s = .next (kept s (changePort (rd s 0x40 FB0.TP_CTRL_PREFERRED) s)) :=
  settle_onlyIf (by simp [ho, hw, hl])

theorem tpStartupTimeout_due (ho : s.clock.tickOpen = true) (hl : pllState s = 0) (hpol : tpPolicy s ≠ 0)
    (hp : rd s (fibHeld (timingPort s)) HFIB.FIRST_SYNC = 0) (hq : rd s (fibHeld (1 - timingPort s)) HFIB.FIRST_SYNC ≠ 0)
    (ht : rd s (fibHeld (1 - timingPort s)) HFIB.FIRST_SYNC + 79999 ≤ s.clock.tick) :
    exec .tpStartupTimeout s = .next (kept s (changePort (1 - timingPort s) s)) :=
  settle_onlyIf (by simp [ho, startupDue, hl, hpol, hp, hq, ht])

end TimingPort

/-! ## Rejoins and the rogue monitor -/

section RejoinAndRogue

variable {s : State} {p light cyc : Nat}

theorem rejoinStalled_late (hp : p < 2) (hn : rd s (fibN p 1) FB1.RJ_STREAMS ≠ 0) (hl : rd s (fibHeld p) HFIB.LOST = 0)
    (h0 : rd s (fibHeld p) HFIB.STALLED = 0) (ht : rd s (fibHeld p) HFIB.RET_TICK + rd s (fibN p 1) FB1.RJ_WARN ≤ s.clock.tick) :
    exec (.rejoinStalled p) s
      = .next (kept s (raise (fibN p 1) FB1.evREJOIN_STALLED [rd s (fibN p 1) FB1.RJ_STREAMS] (wr (fibHeld p) HFIB.STALLED 1 s))) :=
  settle_onlyIf (by simp [hp, hn, fibLost, rdb_of_eq_zero hl, rdb_of_eq_zero h0, ht])

theorem rejoinEndCmd_unlocked (hp : p < 2) (hu : Unlocked s (fibN p 1)) :
    exec (.rejoinEndCmd p) s = .next (kept s (wr (fibHeld p) HFIB.RJ_END 1 (wr (fibN p 1) FB1.RJ_CTRL_END 1 s))) :=
  settle_onlyIf_hostCmd (decide_eq_true hp) hu

/-- Light for 64 cycles without burst-enable, or burst-enable high a tick long, is what the optical monitor acts on (R103). -/
theorem isRogue_of {t : Nat} (h : (burstLow s p = true ∧ 64 ≤ light) ∨
      (burstLow s p = false ∧ rd s (fibHeld p) HUPS.ENABLE_AT + tickCycles ≤ t)) : isRogue s p light t = true := by
  rcases h with ⟨hb, h⟩ | ⟨hb, h⟩ <;> simp [isRogue, hb, h]

theorem rogueShut_rogue (hp : p < 2) (h0 : rd s (fibN p 3) FB3.US_STATUS_ROGUE_SHUT = 0)
    (hr : isRogue s p light (startOf (now s) + cyc) = true) :
    exec (.rogueShut p light cyc) s
      = .next (kept s (markContained (8 + p) (raiseFault (fibN p 3) FB3.evROGUE_SHUT (locUnit (6 + p) 0x3F) false []
          (wr (fibN p 3) FB3.US_STATUS_LASER_ON 0 (wr (fibN p 3) FB3.US_STATUS_ROGUE_SHUT 1 s))))) :=
  settle_onlyIf (by simp [hp, rdb_of_eq_zero h0, hr])

/-- ROGUE_CLEAR acts while no burst is on the fibre, and stays set else (R103). -/
theorem rogueClear_unlocked (hp : p < 2) (hu : Unlocked s (fibN p 3)) :
    exec (.rogueClear p) s = .next (kept s (
      if burstLow s p then wr (fibN p 3) FB3.US_CTRL_ROGUE_CLEAR 0 (wr (fibN p 3) FB3.US_STATUS_ROGUE_SHUT 0 s)
      else wr (fibN p 3) FB3.US_CTRL_ROGUE_CLEAR 1 s)) :=
  settle_onlyIf_hostCmd (decide_eq_true hp) hu

end RejoinAndRogue

/-- Settles O4: each command meets the condition under which it acts. -/
theorem timingPortRejoinAndRogue : Obligations.TimingPortRejoinAndRogue := fun _ =>
  ⟨timingPortChange_loss, timingPortChange_forced,
    fun hu hl hw hs hq => (tpForce_free hu hl hw hs).trans (by rw [if_pos hq]),
    fun hu hl hw hs hq => (tpForce_free hu hl hw hs).trans (by rw [hq, if_neg Bool.false_ne_true]),
    tpForce_automatic, tpWtrExpiry_due, tpStartupTimeout_due, fun _ hp =>
    ⟨rejoinStalled_late hp, rejoinEndCmd_unlocked hp, fun h0 _ _ hr => rogueShut_rogue hp h0 (isRogue_of hr),
      fun hu hb => (rogueClear_unlocked hp hu).trans (by rw [if_pos hb]),
      fun hu hb => (rogueClear_unlocked hp hu).trans (by rw [hb, if_neg Bool.false_ne_true])⟩⟩

/-! ## The reset of a stream -/

section StreamReset

variable {s : State} {n : Nat}

/-- The stream's record as its owning slice sees it is due for its reset (R94). -/
def StreamResetDue (s : State) (n : Nat) : Prop :=
  let v := viewState s (regionOwner (mapFor s (now s)).1 (n % 192)) (now s)
  s.clock.running = true ∧ s.clock.block = 0 ∧ rd v (Tab.flow n) FREC.TYPE = 2 ∧ rd v (Tab.flow n) SREC.RESET_TICKS ≠ 0
    ∧ rd v (Tab.flow n) SREC.TAKE_ANY = 0
    ∧ rd v (Tab.flow n) SREC.RESET_TICKS ≤ (s.clock.tick % 2 ^ 32 + 2 ^ 32 - rd v (Tab.flow n) SREC.LAST_PASS) % 2 ^ 32

/-- The ledger work of a reset: TAKE_ANY, RESETS, and on either port the end of the rejoin and its event. -/
def streamResetWork (s : State) (slice n : Nat) : Wk :=
  let w0 := ((freshWk s slice (now s)).set (Tab.flow n) SREC.TAKE_ANY 1).count (Tab.flow n) SREC.RESETS 1
  let w1 := (endRejoin (Tab.flow n) 0 w0).event (fibPage 0 + 1) FB1.evRECOV_RESET [n]
  (endRejoin (Tab.flow n) 1 w1).event (fibPage 1 + 1) FB1.evRECOV_RESET [n]

theorem recovReset_due (h : StreamResetDue s n) :
    exec (.recovReset n) s = .next (kept s (addResult (regionOwner (mapFor s (now s)).1 (n % 192)) (now s)
      (closeWk (blankResult (regionOwner (mapFor s (now s)).1 (n % 192)) { blankItem with source := 15, handle := emptyHandle })
        (streamResetWork s (regionOwner (mapFor s (now s)).1 (n % 192)) n)) s)) := by
  obtain ⟨hrun, hblock, htype, hticks, hany, hlast⟩ := h
  exact settle_onlyIf (decide_eq_true ⟨hrun, hblock, htype, hticks, by rw [rdb_of_eq_zero hany]; rfl, hlast⟩)

theorem recovReset_idle (h : ¬ StreamResetDue s n) : exec (.recovReset n) s = .next s :=
  settle_onlyIf_false (decide_eq_false fun ⟨hrun, hblock, htype, hticks, hany, hlast⟩ =>
    h ⟨hrun, hblock, htype, hticks, by simpa [rdb] using hany, hlast⟩)

end StreamReset

/-- Settles O14: the reset acts exactly when it is due. -/
theorem streamResetAtItsTime : Obligations.StreamResetAtItsTime := fun _ _ => ⟨recovReset_due, recovReset_idle⟩

/-! ## The event ring and the fault log -/

section EventRing

variable {s : State} {v : Nat} {r : LogRec}

theorem evtStart_stopped (hu : Unlocked s 0) (h : rd s 0 GEN.EVT_CTRL_STATE = 0) (hlen : 6 ≤ rd s 0 GEN.EVT_CFG_EVT_LOG2_LEN)
    (hwb : rd s 0 GEN.EVT_WB_LO % 8 = 0) :
    exec .evtStart s = .next (kept s (wr 0 GEN.EVT_CTRL_RESULT 1 (wr 0 GEN.EVT_CTRL_STATE 1 (wr 0 GEN.EVT_HEAD 0 (wr 0 GEN.EVT_TAIL 0 s))))) := by
  have hcfg : ¬ (rd s 0 GEN.EVT_CFG_EVT_LOG2_LEN < 6 ∨ rd s 0 GEN.EVT_WB_LO % 8 ≠ 0) := by omega
  exact (settle_kept s _).trans (by rw [hostCmd_unlocked hu, if_neg (fun hn => hn h), if_neg hcfg])

theorem evtStart_notStopped (hu : Unlocked s 0) (h : rd s 0 GEN.EVT_CTRL_STATE ≠ 0) :
    exec .evtStart s = .next (kept s (wr 0 GEN.EVT_CTRL_RESULT 5 s)) :=
  (settle_kept s _).trans (by rw [hostCmd_unlocked hu, if_pos h])

theorem evtStop_running (hu : Unlocked s 0) (h : rd s 0 GEN.EVT_CTRL_STATE = 1) (h0 : rd s (held 0) HGEN.STOP_AT = 0) :
    exec .evtStop s = .next (kept s (wr 0 GEN.EVT_CTRL_RESULT 1 (wr (held 0) HGEN.STOP_AT (now s + 4) s))) :=
  (settle_kept s _).trans (by rw [hostCmd_unlocked hu, if_pos ⟨h, h0⟩])

theorem evtTailWrite_unlocked (hu : Unlocked s 0) : exec (.evtTailWrite v) s = .next (kept s (wr 0 GEN.EVT_TAIL v s)) :=
  (settle_kept s _).trans (by rw [hostCmd_unlocked hu])

/-- A record whose number lies within the log, and that stands there, goes to the data words (R538). -/
theorem flogRead_logged (hf : TableFree s 1)
    (hn : (rd s 1 FLOG.TBL_ADDR + 2 ^ 32 - rd s 1 FLOG.FLOG_FIRST) % 2 ^ 32 < rd s 1 FLOG.FLOG_COUNT)
    (hr : Map.get none s.flog (rd s 1 FLOG.TBL_ADDR % 16384) = some r) :
    exec .flogRead s = .next (kept s (tblResult 1 0 (loadData 1 (evWords r.ev 0 ++ [r.num]) s))) :=
  (settle_tblCmd hf).trans (by simp only [if_pos hn, hr])

end EventRing

/-! ## The monitors -/

section Monitors

variable {s : State}

theorem monReadSet_absent (hf : TableFree s 0x200) (h : rd s 0x200 MON0.TBL_ADDR_WINDOW = 3 ∨ 48 ≤ rd s 0x200 MON0.TBL_ADDR_CHANNEL) :
    exec .monReadSet s = .next (kept s (tblResult 0x200 3 s)) :=
  (settle_tblCmd hf).trans (by simp only [if_pos h])

/-- A monitor set in the registers of page 0x201, named by its channel, window and PREVIOUS bit (R541). -/
def showMonSet (c w p : Nat) (s : State) : State :=
  let x := monSet s.monSnap (monKey c w p)
  let t := forEach (List.range 64) (fun i t => wr 0x201 (MON1.BIN i) (Map.get 0 x.bins i) t) s
  let t := wr 0x201 MON1.MIN (ofSigned 32 x.lo) (wr 0x201 MON1.MAX (ofSigned 32 x.hi) (wr 0x201 MON1.COUNT x.count t))
  let t := wr64 0x201 MON1.SUM_LO MON1.SUM_HI (ofSigned 64 x.sum) (wr 0x201 MON1.START_TICK x.start t)
  let t := wrb 0x201 MON1.FLAGS_EMPTY (decide (x.count = 0)) (wrb 0x201 MON1.FLAGS_PARTIAL x.isPartial t)
  wr 0x201 MON1.FLAGS_CHANNEL c (wr 0x201 MON1.FLAGS_WINDOW w (wr 0x201 MON1.FLAGS_PREVIOUS p t))

theorem monReadSet_there (hf : TableFree s 0x200) (hw : rd s 0x200 MON0.TBL_ADDR_WINDOW ≠ 3) (hc : rd s 0x200 MON0.TBL_ADDR_CHANNEL < 48) :
    exec .monReadSet s = .next (kept s (tblResult 0x200 0 (showMonSet (rd s 0x200 MON0.TBL_ADDR_CHANNEL)
      (rd s 0x200 MON0.TBL_ADDR_WINDOW) (rd s 0x200 MON0.TBL_ADDR_PREVIOUS) s))) :=
  (settle_tblCmd hf).trans (congrArg _ (congrArg _ (if_neg (not_or.mpr ⟨hw, Nat.not_le.mpr hc⟩))))

theorem monReadConfig_there (hf : TableFree s 0x200) (hc : rd s 0x200 MON0.TBL_ADDR_CHANNEL < 48) :
    exec .monReadConfig s = .next (kept s (tblResult 0x200 0 (readRecord 0x200 (Tab.mcfg (rd s 0x200 MON0.TBL_ADDR_CHANNEL))
      (MCFG.fields (rd s 0x200 MON0.TBL_ADDR_CHANNEL)) s))) :=
  (settle_tblCmd hf).trans (congrArg _ (congrArg _ (if_neg (Nat.not_le.mpr hc))))

theorem monWriteConfig_good (hf : TableFree s 0x200) (hr : monCheck s = 0) :
    exec .monWriteConfig s = .next (kept s (tblResult 0x200 0 (stageRecord 0x200 (Tab.mcfg (rd s 0x200 MON0.TBL_ADDR_CHANNEL))
      (MCFG.fields (rd s 0x200 MON0.TBL_ADDR_CHANNEL)) s))) :=
  (settle_tblCmd hf).trans (by simp only [if_pos hr])

theorem monWriteConfig_refused (hf : TableFree s 0x200) (hr : monCheck s ≠ 0) :
    exec .monWriteConfig s = .next (kept s (raise 0x200 MON0.evCONFIG_REFUSED [rd s 0x200 MON0.TBL_ADDR_CHANNEL, monCheck s]
      (tblResult 0x200 (monCheck s) s))) :=
  (settle_tblCmd hf).trans (by simp only [if_neg hr])

end Monitors

/-! ## The tables of a fibre port -/

section FibreTables

variable {s : State} {p f : Nat} {g : State → State}

/-- A table command of a page that is there and free has its effect. -/
theorem settle_onlyIf_tblCmd {c : Bool} (hc : c = true) (h : TableFree s p) : settle s (onlyIf c (tblCmd p g) s) = .next (kept s (g s)) := by
  rw [settle_onlyIf hc, tblCmd_free h]

theorem xgemFilterCommands_free (hf : f < 2) (h : TableFree s (fibN f 1)) :
    exec (.xgemFilterRead f) s = .next (kept s (tblResult (fibN f 1) 0
      (readRecord (fibN f 1) (Tab.xgf f (rd s (fibN f 1) FB1.TBL_ADDR)) XGF.fields s))) ∧
    exec (.xgemFilterWrite f) s = .next (kept s (tblResult (fibN f 1) (filterResult s f (rd s (fibN f 1) FB1.TBL_ADDR))
      (if filterResult s f (rd s (fibN f 1) FB1.TBL_ADDR) = 0 then
        stageRecord (fibN f 1) (Tab.xgf f (rd s (fibN f 1) FB1.TBL_ADDR)) XGF.fields s else s))) ∧
    exec (.xgemFilterInvalidate f) s = .next (kept s (tblResult (fibN f 1) 0
      (wrStaged (fibN f 1) (Tab.xgf f (rd s (fibN f 1) FB1.TBL_ADDR)) XGF.VALID 0 s))) :=
  have hp := decide_eq_true hf
  ⟨settle_onlyIf_tblCmd hp h, settle_onlyIf_tblCmd hp h, settle_onlyIf_tblCmd hp h⟩

theorem allocSlotRead_free (hf : f < 2) (h : TableFree s (fibN f 3)) :
    exec (.allocSlotRead f) s = .next (kept s (tblResult (fibN f 3) 0 (wr (Tab.asl f (rd s (fibN f 3) FB3.TBL_ADDR)) ASL.SHORTFALL_BYTES 0
      (readRecord (fibN f 3) (Tab.asl f (rd s (fibN f 3) FB3.TBL_ADDR)) ASL.fields (showSlot f (rd s (fibN f 3) FB3.TBL_ADDR) s))))) :=
  settle_onlyIf_tblCmd (decide_eq_true hf) h

theorem allocSlotWrite_free (hf : f < 2) (h : TableFree s (fibN f 3)) :
    exec (.allocSlotWrite f) s = .next (kept s (tblResult (fibN f 3) (slotResult s f (rd s (fibN f 3) FB3.TBL_ADDR))
      (if slotResult s f (rd s (fibN f 3) FB3.TBL_ADDR) = 0 then
        stageRecord (fibN f 3) (Tab.asl f (rd s (fibN f 3) FB3.TBL_ADDR)) ASL.fields s else s))) :=
  settle_onlyIf_tblCmd (decide_eq_true hf) h

/-- Every slot but slot 0 can be unbound (R132). -/
theorem allocSlotUnbind_free (hf : f < 2) (h : TableFree s (fibN f 3)) :
    exec (.allocSlotUnbind f) s = .next (kept s (
      if rd s (fibN f 3) FB3.TBL_ADDR = 0 then tblResult (fibN f 3) 2 s
      else tblResult (fibN f 3) 0 (wrStaged (fibN f 3) (Tab.asl f (rd s (fibN f 3) FB3.TBL_ADDR)) ASL.BOUND 0 s))) :=
  settle_onlyIf_tblCmd (decide_eq_true hf) h

end FibreTables

/-- Settles O40: each command of an unlocked or free page meets the condition under which it acts. -/
theorem eventRingAndTables : Obligations.EventRingAndTables := fun _ _ _ _ hf =>
  ⟨evtStart_stopped, evtStart_notStopped, evtStop_running, evtTailWrite_unlocked, flogRead_logged, monReadSet_absent, monReadSet_there,
    fun h hc => ⟨monReadConfig_there h hc, monWriteConfig_good h, monWriteConfig_refused h⟩, xgemFilterCommands_free hf,
    fun h => ⟨allocSlotRead_free hf h, allocSlotWrite_free hf h,
      fun hn => (allocSlotUnbind_free hf h).trans (by rw [if_neg hn]), fun h0 => (allocSlotUnbind_free hf h).trans (by rw [if_pos h0])⟩⟩

end Sys2Proof.Machine

/-! The fibre upstream (chapter 4): the PLOAM messages that the terminal takes, its keys and watchful sleep, the activation commands and
timers, and the bursts. -/

namespace Sys2Proof.Machine

/-! ## Pages of a fibre port -/

theorem fibN_ne_fibHeld (p : Nat) {i : Nat} (hi : i < 0x20) : fibN p i ≠ fibHeld p := by
  unfold fibN fibHeld held fibPage; omega

theorem fibN_ne_of_ne {p i j : Nat} (h : i ≠ j) : fibN p i ≠ fibN p j := by unfold fibN; omega

theorem lt_fibN {q : Nat} (p i : Nat) (h : q < 0x40) : q ≠ fibN p i := by unfold fibN fibPage; omega

theorem lt_fibHeld {q : Nat} (p : Nat) (h : q < 0x3040) : q ≠ fibHeld p := by unfold fibHeld held fibPage; omega

/-! ## Downstream messages -/

section Ploam

variable {s : State} {p q : Nat} {g : Field} {mic : Option Bool} {m : List Byte} {host : Bool} {act : State → State}

/-- A unicast message that passes its check is counted (R107). -/
def ploamCounted (p : Nat) (mic : Option Bool) (s : State) : State := if mic = some true then inc (fibN p 2) FB2.PLOAM_RX s else s

/-- A message that fails its check is counted, and its event shows its type (R107). -/
def ploamRejected (p : Nat) (m : List Byte) (s : State) : State :=
  raiseFirst (fibN p 2) FB2.evMIC_ERR [fieldAt m 2 1] (inc (fibN p 2) FB2.PLOAM_MIC_ERR s)

theorem rd_ploamCounted (h : g.key q ≠ FB2.PLOAM_RX.key (fibN p 2)) : rd (ploamCounted p mic s) q g = rd s q g := by
  unfold ploamCounted; split
  · exact rd_inc_other h
  · rfl

/-- The count stands apart from the other fields of its page. -/
theorem rd_ploamCounted_off (h : g.off * 8 + g.lo ≠ FB2.PLOAM_RX.off * 8 + FB2.PLOAM_RX.lo) :
    rd (ploamCounted p mic s) (fibN p 2) g = rd s (fibN p 2) g :=
  rd_ploamCounted (by unfold Field.key; omega)

@[simp] theorem actState_ploamCounted : actState (ploamCounted p mic s) p = actState s p := rd_ploamCounted_off (by decide)

@[simp] theorem namesPort_ploamCounted (vendor serial : Nat) :
    namesPort (ploamCounted p mic s) p vendor serial = namesPort s p vendor serial := by
  have hvendor : rd (ploamCounted p mic s) (fibN p 2) FB2.SN_VENDOR = rd s (fibN p 2) FB2.SN_VENDOR := rd_ploamCounted_off (by decide)
  have hserial : vssn (ploamCounted p mic s) p = vssn s p := by unfold ploamCounted; split <;> rfl
  simp only [namesPort, hvendor, hserial]

@[simp] theorem lastEqd_ploamCounted : lastEqd (ploamCounted p mic s) p = lastEqd s p := by
  have hheld {f : Field} (hf : f.off * 8 + f.lo < 32768) : rd (ploamCounted p mic s) (fibHeld p) f = rd s (fibHeld p) f :=
    rd_ploamCounted (key_ne_of_page (fibN_ne_fibHeld p (by decide)).symm (by decide) hf)
  have heqd : rd (ploamCounted p mic s) (fibN p 2) FB2.EQD = rd s (fibN p 2) FB2.EQD := rd_ploamCounted_off (by decide)
  simp only [lastEqd, hheld (f := HACT.EQD_AT) (by decide), hheld (f := HACT.EQD_NEW) (by decide), heqd]

/-- A broadcast, or a message that passes its check, that the hardware answers is counted and answered. -/
theorem ploamIn_passed (ho : ploamOpen s p = true) (hm : micOf s p mic ≠ some false) (hh : host = false) :
    ploamIn p host mic m act s = act (ploamCounted p mic s) := by
  subst hh
  rw [ploamIn, onlyIf_true ho]
  split
  · exact absurd ‹_› hm
  · rfl

/-- A message that fails its check does nothing else, whoever decides on the messages. -/
theorem ploamIn_rejected (ho : ploamOpen s p = true) (hm : micOf s p mic = some false) :
    ploamIn p host mic m act s = ploamRejected p m s := by
  rw [ploamIn, onlyIf_true ho]; simp only [hm]; rfl

theorem settle_ploamIn_passed (ho : ploamOpen s p = true) (hm : micOf s p mic ≠ some false) (hh : host = false) :
    settle s (ploamIn p host mic m act s) = .next (kept s (act (ploamCounted p mic s))) := by
  rw [ploamIn_passed ho hm hh]; rfl

theorem settle_ploamIn_rejected (ho : ploamOpen s p = true) (hm : micOf s p mic = some false) :
    settle s (ploamIn p host mic m act s) = .next (kept s (ploamRejected p m s)) := by
  rw [ploamIn_rejected ho hm]; rfl

/-- No check passes under an invalidated key (R486). -/
theorem micOf_failed (h : mic = some false ∨ (mic = some true ∧ rd s (held 0x10) HSEC.KEY_BAD / 2 ^ (8 * p) / 8 % 2 = 1)) :
    micOf s p mic = some false := by
  unfold micOf
  rcases h with rfl | ⟨rfl, hk⟩
  · split <;> rfl
  · rw [if_pos hk]; rfl

/-- Only a port that is there takes messages. -/
theorem lt_two_of_ploamOpen (ho : ploamOpen s p = true) : p < 2 := by
  simp only [ploamOpen, Bool.and_eq_true, decide_eq_true_eq] at ho
  obtain ⟨⟨⟨hp, _⟩, _⟩, _⟩ := ho
  exact hp

end Ploam

/-! ## The activation machine -/

section Activation

variable {s : State} {p rate preamble overhead vendor serial id : Nat} {value : Int} {mic : Option Bool} {m : List Byte}

/-- The profile of a supported rate, stored. -/
def profiled (p rate preamble overhead : Nat) (s : State) : State :=
  wr (fibHeld p) HACT.PROFILE 1 (wr (fibHeld p) HACT.PREAMBLE preamble (wr (fibHeld p) HACT.OVERHEAD overhead
    (wr (fibN p 3) FB3.US_STATUS_RATE rate s)))

theorem storeProfile_supported (ha : actState s p = actO12) (hr : rate < 3) :
    storeProfile p rate preamble overhead s = profiled p rate preamble overhead s := if_pos ⟨ha, hr⟩

/-- A stored profile leaves the other pages alone. -/
theorem rd_profiled_page {q : Nat} {g : Field} (hq : q ≠ fibHeld p) (hn : q ≠ fibN p 3) (hg : g.off * 8 + g.lo < 32768) :
    rd (profiled p rate preamble overhead s) q g = rd s q g := by
  rw [profiled, rd_wr_page hq (by decide) hg, rd_wr_page hq (by decide) hg, rd_wr_page hq (by decide) hg, rd_wr_page hn (by decide) hg]

theorem rd_lost_profiled : rd (profiled p rate preamble overhead s) (fibHeld p) HFIB.LOST = rd s (fibHeld p) HFIB.LOST := by
  rw [profiled, rd_wr_off (by decide), rd_wr_off (by decide), rd_wr_off (by decide),
    rd_wr_page (fibN_ne_fibHeld p (by decide)).symm (by decide) (by decide)]

theorem actState_profiled : actState (profiled p rate preamble overhead s) p = actState s p :=
  rd_profiled_page (fibN_ne_fibHeld p (by decide)) (fibN_ne_of_ne (by decide)) (by decide)

/-- A stored profile does not decide whether the port takes messages. -/
theorem ploamOpen_profiled : ploamOpen (profiled p rate preamble overhead s) p = ploamOpen s p := by
  have hmode : mode (profiled p rate preamble overhead s) = mode s :=
    rd_profiled_page (lt_fibHeld p (by decide)) (lt_fibN p 3 (by decide)) (by decide)
  simp only [ploamOpen, rdb, hmode, rd_lost_profiled, actState_profiled]

theorem hostAct_profiled : hostAct (profiled p rate preamble overhead s) p = hostAct s p :=
  congrArg (bit · p) (rd_profiled_page (lt_fibHeld p (by decide)) (lt_fibN p 3 (by decide)) (by decide))

theorem micOf_profiled : micOf (profiled p rate preamble overhead s) p mic = micOf s p mic := by
  have hkey : rd (profiled p rate preamble overhead s) (held 0x10) HSEC.KEY_BAD = rd s (held 0x10) HSEC.KEY_BAD :=
    rd_profiled_page (lt_fibHeld p (by decide)) (by unfold held fibN fibPage; omega) (by decide)
  simp only [micOf, hkey]

/-- Burst_Profile in O1.2: the profile is stored, and O2-3 entered. -/
theorem burstProfile_supported (ho : ploamOpen s p = true) (hh : hostAct s p = false) (hm : micOf s p mic ≠ some false)
    (ha : actState s p = actO12) (hr : rate < 3) :
    exec (.burstProfile p rate preamble overhead mic m) s
      = .next (kept s (setAct p actO23 (ploamCounted p mic (profiled p rate preamble overhead s)))) := by
  have hstate : actState (ploamCounted p mic (profiled p rate preamble overhead s)) p = actO12 := by
    rw [actState_ploamCounted, actState_profiled, ha]
  refine (settle_onlyIf ho).trans ?_
  simp only [if_neg hm, storeProfile_supported ha hr]
  rw [ploamIn_passed (by rw [ploamOpen_profiled, ho]) (by rwa [micOf_profiled]) (by rw [hostAct_profiled, hh]), if_pos ⟨hstate, hr⟩]

theorem assignOnuId_named (ho : ploamOpen s p = true) (hh : hostAct s p = false) (hm : micOf s p mic ≠ some false)
    (ha : actState s p = actO23) (hn : namesPort s p vendor serial = true) :
    exec (.assignOnuId p vendor serial id mic m) s
      = .next (kept s (startTO1 p (setAct p actO4 (takeOnu p id (ploamCounted p mic s))))) :=
  (settle_ploamIn_passed ho hm hh).trans (by simp [ha, hn])

theorem rangingTime_O4 (ho : ploamOpen s p = true) (hh : hostAct s p = false) (hm : micOf s p mic ≠ some false)
    (ha : actState s p = actO4) :
    exec (.rangingTime p false value mic m) s = .next (kept s (activate p (ofSigned 32 (0 + value)) (ploamCounted p mic s))) :=
  (settle_ploamIn_passed ho hm hh).trans (by simp [ha])

/-- A relative Ranging_Time adds to the EqD that came last (R108). -/
theorem rangingTime_relative (ho : ploamOpen s p = true) (hh : hostAct s p = false) (hm : micOf s p mic ≠ some false)
    (ha : actState s p = actO51) :
    exec (.rangingTime p true value mic m) s
      = .next (kept s (takeEqd p (ofSigned 32 ((lastEqd s p : Int) + value)) (ploamCounted p mic s))) :=
  (settle_ploamIn_passed ho hm hh).trans (by simp [ha, actO51, actO4])

theorem deactivateOnuId_O51 (ho : ploamOpen s p = true) (hh : hostAct s p = false) (hm : micOf s p mic ≠ some false)
    (ha : actState s p = actO51) :
    exec (.deactivateOnuId p mic m) s
      = .next (kept s (setAct p actO11 (discardAll p (leaveO51 p (ploamCounted p mic s))))) :=
  (settle_ploamIn_passed ho hm hh).trans (by simp [ha])

theorem disableSerialNumber_named (ho : ploamOpen s p = true) (hh : hostAct s p = false) (hm : micOf s p mic ≠ some false)
    (hn : namesPort s p vendor serial = true) (hlo : actO23 ≤ actState s p) (hhi : actState s p ≤ actO6) :
    exec (.disableSerialNumber p vendor serial false mic m) s = .next (kept s (setAct p actO7 (ploamCounted p mic s))) :=
  (settle_ploamIn_passed ho hm hh).trans (by simp [hn, hlo, hhi])

theorem enableSerialNumber_named (ho : ploamOpen s p = true) (hh : hostAct s p = false) (hm : micOf s p mic ≠ some false)
    (hn : namesPort s p vendor serial = true) (ha : actState s p = actO7) :
    exec (.disableSerialNumber p vendor serial true mic m) s = .next (kept s (setAct p actO11 (ploamCounted p mic s))) :=
  (settle_ploamIn_passed ho hm hh).trans (by simp [hn, ha])

theorem serialNumberGrant_O23 (ho : ploamOpen s p = true) (ha : actState s p = actO23) (ht : rd s (fibN p 3) FB3.US_CTRL_TX_EN = 1)
    (hr : rngFailed s = false) :
    exec (.serialNumberGrant p) s = .next (kept s (inc (fibN p 2) FB2.SN_RESPONSES (ploamSent p umSerial
      [rd (serialDelay p s).2 (fibN p 2) FB2.SN_VENDOR, vssn (serialDelay p s).2 p, (serialDelay p s).1] (serialDelay p s).2))) :=
  settle_onlyIf (by simp [ho, ha, rdb_of_eq_one ht, hr])

theorem rangingGrant_O4 (ho : ploamOpen s p = true) (ha : actState s p = actO4) (ht : rd s (fibN p 3) FB3.US_CTRL_TX_EN = 1) :
    exec (.rangingGrant p) s
      = .next (kept s (ploamSent p umRegistration ((List.range 9).map (fun i => rd s (fibHeld p) (HACT.REG_ID i))) s)) :=
  settle_onlyIf (by simp [ho, ha, rdb_of_eq_one ht])

theorem eqdApply_due (hp : p < 2) (h0 : rd s (fibHeld p) HACT.EQD_AT ≠ 0)
    (hd : rd s (fibHeld p) HACT.EQD_AT ≤ rd s (fibHeld p) HFIB.FRAME_NO) :
    exec (.eqdApply p) s
      = .next (kept s (wr (fibHeld p) HACT.EQD_AT 0 (wr (fibN p 2) FB2.EQD (rd s (fibHeld p) HACT.EQD_NEW) s))) :=
  settle_onlyIf (decide_eq_true ⟨hp, h0, hd⟩)

end Activation

/-! ## Messages that fail their check -/

section Rejected

variable {s : State} {p rate preamble overhead sfc alloc : Nat} {assign : Bool} {mic : Option Bool} {m : List Byte}

/-- A profile that came with a failed check is not stored. -/
theorem burstProfile_rejected (ho : ploamOpen s p = true) (hm : micOf s p mic = some false) :
    exec (.burstProfile p rate preamble overhead mic m) s = .next (kept s (ploamRejected p m s)) :=
  (settle_onlyIf ho).trans (by simp only [if_pos hm]; rw [ploamIn_rejected ho hm])

/-- A failed check starts no key. -/
theorem keyControl_rejected (ho : ploamOpen s p = true) (hm : micOf s p mic = some false) :
    exec (.keyControl p sfc mic m) s = .next (kept s (ploamRejected p m s)) :=
  (settle_onlyIf ho).trans (by simp only [if_pos (Or.inl hm)]; rw [ploamIn_rejected ho hm])

/-- A failed check assigns no Alloc-ID and takes none away. -/
theorem assignAllocId_rejected (ho : ploamOpen s p = true) (hm : micOf s p mic = some false) :
    exec (.assignAllocId p alloc assign mic m) s = .next (kept s (ploamRejected p m s)) :=
  (settle_onlyIf ho).trans (by simp only [if_pos hm]; rw [ploamIn_rejected ho hm])

end Rejected

/-- Settles O5: in hardware mode a message is counted and answered by the state of the activation machine, or rejected by its check. -/
theorem activationMessages : Obligations.ActivationMessages := by
  intro s p rate preamble overhead vendor serial id value mic m ho hh
  refine ⟨fun hm => ⟨burstProfile_supported ho hh hm, assignOnuId_named ho hh hm, rangingTime_O4 ho hh hm, rangingTime_relative ho hh hm,
    deactivateOnuId_O51 ho hh hm, disableSerialNumber_named ho hh hm, enableSerialNumber_named ho hh hm⟩,
    serialNumberGrant_O23 ho, rangingGrant_O4 ho, eqdApply_due (lt_two_of_ploamOpen ho), fun hfail b sfc alloc interval next => ?_⟩
  have hm := micOf_failed hfail
  simp only [List.forall_mem_cons]
  exact ⟨burstProfile_rejected ho hm, settle_ploamIn_rejected ho hm, settle_ploamIn_rejected ho hm, settle_ploamIn_rejected ho hm,
    settle_ploamIn_rejected ho hm, settle_ploamIn_rejected ho hm, settle_ploamIn_rejected ho hm, keyControl_rejected ho hm,
    assignAllocId_rejected ho hm, settle_ploamIn_rejected ho hm, List.forall_mem_nil _⟩

/-! ## Keys, Alloc-IDs and watchful sleep -/

section KeysAndSleep

variable {s : State} {p sfc alloc interval next : Nat} {assign allow en : Bool} {mic : Option Bool} {m : List Byte}

/-- The registers that show a key of an index waiting for its superframe. -/
def keyPending (p idx sfc valid : Nat) (s : State) : State :=
  wr (fibHeld p) HACT.SWITCH_SFC sfc (wr (fibHeld p) HACT.SWITCH_KEY idx (wr (fibN p 2) FB2.KEY_SWITCH_SFC sfc
    (wr (fibN p 2) FB2.KEY_STATUS_VALID valid (wr (fibN p 2) FB2.KEY_STATUS_SWITCH_PENDING 1 s))))

theorem rd_keyPending_page {idx valid q : Nat} {g : Field} (hq : q ≠ fibHeld p) (hn : q ≠ fibN p 2) (hg : g.off * 8 + g.lo < 32768) :
    rd (keyPending p idx sfc valid s) q g = rd s q g := by
  rw [keyPending, rd_wr_page hq (by decide) hg, rd_wr_page hq (by decide) hg, rd_wr_page hn (by decide) hg, rd_wr_page hn (by decide) hg,
    rd_wr_page hn (by decide) hg]

/-- The index of a new key: the one that is not in use (R112). -/
def newKeyIndex (p : Nat) (s : State) : Nat := if rd s (fibN p 2) FB2.KEY_STATUS_ACTIVE = 1 then 2 else 1

theorem newKey_regs :
    (newKey p sfc s).regs = (keyPending p (newKeyIndex p s) sfc
      (setBit (rd s (fibN p 2) FB2.KEY_STATUS_VALID) (newKeyIndex p s - 1) false) s).regs := rfl

/-- A new key does not touch the modes of the port's functions. -/
theorem hostPloam_newKey : hostPloam (newKey p sfc s) p = hostPloam s p :=
  congrArg (bit · (2 + p)) ((rd_of_regs newKey_regs _ _).trans
    (rd_keyPending_page (lt_fibHeld p (by decide)) (lt_fibN p 2 (by decide)) (by decide)))

theorem keyControl_drawn (ho : ploamOpen s p = true) (hh : hostPloam s p = false) (hm : micOf s p mic ≠ some false)
    (hr : rngFailed s = false) :
    exec (.keyControl p sfc mic m) s = .next (kept s (ploamIn p false mic m id (newKey p sfc s))) := by
  refine (settle_onlyIf ho).trans ?_
  simp only [if_neg (show ¬ (micOf s p mic = some false ∨ rngFailed s = true) by simp [hm, hr]), hostPloam_newKey, hh]

/-- The Alloc-IDs of the terminal after one of a port has been assigned or taken away. -/
def withAlloc (p alloc : Nat) (assign : Bool) (s : State) : State :=
  let rest := s.allocs.filter (fun a => decide (a ≠ p * 16384 + alloc % 16384))
  { s with allocs := if assign then rest ++ [p * 16384 + alloc % 16384] else rest }

theorem assignAllocId_passed (ho : ploamOpen s p = true) (hh : hostPloam s p = false) (hm : micOf s p mic ≠ some false) :
    exec (.assignAllocId p alloc assign mic m) s = .next (kept s (ploamCounted p mic (withAlloc p alloc assign s))) := by
  refine (settle_onlyIf ho).trans ?_
  simp only [if_neg hm]
  exact congrArg (fun t => Host.Outcome.next (kept s t)) (ploamIn_passed (s := withAlloc p alloc assign s) (act := id) ho hm hh)

theorem keySwitch_due (hp : p < 2) (hs : rd s (fibN p 2) FB2.KEY_STATUS_SWITCH_PENDING = 1)
    (hd : rd s (fibHeld p) HACT.SWITCH_SFC ≤ rd s (fibHeld p) HFIB.SFC) :
    exec (.keySwitch p) s = .next (kept s (
      let i := rd s (fibHeld p) HACT.SWITCH_KEY
      let u := { s with dataKeys := Map.put 0 s.dataKeys (8 * p + i) (Map.get 0 s.nextKeys (8 * p + i)),
                        nextKeys := s.nextKeys.filter (fun e => decide (e.1 / 8 ≠ p)) }
      raise (fibN p 2) FB2.evKEY_SWITCHED [i] (wr (fibN p 2) FB2.KEY_STATUS_ACTIVE i
        (wr (fibN p 2) FB2.KEY_STATUS_VALID (setBit (rd s (fibN p 2) FB2.KEY_STATUS_VALID) (i - 1) true)
          (wr (fibN p 2) FB2.KEY_STATUS_SWITCH_PENDING 0 u))))) :=
  settle_onlyIf (by simp [hp, rdb_of_eq_one hs, hd])

theorem sleepAllow_allowed (ho : ploamOpen s p = true) (hh : hostPloam s p = false) (hm : micOf s p mic ≠ some false)
    (hs : sleepOk (ploamCounted p mic s) p interval = true) :
    exec (.sleepAllow p true interval next mic m) s = .next (kept s (
      let u := if 2 ≤ next ∧ rd s (fibN p 2) FB2.PM_STATUS_STATE < 2 then queuePloam p umSleep [] (ploamCounted p mic s)
        else ploamCounted p mic s
      showLaser p (startOf (now u)) (setPm p (min 3 next) (wr (fibHeld p) HACT.PM_INTERVAL interval u)))) := by
  have hpm : rd (ploamCounted p mic s) (fibN p 2) FB2.PM_STATUS_STATE = rd s (fibN p 2) FB2.PM_STATUS_STATE :=
    rd_ploamCounted_off (by decide)
  exact (settle_ploamIn_passed ho hm hh).trans (by simp only [hs, hpm, and_self, if_true])

/-- Sleep_Allow that is switched off, or whose conditions fail, keeps the port in ActiveHeld (R114). -/
theorem sleepAllow_held (ho : ploamOpen s p = true) (hh : hostPloam s p = false) (hm : micOf s p mic ≠ some false)
    (hs : allow = false ∨ sleepOk (ploamCounted p mic s) p interval = false) :
    exec (.sleepAllow p allow interval next mic m) s = .next (kept s (setPm p 0 (ploamCounted p mic s))) := by
  refine (settle_ploamIn_passed ho hm hh).trans ?_
  rw [if_neg]
  rintro ⟨ha, hok⟩
  rcases hs with hs | hs
  · exact Bool.false_ne_true (hs.symm.trans ha)
  · exact Bool.false_ne_true (hs.symm.trans hok)

theorem actEnWrite_unlocked (hp : p < 2) (hu : Unlocked s (fibN p 2)) :
    exec (.actEnWrite p en) s = .next (kept s (wrStaged (fibN p 2) (fibN p 2) FB2.ACT_CTRL_ACT_EN (b2n en) s)) :=
  settle_onlyIf_hostCmd (decide_eq_true hp) hu

end KeysAndSleep

/-- Settles O6: in hardware mode each message that passes its check is answered; keys and Alloc-IDs change ahead of its count. -/
theorem keyAllocAndSleepMessages : Obligations.KeyAllocAndSleepMessages := by
  intro s p sfc alloc interval next mic m ho ha hh hm
  have hp := lt_two_of_ploamOpen ho
  exact ⟨settle_ploamIn_passed ho hm ha, settle_ploamIn_passed ho hm hh, keyControl_drawn ho hh hm, keySwitch_due hp,
    assignAllocId_passed ho hh hm, assignAllocId_passed ho hh hm, sleepAllow_allowed ho hh hm,
    fun hs => sleepAllow_held ho hh hm (.inr hs), sleepAllow_held ho hh hm (.inl rfl), fun _ => actEnWrite_unlocked hp⟩

/-! ## Activation commands -/

section ActivationCommands

variable {s : State} {p : Nat} {ok : State → Bool} {act : State → State}

/-- What ACT_CMD shows of a command: 1 taken, 2 refused, 3 in hardware mode (R110). -/
def actResult (p r : Nat) (s : State) : State := wr (fibN p 2) FB2.ACT_CMD_RESULT r s

/-- Host software may move the port's activation machine: its page is unlocked and the mode is host-assisted. -/
abbrev HostMoves (s : State) (p : Nat) : Prop := Unlocked s (fibN p 2) ∧ rd s (fibN p 2) FB2.ACT_STATUS_HOST_ASSIST = 1

theorem actCmd_assisted (h : HostMoves s p) : actCmd p ok act s = if ok s then actResult p 1 (act s) else actResult p 2 s := by
  obtain ⟨hu, ha⟩ := h
  rw [actCmd, hostCmd_unlocked hu, rdb_of_eq_one ha]; rfl

/-- In hardware mode no command moves the machine. -/
theorem actCmd_hardware (hu : Unlocked s (fibN p 2)) (ha : rd s (fibN p 2) FB2.ACT_STATUS_HOST_ASSIST = 0) :
    actCmd p ok act s = actResult p 3 s := by
  rw [actCmd, hostCmd_unlocked hu, rdb_of_eq_zero ha]; rfl

theorem settle_actCmd_taken (hp : p < 2) (h : HostMoves s p) (hok : ok s = true) :
    settle s (onlyIf (p < 2) (actCmd p ok act) s) = .next (kept s (actResult p 1 (act s))) := by
  rw [settle_onlyIf (decide_eq_true hp), actCmd_assisted h, if_pos hok]

theorem settle_actCmd_refused (hp : p < 2) (h : HostMoves s p) (hok : ok s = false) :
    settle s (onlyIf (p < 2) (actCmd p ok act) s) = .next (kept s (actResult p 2 s)) := by
  rw [settle_onlyIf (decide_eq_true hp), actCmd_assisted h, hok, if_neg Bool.false_ne_true]

theorem settle_actCmd_hardware (hp : p < 2) (hu : Unlocked s (fibN p 2)) (ha : rd s (fibN p 2) FB2.ACT_STATUS_HOST_ASSIST = 0) :
    settle s (onlyIf (p < 2) (actCmd p ok act) s) = .next (kept s (actResult p 3 s)) := by
  rw [settle_onlyIf (decide_eq_true hp), actCmd_hardware hu ha]

theorem actCmdO11_fromO4 (hp : p < 2) (h : HostMoves s p) (ha : actState s p = actO4) :
    exec (.actCmdO11 p) s = .next (kept s (actResult p 1 (setAct p actO11 (discardProfile p (discardOnu p s))))) :=
  (settle_actCmd_taken hp h (by rw [ha]; rfl)).trans (by rw [if_pos ha])

/-- From O5.1 and O6 everything that ranging gave is discarded (Table 4.2). -/
theorem actCmdO11_ranged (hp : p < 2) (h : HostMoves s p) (ha : actState s p = actO51 ∨ actState s p = actO6) :
    exec (.actCmdO11 p) s = .next (kept s (actResult p 1 (setAct p actO11 (discardAll p (leaveO51 p s))))) := by
  have hlo : actO4 ≤ actState s p ∧ actState s p ≤ actO6 := by simp only [actO4, actO51, actO6] at ha ⊢; omega
  have hne : actState s p ≠ actO4 := by simp only [actO4, actO51, actO6] at ha ⊢; omega
  exact (settle_actCmd_taken hp h (decide_eq_true hlo)).trans (by rw [if_neg hne])

theorem actCmdO51_fromO4 (hp : p < 2) (h : HostMoves s p) (ha : actState s p = actO4) :
    exec (.actCmdO51 p) s = .next (kept s (actResult p 1 (activate p (rd s (fibN p 2) FB2.ACT_EQD) s))) :=
  (settle_actCmd_taken hp h (by simp [ha])).trans (by simp only [if_pos ha])

/-- From O6 the command acts once the port is back. -/
theorem actCmdO51_fromO6 (hp : p < 2) (h : HostMoves s p) (ha : actState s p = actO6) (hl : rd s (fibHeld p) HFIB.LOST = 0) :
    exec (.actCmdO51 p) s = .next (kept s (actResult p 1 (takeEqd p (rd s (fibN p 2) FB2.ACT_EQD) (setAct p actO51 s)))) := by
  have hne : actState s p ≠ actO4 := by rw [ha]; decide
  exact (settle_actCmd_taken hp h (by simp [ha, rdb_of_eq_zero hl])).trans (by simp only [if_neg hne])

/-- Each activation command answers 3 in hardware mode. -/
theorem actCmds_hardware (hp : p < 2) (hu : Unlocked s (fibN p 2)) (ha : rd s (fibN p 2) FB2.ACT_STATUS_HOST_ASSIST = 0) :
    ∀ c ∈ [Instr.actCmdO11 p, .actCmdO23 p, .actCmdO4 p, .actCmdO51 p, .actCmdO6 p, .actCmdO7 p, .actCmdLeaveO7 p, .applyEqd p],
      exec c s = .next (kept s (actResult p 3 s)) := by
  simp only [List.forall_mem_cons]
  exact ⟨settle_actCmd_hardware hp hu ha, settle_actCmd_hardware hp hu ha, settle_actCmd_hardware hp hu ha,
    settle_actCmd_hardware hp hu ha, settle_actCmd_hardware hp hu ha, settle_actCmd_hardware hp hu ha,
    settle_actCmd_hardware hp hu ha, settle_actCmd_hardware hp hu ha, List.forall_mem_nil _⟩

theorem to1Expiry_due (hp : p < 2) (ha : actState s p = actO4) (h0 : rd s (fibHeld p) HACT.TO1 ≠ 0)
    (hd : rd s (fibHeld p) HACT.TO1 ≤ s.clock.tick + 1) :
    exec (.to1Expiry p) s
      = .next (kept s (setAct p actO11 (discardProfile p (discardOnu p (raise (fibN p 2) FB2.evTO_EXPIRED [1] s))))) :=
  settle_onlyIf (decide_eq_true ⟨hp, ha, h0, hd⟩)

theorem to2Expiry_due (hp : p < 2) (ha : actState s p = actO6) (h0 : rd s (fibHeld p) HACT.TO2 ≠ 0)
    (hd : rd s (fibHeld p) HACT.TO2 ≤ s.clock.tick + 1) :
    exec (.to2Expiry p) s = .next (kept s (setAct p actO11 (discardAll p (raise (fibN p 2) FB2.evTO_EXPIRED [2] s)))) :=
  settle_onlyIf (decide_eq_true ⟨hp, ha, h0, hd⟩)

end ActivationCommands

/-- Settles O7: in host-assisted mode a command is taken in the states that Table 4.2 allows, in hardware mode none is. -/
theorem activationCommandsAndTimers : Obligations.ActivationCommandsAndTimers := fun _ _ hp =>
  ⟨fun hu hassist =>
    have h := ⟨hu, hassist⟩
    ⟨actCmdO11_fromO4 hp h, actCmdO11_ranged hp h,
      fun ha => settle_actCmd_taken hp h (decide_eq_true ha), fun ha => settle_actCmd_refused hp h (decide_eq_false ha),
      fun ha hid => settle_actCmd_taken hp h (decide_eq_true ⟨ha, hid⟩),
      actCmdO51_fromO4 hp h, actCmdO51_fromO6 hp h,
      fun ha => settle_actCmd_taken hp h (decide_eq_true ha),
      fun hlo hhi => settle_actCmd_taken hp h (decide_eq_true ⟨hlo, hhi⟩),
      fun ha => settle_actCmd_taken hp h (decide_eq_true ha),
      fun ha => settle_actCmd_taken hp h (decide_eq_true ha), fun ha => settle_actCmd_refused hp h (decide_eq_false ha)⟩,
    actCmds_hardware hp, to1Expiry_due hp, to2Expiry_due hp⟩

/-! ## The BWmap -/

section Bwmap

variable {s : State} {p cyc : Nat} {l : List AllocIn}

/-- A port in O5.1 that is not in LowPower may light its transmitter. -/
theorem transmits_of (ha : actState s p = actO51) (hpm : rd s (fibN p 2) FB2.PM_STATUS_STATE ≠ 3) : transmits s p = true := by
  simp [transmits, ha, actO51, hpm]

/-- The port's own allocations of a BWmap, in core cycles and bytes. -/
def ownGrants (s : State) (p : Nat) (l : List AllocIn) : List Grant := (l.filter (fun g => assigned s p g.alloc)).map (grantOf s p)

theorem bwmapDecoded_read (hp : p < 2) (hl : transmits s p = true) (ht : rd s (fibN p 3) FB3.US_CTRL_TX_EN = 1) :
    exec (.bwmapDecoded p true l cyc) s = .next (kept s (assemble p (nextRooms p (sentAllocs (ownGrants s p l))
      (takeAllocs p (ownGrants s p l) [] [] (grantLeads p cyc (sentAllocs (ownGrants s p l)) s))))) :=
  settle_onlyIf (by simp [hp, hl, rdb_of_eq_one ht])

theorem bwmapDecoded_lost (hp : p < 2) (hl : transmits s p = true) (ht : rd s (fibN p 3) FB3.US_CTRL_TX_EN = 1) :
    exec (.bwmapDecoded p false l cyc) s = .next (kept s (returnAllPredicted p
      (raiseFirst (fibN p 3) FB3.evBWMAP_LOST [sfcLow s p] (inc (fibN p 3) FB3.BWMAP_LOST s)))) :=
  settle_onlyIf (by simp [hp, hl, rdb_of_eq_one ht])

end Bwmap

/-! ## The life of a burst -/

section BurstLife

variable {s : State} {p cyc : Nat} {b : Burst}

theorem extensionCutoff_of (hp : p < 2) (hb : burstAt s p 0 (startOf (now s) + cyc) cutCycles = some b) :
    exec (.extensionCutoff p cyc) s
      = .next (kept s (setBurst b (fun c => { c with stage := 1, extend := false }) (takeOmci b s))) :=
  (settle_onlyIf (decide_eq_true hp)).trans (by simp only [hb])

theorem burstSerialiseStart_of (hp : p < 2) (hb : burstAt s p 1 (startOf (now s) + cyc) serCycles = some b) :
    exec (.burstSerialiseStart p cyc) s = .next (kept s (showLaser p (startOf (now s) + cyc)
      (setBurst b (fun c => { c with stage := 2 }) { s with upWire := Map.put [] s.upWire p (xgemOuts s b) }))) :=
  (settle_onlyIf (decide_eq_true hp)).trans (by simp only [hb])

/-- What follows the frames of a burst at its start: the counts, the PLOAMu, the power reading, the indication, the laser. -/
def burstStarted (p cyc : Nat) (b : Burst) (s : State) (r : State × List QEnt) : State :=
  let u := setBurst b (fun c => { c with stage := 3, entries := [], sent := r.2 }) r.1
  let u := addc (fibN p 3) FB3.IDLE_BYTES (b.room - usedRoom b.entries - omciRoom b.omci) (inc (fibN p 3) FB3.BURSTS u)
  let u := if b.ploamu then sendPloamu p u else u
  let u := wrS (fibN p 3) FB3.TX_POWER (Config.sensor 0x102 p u.clock.tick) u
  let u := wrb (fibHeld p) HUPS.IND (rdb u (fibN p 3) FB3.US_STATUS_GASP) u
  syncBuild p (showLaser p (startOf (now s) + cyc) u)

theorem burstStart_of (hp : p < 2) (hb : burstAt s p 2 (startOf (now s) + cyc) 0 = some b) :
    exec (.burstStart p cyc) s = .next (kept s (burstStarted p cyc b s (b.entries.foldl (sendEntryUp p b.start) (s, [])))) :=
  (settle_onlyIf (decide_eq_true hp)).trans (by simp only [hb]; rfl)

theorem burstEnd_of (hp : p < 2)
    (hb : s.bursts.find? (fun c => decide (c.fibre = p ∧ c.stage = 3 ∧ c.start + c.dur ≤ startOf (now s) + cyc)) = some b) :
    exec (.burstEnd p cyc) s = .next (kept s (showLaser p (startOf (now s) + cyc)
      (forEach b.sent releaseEnt { s with bursts := dropFirst (fun c => decide (c.fibre = p ∧ c.stage = 3)) s.bursts }))) :=
  (settle_onlyIf (decide_eq_true hp)).trans (by simp only [hb])

end BurstLife

/-- Settles O8: a transmitting port takes a BWmap or counts it lost; the burst whose instant has come goes on to its next stage. -/
theorem burstLifecycle : Obligations.BurstLifecycle := fun _ _ _ _ _ hp =>
  ⟨fun ha hpm => bwmapDecoded_read hp (transmits_of ha hpm), fun ha hpm => bwmapDecoded_lost hp (transmits_of ha hpm),
    extensionCutoff_of hp, burstSerialiseStart_of hp, burstStart_of hp, burstEnd_of hp⟩

end Sys2Proof.Machine

/-! Parsing and classification (chapter 5): the walks of the rule trees, the loads, swaps and retirement of their banks, the default
actions and the Cul-de-sac; reception and pause on a Kerb port (chapter 10), which hand the frames over. -/

namespace Sys2Proof.Machine

/-! ## Walks -/

section Walks

variable {s : State} {src : Nat} {f : InFrame} {r : Reasm}

/-- The first frame of the front end whose key completes is walked, ahead of those behind it. -/
theorem keyComplete_front (hs : src < 12) (hf : s.front.find? (earlyKey s src) = some f) :
    exec (.keyComplete src) s = .next (kept s { (walkFrame s f).2 with
      front := updFirst (earlyKey s src) (fun f' => { f' with walks := (walkFrame s f).1 }) s.front }) :=
  (settle_onlyIf (decide_eq_true hs)).trans (by simp only [hf])

theorem keyComplete_ingress (hs : src < 12) (hn : s.front.find? (earlyKey s src) = none)
    (hf : s.ingress.find? (waitingKey src) = some f) :
    exec (.keyComplete src) s = .next (kept s { (walkFrame s f).2 with
      ingress := updFirst (waitingKey src) (fun f' => { f' with walks := (walkFrame s f).1 }) s.ingress }) :=
  (settle_onlyIf (decide_eq_true hs)).trans (by simp only [hn, hf])

/-- A frame still in reassembly is walked as far as it has come (R577). -/
theorem keyComplete_reasm (hs : src < 12) (hn : s.front.find? (earlyKey s src) = none)
    (hi : s.ingress.find? (waitingKey src) = none) (hr : s.reasm.find? (partKey s src) = some r) :
    exec (.keyComplete src) s = .next (kept s { (walkFrame s (partFrame s r)).2 with
      reasm := updFirst (partKey s src) (fun q => { q with walks := (walkFrame s (partFrame s r)).1 }) s.reasm }) :=
  (settle_onlyIf (decide_eq_true hs)).trans (by simp only [hn, hi, hr])

end Walks

/-! ## Loads into the standby bank -/

section Loads

variable {s : State} {img : List Byte} {byHost : Bool}

/-- A load is started by host software on an unlocked page, or by Yunager whatever the lock. -/
theorem ruleLoadStart_allowed (h : byHost = false ∨ Unlocked s 0xC8) :
    exec (.ruleLoadStart byHost) s = .next (kept s (loadStart s)) := by
  cases byHost with
  | false => rfl
  | true => exact congrArg (settle s) (hostCmd_unlocked (h.resolve_left (by decide)))

theorem loadStart_accepted (hb : rd s 0xC8 CLS.LOAD_STATUS_BUSY = 0) (hr : loadRefused s = false) :
    loadStart s = wr 0xC8 CLS.LOAD_CTRL_START 1 (wr 0xC8 CLS.LOAD_STATUS_BUSY 1 (setBankState (standbyBank s) 1 s)) := by
  simp only [loadStart, rdb_of_eq_zero hb, hr, Bool.false_eq_true, if_false]

theorem loadStart_refused (hb : rd s 0xC8 CLS.LOAD_STATUS_BUSY = 0) (hr : loadRefused s = true) : loadStart s = loadDone 1 s := by
  simp only [loadStart, rdb_of_eq_zero hb, hr, Bool.false_eq_true, if_false, if_true]

/-- Without FROM_ARCADE the loader reads host memory. -/
theorem loadSource_host {host : Option (List Byte)} (ha : rd s 0xC8 CLS.LOAD_CTRL_FROM_ARCADE = 0) : loadSource s host = host := by
  simp only [loadSource, rdb_of_eq_zero ha, Bool.false_eq_true, if_false]

theorem ruleLoadDone_valid (hb : rd s 0xC8 CLS.LOAD_STATUS_BUSY = 1) (ha : rd s 0xC8 CLS.LOAD_CTRL_FROM_ARCADE = 0)
    (hr : loadResult img (rd s 0xC8 CLS.LOAD_LEN) = 0) :
    exec (.ruleLoadDone (some img)) s = .next (kept s (
      let u := loadDone 0 (setBankState (standbyBank s) 2 (setImage (standbyBank s) ⟨wordsOf img, img.length⟩ s))
      measure 3 6 (now u) (Image.id ⟨wordsOf img, img.length⟩) (Config.sha512 img) u)) :=
  (settle_onlyIf (rdb_of_eq_one hb)).trans (by simp only [loadSource_host ha, hr, if_true])

/-- A check that fails leaves the bank EMPTY, with its RESULT. -/
theorem ruleLoadDone_invalid (hb : rd s 0xC8 CLS.LOAD_STATUS_BUSY = 1) (ha : rd s 0xC8 CLS.LOAD_CTRL_FROM_ARCADE = 0)
    (hr : loadResult img (rd s 0xC8 CLS.LOAD_LEN) ≠ 0) :
    exec (.ruleLoadDone (some img)) s = .next (kept s (
      loadDone (loadResult img (rd s 0xC8 CLS.LOAD_LEN)) (setBankState (standbyBank s) 0 (setImage (standbyBank s) ⟨[], 0⟩ s)))) :=
  (settle_onlyIf (rdb_of_eq_one hb)).trans (by simp only [loadSource_host ha, if_neg hr])

theorem ruleLoadDone_unread (hb : rd s 0xC8 CLS.LOAD_STATUS_BUSY = 1) (ha : rd s 0xC8 CLS.LOAD_CTRL_FROM_ARCADE = 0) :
    exec (.ruleLoadDone none) s
      = .next (kept s (loadDone 6 (setBankState (standbyBank s) 0 (setImage (standbyBank s) ⟨[], 0⟩ s)))) :=
  (settle_onlyIf (rdb_of_eq_one hb)).trans (by simp only [loadSource_host ha])

end Loads

/-! ## Swaps and retirement -/

section Swaps

variable {s : State}

theorem bankSwapRequest_accepted (hu : Unlocked s 0xC8) (hv : bankState s (standbyBank s) = 2) (hn : swapPending s = false) :
    exec .bankSwapRequest s = .next (kept s (wr (held 0xC8) HCLS.SWAP_AT (now s + 4)
      (wr 0xC8 CLS.BANK_STATUS_SWAP_PENDING 1 (wr 0xC8 CLS.BANK_STATUS_SWAP_RESULT 0 s)))) :=
  (settle_kept s _).trans (by
    simp only [hostCmd_unlocked hu, hv, hn, ne_eq, not_true_eq_false, Bool.false_eq_true, if_false, if_true])

theorem bankSwapRequest_notValid (hu : Unlocked s 0xC8) (hv : bankState s (standbyBank s) ≠ 2) :
    exec .bankSwapRequest s = .next (kept s (raise 0xC8 CLS.evSWAP_REFUSED [2] (wr 0xC8 CLS.BANK_STATUS_SWAP_RESULT 2 s))) :=
  (settle_kept s _).trans (by simp only [hostCmd_unlocked hu, if_pos hv, if_neg (show ¬ 2 = 0 by decide)])

theorem bankSwapRequest_waiting (hu : Unlocked s 0xC8) (hv : bankState s (standbyBank s) = 2) (hw : swapPending s = true) :
    exec .bankSwapRequest s = .next (kept s (raise 0xC8 CLS.evSWAP_REFUSED [3] (wr 0xC8 CLS.BANK_STATUS_SWAP_RESULT 3 s))) :=
  (settle_kept s _).trans (by
    simp only [hostCmd_unlocked hu, hv, hw, ne_eq, not_true_eq_false, if_false, if_true, if_neg (show ¬ 3 = 0 by decide)])

/-- The swap at the boundary (R155): a VALID active bank starts to retire, ACTIVE turns over and the epoch moves on. -/
def banksSwapped (s : State) : State :=
  let u := if bankState s (activeBank s) = 2 then setBankState (activeBank s) 3 s else s
  let u := wr 0xC8 CLS.BANK_STATUS_ACTIVE (1 - activeBank s) (wr 0xC8 CLS.BANK_STATUS_SWAP_PENDING 0 u)
  let u := wr 0xC8 CLS.BANK_STATUS_SWAP_RESULT 1 (wr 0xC8 CLS.EPOCH (rd u 0xC8 CLS.EPOCH + 1) u)
  let u := wr (held 0xC8) HCLS.SWAP_AT 0 (wr (held 0xC8) HCLS.SWAPPED (now u + 1) u)
  raise 0xC8 CLS.evSWAPPED [rd u 0xC8 CLS.EPOCH, 1 - activeBank s] u

theorem bankSwap_due (hw : swapPending s = true) (hd : rd s (held 0xC8) HCLS.SWAP_AT ≤ now s + 1) :
    exec .bankSwap s = .next (kept s (banksSwapped s)) :=
  settle_onlyIf (decide_eq_true ⟨hw, hd⟩)

theorem bankRetired_drained (hs : bankState s (standbyBank s) = 3) (hd : rd s 0xC8 (drainCount (standbyBank s)) = 0)
    (hc : rd s (held 0xC8) HCLS.SWAPPED ≤ s.nextCommit) :
    exec .bankRetired s = .next (kept s (raise 0xC8 CLS.evBANK_RETIRED [standbyBank s] (setBankState (standbyBank s) 2 s))) :=
  settle_onlyIf (decide_eq_true ⟨hs, hd, hc⟩)

end Swaps

/-- Settles O9: the first list that holds a frame without its walks gives it; a load, a swap and a retirement meet their conditions. -/
theorem ruleTreeBanks : Obligations.RuleTreeBanks := fun _ _ _ _ _ _ =>
  ⟨keyComplete_front, keyComplete_ingress, keyComplete_reasm,
    fun h hb hr => (ruleLoadStart_allowed h).trans (by rw [loadStart_accepted hb hr]),
    fun h hb hr => (ruleLoadStart_allowed h).trans (by rw [loadStart_refused hb hr]),
    ruleLoadDone_valid, ruleLoadDone_invalid, ruleLoadDone_unread,
    bankSwapRequest_accepted, bankSwapRequest_notValid, bankSwapRequest_waiting, bankSwap_due, bankRetired_drained⟩

/-! ## The default-action table and the Cul-de-sac -/

section DefaultActions

variable {s : State}

theorem defaultTableRead_free (h : TableFree s 0xC8) :
    exec .defaultTableRead s
      = .next (kept s (tblResult 0xC8 0 (readRecord 0xC8 (Tab.dact (rd s 0xC8 CLS.TBL_ADDR)) DACT.fields s))) :=
  settle_tblCmd h

theorem defaultTableWrite_staged (h : TableFree s 0xC8) (ho : oneTerminal (rd s 0xC8 (TBL.DATA 0)) = true)
    (hr : bit (rd s 0xC8 (TBL.DATA 0)) 6 = false) :
    exec .defaultTableWrite s
      = .next (kept s (tblResult 0xC8 0 (stageRecord 0xC8 (Tab.dact (rd s 0xC8 CLS.TBL_ADDR)) DACT.fields s))) :=
  (settle_tblCmd h).trans (by simp only [ho, hr, Bool.not_true, Bool.false_eq_true, if_false])

/-- RECIRC is no default action (R161). -/
theorem defaultTableWrite_recirc (h : TableFree s 0xC8) (ho : oneTerminal (rd s 0xC8 (TBL.DATA 0)) = true)
    (hr : bit (rd s 0xC8 (TBL.DATA 0)) 6 = true) :
    exec .defaultTableWrite s = .next (kept s (tblResult 0xC8 2 s)) :=
  (settle_tblCmd h).trans (by simp only [ho, hr, Bool.not_true, Bool.false_eq_true, if_false, if_true])

theorem defaultTableWrite_notOneTerminal (h : TableFree s 0xC8) (ho : oneTerminal (rd s 0xC8 (TBL.DATA 0)) = false) :
    exec .defaultTableWrite s = .next (kept s (tblResult 0xC8 1 s)) :=
  (settle_tblCmd h).trans (by simp only [ho, Bool.not_false, if_true])

end DefaultActions

section CulDeSac

variable {s : State} {x : CulEnt}

/-- A command of the Cul-de-sac on its unlocked page waits for the boundary with its operands (R168). -/
theorem culCommand_unlocked {op i ring : Nat} (h : Unlocked s 0xC9) :
    culCommand op i ring s
      = wr (held 0xC8) HCLS.CUL_OP op (wr (held 0xC8) HCLS.CUL_INDEX i (wr (held 0xC8) HCLS.CUL_RING ring s)) :=
  hostCmd_unlocked h

theorem settle_culCommand {op i ring : Nat} (h : Unlocked s 0xC9) :
    settle s (culCommand op i ring s) = .next (kept s (
      wr (held 0xC8) HCLS.CUL_OP op (wr (held 0xC8) HCLS.CUL_INDEX i (wr (held 0xC8) HCLS.CUL_RING ring s)))) := by
  rw [culCommand_unlocked h, settle_kept]

theorem culTableRead_found (h : TableFree s 0xC9)
    (hx : s.cul.find? (fun x => decide (x.index = rd s 0xC9 CUL.TBL_ADDR)) = some x) :
    exec .culTableRead s = .next (kept s (tblResult 0xC9 0 (loadData 0xC9 (culWords x) s))) :=
  (settle_tblCmd h).trans (by simp only [hx])

theorem culTableRead_absent (h : TableFree s 0xC9)
    (hx : s.cul.find? (fun x => decide (x.index = rd s 0xC9 CUL.TBL_ADDR)) = none) :
    exec .culTableRead s = .next (kept s (tblResult 0xC9 0 (loadData 0xC9 [] s))) :=
  (settle_tblCmd h).trans (by simp only [hx])

end CulDeSac

/-- Settles O10: a write goes by its terminal actions, a command waits with its operands, a read gives the entry or zeros. -/
theorem defaultActionsAndCulDeSac : Obligations.DefaultActionsAndCulDeSac := fun _ _ _ =>
  ⟨defaultTableRead_free, defaultTableWrite_staged, defaultTableWrite_recirc, defaultTableWrite_notOneTerminal,
    fun h => ⟨settle_culCommand h, settle_culCommand h, settle_culCommand h⟩, fun _ => culTableRead_found, culTableRead_absent⟩

/-! ## Reception on a Kerb port -/

section KerbReception

variable {s : State} {p cyc : Nat} {d : List Byte} {f : InFrame} {c : Field}

theorem kerbFrameReceived_idle (hp : p < 8) (hu : kerbUp s p = true) (hi : s.front.any (fun g => decide (g.src = p)) = false) :
    exec (.kerbFrameReceived p d cyc) s = .next (kept s (kerbReceive p d cyc s)) :=
  settle_onlyIf (by simp only [hp, hu, hi]; decide)

/-- The last byte of a good frame counts RX_FRAMES; the frame joins the ingress buffer, or overflows it. -/
theorem frameLastByte_good (hp : p < 8) (hf : s.front.find? (ofPort p) = some f)
    (hg : rxFault s p (f.item.aux.getD 0 0) true = none) :
    exec (.frameLastByte p true cyc) s = .next (kept s (
      let u := inc (krb p) KRB.RX_FRAMES { s with front := dropFirst (ofPort p) s.front }
      if f.overflow then countOverflow p u else joinIngress f (startOf (now u) + cyc) u)) :=
  (settle_onlyIf (decide_eq_true (show p < 10 by omega))).trans (by
    simp only [hf, hp, hg, Bool.not_true, Bool.false_eq_true, if_false, if_true])

/-- A bad frame counts its cause and is squashed (R157, R310). -/
theorem frameLastByte_bad {ok : Bool} (hp : p < 8) (hf : s.front.find? (ofPort p) = some f)
    (hb : rxFault s p (f.item.aux.getD 0 0) ok = some c) :
    exec (.frameLastByte p ok cyc) s = .next (kept s (inc (krb p) c (squash p (kerbRequester p) s))) :=
  (settle_onlyIf (decide_eq_true (show p < 10 by omega))).trans (by simp only [hf, hp, hb, if_true])

end KerbReception

/-! ## Pause on a Kerb port -/

section KerbPause

variable {s : State} {p q cyc op en : Nat} {times : List Nat}

/-- Link pause (mode 1) holds or releases all eight queues for the first time of the frame (R313). -/
theorem pauseReceived_link (hp : p < 8) (hu : kerbUp s p = true) (hm : pauseMode s p = 1) :
    exec (.pauseReceived p 1 en times cyc) s = .next (kept s (forEach (List.range 8)
      (pauseQueue (sending s p).isSome p (startOf (now s) + cyc) (times.getD 0 0)) (inc (krb p) KRB.PAUSE_RX s))) :=
  (settle_onlyIf (decide_eq_true ⟨hp, hu⟩)).trans (by simp only [hm, and_self, if_true])

/-- Priority pause (mode 2) holds or releases each enabled queue for its own time (R313, R314). -/
theorem pauseReceived_priority (hp : p < 8) (hu : kerbUp s p = true) (hm : pauseMode s p = 2) :
    exec (.pauseReceived p 0x0101 en times cyc) s = .next (kept s (forEach ((List.range 8).filter (bit en))
      (fun t => pauseQueue (sendsQueue s p t) p (startOf (now s) + cyc) (times.getD t 0) t) (inc (krb p) KRB.PAUSE_RX s))) :=
  (settle_onlyIf (decide_eq_true ⟨hp, hu⟩)).trans (by
    simp only [hm, and_self, if_true, if_neg (show ¬ (2 = 1 ∧ 0x0101 = 1) by decide)])

theorem pauseReceived_off (hp : p < 8) (hu : kerbUp s p = true) (hm : pauseMode s p = 0) :
    exec (.pauseReceived p op en times cyc) s = .next (kept s (inc (krb p) KRB.CTRL_IGNORED s)) :=
  (settle_onlyIf (decide_eq_true ⟨hp, hu⟩)).trans (by
    simp only [hm, if_neg (fun h : 0 = 1 ∧ op = 1 => absurd h.1 (by decide)),
      if_neg (fun h : 0 = 2 ∧ op = 0x0101 => absurd h.1 (by decide))])

theorem pauseExpiry_over (hp : p < 8) (hq : q < 8) (hh : isHeld s p q = true)
    (ht : rd s (krbHeld p) (HKRB.HELD_UNTIL q) ≤ startOf (now s) + 2430) :
    exec (.pauseExpiry p q) s = .next (kept s (releaseQueue p q (rd s (krbHeld p) (HKRB.HELD_UNTIL q) - 1) s)) :=
  settle_onlyIf (decide_eq_true ⟨hp, hq, hh, ht⟩)

end KerbPause

/-- Settles O18: a last byte goes by the fault of its frame, a pause frame by the mode in force. -/
theorem kerbReceptionAndPause : Obligations.KerbReceptionAndPause := fun _ _ _ _ _ _ _ _ _ _ hp =>
  ⟨kerbFrameReceived_idle hp,
    fun hf hg ho => (frameLastByte_good hp hf hg).trans (by simp only [ho, Bool.false_eq_true, if_false]; rfl),
    fun hf hg ho => (frameLastByte_good hp hf hg).trans (by simp only [ho, if_true]),
    frameLastByte_bad hp, pauseReceived_link hp, pauseReceived_priority hp, pauseReceived_off hp, pauseExpiry_over hp⟩

end Sys2Proof.Machine

/-! The flow table (chapter 6): the visit of the ageing engine and the commands of the flow table's page. -/

namespace Sys2Proof.Machine

/-! ## The ageing engine -/

section Ageing

variable {s : State} {n : Nat}

/-- The slice that owns the bucket of record n in the present block. -/
def bucketOwner (s : State) (n : Nat) : Nat := regionOwner (mapFor s (now s)).1 (bucketRegion s (n / 8))

/-- The hashed record n, as its owning slice sees it, has aged with the ageing engine at work (R183). -/
def AgeingDue (s : State) (n : Nat) : Prop :=
  s.clock.running = true ∧ rd s 0xD0 FLW.FLW_CTRL_EN = 1 ∧ n < flowBase s
    ∧ agedOut (viewState s (bucketOwner s n) (now s)) (s.clock.tick % 2 ^ 32) n = true

/-- The result of a visit: the proposal to remove record n, with no work beside it. -/
def removalProposal (slice n : Nat) : Result :=
  { blankResult slice { blankItem with source := 15, handle := emptyHandle, aux := [n] } with proposal := n + 1 }

theorem removalProposal_noWork (slice n : Nat) :
    (removalProposal slice n).ledger = [] ∧ (removalProposal slice n).evs = [] ∧ (removalProposal slice n).verdict = .none :=
  ⟨rfl, rfl, rfl⟩

/-- A visit of an aged record adds its proposal to the owning slice's work of the block. -/
theorem ageingVisit_due (h : AgeingDue s n) :
    exec (.ageingVisit n) s
      = .next (kept s (addResult (bucketOwner s n) (now s) (removalProposal (bucketOwner s n) n) s)) := by
  obtain ⟨hrun, hen, hbase, haged⟩ := h
  exact settle_onlyIf (decide_eq_true ⟨hrun, rdb_of_eq_one hen, hbase, haged⟩)

/-- With the engine off, above the hashed area, or on a record that has not aged, a visit changes nothing. -/
theorem ageingVisit_idle (h : rd s 0xD0 FLW.FLW_CTRL_EN = 0 ∨ flowBase s ≤ n
      ∨ agedOut (viewState s (bucketOwner s n) (now s)) (s.clock.tick % 2 ^ 32) n = false) :
    exec (.ageingVisit n) s = .next s := by
  refine settle_onlyIf_false (decide_eq_false ?_)
  rintro ⟨-, hen, hbase, haged⟩
  obtain hoff | habove | hfresh := h
  · exact Bool.false_ne_true ((rdb_of_eq_zero hoff).symm.trans hen)
  · exact absurd hbase (Nat.not_lt_of_le habove)
  · exact Bool.false_ne_true (hfresh.symm.trans haged)

end Ageing

/-- Settles O15: the visit acts when all its conditions hold, and the failure of one of them leaves the state. -/
theorem ageingVisitProposesRemoval : Obligations.AgeingVisitProposesRemoval := fun _ _ =>
  ⟨ageingVisit_due, removalProposal_noWork _ _, ageingVisit_idle⟩

/-! ## The commands of the flow table's page -/

section FlowCommands

variable {s : State}

/-- The state with table command `op` posted: BUSY is set, and the operands wait for the block that executes them (R187). -/
def flowPosted (op : Nat) (s : State) : State :=
  { wr 0xD0 TBL.BUSY 1 s with flowCmd := some ⟨op, rd s 0xD0 FLW.TBL_ADDR_INDEX, rdb s 0xD0 FLW.TBL_ADDR_ALL, flowBuf s⟩ }

/-- What each of the commands READ to FLUSH does when it is written to a free page. -/
theorem settle_flowPost {op : Nat} (h : TableFree s 0xD0) : settle s (flowPost op s) = .next (kept s (flowPosted op s)) :=
  settle_tblCmd h

theorem flowFlushDone_freed (hf : rdb s (held 0xD0) HFLW.FLUSHING = true) (hl : s.flushList = []) :
    exec .flowFlushDone s = .next (kept s (tblResult 0xD0 0 (wr (held 0xD0) HFLW.FLUSHING 0 s))) :=
  settle_onlyIf (decide_eq_true ⟨hf, hl⟩)

/-- EN set over the base and the seed in force frees nothing (R188). -/
theorem flowEnable_unchanged (hu : Unlocked s 0xD0) (hen : rdb s 0xD0 FLW.FLW_CTRL_EN = false)
    (hb : flowBase s = rd s (held 0xD0) HFLW.BASE) (hs : rd s 0xD0 FLW.HASH_SEED = rd s (held 0xD0) HFLW.SEED) :
    exec .flowEnable s = .next (kept s (wr 0xD0 FLW.FLW_CTRL_EN 1 s)) :=
  (settle_kept s _).trans (by simp only [hostCmd_unlocked hu, hen, hb, hs, Bool.false_eq_true, if_false, and_self, if_true])

theorem flowTableReady_freeing (h : rdb s (held 0xD0) HFLW.FREEING = true) :
    exec .flowTableReady s = .next (kept s (flowReady s)) :=
  settle_onlyIf (decide_eq_true (Or.inr h))

end FlowCommands

/-- Settles O24: the seven table commands are posted alike; a flush, an EN and the frees each meet their conditions. -/
theorem flowTableCommands : Obligations.FlowTableCommands := fun _ =>
  ⟨fun h => ⟨settle_flowPost h, settle_flowPost h, settle_flowPost h, settle_flowPost h, settle_flowPost h, settle_flowPost h,
      settle_flowPost h⟩,
    flowFlushDone_freed, flowEnable_unchanged, flowTableReady_freeing⟩

end Sys2Proof.Machine

namespace Sys2Proof.Machine

/-! ## The words of the buffers, and what withholds a buffer (R205, R206, R210, R211) -/

section Buffers

variable {s t u : State} {h h' seg op r cls k n reason pg v : Nat} {m : Meta} {f g : Field} {e : EvRec} {d : List Nat}

/-- The registers that decide which buffers of pools 0 to 3 are withheld: the parked channels, and the on-die shares, which place the spill
buffers in the channels. -/
def placeFields : List Field := SQR0.SQR_STATUS_CHAN_PARKED :: (List.range 3).map SQR0.POOL_ONDIE_MIB

theorem placeField_bit : ∀ g ∈ placeFields, g.off * 8 + g.lo < 32768 ∧ (g.off * 8 + g.lo) % 256 ≤ 64 := by decide

/-- A field of a page above 0x0E0, or one of that page behind the first 8 of each 32 bytes, in which the place fields lie. -/
def OffPlaces (pg : Nat) (f : Field) : Prop := 0xE0 < pg ∨ (pg = 0xE0 ∧ 64 < (f.off * 8 + f.lo) % 256)

theorem OffPlaces.key_ne (hf : OffPlaces pg f) : ∀ g ∈ placeFields, g.key 0xE0 ≠ f.key pg := by
  intro g hg
  have hbit := placeField_bit g hg
  unfold OffPlaces at hf
  unfold Field.key
  omega

theorem poolOndie_congr (hp : ∀ g ∈ placeFields, rd t 0xE0 g = rd s 0xE0 g) (p : Nat) : poolOndie t p = poolOndie s p := by
  by_cases h3 : p < 3
  · simp only [poolOndie, hp _ (List.mem_cons_of_mem _ (List.mem_map_of_mem (List.mem_range.mpr h3)))]
  · simp only [poolOndie, h3, if_false]

theorem withheld_congr (hp : ∀ g ∈ placeFields, rd t 0xE0 g = rd s 0xE0 g) (hb : t.dbeParked = s.dbeParked) (hd : t.dbeSlots = s.dbeSlots)
    (hs : slotIndex t h = slotIndex s h) : withheld t h = withheld s h := by
  have hpark : chanParked t = chanParked s := funext fun c => congrArg (bit · c) (hp _ List.mem_cons_self)
  simp only [withheld, handleChannel, dbeHeld, hs, hb, hd, hpark, poolOndie_congr hp]

theorem getBuf_congr (hb : Map.get none t.buffers h = Map.get none s.buffers h) (hw : withheld t h = withheld s h) :
    getBuf t h = getBuf s h := by
  simp only [getBuf, hb, hw]

/-- The two states hold the same metadata words, and withhold the same buffers. -/
structure SameBuffers (s t : State) : Prop where
  buffers : t.buffers = s.buffers
  slots : t.slots = s.slots
  detached : t.detached = s.detached
  dbeParked : t.dbeParked = s.dbeParked
  dbeSlots : t.dbeSlots = s.dbeSlots
  places : ∀ g ∈ placeFields, rd t 0xE0 g = rd s 0xE0 g

namespace SameBuffers

theorem refl (s : State) : SameBuffers s s := ⟨rfl, rfl, rfl, rfl, rfl, fun _ _ => rfl⟩

theorem trans (a : SameBuffers s t) (b : SameBuffers t u) : SameBuffers s u :=
  ⟨b.buffers.trans a.buffers, b.slots.trans a.slots, b.detached.trans a.detached, b.dbeParked.trans a.dbeParked,
    b.dbeSlots.trans a.dbeSlots, fun g hg => (b.places g hg).trans (a.places g hg)⟩

theorem withheld (a : SameBuffers s t) (h : Nat) : withheld t h = withheld s h :=
  withheld_congr a.places a.dbeParked a.dbeSlots (by simp only [slotIndex, slotOf, a.slots, a.detached])

theorem getBuf (a : SameBuffers s t) (h : Nat) : getBuf t h = getBuf s h := getBuf_congr (by rw [a.buffers]) (a.withheld h)

theorem wr (a : SameBuffers s t) (hf : OffPlaces pg f) : SameBuffers s (wr pg f v t) :=
  ⟨a.buffers, a.slots, a.detached, a.dbeParked, a.dbeSlots, fun g hg => (rd_wr_other (hf.key_ne g hg)).trans (a.places g hg)⟩

theorem inc (a : SameBuffers s t) (hp : 0xE0 < pg) : SameBuffers s (inc pg f t) := a.wr (.inl hp)

theorem pushEv (a : SameBuffers s t) : SameBuffers s (pushEv e t) :=
  a.trans ⟨pushEv_buffers .., pushEv_slots .., pushEv_detached .., pushEv_dbeParked .., pushEv_dbeSlots .., fun _ _ => rd_pushEv ..⟩

theorem raiseFirst (a : SameBuffers s t) : SameBuffers s (raiseFirst pg k d t) := by
  unfold Machine.raiseFirst
  split
  · exact a
  · exact pushEv ⟨a.buffers, a.slots, a.detached, a.dbeParked, a.dbeSlots, a.places⟩

theorem raiseFirstItem (a : SameBuffers s t) : SameBuffers s (raiseFirstItem n pg k d t) := by
  unfold Machine.raiseFirstItem
  split
  · exact a
  · exact pushEv ⟨a.buffers, a.slots, a.detached, a.dbeParked, a.dbeSlots, a.places⟩

theorem logRefusal (a : SameBuffers s t) : SameBuffers s (logRefusal r cls op reason h k t) := by
  have write {u : State} {f : Field} {v : Nat} (b : SameBuffers s u) : SameBuffers s (Machine.wr 0xE2 f v u) := b.wr (.inl (by decide))
  unfold Machine.logRefusal
  dsimp only
  split
  · split
    · exact pushEv (write (write (write (write (write (write a))))))
    · exact pushEv (write (write (write (write (write (write a))))))
  · exact write (write (write (write (write (write a)))))

theorem countReason (a : SameBuffers s t) : SameBuffers s (countReason reason t) := by
  have count {f : Field} : SameBuffers s (Machine.inc 0xE1 f t) := a.inc (by decide)
  unfold Machine.countReason
  repeat' split
  · exact count
  · exact count
  · exact count
  · exact count
  · exact count
  · exact a

/-- A refusal is logged, counted and raised, and touches no buffer (R206). -/
theorem refuseRef (a : SameBuffers s t) : SameBuffers s (refuseRef r cls op reason h k t) := by
  have counted {r : Nat} {f : Field} :
      SameBuffers s (Machine.inc 0xE1 f (Machine.countReason reason (Machine.logRefusal r cls op reason h k t))) :=
    a.logRefusal.countReason.inc (by decide)
  unfold Machine.refuseRef
  by_cases hr : r = 0xC
  · simp only [hr, if_true]
    split
    · exact counted.pushEv
    · exact counted.raiseFirstItem
  · simp only [hr, if_false]
    split
    · exact counted.pushEv
    · exact counted.raiseFirst

theorem forEach {α : Type} {l : List α} {f : α → State → State} (hf : ∀ x t, SameBuffers t (f x t)) (s : State) :
    SameBuffers s (forEach l f s) := by
  induction l generalizing s with
  | nil => exact refl s
  | cons x l ih => exact (hf x s).trans (ih (f x s))

end SameBuffers

theorem total_offPlaces (p : Nat) : OffPlaces 0xE0 (SQR0.TOTAL p) := .inr ⟨rfl, by simp only [SQR0.TOTAL]; omega⟩

theorem setTotals_same (s : State) : SameBuffers s (setTotals s) :=
  .forEach (fun p t => (SameBuffers.refl t).wr (total_offPlaces p)) s

theorem forEach_keeps {α β : Type} {l : List α} {f : α → State → State} (part : State → β) (hf : ∀ x t, part (f x t) = part t)
    (s : State) : part (forEach l f s) = part s := by
  induction l generalizing s with
  | nil => rfl
  | cons x l ih => exact (ih (f x s)).trans (hf x s)

theorem setTotals_freed (s : State) : (setTotals s).freed = s.freed := forEach_keeps State.freed (fun _ _ => wr_freed ..) s

/-! Writing a word, and a segment leaving its slot. -/

theorem getBuf_putBuf_self (h : Nat) (m : Meta) (s : State) :
    getBuf (putBuf h m s) h = { m with parked := m.parked || withheld s h } := by
  have word : (Map.get none (putBuf h m s).buffers h).getD blankMeta = m := by
    rw [putBuf, Map.get_put_same]
    split
    · next hm => exact hm.symm
    · rfl
  rw [getBuf, word]
  rfl

theorem getBuf_putBuf_other (hne : h' ≠ h) : getBuf (putBuf h m s) h' = getBuf s h' :=
  getBuf_congr (Map.get_put_other _ _ _ _ hne) rfl

theorem p4Handle_handleIndex (hp : handlePool h = 4) : p4Handle (handleIndex h) = h := by
  unfold handlePool at hp
  unfold p4Handle mkHandle handleIndex
  omega

theorem dropSlot_none (hs : slotOf s seg = none) : dropSlot seg s = s := by simp only [dropSlot, hs]

/-- A segment that leaves its slot leaves the other segments in theirs. -/
theorem slotIndex_dropSlot (hne : h ≠ p4Handle seg) : slotIndex (dropSlot seg s) h = slotIndex s h := by
  have others (hp : handlePool h = 4) : slotOf (dropSlot seg s) (handleIndex h) = slotOf s (handleIndex h) := by
    have hi : handleIndex h ≠ seg := fun he => hne (he ▸ (p4Handle_handleIndex hp).symm)
    unfold dropSlot
    split
    · rfl
    · simp only [slotOf, List.find?_filter]
      congr 1
      funext y
      by_cases hy : y.segment = handleIndex h
      · simp [hy, hi]
      · simp [hy]
  have hdet : (dropSlot seg s).detached = s.detached := by unfold dropSlot; split <;> rfl
  by_cases hp : handlePool h = 4
  · simp only [slotIndex, hdet, others hp]
  · simp only [slotIndex, hdet, hp, if_false]

theorem withheld_dropSlot (hne : h ≠ p4Handle seg) : withheld (dropSlot seg s) h = withheld s h := by
  have rest : (∀ g ∈ placeFields, rd (dropSlot seg s) 0xE0 g = rd s 0xE0 g) ∧ (dropSlot seg s).dbeParked = s.dbeParked
      ∧ (dropSlot seg s).dbeSlots = s.dbeSlots := by
    unfold dropSlot
    split
    · exact ⟨fun _ _ => rfl, rfl, rfl⟩
    · exact ⟨fun _ _ => rfl, rfl, rfl⟩
  exact withheld_congr rest.1 rest.2.1 rest.2.2 (slotIndex_dropSlot hne)

theorem getBuf_dropSlot_other (hne : h ≠ p4Handle seg) : getBuf (dropSlot seg s) h = getBuf s h := by
  refine getBuf_congr ?_ (withheld_dropSlot hne)
  unfold dropSlot
  split
  · rfl
  · dsimp only
    exact Map.get_put_other _ _ _ _ hne

/-- A word without references: COUNT and HOLDERS are 0 and ALLOCATED is clear. -/
def Meta.Cleared (m : Meta) : Prop := m.count = 0 ∧ m.holders = 0 ∧ m.allocated = false

theorem getBuf_dropSlot_cleared (hm : (getBuf s (p4Handle seg)).Cleared) : (getBuf (dropSlot seg s) (p4Handle seg)).Cleared := by
  cases hs : slotOf s seg with
  | none => rwa [dropSlot_none hs]
  | some x =>
    have hword : Map.get none (dropSlot seg s).buffers (p4Handle seg) = none := by
      simp only [dropSlot, hs]
      exact Map.get_put_same (none : Option Meta) ..
    simp only [getBuf, hword]
    exact ⟨rfl, rfl, rfl⟩

/-! Freeing a buffer (R205, R210 to R212). -/

/-- The word of a buffer when its last reference is gone: OWNER and CARVE stay. -/
def freedWord (m : Meta) : Meta := { m with count := 0, holders := 0, allocated := false, parked := false }

/-- The first half of a free: the word is cleared, the carve and the on-die count are credited. -/
def credited (h : Nat) (s : State) : State :=
  let c := carveUsed (getBuf s h).carve (handlePool h)
  let t := putBuf h (freedWord (getBuf s h)) { s with bufBytes := Map.put none s.bufBytes h none }
  let t := wr 0xE0 c (rd t 0xE0 c - 1) t
  if handlePool h < 3 ∧ handleIndex h < poolOndie t (handlePool h) then
    wr (held 0xE0) (HSQR.ONDIE_USED (handlePool h)) (rd t (held 0xE0) (HSQR.ONDIE_USED (handlePool h)) - 1) t
  else t

/-- The second half: a withheld slot loses its segment, and a buffer joins the tail of the free list or of the parked ones. -/
def rejoined (h : Nat) (s : State) : State :=
  if handlePool h = 4 then (if withheld s h then dropSlot (handleIndex h) s else s)
  else if dbeHeld s h then s
  else if inParkedChan s h then { s with parkedFree := s.parkedFree ++ [h] }
  else { s with freed := s.freed ++ [h] }

theorem freeBuf_eq (h : Nat) (s : State) :
    freeBuf h s = if (getBuf s h).parked then setTotals (rejoined h (credited h s)) else rejoined h (credited h s) := rfl

theorem carveUsed_cases (c p : Nat) :
    carveUsed c p = SQR0.INUSE_EXPRESS p ∨ carveUsed c p = SQR0.INUSE_CTRL p ∨ carveUsed c p = SQR0.INUSE_SHARED p := by
  unfold carveUsed
  split
  · exact .inl rfl
  · split
    · exact .inr (.inl rfl)
    · exact .inr (.inr rfl)

/-- The bit address of a carve's INUSE counter in its page. -/
theorem carveUsed_bit (c p : Nat) : (carveUsed c p).off * 8 + (carveUsed c p).lo = 256 * p + 1152
    ∨ (carveUsed c p).off * 8 + (carveUsed c p).lo = 256 * p + 1184 ∨ (carveUsed c p).off * 8 + (carveUsed c p).lo = 256 * p + 1216 := by
  obtain h | h | h := carveUsed_cases c p
  · exact .inl (by simp only [h, SQR0.INUSE_EXPRESS]; omega)
  · exact .inr (.inl (by simp only [h, SQR0.INUSE_CTRL]; omega))
  · exact .inr (.inr (by simp only [h, SQR0.INUSE_SHARED]; omega))

theorem carveUsed_offPlaces (c p : Nat) : OffPlaces 0xE0 (carveUsed c p) := by
  have hbit := carveUsed_bit c p
  exact .inr ⟨rfl, by omega⟩

theorem credited_same (h : Nat) (s : State) : SameBuffers (putBuf h (freedWord (getBuf s h)) s) (credited h s) := by
  have a : SameBuffers (putBuf h (freedWord (getBuf s h)) s)
      (putBuf h (freedWord (getBuf s h)) { s with bufBytes := Map.put none s.bufBytes h none }) :=
    ⟨rfl, rfl, rfl, rfl, rfl, fun _ _ => rfl⟩
  have b := fun v => a.wr (v := v) (carveUsed_offPlaces (getBuf s h).carve (handlePool h))
  unfold credited
  dsimp only
  split
  · exact (b _).wr (.inl (by decide))
  · exact b _

theorem credited_freed (h : Nat) (s : State) : (credited h s).freed = s.freed := by
  unfold credited
  dsimp only
  split <;> rfl

theorem withheld_credited (h : Nat) (s : State) : withheld (credited h s) h = withheld s h := (credited_same h s).withheld h

theorem rejoined_same (hw : handlePool h = 4 → withheld s h = false) : SameBuffers s (rejoined h s) := by
  unfold rejoined
  split
  · next hp =>
    rw [if_neg (Bool.eq_false_iff.mp (hw hp))]
    exact .refl s
  · split
    · exact .refl s
    · split
      · exact ⟨rfl, rfl, rfl, rfl, rfl, fun _ _ => rfl⟩
      · exact ⟨rfl, rfl, rfl, rfl, rfl, fun _ _ => rfl⟩

theorem rejoined_withheldSlot (hp : handlePool h = 4) (hw : withheld s h = true) : rejoined h s = dropSlot (handleIndex h) s := by
  simp only [rejoined, hp, hw, if_true]

theorem rejoined_freed (hp : handlePool h < 4) (hw : withheld s h = false) : (rejoined h s).freed = s.freed ++ [h] := by
  have hparts : inParkedChan s h = false ∧ dbeHeld s h = false := Bool.or_eq_false_iff.mp hw
  simp only [rejoined, Nat.ne_of_lt hp, hparts.1, hparts.2, Bool.false_eq_true, if_false]

/-- A free changes the words as its two halves do. -/
theorem freeBuf_same (h : Nat) (s : State) : SameBuffers (rejoined h (credited h s)) (freeBuf h s) := by
  rw [freeBuf_eq]
  split
  · exact setTotals_same _
  · exact .refl _

theorem getBuf_freeBuf_self (hw : handlePool h = 4 → withheld s h = false) :
    getBuf (freeBuf h s) h = { freedWord (getBuf s h) with parked := withheld s h } := by
  have hw' : handlePool h = 4 → withheld (credited h s) h = false := by rwa [withheld_credited]
  rw [((rejoined_same hw').trans (freeBuf_same h s)).getBuf, (credited_same h s).getBuf, getBuf_putBuf_self]
  rfl

theorem getBuf_credited_cleared (h : Nat) (s : State) : (getBuf (credited h s) h).Cleared := by
  rw [(credited_same h s).getBuf, getBuf_putBuf_self]
  exact ⟨rfl, rfl, rfl⟩

theorem getBuf_freeBuf_cleared (h : Nat) (s : State) : (getBuf (freeBuf h s) h).Cleared := by
  rw [(freeBuf_same h s).getBuf]
  have hcleared := getBuf_credited_cleared h s
  by_cases hw : handlePool h = 4 ∧ withheld (credited h s) h = true
  · have hdrop := getBuf_dropSlot_cleared (seg := handleIndex h) (s := credited h s)
    rw [p4Handle_handleIndex hw.1] at hdrop
    rw [rejoined_withheldSlot hw.1 hw.2]
    exact hdrop hcleared
  · rwa [(rejoined_same (by simpa using hw)).getBuf]

theorem getBuf_freeBuf_other (hne : h' ≠ h) : getBuf (freeBuf h s) h' = getBuf s h' := by
  rw [(freeBuf_same h s).getBuf, ← getBuf_putBuf_other (s := s) (m := freedWord (getBuf s h)) hne, ← (credited_same h s).getBuf]
  by_cases hw : handlePool h = 4 ∧ withheld (credited h s) h = true
  · rw [rejoined_withheldSlot hw.1 hw.2, getBuf_dropSlot_other (by rwa [p4Handle_handleIndex hw.1])]
  · exact (rejoined_same (by simpa using hw)).getBuf h'

theorem freeBuf_freed (hp : handlePool h < 4) (hw : withheld s h = false) : (freeBuf h s).freed = s.freed ++ [h] := by
  have hr : (rejoined h (credited h s)).freed = s.freed ++ [h] := by
    rw [rejoined_freed hp (by rwa [withheld_credited]), credited_freed]
  rw [freeBuf_eq]
  split
  · exact (setTotals_freed _).trans hr
  · exact hr

end Buffers

/-! ## Reference operations (R205, R206, Table 7.6) -/

section References

variable {s : State} {h h' op r cls k : Nat}

/-! The reason for a refusal, by the order of R206. -/

theorem refReason_off (hon : poolsOn s = false) : refReason s op cls h = 6 := by simp [refReason, hon]

theorem refReason_badHandle (hon : poolsOn s = true) (hb : badHandle s h = true) : refReason s op cls h = 4 := by
  simp [refReason, hon, hb]

/-- On a valid handle whose buffer is not allocated, only the INC of a staged P4 segment goes on. -/
theorem refReason_notAllocated (hon : poolsOn s = true) (hb : badHandle s h = false) (ha : (getBuf s h).allocated = false)
    (hx : ¬ (handlePool h = 4 ∧ op = opInc)) : refReason s op cls h = if op = opDec then 1 else 7 := by
  simp [refReason, hon, hb, ha, hx]

theorem refReason_allocated (hon : poolsOn s = true) (hb : badHandle s h = false) (ha : (getBuf s h).allocated = true) :
    refReason s op cls h =
      if (getBuf s h).parked = true ∧ op = opInc then 5
      else if op = opDec ∧ bit (getBuf s h).holders cls = false then 2
      else if op = opInc ∧ (getBuf s h).count = 255 then 3
      else 0 := by
  simp [refReason, hon, hb, ha]

/-! What an operation does. -/

theorem refOp_applied (hr : refReason s op cls h = 0) : refOp op r cls h k s = (applyRef op cls h s, true) := by simp [refOp, hr]

theorem refOp_refused (hr : refReason s op cls h ≠ 0) :
    refOp op r cls h k s = (refuseRef r cls op (refReason s op cls h) h k s, false) := by simp [refOp, hr]

theorem refOp_refused_same (hf : (refOp op r cls h k s).2 = false) : SameBuffers s (refOp op r cls h k s).1 := by
  have hr : refReason s op cls h ≠ 0 := fun h0 => by simp [refOp_applied h0] at hf
  rw [refOp_refused hr]
  exact (SameBuffers.refl s).refuseRef

theorem getBuf_applyRef_other (hne : h' ≠ h) : getBuf (applyRef op cls h s) h' = getBuf s h' := by
  unfold applyRef
  dsimp only
  split
  · split
    · exact getBuf_putBuf_other hne
    · exact (((SameBuffers.refl _).wr (.inr ⟨rfl, by decide⟩)).getBuf h').trans (getBuf_putBuf_other hne)
  · split
    · exact getBuf_putBuf_other hne
    · split
      · exact getBuf_freeBuf_other hne
      · exact getBuf_putBuf_other hne

theorem getBuf_refOp_other (hne : h' ≠ h) : getBuf (refOp op r cls h k s).1 h' = getBuf s h' := by
  by_cases hr : refReason s op cls h = 0
  · rw [refOp_applied hr]
    exact getBuf_applyRef_other hne
  · rw [refOp_refused hr]
    exact (SameBuffers.refl s).refuseRef.getBuf h'

theorem applyRef_inc (ha : (getBuf s h).allocated = true) :
    applyRef opInc cls h s = putBuf h { getBuf s h with count := (getBuf s h).count + 1, holders := (getBuf s h).holders ||| 2 ^ cls } s := by
  simp [applyRef, ha]

theorem applyRef_handover :
    applyRef opHandover cls h s = putBuf h { getBuf s h with holders := (getBuf s h).holders ||| 2 ^ cls } s := rfl

theorem applyRef_dec (hc : 1 < (getBuf s h).count) :
    applyRef opDec cls h s = putBuf h { getBuf s h with count := (getBuf s h).count - 1 } s :=
  if_neg (Nat.not_le.mpr hc)

theorem applyRef_decLast (hc : (getBuf s h).count ≤ 1) : applyRef opDec cls h s = freeBuf h s := if_pos hc

/-- PARKED reads 1 of a withheld buffer, so that writing a word with PARKED as it reads changes nothing of it. -/
theorem getBuf_parked_or : ((getBuf s h).parked || withheld s h) = (getBuf s h).parked := by
  simp [getBuf]

theorem getBuf_putBuf_sameParked {m : Meta} (hm : m.parked = (getBuf s h).parked) : getBuf (putBuf h m s) h = m := by
  rw [getBuf_putBuf_self, hm, getBuf_parked_or, ← hm]

section Allocated

variable (hon : poolsOn s = true) (hb : badHandle s h = false) (ha : (getBuf s h).allocated = true)

include hon hb ha

theorem refReason_inc_parked (hp : (getBuf s h).parked = true) : refReason s opInc cls h = 5 := by
  simp [refReason_allocated hon hb ha, hp]

theorem refReason_dec_notHolder (hn : bit (getBuf s h).holders cls = false) : refReason s opDec cls h = 2 := by
  simp [refReason_allocated hon hb ha, hn, opDec, opInc]

theorem refReason_inc_saturated (hp : (getBuf s h).parked = false) (hc : (getBuf s h).count = 255) : refReason s opInc cls h = 3 := by
  simp [refReason_allocated hon hb ha, hp, hc, opDec, opInc]

theorem refOp_inc (hp : (getBuf s h).parked = false) (hc : (getBuf s h).count ≠ 255) :
    (refOp opInc r cls h k s).2 = true ∧ getBuf (refOp opInc r cls h k s).1 h
      = { getBuf s h with count := (getBuf s h).count + 1, holders := (getBuf s h).holders ||| 2 ^ cls } := by
  have hr : refReason s opInc cls h = 0 := by simp [refReason_allocated hon hb ha, hp, hc, opDec, opInc]
  rw [refOp_applied hr, applyRef_inc ha]
  exact ⟨rfl, getBuf_putBuf_sameParked rfl⟩

theorem refOp_handover :
    (refOp opHandover r cls h k s).2 = true ∧ getBuf (refOp opHandover r cls h k s).1 h
      = { getBuf s h with holders := (getBuf s h).holders ||| 2 ^ cls } := by
  have hr : refReason s opHandover cls h = 0 := by simp [refReason_allocated hon hb ha, opHandover, opDec, opInc]
  rw [refOp_applied hr, applyRef_handover]
  exact ⟨rfl, getBuf_putBuf_sameParked rfl⟩

theorem refReason_dec_holder (hh : bit (getBuf s h).holders cls = true) : refReason s opDec cls h = 0 := by
  simp [refReason_allocated hon hb ha, hh, opDec, opInc]

theorem refOp_dec (hh : bit (getBuf s h).holders cls = true) (hc : 1 < (getBuf s h).count) :
    (refOp opDec r cls h k s).2 = true ∧ getBuf (refOp opDec r cls h k s).1 h = { getBuf s h with count := (getBuf s h).count - 1 } := by
  rw [refOp_applied (refReason_dec_holder hon hb ha hh), applyRef_dec hc]
  exact ⟨rfl, getBuf_putBuf_sameParked rfl⟩

theorem refOp_decLast (hh : bit (getBuf s h).holders cls = true) (hc : (getBuf s h).count ≤ 1) :
    refOp opDec r cls h k s = (freeBuf h s, true) := by
  rw [refOp_applied (refReason_dec_holder hon hb ha hh), applyRef_decLast hc]

end Allocated

end References

/-- Settles O55: a refusal touches no buffer, an operation writes its own word alone, and the last DEC frees. -/
theorem referenceCounts : Obligations.ReferenceCounts := by
  intro s r cls h k
  refine ⟨fun _ _ => getBuf_refOp_other, fun _ hf => (refOp_refused_same hf).buffers, fun hon hb ha =>
    ⟨refOp_inc hon hb ha, refOp_handover hon hb ha, refOp_dec hon hb ha, fun hh hc => ?_, refReason_inc_parked hon hb ha,
      refReason_dec_notHolder hon hb ha, refReason_inc_saturated hon hb ha⟩,
    fun hon hb ha => ⟨?_, ?_, ?_⟩, fun hon hb _ => refReason_badHandle hon hb, fun hon _ => refReason_off hon⟩
  · obtain ⟨hcount, hholders, halloc⟩ := getBuf_freeBuf_cleared h s
    simp only [refOp_decLast hon hb ha hh hc]
    exact ⟨trivial, hcount, hholders, halloc, fun hw => getBuf_freeBuf_self fun h4 => hw.resolve_left (by omega), freeBuf_freed⟩
  · exact refReason_notAllocated hon hb ha (by simp [opDec, opInc])
  · exact refReason_notAllocated hon hb ha (by simp [opHandover, opInc])
  · exact fun h4 => refReason_notAllocated hon hb ha (by simp [h4])

end Sys2Proof.Machine

namespace Sys2Proof.Machine

/-! ## The ranking of a core cycle (R201) -/

section Ranking

variable {s : State} {c i k r : Nat} {q : BufReq}

theorem rankOf_lt (c r : Nat) : rankOf c r < 12 := Nat.mod_lt _ (by decide)

/-- The requester at place `i` of the ranking. -/
theorem rankOf_place (hi : i < 12) : rankOf c ((4 * (c % 3) + i) % 12) = i := by
  unfold rankOf
  omega

/-- A block has a multiple of three core cycles, so that the ranking is the same in every block. -/
theorem rankOf_startOf_add (k c r : Nat) : rankOf (startOf k + c) r = rankOf c r := by
  have h3 : (startOf k + c) % 3 = c % 3 := by
    simp only [startOf, blockCycles]
    omega
  simp only [rankOf, h3]

/-- Requester `r` is among the first four in the cycles whose ranking starts at its own group of four. -/
theorem exists_rankOf_lt_four (c r : Nat) : ∃ d < 3, rankOf (c + d) r < 4 := by
  refine ⟨(r / 4 + 2 * c) % 3, Nat.mod_lt _ (by decide), ?_⟩
  unfold rankOf
  omega

theorem mem_ranking : q ∈ ranking s c ↔ q ∈ s.requests ∧ q.cycle < c := by
  refine ⟨fun hq => ?_, fun ⟨hq, hc⟩ => ?_⟩
  · obtain ⟨i, -, hi⟩ := List.mem_flatMap.mp hq
    obtain ⟨hmem, hrank⟩ := List.mem_filter.mp hi
    exact ⟨hmem, (of_decide_eq_true hrank).2⟩
  · exact List.mem_flatMap.mpr ⟨rankOf c q.requester, List.mem_range.mpr (rankOf_lt ..), List.mem_filter.mpr ⟨hq, decide_eq_true ⟨rfl, hc⟩⟩⟩

theorem ranking_pairwise (s : State) (c : Nat) : (ranking s c).Pairwise (fun x y => rankOf c x.requester ≤ rankOf c y.requester) := by
  have rank_eq {i : Nat} {x : BufReq} (hx : x ∈ s.requests.filter (fun q => rankOf c q.requester = i ∧ q.cycle < c)) :
      rankOf c x.requester = i :=
    (of_decide_eq_true (List.mem_filter.mp hx).2).1
  refine List.pairwise_flatMap.mpr ⟨fun i _ => ?_, ?_⟩
  · exact List.pairwise_of_forall_mem_list fun x hx y hy => Nat.le_of_eq ((rank_eq hx).trans (rank_eq hy).symm)
  · exact List.pairwise_lt_range.imp fun hij x hx y hy => by
      rw [rank_eq hx, rank_eq hy]
      exact Nat.le_of_lt hij

end Ranking

/-! ## What an allocation leaves of the Roundabout -/

section Allocation

variable {s t u : State} {c n p p' h r size carve cls pg v b : Nat} {f : Field} {d : List Nat} {e : EvRec}

/-- The requests, those that have won, and the grants of the cycle last ranked are the same in both states. -/
structure SameRanking (s t : State) : Prop where
  requests : t.requests = s.requests
  won : t.won = s.won
  cycle : rd t (held 0xE0) HSQR.WIN_CYCLE = rd s (held 0xE0) HSQR.WIN_CYCLE
  count : rd t (held 0xE0) HSQR.WIN_COUNT = rd s (held 0xE0) HSQR.WIN_COUNT

/-- A field that lies below the record of the cycle last ranked, which begins at 0x10C of the held page. -/
def BelowWin (pg : Nat) (f : Field) : Prop := (pg < held 0xE0 ∧ f.off * 8 + f.lo < 32768) ∨ (pg = held 0xE0 ∧ f.off * 8 + f.lo < 0x10C * 8)

theorem BelowWin.key_ne (hf : BelowWin pg f) : HSQR.WIN_CYCLE.key (held 0xE0) ≠ f.key pg ∧ HSQR.WIN_COUNT.key (held 0xE0) ≠ f.key pg := by
  simp only [BelowWin, held] at hf
  simp only [Field.key, HSQR.WIN_CYCLE, HSQR.WIN_COUNT, held]
  omega

namespace SameRanking

theorem refl (s : State) : SameRanking s s := ⟨rfl, rfl, rfl, rfl⟩

theorem trans (a : SameRanking s t) (b : SameRanking t u) : SameRanking s u :=
  ⟨b.requests.trans a.requests, b.won.trans a.won, b.cycle.trans a.cycle, b.count.trans a.count⟩

theorem wr (a : SameRanking s t) (hf : BelowWin pg f) : SameRanking s (wr pg f v t) :=
  ⟨a.requests, a.won, (rd_wr_other hf.key_ne.1).trans a.cycle, (rd_wr_other hf.key_ne.2).trans a.count⟩

theorem pushEv (a : SameRanking s t) : SameRanking s (pushEv e t) :=
  a.trans ⟨pushEv_requests .., pushEv_won .., rd_pushEv .., rd_pushEv ..⟩

theorem raiseFirst (a : SameRanking s t) : SameRanking s (raiseFirst pg b d t) := by
  unfold Machine.raiseFirst
  split
  · exact a
  · exact pushEv ⟨a.requests, a.won, a.cycle, a.count⟩

end SameRanking

theorem nextOndie_belowWin (hp : p < 4) : BelowWin (held 0xE0) (HSQR.NEXT_ONDIE p) := .inr ⟨rfl, by simp only [HSQR.NEXT_ONDIE]; omega⟩

theorem nextSpill_belowWin (hp : p < 4) : BelowWin (held 0xE0) (HSQR.NEXT_SPILL p) := .inr ⟨rfl, by simp only [HSQR.NEXT_SPILL]; omega⟩

theorem ondieUsed_belowWin (hp : p < 4) : BelowWin (held 0xE0) (HSQR.ONDIE_USED p) := .inr ⟨rfl, by simp only [HSQR.ONDIE_USED]; omega⟩

theorem carveUsed_belowWin (c : Nat) (hp : p < 4) : BelowWin 0xE0 (carveUsed c p) := by
  have hbit := carveUsed_bit c p
  exact .inl ⟨by decide, by omega⟩

theorem grantsCount_belowWin (hr : r < 12) : BelowWin 0xE1 (SQR1.GRANTS r) := .inl ⟨by decide, by simp only [SQR1.GRANTS]; omega⟩

theorem emptyCount_belowWin (hr : r < 12) : BelowWin 0xE1 (SQR1.EMPTY r) := .inl ⟨by decide, by simp only [SQR1.EMPTY]; omega⟩

theorem borrowedCount_belowWin (hr : r < 12) : BelowWin 0xE1 (SQR1.BORROWED r) := .inl ⟨by decide, by simp only [SQR1.BORROWED]; omega⟩

theorem takeOndie_same (hp : p < 4) (ht : takeOndie p n s = some (h, t)) : SameRanking s t := by
  induction n generalizing s with
  | zero => exact absurd ht (by simp [takeOndie])
  | succ n ih =>
    have next {v : Nat} : SameRanking s (wr (held 0xE0) (HSQR.NEXT_ONDIE p) v s) := (SameRanking.refl s).wr (nextOndie_belowWin hp)
    unfold takeOndie at ht
    dsimp only at ht
    split at ht
    · split at ht
      · exact next.trans (ih ht)
      · cases ht
        exact next
    · split at ht
      · cases ht
        exact ⟨rfl, rfl, rfl, rfl⟩
      · cases ht

theorem takeSpill_same (hp : p < 4) (ht : takeSpill p n s = some (h, t)) : SameRanking s t := by
  induction n generalizing s with
  | zero => exact absurd ht (by simp [takeSpill])
  | succ n ih =>
    have next {v : Nat} : SameRanking s (wr (held 0xE0) (HSQR.NEXT_SPILL p) v s) := (SameRanking.refl s).wr (nextSpill_belowWin hp)
    unfold takeSpill at ht
    dsimp only at ht
    split at ht
    · split at ht
      · exact next.trans (ih ht)
      · split at ht
        · have rest := ih ht
          exact next.trans ⟨rest.requests, rest.won, rest.cycle, rest.count⟩
        · cases ht
          exact next
    · split at ht
      · cases ht
        exact ⟨rfl, rfl, rfl, rfl⟩
      · cases ht

theorem takeFrom_same (hp : p < 4) (ht : takeFrom p carve s = some (h, t)) : SameRanking s t := by
  unfold takeFrom at ht
  dsimp only at ht
  split at ht
  · obtain ⟨⟨h', t'⟩, htaken, hsome⟩ := Option.map_eq_some_iff.mp ht
    cases hsome
    exact (takeOndie_same hp htaken).wr (ondieUsed_belowWin hp)
  · exact takeSpill_same hp ht

theorem poolFit_lt (hf : poolFit s size = some p) : p < 4 := List.mem_range.mp (List.mem_of_find?_eq_some hf)

theorem chooseFrom_lt (hp : p < 4) (hc : chooseFrom s carve p n = some (p', c)) : p' < 4 := by
  induction n generalizing p with
  | zero => exact absurd hc (by simp [chooseFrom])
  | succ n ih =>
    unfold chooseFrom at hc
    split at hc
    · cases hc
      exact hp
    · split at hc
      · cases hc
        exact hp
      · split at hc
        · cases hc
        · next hlast => exact ih (by omega) hc

theorem emptyResult_same (hr : r < 12) (a : SameRanking s t) : SameRanking s (emptyResult r t) := a.wr (emptyCount_belowWin hr)

/-- An allocation leaves the requests and the grants as they are (R196 to R203). -/
theorem allocate_same (hr : r < 12) (s : State) : SameRanking s (allocate r size carve cls s).2 := by
  have empty := emptyResult_same hr (SameRanking.refl s)
  unfold allocate
  split
  · exact empty
  · split
    · exact emptyResult_same hr ((SameRanking.refl s).wr (.inl (by decide)))
    · next p0 hfit =>
      split
      · exact empty.raiseFirst
      · next p c hchoose =>
        have hp := chooseFrom_lt (poolFit_lt hfit) hchoose
        split
        · exact empty.raiseFirst
        · next h t htake =>
          have word : SameRanking s (putBuf h ⟨1, 2 ^ cls, r, c, true, false⟩ t) := (takeFrom_same hp htake).trans ⟨rfl, rfl, rfl, rfl⟩
          have charged {v : Nat} := word.wr (v := v) (carveUsed_belowWin c hp)
          dsimp only
          split
          · exact charged.wr (grantsCount_belowWin hr)
          · exact (charged.wr (borrowedCount_belowWin hr)).wr (grantsCount_belowWin hr)

end Allocation

/-! ## The grants of a cycle (R201) -/

section Grants

variable {s : State} {c r r' : Nat} {q : BufReq} {l : List BufReq}

/-- The allocation of a request that wins, which no longer waits. -/
def grantAlloc (q : BufReq) (s : State) : Nat × State :=
  allocate q.requester q.size q.carve q.cls { s with requests := s.requests.filter (fun x => x.requester ≠ q.requester) }

theorem grant_eq : grant c q s = { (grantAlloc q s).2 with won := (grantAlloc q s).2.won ++ [⟨q, c, (grantAlloc q s).1⟩] } := rfl

theorem grantAlloc_same (hq : q.requester < 12) :
    SameRanking { s with requests := s.requests.filter (fun x => x.requester ≠ q.requester) } (grantAlloc q s).2 := allocate_same hq _

/-- The grants so far: each request with the cycle in which it won. -/
def grantsGiven (s : State) : List (BufReq × Nat) := s.won.map (fun w => (w.req, w.cycle))

theorem grantsGiven_grant (hq : q.requester < 12) : grantsGiven (grant c q s) = grantsGiven s ++ [(q, c)] := by
  simp [grantsGiven, grant_eq, (grantAlloc_same hq).won]

theorem requests_grant (hq : q.requester < 12) :
    (grant c q s).requests = s.requests.filter (fun x => x.requester ≠ q.requester) := (grantAlloc_same hq).requests

theorem givenIn_grant (hq : q.requester < 12) (c' : Nat) : givenIn (grant c q s) c' = givenIn s c' := by
  have hcycle : rd (grant c q s) (held 0xE0) HSQR.WIN_CYCLE = rd s (held 0xE0) HSQR.WIN_CYCLE := (grantAlloc_same hq).cycle
  have hcount : rd (grant c q s) (held 0xE0) HSQR.WIN_COUNT = rd s (held 0xE0) HSQR.WIN_COUNT := (grantAlloc_same hq).count
  simp only [givenIn, hcycle, hcount]

theorem grantsGiven_grants (hl : ∀ q ∈ l, q.requester < 12) : grantsGiven (forEach l (grant c) s) = grantsGiven s ++ l.map (fun q => (q, c)) := by
  induction l generalizing s with
  | nil => exact (List.append_nil _).symm
  | cons q l ih =>
    have hq := hl q List.mem_cons_self
    calc grantsGiven (forEach (q :: l) (grant c) s) = grantsGiven (grant c q s) ++ l.map (fun q => (q, c)) :=
          ih fun x hx => hl x (List.mem_cons_of_mem _ hx)
      _ = grantsGiven s ++ (q :: l).map (fun q => (q, c)) := by simp [grantsGiven_grant hq]

theorem requests_grants (hl : ∀ q ∈ l, q.requester < 12) :
    (forEach l (grant c) s).requests = s.requests.filter (fun x => decide (∀ y ∈ l, y.requester ≠ x.requester)) := by
  induction l generalizing s with
  | nil => exact (List.filter_eq_self.mpr fun _ _ => decide_eq_true fun _ hy => absurd hy List.not_mem_nil).symm
  | cons q l ih =>
    have hq := hl q List.mem_cons_self
    have hrest := ih (s := grant c q s) fun x hx => hl x (List.mem_cons_of_mem _ hx)
    rw [requests_grant hq, List.filter_filter] at hrest
    refine hrest.trans (List.filter_congr fun x _ => ?_)
    rw [← Bool.decide_and]
    exact decide_eq_decide.mpr (by rw [List.forall_mem_cons, and_comm, ne_comm])

theorem givenIn_grants (hl : ∀ q ∈ l, q.requester < 12) (c' : Nat) : givenIn (forEach l (grant c) s) c' = givenIn s c' := by
  induction l generalizing s with
  | nil => rfl
  | cons q l ih =>
    exact (ih fun x hx => hl x (List.mem_cons_of_mem _ hx)).trans (givenIn_grant (hl q List.mem_cons_self) c')

/-- The state in which cycle `c` is the one last ranked, with `n` grants. -/
def ranked (c n : Nat) (s : State) : State := wr (held 0xE0) HSQR.WIN_COUNT n (wr (held 0xE0) HSQR.WIN_CYCLE c s)

theorem givenIn_ranked {n : Nat} (hc : c < 2 ^ 64) (hn : n < 16) : givenIn (ranked c n s) c = n := by
  have hcycle : rd (ranked c n s) (held 0xE0) HSQR.WIN_CYCLE = c :=
    (rd_wr_off (by decide)).trans ((rd_wr_self ..).trans (Nat.mod_eq_of_lt hc))
  have hcount : rd (ranked c n s) (held 0xE0) HSQR.WIN_COUNT = n := (rd_wr_self ..).trans (Nat.mod_eq_of_lt hn)
  simp only [givenIn, hcycle, hcount, if_true]

/-- The requests that win in cycle `c`: the first of the ranking, four with those already granted in it. -/
def winners (s : State) (c : Nat) : List BufReq := (ranking s c).take (4 - givenIn s c)

theorem grantCycle_eq : grantCycle c s = forEach (winners s c) (grant c) (ranked c (givenIn s c + (winners s c).length) s) := rfl

theorem requester_lt_of_winner (hs : ∀ x ∈ s.requests, x.requester < 12) : ∀ q ∈ winners s c, q.requester < 12 :=
  fun q hq => hs q (mem_ranking.mp (List.mem_of_mem_take hq)).1

theorem winners_length (h4 : givenIn s c ≤ 4) : givenIn s c + (winners s c).length ≤ 4 := by
  have htake : (winners s c).length ≤ 4 - givenIn s c := List.length_take_le ..
  omega

theorem givenIn_grantCycle (hs : ∀ x ∈ s.requests, x.requester < 12) (hc : c < 2 ^ 64) (h4 : givenIn s c ≤ 4) :
    givenIn (grantCycle c s) c = givenIn s c + (winners s c).length ∧ givenIn (grantCycle c s) c ≤ 4 := by
  have hlen := winners_length h4
  have hgiven : givenIn (grantCycle c s) c = givenIn s c + (winners s c).length := by
    rw [grantCycle_eq, givenIn_grants (requester_lt_of_winner hs), givenIn_ranked hc (by omega)]
  exact ⟨hgiven, hgiven ▸ hlen⟩

end Grants

/-! ## The turn of a reference operation (R205) -/

section Turn

variable {s : State} {c r r' : Nat}

theorem rd_noteTurn_cycle (hc : c < 2 ^ 64) : rd (noteTurn r c s) (held 0xE0) HSQR.REF_CYCLE = c := by
  unfold noteTurn
  rw [rd_wr_off (by decide), rd_wr_off (by decide), rd_wr_self]
  exact Nat.mod_eq_of_lt hc

theorem rd_noteTurn_rank : rd (noteTurn r c s) (held 0xE0) HSQR.REF_RANK = rankOf c r := by
  unfold noteTurn
  rw [rd_wr_off (by decide), rd_wr_self]
  exact Nat.mod_eq_of_lt (Nat.lt_trans (rankOf_lt c r) (by decide))

/-- A cycle that has had an operation counts one at least, as long as its count has not wrapped. -/
theorem rd_noteTurn_count (hn : rd s (held 0xE0) HSQR.REF_COUNT ≤ 4) : rd (noteTurn r c s) (held 0xE0) HSQR.REF_COUNT ≠ 0 := by
  unfold noteTurn
  rw [rd_wr_self]
  simp only [HSQR.REF_COUNT] at hn ⊢
  split <;> omega

theorem refTurn_noteTurn (hc : c < 2 ^ 64) (hn : rd s (held 0xE0) HSQR.REF_COUNT ≤ 4) (ht : refTurn (noteTurn r c s) r' c = true) :
    rankOf c r < rankOf c r' := by
  have hcount := rd_noteTurn_count (r := r) (c := c) hn
  have hturn : rd (noteTurn r c s) (held 0xE0) HSQR.REF_COUNT < 4 ∧ rankOf c r < rankOf c r' := by
    simpa [refTurn, rd_noteTurn_cycle hc, rd_noteTurn_rank, hcount] using ht
  exact hturn.2

end Turn

/-- Settles O60: the ranking by arithmetic, the grants by induction on the winners, the turn by what the operation before it left. -/
theorem roundaboutOrder : Obligations.RoundaboutOrder := fun s c k _ r _ _ _ _ hi hc hs =>
  ⟨rankOf_place hi, rankOf_startOf_add k c r, exists_rankOf_lt_four c r, mem_ranking, ranking_pairwise s c,
    ⟨grantsGiven_grants (requester_lt_of_winner hs), requests_grants (requester_lt_of_winner hs), givenIn_grantCycle hs hc⟩,
    refTurn_noteTurn hc⟩

end Sys2Proof.Machine

namespace Sys2Proof.Machine

/-! ## Requests and their answers (R200 to R203) -/

section Requests

variable {s : State} {r size carve cls cyc t : Nat} {w : WonReq}

theorem presentRequest_free (hn : s.requests.any (fun x => decide (x.requester = r)) = false) :
    presentRequest r size carve cls t s = { s with requests := s.requests ++ [⟨r, size, carve, cls, t⟩] } :=
  if_neg (Bool.eq_false_iff.mp hn)

/-- An answer that carries a handle leaves it with its requester, and nothing is presented again. -/
theorem answerRequest_handle (hf : s.won.find? (fun x => decide (x.req.requester = r ∧ x.cycle + 3 = t)) = some w) (hw : w.handle ≠ emptyHandle) :
    answerRequest r t s = wr (held 0xE0) (HSQR.ANSWER r) w.handle { s with won := s.won.erase w } := by
  simp only [answerRequest, hf, hw, false_and, if_false]

theorem bufferRequest_served (hr : r < 12) (hok : requestOk r carve cls = true) (hc : cyc < 2430) :
    exec (.bufferRequest r size carve cls cyc) s = .next (kept s (
      presentRequest r size carve cls (startOf (now s) + cyc) (serveTo (startOf (now s) + cyc) s))) :=
  settle_onlyIf (decide_eq_true ⟨hr, hok, hc⟩)

theorem bufferRequest_waits (hr : r < 12) (hok : requestOk r carve cls = true) (hc : cyc < 2430)
    (hn : (serveTo (startOf (now s) + cyc) s).requests.any (fun x => decide (x.requester = r)) = false) :
    exec (.bufferRequest r size carve cls cyc) s = .next (kept s { serveTo (startOf (now s) + cyc) s with
      requests := (serveTo (startOf (now s) + cyc) s).requests ++ [⟨r, size, carve, cls, startOf (now s) + cyc⟩] }) := by
  rw [bufferRequest_served hr hok hc, presentRequest_free hn]

theorem bufferAnswer_served (hr : r < 12) (hc : cyc < 2430) :
    exec (.bufferAnswer r cyc) s = .next (kept s (answerRequest r (startOf (now s) + cyc) (serveTo (startOf (now s) + cyc) s))) :=
  settle_onlyIf (decide_eq_true ⟨hr, hc⟩)

theorem bufferAnswer_handle (hr : r < 12) (hc : cyc < 2430)
    (hf : (serveTo (startOf (now s) + cyc) s).won.find? (fun x => decide (x.req.requester = r ∧ x.cycle + 3 = startOf (now s) + cyc)) = some w)
    (hw : w.handle ≠ emptyHandle) :
    exec (.bufferAnswer r cyc) s = .next (kept s (wr (held 0xE0) (HSQR.ANSWER r) w.handle
      { serveTo (startOf (now s) + cyc) s with won := (serveTo (startOf (now s) + cyc) s).won.erase w })) := by
  rw [bufferAnswer_served hr hc, answerRequest_handle hf hw]

end Requests

/-! ## Enabling the pools, their table commands and the refusal log (R213, R217) -/

section Pools

variable {s : State}

theorem poolsReady_building (hb : rdb s (held 0xE0) HSQR.BUILDING = true) (he : rdb s 0xE0 COM.PAGE_CTRL_ENABLE = true) :
    exec .poolsReady s = .next (kept s (wr 0xE0 SQR0.SQR_STATUS_READY 1 (wr (held 0xE0) HSQR.BUILDING 0 s))) :=
  settle_onlyIf (by rw [hb, he]; rfl)

theorem sqrDisable_unlocked (hu : Unlocked s 0xE0) : exec .sqrDisable s = .next (kept s (sqrDisable s)) :=
  (settle_kept s _).trans (by rw [hostCmd_unlocked hu])

theorem sqrDisable_enabled (hu : Unlocked s 0xE0) (he : rdb s 0xE0 COM.PAGE_CTRL_ENABLE = true) :
    exec .sqrDisable s = .next (kept s (wr (held 0xE0) HSQR.CLEAR_REQ 1 s)) := by
  rw [sqrDisable_unlocked hu, sqrDisable, onlyIf_true he]

theorem sqrEnable_unlocked (hu : Unlocked s 0xE0) : exec .sqrEnable s = .next (kept s (sqrEnable s)) :=
  (settle_kept s _).trans (by rw [hostCmd_unlocked hu])

theorem sqrEnable_enabled (hu : Unlocked s 0xE0) (he : rdb s 0xE0 COM.PAGE_CTRL_ENABLE = true) :
    exec .sqrEnable s = .next (kept s (wr (held 0xE0) HSQR.CLEAR_REQ 0 s)) := by
  rw [sqrEnable_unlocked hu, sqrEnable, if_pos he]

theorem sqrEnable_builds (hu : Unlocked s 0xE0) (he : rdb s 0xE0 COM.PAGE_CTRL_ENABLE = false) (hok : poolsConfigOk s = true) :
    exec .sqrEnable s = .next (kept s (buildPools (wr 0xE0 COM.PAGE_CTRL_ENABLE 1 s))) := by
  rw [sqrEnable_unlocked hu, sqrEnable, if_neg (Bool.eq_false_iff.mp he), if_pos hok]

theorem sqrTableRead_valid (h : TableFree s 0xE2) (hon : poolsOn s = true) (hb : badHandle s (rd s 0xE2 SQR2.TBL_ADDR) = false) :
    exec .sqrTableRead s
      = .next (kept s (tblResult 0xE2 0 (wr 0xE2 (TBL.DATA 0) (metaWord (getBuf s (rd s 0xE2 SQR2.TBL_ADDR))) s))) :=
  (settle_tblCmd h).trans (by simp only [hon, hb, Bool.not_true, Bool.false_eq_true, if_false])

theorem sqrTableAlloc_asks (h : TableFree s 0xE2) (hon : poolsOn s = true) (hp : handlePool (rd s 0xE2 SQR2.TBL_ADDR) ≤ 3)
    (hc : rd s 0xE2 SQR2.TBL_ADDR % 4 ≠ 3) :
    exec .sqrTableAlloc s = .next (kept s (
      let a := rd s 0xE2 SQR2.TBL_ADDR
      let g := askNow 8 (poolSize (handlePool a) - headroom s) (a % 4) clHostSw s
      tblResult 0xE2 (if g.1 = emptyHandle then 2 else 0) (wr 0xE2 SQR2.TBL_DATA1 g.1 g.2))) :=
  (settle_tblCmd h).trans (by simp only [Nat.not_lt.mpr hp, hc, hon, Bool.not_true, Bool.false_eq_true, if_false])

/-- INC and DEC of the table go to the reference engine as requester 8's, and commands 5 to 7 are invalid. -/
theorem sqrTableRefs_free (h : TableFree s 0xE2) :
    exec .sqrTableInc s
      = .next (kept s (arcSettle (presentRef ⟨8, clHostSw, opInc, rd s 0xE2 SQR2.TBL_ADDR, true⟩ (wr 0xE2 TBL.BUSY 1 s)))) ∧
    exec .sqrTableDec s
      = .next (kept s (arcSettle (presentRef ⟨8, clHostSw, opDec, rd s 0xE2 SQR2.TBL_ADDR, true⟩ (wr 0xE2 TBL.BUSY 1 s)))) ∧
    exec .sqrInvalidCmd s = .next (kept s (tblResult 0xE2 5 s)) :=
  ⟨settle_tblCmd h, settle_tblCmd h, settle_tblCmd h⟩

theorem logClear_unlocked (hu : Unlocked s 0xE2) :
    exec .logClear s = .next (kept s (wr 0xE2 SQR2.LOG_CLEAR 1 (wr (held 0xE0) HSQR.LOG_CLEAR_REQ 1 s))) :=
  (settle_kept s _).trans (by rw [hostCmd_unlocked hu])

end Pools

/-- Settles O23: each command of Market Square meets the conditions under which it acts. -/
theorem marketSquareCommands : Obligations.MarketSquareCommands := fun _ _ _ _ _ _ _ =>
  ⟨bufferRequest_waits, bufferAnswer_handle, poolsReady_building, fun hu he => ⟨sqrDisable_enabled hu he, sqrEnable_enabled hu he⟩,
    sqrEnable_builds, sqrTableRead_valid, sqrTableAlloc_asks, sqrTableRefs_free, logClear_unlocked⟩

/-! ## References on the store's segments, and staging (R205, R212, R436) -/

section Staging

variable {s : State} {r cls h op g p cyc : Nat} {x : StageSlot} {w : RefOp}

/-- An operation in its turn takes the turn, is presented, and what Arcade does once references are gone follows. -/
theorem refCommand_inTurn (hr : w.requester < 12) (hc : cyc < 2430) (ht : refTurn s w.requester (startOf (now s) + cyc) = true) :
    refCommand w cyc s = arcSettle (presentRef w (noteTurn w.requester (startOf (now s) + cyc) s)) := by
  rw [refCommand, onlyIf_true (decide_eq_true ⟨hr, hc, ht⟩)]

theorem settle_refCommand (hr : w.requester < 12) (hc : cyc < 2430) (ht : refTurn s w.requester (startOf (now s) + cyc) = true) :
    settle s (refCommand w cyc s)
      = .next (kept s (arcSettle (presentRef w (noteTurn w.requester (startOf (now s) + cyc) s)))) := by
  rw [settle_kept, refCommand_inTurn hr hc ht]

theorem p4Stage_operation (h1 : 1 ≤ op) (h4 : op < 4) :
    exec (.p4Stage r cls op g) s = .next (kept s (arcSettle (presentRef ⟨r, cls, op, p4Handle g, false⟩ s))) :=
  settle_onlyIf (decide_eq_true ⟨h1, h4⟩)

/-- The read of a staged segment that is not yet ready ends. -/
theorem p4StageReady_staged {bad : Option Nat} (hs : slotOf s g = some x) (hx : x.ready = false) :
    exec (.p4StageReady g bad) s = .next (kept s (
      match bad with
      | some p => segUncorr g (p % 8) (inc 0x1E0 ARC0.SEGMENTS_READ s)
      | none => answerWaits g (putSlot { x with ready := true } (inc 0x1E0 ARC0.SEGMENTS_READ s)))) := by
  have hslot : slotOf (inc 0x1E0 ARC0.SEGMENTS_READ s) g = some x := hs
  refine (settle_onlyIf (by simp [hs, hx])).trans ?_
  cases bad with
  | none => simp only [hslot]; rfl
  | some p => rfl

end Staging

/-! ## Segments written, open segments, packages and gaps (R411 to R437) -/

section Segments

variable {s t : State} {p k c : Nat} {q : QEnt} {u : Bool} {w : ArcWrite} {ws : List ArcWrite} {wear : List Nat} {e : Gap}

theorem segmentTake_sound (hon : storeOn s = true) (hroom : s.arcWrites.length < 64) (hf : rdb s 0x1E0 ARC0.ARC_STATUS_FLUSHING = false)
    (hq : chooseAt 11 c s = some (q, u, t)) (hp : poisoned (depart q (if u then countOverride q t else t)) q = false) :
    exec (.segmentTake c) s = .next (kept s (
      let t := depart q (if u then countOverride q t else t)
      takeSegment q (deliver q (startOf (now s) + c) t))) :=
  (settle_onlyIf (by simp [hon, hroom, hf])).trans (by simp only [hq, hp, Bool.false_eq_true, if_false])

theorem segmentWriteDone_oldest (hw : s.arcWrites = w :: ws) :
    exec (.segmentWriteDone wear) s
      = .next (kept s (forEach ((List.range 8).filter (fun p => p < wear.length)) (fun p t => setWear p (wear.getD p 0 % 256) t)
          (writeDone w { s with arcWrites := ws }))) :=
  (settle_kept s _).trans (by rw [hw])

theorem fillTimeout_due (hr : s.clock.running = true) (hb : s.clock.block = 0)
    (ho : openIncomplete (viewState s (objectSlice s (now s) (dirId s k)) (now s)) k = true)
    (hd : dirState (viewState s (objectSlice s (now s) (dirId s k)) (now s)) k ≠ dirFree)
    (ht : rd s (Tab.dir k) HDIR.CHUNK_TICK + max 1 (rd s 0x1E0 ARC0.FILL_TIMEOUT) ≤ s.clock.tick) :
    exec (.fillTimeout k) s = .next (kept s (report k
      (rd (viewState s (objectSlice s (now s) (dirId s k)) (now s)) (Tab.dir k) DIRE.OPEN_SEG) 0 true 1 s)) :=
  settle_onlyIf (by simp [hr, hb, ho, hd, ht])

theorem packageLost_present (hp : p < 8) (hb : bit (rd s 0x1E0 ARC0.ARC_STATUS_PACKAGES_OK) p = true) :
    exec (.packageLost p) s
      = .next (kept s (raiseFault 0x1E0 ARC0.evPACKAGE_LOST (locDie 8) false [p] (wr 0x1E0 ARC0.ARC_STATUS_READY 0
          (wr 0x1E0 ARC0.ARC_STATUS_PACKAGES_OK (setBit (rd s 0x1E0 ARC0.ARC_STATUS_PACKAGES_OK) p false) s)))) :=
  settle_onlyIf (by simp [hp, hb])

theorem gapRepairTimeout_open (hk : s.gaps[k]? = some e) (ht : e.tick + rd s 0x1E0 ARC0.REPAIR_TICKS ≤ s.clock.tick)
    (hp : e.passed = false) (ho : gapOpen s e = true) :
    exec (.gapRepairTimeout k) s
      = .next (kept s (gapToRing e.object e.first e.count e.reason { s with gaps := s.gaps.set k { e with passed := true } })) :=
  (settle_kept s _).trans (by simp only [hk, Nat.not_lt.mpr ht, hp, ho, Bool.false_eq_true, or_self, if_false, if_true])

end Segments

/-- Settles O31: each command of the store meets the conditions under which it acts. -/
theorem storeCommands : Obligations.StoreCommands := fun _ _ _ _ _ _ _ _ _ _ _ _ _ _ _ _ _ _ =>
  ⟨fun hr hc ht => ⟨settle_refCommand hr hc ht, settle_refCommand hr hc ht, settle_refCommand hr hc ht⟩, p4Stage_operation,
    fun hs hx => ⟨p4StageReady_staged hs hx, p4StageReady_staged hs hx⟩, segmentTake_sound, segmentWriteDone_oldest, fillTimeout_due,
    fun hon _ => settle_onlyIf hon, packageLost_present, gapRepairTimeout_open⟩

end Sys2Proof.Machine

/-! The Bollard's policers (chapter 8): the colour of a frame by the rows of Table 8.6, and the refill of the buckets (R249). -/

namespace Sys2Proof.Machine

/-! ## Colours (R250, Table 8.6) -/

section Colours

variable {p : Profile} {incoming n : Nat} {b : Buckets}

theorem colourFrame_off (hm : p.mode = 0) : colourFrame p incoming n b = (green, b) := if_pos hm

/-- The rows of mode 1. -/
theorem colourFrame_singleRate (hm : p.mode = 1) :
    colourFrame p incoming n b =
      if n ≤ b.tc ∧ (incoming = green ∨ p.aware = false) then (green, { b with tc := b.tc - n })
      else if n ≤ b.te ∧ (incoming ≠ red ∨ p.aware = false) then (yellow, { b with te := b.te - n })
      else (red, b) := by
  simp [colourFrame, hm]

/-- The rows of mode 2; the bucket Tp is the field `te`. -/
theorem colourFrame_twoRate (hm : p.mode = 2) :
    colourFrame p incoming n b =
      if (incoming = red ∧ p.aware = true) ∨ b.te < n then (red, b)
      else if (incoming = yellow ∧ p.aware = true) ∨ b.tc < n then (yellow, { b with te := b.te - n })
      else (green, { b with te := b.te - n, tc := b.tc - n }) := by
  simp [colourFrame, hm]

end Colours

/-- Settles O57: the first row of the mode whose condition holds decides. -/
theorem colourDecisions : Obligations.ColourDecisions := fun _ _ _ _ =>
  ⟨colourFrame_off,
    fun hm =>
      ⟨fun hc hi => (colourFrame_singleRate hm).trans (if_pos ⟨hc, hi⟩),
        fun hg he hi => (colourFrame_singleRate hm).trans ((if_neg hg).trans (if_pos ⟨he, hi⟩)),
        fun hg hy => (colourFrame_singleRate hm).trans ((if_neg hg).trans (if_neg hy))⟩,
    fun hm =>
      ⟨fun hr => (colourFrame_twoRate hm).trans (if_pos hr),
        fun hr hy => (colourFrame_twoRate hm).trans ((if_neg hr).trans (if_pos hy)),
        fun hr hy => (colourFrame_twoRate hm).trans ((if_neg hr).trans (if_neg hy))⟩⟩

/-! ## Filling one bucket

A bucket and its residue are one number of units of 1/512 bit; a fill adds to that number and caps it at the burst. -/

section Fill

variable {v res n burst : Nat}

theorem fillBucket_full (h : burst * 512 ≤ v * 512 + res + n) :
    fillBucket v res n burst = (burst, 0, v * 512 + res + n - burst * 512) := if_pos h

theorem fillBucket_room (h : ¬ burst * 512 ≤ v * 512 + res + n) :
    fillBucket v res n burst = ((v * 512 + res + n) / 512, (v * 512 + res + n) % 512, 0) := if_neg h

/-- Filled, bucket and residue are together the smaller of the burst and the sum: no unit is lost below the burst. -/
theorem fillBucket_units :
    (fillBucket v res n burst).1 * 512 + (fillBucket v res n burst).2.1 = min (burst * 512) (v * 512 + res + n) := by
  by_cases h : burst * 512 ≤ v * 512 + res + n
  · rw [fillBucket_full h, Nat.min_eq_left h, Nat.add_zero]
  · rw [fillBucket_room h, Nat.min_eq_right (Nat.le_of_not_le h), Nat.div_add_mod']

theorem fillBucket_residue_lt : (fillBucket v res n burst).2.1 < 512 := by
  by_cases h : burst * 512 ≤ v * 512 + res + n
  · rw [fillBucket_full h]; exact Nat.succ_pos _
  · rw [fillBucket_room h]; exact Nat.mod_lt _ (by decide)

/-- What passes the burst overflows. -/
theorem fillBucket_overflow : (fillBucket v res n burst).2.2 = v * 512 + res + n - burst * 512 := by
  by_cases h : burst * 512 ≤ v * 512 + res + n
  · rw [fillBucket_full h]
  · rw [fillBucket_room h, Nat.sub_eq_zero_of_le (Nat.le_of_not_le h)]

theorem fillBucket_le_burst : (fillBucket v res n burst).1 ≤ burst := by
  have hu := @fillBucket_units v res n burst
  omega

/-- A full bucket has no residue. -/
theorem fillBucket_residue_of_full (h : (fillBucket v res n burst).1 = burst) : (fillBucket v res n burst).2.1 = 0 := by
  have hu := @fillBucket_units v res n burst
  omega

/-- Two fills leave what one fill by their sum leaves, and overflow as much together. -/
theorem fillBucket_fillBucket (v res n m burst : Nat) :
    let once := fillBucket v res n burst
    let twice := fillBucket once.1 once.2.1 m burst
    let both := fillBucket v res (n + m) burst
    twice.1 = both.1 ∧ twice.2.1 = both.2.1 ∧ once.2.2 + twice.2.2 = both.2.2 := by
  intro once twice both
  have hOnce : once.1 * 512 + once.2.1 = min (burst * 512) (v * 512 + res + n) := fillBucket_units
  have hTwice : twice.1 * 512 + twice.2.1 = min (burst * 512) (once.1 * 512 + once.2.1 + m) := @fillBucket_units once.1 once.2.1 m burst
  have hBoth : both.1 * 512 + both.2.1 = min (burst * 512) (v * 512 + res + (n + m)) := fillBucket_units
  have hTwiceRes : twice.2.1 < 512 := fillBucket_residue_lt
  have hBothRes : both.2.1 < 512 := fillBucket_residue_lt
  have hOver : once.2.2 + twice.2.2 = both.2.2 := by
    rw [fillBucket_overflow, fillBucket_overflow, fillBucket_overflow, hOnce]; omega
  have hUnits : twice.1 * 512 + twice.2.1 = both.1 * 512 + both.2.1 := by
    rw [hTwice, hOnce, hBoth]; omega
  clear_value once twice both
  exact ⟨by omega, by omega, hOver⟩

end Fill

/-! ## The refill of a policer (R249) -/

section Refill

variable {p : Profile} {b : Buckets} {k : Nat}

theorem refillBuckets_off (hm : p.mode = 0) : refillBuckets p k b = { b with last := k } := if_pos hm

@[simp] theorem refillBuckets_last : (refillBuckets p k b).last = k := by
  unfold refillBuckets; split <;> rfl

/-- The block number counts on from the last use without a wrap. -/
theorem blocksSince_eq_sub {last : Nat} (hl : last ≤ k) (hk : k < 2 ^ 32) : (k + 2 ^ 32 - last) % 2 ^ 32 = k - last := by omega

/-- The fill of Tc by the committed rate over `d` blocks. -/
def fillTc (p : Profile) (d : Nat) (b : Buckets) : Nat × Nat × Nat := fillBucket b.tc b.tcRes (d * p.cir) (8 * p.cbs)

/-- What `d` blocks bring to Te or Tp: the overflow of Tc in mode 1, the peak rate else. -/
def teInflow (p : Profile) (d : Nat) (b : Buckets) : Nat := if p.mode = 1 then (fillTc p d b).2.2 else d * p.pir

/-- The fill of Te or Tp over `d` blocks. -/
def fillTe (p : Profile) (d : Nat) (b : Buckets) : Nat × Nat × Nat := fillBucket b.te b.teRes (teInflow p d b) (8 * p.ebs)

/-- In modes 1 and 2 a refill is the fills of its two buckets. -/
theorem refillBuckets_on (hm : p.mode ≠ 0) (hl : b.last ≤ k) (hk : k < 2 ^ 32) :
    refillBuckets p k b =
      ⟨(fillTc p (k - b.last) b).1, (fillTc p (k - b.last) b).2.1, (fillTe p (k - b.last) b).1, (fillTe p (k - b.last) b).2.1, k⟩ := by
  simp only [refillBuckets, if_neg hm, blocksSince_eq_sub hl hk]; rfl

/-- The units of two stretches of blocks are those of both together. -/
theorem blocks_mul_add {last j : Nat} (hl : last ≤ j) (hj : j ≤ k) (r : Nat) :
    (j - last) * r + (k - j) * r = (k - last) * r := by
  rw [← Nat.add_mul, ← Nat.sub_add_sub_cancel hj hl, Nat.add_comm]

section Twice

variable {j : Nat} (hm : p.mode ≠ 0) (hl : b.last ≤ j) (hj : j ≤ k) (hk : k < 2 ^ 32)

include hm hl hj hk

/-- Tc, filled in block `j` and again in block `k`, and the overflow of the two fills. -/
theorem fillTc_refillBuckets :
    let once := fillTc p (j - b.last) b
    let twice := fillTc p (k - j) (refillBuckets p j b)
    let both := fillTc p (k - b.last) b
    twice.1 = both.1 ∧ twice.2.1 = both.2.1 ∧ once.2.2 + twice.2.2 = both.2.2 := by
  rw [refillBuckets_on hm hl (Nat.lt_of_le_of_lt hj hk)]
  have h := fillBucket_fillBucket b.tc b.tcRes ((j - b.last) * p.cir) ((k - j) * p.cir) (8 * p.cbs)
  rwa [blocks_mul_add hl hj] at h

theorem teInflow_refillBuckets :
    teInflow p (j - b.last) b + teInflow p (k - j) (refillBuckets p j b) = teInflow p (k - b.last) b := by
  obtain ⟨-, -, hOver⟩ := fillTc_refillBuckets hm hl hj hk
  unfold teInflow; split
  · exact hOver
  · exact blocks_mul_add hl hj p.pir

/-- Te or Tp, filled in block `j` and again in block `k`. -/
theorem fillTe_refillBuckets :
    let twice := fillTe p (k - j) (refillBuckets p j b)
    let both := fillTe p (k - b.last) b
    twice.1 = both.1 ∧ twice.2.1 = both.2.1 := by
  have h := fillBucket_fillBucket b.te b.teRes (teInflow p (j - b.last) b) (teInflow p (k - j) (refillBuckets p j b)) (8 * p.ebs)
  rw [teInflow_refillBuckets hm hl hj hk] at h
  obtain ⟨hBits, hRes, -⟩ := h
  rw [refillBuckets_on hm hl (Nat.lt_of_le_of_lt hj hk)] at hBits hRes ⊢
  exact ⟨hBits, hRes⟩

end Twice

/-- A refill in a later block adds to what the first one left as one refill in that block does. -/
theorem refillBuckets_refillBuckets {j : Nat} (hl : b.last ≤ j) (hj : j ≤ k) (hk : k < 2 ^ 32) :
    refillBuckets p k (refillBuckets p j b) = refillBuckets p k b := by
  by_cases hm : p.mode = 0
  · simp only [refillBuckets_off hm]
  · obtain ⟨hTcBits, hTcRes, -⟩ := fillTc_refillBuckets hm hl hj hk
    obtain ⟨hTeBits, hTeRes⟩ := fillTe_refillBuckets hm hl hj hk
    rw [refillBuckets_on hm (Nat.le_trans (Nat.le_of_eq refillBuckets_last) hj) hk, refillBuckets_on hm (Nat.le_trans hl hj) hk, refillBuckets_last,
      hTcBits, hTcRes, hTeBits, hTeRes]

end Refill

/-- Settles O56: bucket and residue are one number of units, to which a refill adds the units of its blocks, up to the burst. -/
theorem policerRefills : Obligations.PolicerRefills := by
  intro p b k1 k2 hl hkk hk _ _ c
  have hc (hm : p.mode ≠ 0) := refillBuckets_on hm (Nat.le_trans hl hkk) hk
  refine ⟨refillBuckets_refillBuckets hl hkk hk, refillBuckets_last, refillBuckets_off, fun hm => ?_, fun hm => ?_⟩
  · simp only [c, hc hm]
    exact ⟨fillBucket_le_burst, fillBucket_le_burst, fillBucket_residue_lt, fillBucket_residue_lt,
      fillBucket_residue_of_full, fillBucket_residue_of_full, fillBucket_units⟩
  · have hIn : teInflow p (k2 - b.last) b = (k2 - b.last) * p.pir := if_neg (by omega)
    simp only [c, hc (by omega), ← hIn]
    exact fillBucket_units

end Sys2Proof.Machine

/-! The Carriageways (chapter 9): the failed checks of a slice, its reset check and the entry into GUARDED; the test, the return and the
manual fence of a slice, and the injection of a check. -/

namespace Sys2Proof.Machine

/-! ## What noting a fault leaves alone -/

section NoteFault

variable {s : State} {x y q f loc c : Nat} {g : Field}

/-- A field at an address outside the words 0x98 to 0xB7 of slice x's block of page 0x180, in which noting a fault writes. -/
def OutsideFaultWords (x q : Nat) (g : Field) : Prop :=
  g.key q < (0x180 * 4096 + 0x98 + 0x40 * x) * 8 ∨ (0x180 * 4096 + 0xB8 + 0x40 * x) * 8 ≤ g.key q

/-- The counter of each check lies within the fault words. -/
theorem OutsideFaultWords.ne_failCounter (h : OutsideFaultWords x q g) : g.key q ≠ (failCounter x c).key 0x180 := by
  have hIn : (0x180 * 4096 + 0x98 + 0x40 * x) * 8 ≤ (failCounter x c).key 0x180 ∧
      (failCounter x c).key 0x180 < (0x180 * 4096 + 0xB8 + 0x40 * x) * 8 := by
    unfold failCounter
    split_ifs <;> simp only [Field.key, CWY.FAIL_RESIDUE, CWY.FAIL_PARITY, CWY.FAIL_CRC, CWY.FAIL_DUP, CWY.FAIL_COUNT, CWY.FAIL_WATCHDOG] <;> omega
  unfold OutsideFaultWords at h; omega

theorem OutsideFaultWords.ne_last (h : OutsideFaultWords x q g) :
    g.key q ≠ (CWY.LAST_TICK x).key 0x180 ∧ g.key q ≠ (CWY.LAST_BLOCK x).key 0x180 ∧ g.key q ≠ (CWY.LAST_LOC x).key 0x180 := by
  simp only [OutsideFaultWords, CWY.LAST_TICK, CWY.LAST_BLOCK, CWY.LAST_LOC, Field.key] at h ⊢; omega

theorem rd_noteFault (h : OutsideFaultWords x q g) : rd (noteFault x f loc c s) q g = rd s q g := by
  obtain ⟨hTick, hBlock, hLoc⟩ := h.ne_last
  rw [noteFault, rd_countLate_other h.ne_failCounter, rd_wr_other hTick, rd_wr_other hBlock, rd_wr_other hLoc]

/-- No slice changes its state by a fault being noted. -/
theorem sliceState_noteFault : rd (noteFault x f loc c s) 0x180 (CWY.SLICE_STATE y) = rd s 0x180 (CWY.SLICE_STATE y) :=
  rd_noteFault (by simp only [OutsideFaultWords, CWY.SLICE_STATE, Field.key]; omega)

theorem mode_noteFault : mode (noteFault x f loc c s) = mode s :=
  rd_noteFault (by simp only [OutsideFaultWords, PWR0.PWR_STATUS_MODE, Field.key]; omega)

theorem replaying_noteFault (hx : x < 3) : replaying (noteFault x f loc c s) = replaying s := by
  have h : rd (noteFault x f loc c s) 0x190 XNG.XNG_STATUS_REPLAY = rd s 0x190 XNG.XNG_STATUS_REPLAY :=
    rd_noteFault (by simp only [OutsideFaultWords, XNG.XNG_STATUS_REPLAY, Field.key]; omega)
  rw [replaying, rdb, h]; rfl

end NoteFault

/-! ## A failed check and the reset after it (R270 to R276, Table 9.7) -/

section SliceCheck

variable {s : State} {x c u cyc : Nat} {r : Option Nat}

theorem survivors_others (x : Nat) :
    ((survivors x).1 < 3 ∧ (survivors x).1 ≠ x) ∧ ((survivors x).2 < 3 ∧ (survivors x).2 ≠ x) := by
  unfold survivors; split_ifs <;> dsimp only <;> omega

theorem replaySlice_none (h : replaying s = false) (f : Nat) : replaySlice s f = none := by simp [replaySlice, h]

/-- With the home map in force, no replay and both other slices ACTIVE, a fault is masked in SERVICE and COMMISSION (R271, R272). -/
theorem sliceFault_masked {inj : Bool} (hx : x < 3) (hr : replaying s = false) (hmap : mapFor s (now s) = (3, false))
    (hm : mode s = modeService ∨ mode s = modeCommission) (hact : ∀ y, y < 3 → y ≠ x → rd s 0x180 (CWY.SLICE_STATE y) = 0) :
    sliceFault x c u inj s
      = maskFault x (now s) (sliceLoc x u) c inj (noteFault x (now s) (sliceLoc x u) c s) := by
  obtain ⟨⟨hlo, hlox⟩, hhi, hhix⟩ := survivors_others x
  have hNone := replaySlice_none ((replaying_noteFault hx (f := now s) (loc := sliceLoc x u) (c := c)).trans hr) (now s)
  simp [sliceFault, hmap, hNone, sliceState_noteFault, mode_noteFault, replaying_noteFault hx, hr, hm, hact _ hlo hlox, hact _ hhi hhix]

/-- Outside a replay a failed check is a fault of its slice, whatever record is named. -/
theorem sliceCheckFailed_masked (hx : x < 3) (hc : c < 6) (hrun : s.clock.running = true) (ho : journalOpen s = true)
    (ha : rd s 0x180 (CWY.SLICE_STATE x) = 0) (hr : replaying s = false) (hmap : mapFor s (now s) = (3, false))
    (hm : mode s = modeService ∨ mode s = modeCommission) (hact : ∀ y, y < 3 → y ≠ x → rd s 0x180 (CWY.SLICE_STATE y) = 0) :
    exec (.sliceCheckFailed x c u r) s
      = .next (kept s (maskFault x (now s) (sliceLoc x u) c false (noteFault x (now s) (sliceLoc x u) c s))) := by
  rw [← sliceFault_masked hx hr hmap hm hact]
  refine (settle_onlyIf (by simp [hx, hc, hrun, ho, ha])).trans ?_
  cases r <;> simp only [hr]

theorem sliceCheckFailed_record (hx : x < 3) (hc : c < 6) (hrun : s.clock.running = true) (ho : journalOpen s = true)
    (ha : rd s 0x180 (CWY.SLICE_STATE x) = 0) (hr : replaying s = true) (i : Nat) :
    exec (.sliceCheckFailed x c u (some i)) s
      = .next (kept s (
          let y := rd s 0x190 XNG.XNG_STATUS_REPLAY_SLICE
          let f := rd s (held 0x180) HCWY.REPLAY_AT - 1
          let n := noteFault x (now s) (sliceLoc x 0) 2 s
          containRecord y f i (raiseSlice CWY.evCONTAINED_FAULT (now n) (sliceLoc x 0) false [2 ^ y, f % 2 ^ 32, 1, 0] n))) :=
  (settle_onlyIf (by simp [hx, hc, hrun, ho, ha])).trans (by simp only [hr])

theorem sliceResetCheck_inTime (hx : x < 3) (hst : rd s 0x180 (CWY.SLICE_STATE x) = 1) (hat : rd s (held 0x180) (HCWY.FAULT_AT x) = now s)
    (hc : cyc ≤ 1944) :
    exec (.sliceResetCheck x true cyc) s
      = .next (kept s (wr (held 0x180) (HCWY.FAULT_AT x) 0 (wr 0x180 (CWY.SLICE_STATE x) 0 s))) :=
  (settle_onlyIf (by simp [hx, hst, hat])).trans (by rw [if_pos ⟨rfl, hc⟩])

theorem sliceResetCheck_failed_masked (hx : x < 3) (hst : rd s 0x180 (CWY.SLICE_STATE x) = 1)
    (hat : rd s (held 0x180) (HCWY.FAULT_AT x) = now s) (hmask : rd s (held 0x180) (HCWY.FAULT_MASKED x) = 1) :
    exec (.sliceResetCheck x false cyc) s = .next (kept s (planMap (now s + 1) x false (fenceSlice x (now s - 1) false s))) :=
  (settle_onlyIf (by simp [hx, hst, hat])).trans (by rw [if_neg (fun h => nomatch h.1), if_pos (rdb_of_eq_one hmask)])

theorem enterGuarded_due (h0 : rd s (held 0x180) HCWY.GUARD_AT ≠ 0) (hat : rd s (held 0x180) HCWY.GUARD_AT ≤ now s + 1)
    (hm : mode s = modeService) :
    exec .enterGuarded s = .next (kept s (setMode modeGuarded causeFence (wr (held 0x180) HCWY.GUARD_AT 0 s))) := by
  have hMode : mode (wr (held 0x180) HCWY.GUARD_AT 0 s) = modeService := (rd_wr_page (by decide) (by decide) (by decide)).trans hm
  exact (settle_onlyIf (by simp [h0, hat])).trans (by rw [if_pos hMode])

end SliceCheck

/-- Settles O11: each command of a slice's fault meets the conditions under which it acts. -/
theorem sliceChecksAndReset : Obligations.SliceChecksAndReset := fun _ _ _ _ _ _ hx =>
  ⟨sliceCheckFailed_masked hx, sliceCheckFailed_record hx, sliceResetCheck_inTime hx, sliceResetCheck_failed_masked hx, enterGuarded_due⟩

/-! ## Test, return and fence (R277 to R279) -/

section Return

variable {s : State} {x : Nat} {passed : Bool}

/-- What the end of a slice's test leaves: the slice FENCED and tested, or FAILED and without power. -/
def testEnded (x : Nat) (passed : Bool) (s : State) : State :=
  if passed then wr 0x180 (CWY.SLICE_STATE x) 2 (wr 0x180 (CWY.SLICE_TEST_PASSED x) 1 s)
  else setDomain (7 + x) false (wr 0x180 (CWY.SLICE_STATE x) 4 s)

theorem sliceTestDone_over (hx : x < 3) (hst : rd s 0x180 (CWY.SLICE_STATE x) = 3)
    (ht : rd s (held 0x180) (HCWY.TEST_TICK x) + 3999 ≤ s.clock.tick) :
    exec (.sliceTestDone x passed) s = .next (kept s (raise 0x180 CWY.evTEST_DONE [x, b2n passed] (testEnded x passed s))) :=
  settle_onlyIf (by simp [hx, hst, ht])

/-- Hardware mode decides a return by itself (R278). -/
theorem sliceAutoReturn_held (hx : x < 3) (hh : rtsHost s = false) (hm : mode s = modeGuarded) (hf : rd s 0x180 CWY.CWY_STATUS_FENCED = x)
    (hp : rd s 0x180 (CWY.SLICE_TEST_PASSED x) = 1)
    (ht : rd s (held 0x180) (HCWY.FENCE_TICK x) + rd s 0x180 CWY.RTS_HOLD ≤ s.clock.tick + 1)
    (hn : recentReturns s x < rd s 0x180 CWY.RTS_MAX) (hb : rtsBusy s = false) :
    exec (.sliceAutoReturn x) s = .next (kept s (decideRts 2 x s)) :=
  settle_onlyIf (by simp [hx, hh, hm, hf, rdb_of_eq_one hp, ht, hn, hb])

/-- A host command of an unlocked page that nothing else conditions has its effect. -/
theorem settle_hostCmd_unlocked {p off : Nat} {g : State → State} (hu : Unlocked s p) :
    settle s (hostCmd p off g s) = .next (kept s (g s)) := by rw [hostCmd_unlocked hu]; rfl

theorem rtsTest_tested (hx : x < 3) (hu : Unlocked s 0x180) (hb : rtsBusy s = false)
    (hst : rd s 0x180 (CWY.SLICE_STATE x) = 2 ∨ rd s 0x180 (CWY.SLICE_STATE x) = 4) :
    exec (.rtsTest x) s
      = .next (kept s (
          let u := setDomain (7 + x) true (wr 0x180 (CWY.SLICE_STATE x) 3 (wr 0x180 (CWY.SLICE_TEST_PASSED x) 0 s))
          rtsResult 1 (wr (held 0x180) (HCWY.TEST_TICK x) (u.clock.tick + 1) u))) := by
  have hFree : ¬ (rtsBusy s = true ∨ rd s 0x180 (CWY.SLICE_STATE x) = 3) := by rw [hb]; simp only [Bool.false_eq_true, false_or]; omega
  have hTestable : ¬ (3 ≤ x ∨ (rd s 0x180 (CWY.SLICE_STATE x) ≠ 2 ∧ rd s 0x180 (CWY.SLICE_STATE x) ≠ 4)) := by omega
  exact (settle_hostCmd_unlocked hu).trans (by rw [if_neg hFree, if_neg hTestable])

theorem rtsTest_busy (hu : Unlocked s 0x180) (hb : rtsBusy s = true) : exec (.rtsTest x) s = .next (kept s (rtsRefuse 4 s)) :=
  (settle_hostCmd_unlocked hu).trans (by rw [if_pos (.inl hb)])

theorem rtsReturn_tested (hx : x < 3) (hm : mode s = modeGuarded) (hb : rtsBusy s = false) (hf : rd s 0x180 CWY.CWY_STATUS_FENCED = x)
    (hp : rd s 0x180 (CWY.SLICE_TEST_PASSED x) = 1) : rtsReturn x s = rtsResult 1 (decideRts 2 x s) := by
  simp [rtsReturn, hm, hb, hf, rdb_of_eq_one hp, Nat.not_le.mpr hx]

theorem execRtsReturn_tested (hx : x < 3) (hu : Unlocked s 0x180) (hb : rtsBusy s = false) (hm : mode s = modeGuarded)
    (hf : rd s 0x180 CWY.CWY_STATUS_FENCED = x) (hp : rd s 0x180 (CWY.SLICE_TEST_PASSED x) = 1) :
    exec (.rtsReturn x) s = .next (kept s (rtsResult 1 (decideRts 2 x s))) :=
  (settle_hostCmd_unlocked hu).trans (by rw [rtsReturn_tested hx hm hb hf hp])

theorem execRtsReturn_notGuarded (hu : Unlocked s 0x180) (hm : mode s ≠ modeGuarded) :
    exec (.rtsReturn x) s = .next (kept s (rtsRefuse 2 s)) :=
  (settle_hostCmd_unlocked hu).trans (by rw [rtsReturn, if_pos hm])

theorem rtsFence_service (hx : x < 3) (hu : Unlocked s 0x180) (hb : rtsBusy s = false) (hm : mode s = modeService) :
    exec (.rtsFence x) s = .next (kept s (rtsResult 1 (decideRts 3 x s))) :=
  (settle_hostCmd_unlocked hu).trans (by simp [hm, hb, Nat.not_le.mpr hx])

theorem rtsFence_notService (hu : Unlocked s 0x180) (hm : mode s ≠ modeService) : exec (.rtsFence x) s = .next (kept s (rtsRefuse 2 s)) :=
  (settle_hostCmd_unlocked hu).trans (by rw [if_pos (.inl hm)])

theorem sliceReturned_due (hd : rtsDue s 2 = true) :
    exec .sliceReturned s
      = .next (kept s (
          let u := returnSlice (rd s (held 0x180) HCWY.RTS_SLICE) (wr (held 0x180) HCWY.RTS_OP 0 s)
          if mode u = modeGuarded then setMode modeService causeReturn u else u)) :=
  settle_onlyIf hd

theorem manualFenceEffect_due (hd : rtsDue s 3 = true) :
    exec .manualFenceEffect s
      = .next (kept s (fenceSlice (rd s (held 0x180) HCWY.RTS_SLICE) (rd s (held 0x180) HCWY.RTS_AT - 1 - 1) true
          (wr (held 0x180) HCWY.RTS_OP 0 s))) :=
  settle_onlyIf hd

end Return

/-! ## The injection of a check (Table 9.8) -/

section Injection

variable {s : State} {v : Nat}

/-- FAULT_INJ holds the slice and the check that a write names. -/
def injChosen (v : Nat) (s : State) : State := wr 0x180 CWY.FAULT_INJ_SLICE (v % 4) (wr 0x180 CWY.FAULT_INJ_CHECK (v / 16 % 4) s)

theorem injAllow_injChosen : rd (injChosen v s) 0x180 CWY.CWY_CTRL_INJ_ALLOW = rd s 0x180 CWY.CWY_CTRL_INJ_ALLOW :=
  (rd_wr_off (by decide)).trans (rd_wr_off (by decide))

theorem faultInjArm_unlocked (hu : Unlocked s 0x180) :
    exec (.faultInjArm v) s = .next (kept s (if bit v 31 ∧ rdb (injChosen v s) 0x180 CWY.CWY_CTRL_INJ_ALLOW then
      wr 0x180 CWY.FAULT_INJ_ARM 1 (injChosen v s) else injChosen v s)) :=
  settle_hostCmd_unlocked hu

theorem faultInjArm_allowed (hu : Unlocked s 0x180) (hv : bit v 31 = true) (ha : rd s 0x180 CWY.CWY_CTRL_INJ_ALLOW = 1) :
    exec (.faultInjArm v) s = .next (kept s (wr 0x180 CWY.FAULT_INJ_ARM 1 (injChosen v s))) := by
  rw [faultInjArm_unlocked hu, if_pos ⟨hv, rdb_of_eq_one (injAllow_injChosen.trans ha)⟩]

theorem faultInjArm_unarmed (hu : Unlocked s 0x180) (hv : bit v 31 = false) :
    exec (.faultInjArm v) s = .next (kept s (injChosen v s)) := by
  rw [faultInjArm_unlocked hu, if_neg (fun h => Bool.eq_false_iff.mp hv h.1)]

end Injection

/-- Settles O12: each command meets the conditions under which it acts, or those under which it is refused. -/
theorem sliceTestAndReturn : Obligations.SliceTestAndReturn := fun _ _ _ hx =>
  ⟨fun hst ht => ⟨sliceTestDone_over hx hst ht, sliceTestDone_over hx hst ht⟩, sliceAutoReturn_held hx,
    fun hu hb => ⟨rtsTest_tested hx hu hb, execRtsReturn_tested hx hu hb, rtsFence_service hx hu hb⟩,
    execRtsReturn_notGuarded, rtsFence_notService, rtsTest_busy, sliceReturned_due, manualFenceEffect_due, faultInjArm_allowed,
    faultInjArm_unarmed⟩

end Sys2Proof.Machine

/-! The Kerb ports (chapter 10): lanes lost and restored, the two-lane fallback, links; KREF, the pattern checkers and the registers that act. -/

namespace Sys2Proof.Machine

/-! ## Lanes that are lost (R294, R295, R317) -/

section LostLanes

variable {s : State} {p l cause viol disp col : Nat}

/-- Errors that meet no criterion are only counted (DESIGN CHOICE, log entry 55). -/
theorem execLaneLost_noCriterion (hp : p < 9) (hl : l < 4) (hc : 4 ≤ cause) :
    exec (.laneLost p l cause viol disp col) s = .next (kept s (laneErrors p l viol disp s)) :=
  (settle_onlyIf (decide_eq_true ⟨hp, hl⟩)).trans (by simp only [hc, true_or, if_true])

/-- A lane not yet lost that meets a criterion is lost, by whether frames are received on it. -/
theorem execLaneLost_criterion (hp : p < 9) (hl : l < 4) (h0 : rd s (lan p) (LAN.LANE_STATUS_LOST l) = 0) (hc : cause < 4) :
    exec (.laneLost p l cause viol disp col) s = .next (kept s (
      let t := laneFails (lan p) l cause (laneErrors p l viol disp s)
      if p < 8 ∧ kerbUp s p ∧ bit (rd s (krb p) KRB.PORT_STATUS_RX_LANES) l then kerbLaneLost p l col t else idleLaneLost p l t)) := by
  have hnew : ¬ (4 ≤ cause ∨ rdb s (lan p) (LAN.LANE_STATUS_LOST l) = true) := by
    rw [rdb_of_eq_zero h0]; simp only [Bool.false_eq_true, or_false]; omega
  exact (settle_onlyIf (decide_eq_true ⟨hp, hl⟩)).trans (congrArg _ (congrArg _ (if_neg hnew)))

theorem execLaneLost_receiving (hp : p < 8) (hl : l < 4) (h0 : rd s (lan p) (LAN.LANE_STATUS_LOST l) = 0) (hc : cause < 4)
    (hu : kerbUp s p = true) (hrx : bit (rd s (krb p) KRB.PORT_STATUS_RX_LANES) l = true) :
    exec (.laneLost p l cause viol disp col) s
      = .next (kept s (kerbLaneLost p l col (laneFails (lan p) l cause (laneErrors p l viol disp s)))) := by
  rw [execLaneLost_criterion (by omega) hl h0 hc]; exact congrArg _ (congrArg _ (if_pos ⟨hp, hu, hrx⟩))

theorem execLaneLost_idle (hp : p < 8) (hl : l < 4) (h0 : rd s (lan p) (LAN.LANE_STATUS_LOST l) = 0) (hc : cause < 4)
    (hi : kerbUp s p = false ∨ bit (rd s (krb p) KRB.PORT_STATUS_RX_LANES) l = false) :
    exec (.laneLost p l cause viol disp col) s
      = .next (kept s (idleLaneLost p l (laneFails (lan p) l cause (laneErrors p l viol disp s)))) := by
  have hunused : ¬ (p < 8 ∧ kerbUp s p = true ∧ bit (rd s (krb p) KRB.PORT_STATUS_RX_LANES) l = true) := by
    rintro ⟨-, hu, hrx⟩
    rcases hi with hdown | hoff
    · exact Bool.false_ne_true (hdown.symm.trans hu)
    · exact Bool.false_ne_true (hoff.symm.trans hrx)
  rw [execLaneLost_criterion (by omega) hl h0 hc]; exact congrArg _ (congrArg _ (if_neg hunused))

/-- A host lane is no lane of a Kerb port: its loss is a fault, and nothing falls back. -/
theorem idleLaneLost_host (t : State) : idleLaneLost 8 l t = raiseFault (lan 8) LAN.evLANE_LOST (laneLoc 8 l) false [] (markLost 8 l t) := by
  simp only [idleLaneLost, Nat.lt_irrefl, false_and, if_false]

theorem execLaneLost_host (hl : l < 4) (h0 : rd s (lan 8) (LAN.LANE_STATUS_LOST l) = 0) (hc : cause < 4) :
    exec (.laneLost 8 l cause viol disp col) s
      = .next (kept s (raiseFault (lan 8) LAN.evLANE_LOST (laneLoc 8 l) false []
          (markLost 8 l (laneFails (lan 8) l cause (laneErrors 8 l viol disp s))))) := by
  rw [execLaneLost_criterion (by decide) hl h0 hc, ← idleLaneLost_host]
  exact congrArg _ (congrArg _ (if_neg (fun h => absurd h.1 (by decide))))

end LostLanes

/-! ## The two-lane fallback (R295 to R299) -/

section Fallback

variable {s : State} {p l ok off cyc : Nat} {sfd : Bool} {d : List Byte}

theorem fallbackRequestRx_twoLanes (hp : p < 8) (hx : kerbX4 s p = true) (hu : kerbUp s p = true) (hok : 2 ≤ lanes ok)
    (hm : mode s ≠ modeLean) :
    exec (.fallbackRequestRx p ok off sfd cyc) s = .next (kept s (resumeTx p (ok % 16) off (startOf (now s) + cyc) sfd s)) :=
  (settle_onlyIf (decide_eq_true ⟨hp, hx, hu⟩)).trans (by simp only [Nat.not_lt.mpr hok, hm, or_self, if_false])

/-- The lowest lane in use for transmission that a partner's RX_OK does not name. -/
def refusedLane (s : State) (p ok : Nat) : Nat :=
  ((List.range 4).filter (fun i => decide (bit (rd s (krb p) KRB.PORT_STATUS_TX_LANES) i ∧ !bit ok i))).head?.getD 0

/-- With fewer than two lanes left, and in LEAN, the link goes down at the refused lane (R296, R317). -/
theorem fallbackRequestRx_tooFew (hp : p < 8) (hx : kerbX4 s p = true) (hu : kerbUp s p = true) (h : lanes ok < 2 ∨ mode s = modeLean) :
    exec (.fallbackRequestRx p ok off sfd cyc) s
      = .next (kept s (noteDouble (earlierFault s) (laneLoc p (refusedLane s p ok)) (linkDown p (laneLoc p (refusedLane s p ok)) s))) :=
  (settle_onlyIf (decide_eq_true ⟨hp, hx, hu⟩)).trans (by simp only [h, if_true]; rfl)

/-- Where no frame is being received there is none to overwrite. -/
theorem front_nil_eq_self {t : State} (h : t.front = []) : { t with front := [] } = t := by rw [← h]

/-- A resume marker without a frame in hand takes the receiver to the two lanes, and stamps nothing (R297). -/
theorem resumeMarkerRx_noFrame (hp : p < 8) (hx : kerbX4 s p = true) (hu : kerbUp s p = true) (hf : s.front = []) :
    exec (.resumeMarkerRx p off d sfd cyc) s
      = .next (kept s (setLinkWidth p (wr (krb p) KRB.PORT_STATUS_RX_LANES (lowestTwo (rd s (krbHeld p) HKRB.RX_OK)) s))) := by
  have hfront : (setLinkWidth p (wr (krb p) KRB.PORT_STATUS_RX_LANES (lowestTwo (rd s (krbHeld p) HKRB.RX_OK)) s)).front = [] := hf
  exact (settle_onlyIf (decide_eq_true ⟨hp, hx, hu⟩)).trans (by
    simp only [hfront, updFirst, List.any_nil, Bool.false_eq_true, and_false, if_false]
    rw [front_nil_eq_self hfront])

/-- A scheduled marker goes out with RX_OK, the partner's RX_OK noted. -/
def markerSent (p ok : Nat) (s : State) : State :=
  sendMarker p 0 (rd s (krbHeld p) HKRB.RX_OK) 0 (wr (krbHeld p) HKRB.PART_OK ok s)

theorem scheduledMarker_sameLanes (hp : p < 8) (hx : kerbX4 s p = true) (hu : kerbUp s p = true) (hok : 2 ≤ lanes ok)
    (hw : wantLanes s p (ok % 16) = rd s (krb p) KRB.PORT_STATUS_TX_LANES) :
    exec (.scheduledMarker p ok) s = .next (kept s (markerSent p ok s)) :=
  (settle_onlyIf (decide_eq_true ⟨hp, hx, hu, hok⟩)).trans (by simp only [hw, true_or, if_true]; rfl)

/-- The partner asks for fewer lanes, and the transmitter narrows to them (R299). -/
theorem scheduledMarker_narrows (hp : p < 8) (hx : kerbX4 s p = true) (hu : kerbUp s p = true) (hok : 2 ≤ lanes ok)
    (hlt : lanes (wantLanes s p (ok % 16)) < lanes (rd s (krb p) KRB.PORT_STATUS_TX_LANES)) (hpos : 0 < lanes (wantLanes s p (ok % 16))) :
    exec (.scheduledMarker p ok) s
      = .next (kept s (setLinkWidth p (wr (krb p) KRB.PORT_STATUS_TX_LANES (wantLanes s p (ok % 16)) (markerSent p ok s)))) := by
  have hchange : ¬ (wantLanes s p (ok % 16) = rd s (krb p) KRB.PORT_STATUS_TX_LANES ∨ lanes (wantLanes s p (ok % 16)) = 0) := by
    rintro (heq | hzero)
    · exact absurd hlt (by rw [heq]; exact Nat.lt_irrefl _)
    · exact absurd hzero (Nat.ne_of_gt hpos)
  exact (settle_onlyIf (decide_eq_true ⟨hp, hx, hu, hok⟩)).trans (by simp only [if_neg hchange, if_neg (Nat.lt_asymm hlt)]; rfl)

/-- The lanes received on once lane l is good again: all four, or the two lowest that are good. -/
def restoredLanes (s : State) (p l : Nat) : Nat :=
  if lanes (setBit (rd s (krbHeld p) HKRB.RX_OK) l true) = 4 then 15 else lowestTwo (setBit (rd s (krbHeld p) HKRB.RX_OK) l true)

/-- Lane l is good: its four flags show it (DEDUCED, log entry 55), and RX_OK names it. -/
def laneGood (p l : Nat) (s : State) : State :=
  wr (lan p) (LAN.LANE_STATUS_SIGNAL l) 1 (wr (lan p) (LAN.LANE_STATUS_ALIGNED l) 1 (wr (lan p) (LAN.LANE_STATUS_LOST l) 0
    (wr (lan p) (LAN.LANE_STATUS_SYNC l) 1 (wr (krbHeld p) HKRB.RX_OK (setBit (rd s (krbHeld p) HKRB.RX_OK) l true) s))))

theorem laneRestore_clean (hp : p < 8) (hl : l < 4) (hx : kerbX4 s p = true) (hu : kerbUp s p = true)
    (hlost : rd s (lan p) (LAN.LANE_STATUS_LOST l) = 1)
    (ht : rd s (krbHeld p) (HKRB.BAD_TICK l) + rd s (krb p) KRB.RESTORE_TICKS ≤ s.clock.tick) :
    exec (.laneRestore p l) s
      = .next (kept s (raise (krb p) KRB.evRESTORED [0, restoredLanes s p l] (inc (krb p) KRB.RESTORES (closeFault (Tag.lane p l)
          (setLinkWidth p (wr (krb p) KRB.PORT_STATUS_RX_LANES (restoredLanes s p l) (laneGood p l s))))))) :=
  settle_onlyIf (decide_eq_true ⟨hp, hl, hx, hu, rdb_of_eq_one hlost, ht⟩)

end Fallback

/-! ## Links (R306, R316) -/

section Links

variable {s : State} {p tx rx ids skews : Nat}

/-- A Kerb-X4 port in LEAN: its link comes up on lanes 0 and 1 (R306). -/
def leanLink (s : State) (p : Nat) : Bool := kerbX4 s p && decide (mode s = modeLean)

/-- The lanes that a link takes of the good lanes `m`. -/
def linkLanes (s : State) (p m : Nat) : Nat := if leanLink s p then 3 else if kerbX4 s p ∧ lanes m < 4 then lowestTwo m else m

/-- The port takes its lanes in both directions, and holds its RX_OK and the partner's. -/
def takeLanes (p tx rx : Nat) (s : State) : State :=
  wr (krb p) KRB.PORT_STATUS_TX_LANES (linkLanes s p tx) (wr (krb p) KRB.PORT_STATUS_RX_LANES (linkLanes s p rx)
    (wr (krbHeld p) HKRB.RX_OK (if leanLink s p then rx &&& 3 else rx)
      (wr (krbHeld p) HKRB.PART_OK tx (wrb (krbHeld p) HKRB.NARROW (leanLink s p) s))))

/-- A good lane shows its partner's lane number, its skew and its four flags. -/
def laneUp (p ids skews i : Nat) (s : State) : State :=
  wr (lan p) (LAN.LANE_STATUS_LANE_ID i) (bitsOf ids (2 * i) 2) (wr (lan p) (LAN.LANE_STATUS_SKEW i) (bitsOf skews (8 * i) 8)
    (wr (lan p) (LAN.LANE_STATUS_SIGNAL i) 1 (wr (lan p) (LAN.LANE_STATUS_SYNC i) 1 (wr (lan p) (LAN.LANE_STATUS_ALIGNED i) 1
      (wr (lan p) (LAN.LANE_STATUS_LOST i) 0 s)))))

/-- A lane that is not good as the link comes up is lost from this tick on. -/
def laneLeftOut (p i : Nat) (s : State) : State :=
  wr (lan p) (LAN.LANE_STATUS_LOST i) 1 (wr (krbHeld p) (HKRB.BAD_TICK i) s.clock.tick s)

/-- The lanes of the link as it comes up: those received on are good, the others of a Kerb-X4 port are lost. -/
def lanesUp (p tx rx ids skews : Nat) (s : State) : State :=
  forEach ((List.range 4).filter (fun i => kerbX4 s p && !bit rx i)) (laneLeftOut p)
    (forEach ((List.range 4).filter (bit rx)) (laneUp p ids skews) (takeLanes p tx rx s))

/-- The link is up, its transmitter idle from this block on, with LINK_UP raised. -/
def linkUp (p tx rx ids skews : Nat) (s : State) : State :=
  raise (krb p) KRB.evLINK_UP [kerbMode s p, linkLanes s p tx]
    (showIdle p (wr (krbHeld p) HKRB.IDLE_FROM (startOf (now s)) (setLinkWidth p (lanesUp p tx rx ids skews s))))

theorem linkUp_held (hp : p < 8) (hen : portEn s p = true) (hd : kerbDomain s p = true) (hu : kerbUp s p = false) (htx : tx < 16)
    (hrx : rx < 16) (hl : upLanes s p tx rx = true)
    (ht : rd s (krbHeld p) HKRB.UP_FROM + max 1 (rd s (krb p) KRB.UP_HOLD) ≤ s.clock.tick) :
    exec (.linkUp p tx rx ids skews) s = .next (kept s (linkUp p tx rx ids skews s)) :=
  settle_onlyIf (by simp only [hp, hen, hd, hu, htx, hrx, hl, ht]; decide)

end Links

/-- Settles O17: a lane goes by whether frames are received on it, a request and a marker by the lanes they leave, the rest by its conditions. -/
theorem lanesFallbackAndLinks : Obligations.LanesFallbackAndLinks := fun _ _ _ _ _ _ _ _ _ _ _ _ _ _ _ _ hp hl =>
  ⟨execLaneLost_noCriterion (Nat.lt_succ_of_lt hp) hl (Nat.le_refl 4), execLaneLost_receiving hp hl, execLaneLost_idle hp hl,
    execLaneLost_host hl, fallbackRequestRx_twoLanes hp, fallbackRequestRx_tooFew hp, resumeMarkerRx_noFrame hp,
    scheduledMarker_sameLanes hp, scheduledMarker_narrows hp, laneRestore_clean hp hl, linkUp_held hp⟩

/-! ## KREF (R301, Table 10.12) -/

section Kref

variable {s : State} {v : Nat}

theorem krefCtrlWrite_portsOff (hu : Unlocked s 0xA9) (hp : anyPortEn s = false) :
    exec (.krefCtrlWrite v) s
      = .next (kept s (wr 0xA9 KREF.KREF_STATUS_SPREAD_ON (v / 2 % 2 * (v % 2)) (wr 0xA9 KREF.KREF_CTRL_EN (v % 2)
          (wr 0xA9 KREF.KREF_CTRL_SPREAD (v / 2 % 2) s)))) :=
  (settle_hostCmd_unlocked hu).trans (by simp only [hp, Bool.false_eq_true, false_and, if_false])

/-- KREF does not stop under a Kerb port that is enabled. -/
theorem krefCtrlWrite_refused (hu : Unlocked s 0xA9) (hp : anyPortEn s = true) (hv : v % 2 = 0) :
    exec (.krefCtrlWrite v) s = .next (kept s (raise 0xA9 KREF.evSPREAD_REFUSED [] (wr 0xA9 KREF.KREF_STATUS_REFUSED 1 s))) :=
  (settle_hostCmd_unlocked hu).trans (by simp only [hp, hv, true_or, and_self, if_true])

/-- The loss of lock raises the fault, with UNIT 0x3F (log entries 18 and 54). -/
theorem krefUnlock_lost (h : rd s 0xA9 KREF.KREF_STATUS_LOCKED = 1) :
    exec (.krefUnlock false) s
      = .next (kept s (raiseFault 0xA9 KREF.evKREF_UNLOCK (locUnit 0 0x3F) false [] (wr 0xA9 KREF.KREF_STATUS_LOCKED 0 s))) :=
  settle_onlyIf (by simp [rdb_of_eq_one h])

theorem krefUnlock_regained (h : rd s 0xA9 KREF.KREF_STATUS_LOCKED = 0) :
    exec (.krefUnlock true) s = .next (kept s (wr 0xA9 KREF.KREF_STATUS_LOCKED 1 s)) :=
  settle_onlyIf (by simp [rdb_of_eq_zero h])

end Kref

/-! ## The pattern checkers (R302, R303) -/

section Checkers

variable {s : State} {p l errs : Nat}

theorem prbsInj_unlocked (hp : p < 8) (hl : l < 4) (hu : Unlocked s (lan p)) :
    exec (.prbsInjSingle p l) s = .next (kept s (injectBits p l 1 s)) ∧
    exec (.prbsInjBurst p l) s = .next (kept s (injectBits p l (max 1 (rd s (lan p) (LAN.LANE_INJ_BURST_LEN l))) s)) :=
  have hc := decide_eq_true (⟨Nat.lt_succ_of_lt hp, hl⟩ : p < 9 ∧ l < 4)
  ⟨settle_onlyIf_hostCmd hc hu, settle_onlyIf_hostCmd hc hu⟩

/-- A report of an enabled checker of a Kerb port is taken: the test fields of the Kerb lanes always act (R304). -/
theorem prbsLock_enabled {lock : Bool} (hp : p < 8) (hl : l < 4) (hc : rd s (lan p) (LAN.LANE_CTRL_CHECK_EN l) = 1) :
    exec (.prbsLock p l lock errs) s = .next (kept s (
      let was := rdb s (lan p) (LAN.LANE_STATUS_PRBS_LOCK l)
      let t := if was then addc (lan p) (LAN.PRBS_ERR l) errs s else s
      if was = lock then t else
      let u := wrb (lan p) (LAN.LANE_STATUS_PRBS_LOCK l) lock t
      raise (lan p) LAN.evPRBS_LOCK [l] (if lock then u else inc (lan p) (LAN.LOCK_LOSS l) u))) :=
  have hacts : testActs s p = true := by simp only [testActs, hp, decide_true, Bool.true_or]
  settle_onlyIf (decide_eq_true ⟨Nat.lt_succ_of_lt hp, hl, hacts, rdb_of_eq_one hc⟩)

theorem prbsLock_locks (hp : p < 8) (hl : l < 4) (hc : rd s (lan p) (LAN.LANE_CTRL_CHECK_EN l) = 1)
    (hk : rd s (lan p) (LAN.LANE_STATUS_PRBS_LOCK l) = 0) :
    exec (.prbsLock p l true errs) s = .next (kept s (raise (lan p) LAN.evPRBS_LOCK [l] (wr (lan p) (LAN.LANE_STATUS_PRBS_LOCK l) 1 s))) :=
  (prbsLock_enabled hp hl hc).trans (by simp only [rdb_of_eq_zero hk, Bool.false_eq_true, if_false, if_true]; rfl)

theorem prbsLock_loses (hp : p < 8) (hl : l < 4) (hc : rd s (lan p) (LAN.LANE_CTRL_CHECK_EN l) = 1)
    (hk : rd s (lan p) (LAN.LANE_STATUS_PRBS_LOCK l) = 1) :
    exec (.prbsLock p l false errs) s
      = .next (kept s (raise (lan p) LAN.evPRBS_LOCK [l] (inc (lan p) (LAN.LOCK_LOSS l) (wr (lan p) (LAN.LANE_STATUS_PRBS_LOCK l) 0
          (addc (lan p) (LAN.PRBS_ERR l) errs s))))) :=
  (prbsLock_enabled hp hl hc).trans (by simp only [rdb_of_eq_one hk, Bool.true_eq_false, Bool.false_eq_true, if_false, if_true]; rfl)

theorem prbsLock_holds (hp : p < 8) (hl : l < 4) (hc : rd s (lan p) (LAN.LANE_CTRL_CHECK_EN l) = 1)
    (hk : rd s (lan p) (LAN.LANE_STATUS_PRBS_LOCK l) = 1) :
    exec (.prbsLock p l true errs) s = .next (kept s (addc (lan p) (LAN.PRBS_ERR l) errs s)) :=
  (prbsLock_enabled hp hl hc).trans (by simp only [rdb_of_eq_one hk, if_true])

end Checkers

/-! ## LANE_CTRL and PORT_CTRL (R289, R304) -/

section PortRegisters

variable {s : State} {p l v : Nat}

/-- The fields of a LANE_CTRL write, all of which an idle port takes. -/
def laneCtrlTaken (p l v : Nat) (s : State) : State :=
  let u := wr (lan p) (LAN.LANE_CTRL_LOOPBACK l) (bitsOf v 2 2) (wr (lan p) (LAN.LANE_CTRL_TEST l) (bitsOf v 4 1) s)
  let u := wr (lan p) (LAN.LANE_CTRL_TX_INVERT l) v (wr (lan p) (LAN.LANE_CTRL_RX_INVERT l) (v / 2) u)
  let u := wr (lan p) (LAN.LANE_CTRL_PATTERN l) (v / 2 ^ 5) (wr (lan p) (LAN.LANE_CTRL_CHECK_EN l) (v / 2 ^ 8) u)
  wr (lan p) (LAN.LANE_CTRL_TX_SWING l) (v / 2 ^ 9) (wr (lan p) (LAN.LANE_CTRL_TX_DEEMPH l) (v / 2 ^ 12) u)

theorem laneCtrlWrite_idle (hp : p < 8) (hl : l < 4) (hu : Unlocked s (lan p)) (hen : portEn s p = false) :
    exec (.laneCtrlWrite p l v) s = .next (kept s (laneCtrlTaken p l v s)) :=
  (settle_onlyIf_hostCmd (decide_eq_true ⟨Nat.lt_succ_of_lt hp, hl⟩) hu).trans (by
    simp only [hen, Bool.false_eq_true, and_false, false_and, if_false, Nat.ne_of_lt hp]; rfl)

/-- The fields of a PORT_CTRL write that an idle port takes: MODE and AN_EN at once, those of the commit staged. -/
def portCtrlTaken (p v : Nat) (s : State) : State :=
  let u := wr (krb p) KRB.PORT_CTRL_AN_EN (v / 2 ^ 5) (wr (krb p) KRB.PORT_CTRL_MODE (bitsOf v 1 2) s)
  let u := wrStaged (krb p) (krb p) KRB.PORT_CTRL_FALLBACK_EN (v / 2 ^ 3) (wrStaged (krb p) (krb p) KRB.PORT_CTRL_LPI_EN (v / 2 ^ 4) u)
  wrStaged (krb p) (krb p) KRB.PORT_CTRL_PAUSE_MODE (v / 2 ^ 6) u

/-- An idle port that is enabled trains from this tick on (R316). -/
def portEnabled (p : Nat) (s : State) : State :=
  showIdle p (wr (krbHeld p) HKRB.UP_FROM s.clock.tick (wr (krb p) KRB.PORT_STATUS_LINK 1 (wr (krb p) KRB.PORT_CTRL_EN 1 s)))

/-- A PORT_CTRL write leaves KREF alone. -/
theorem spreadOn_portCtrlTaken (hp : p < 8) :
    rd (portCtrlTaken p v s) 0xA9 KREF.KREF_STATUS_SPREAD_ON = rd s 0xA9 KREF.KREF_STATUS_SPREAD_ON := by
  have hpage : 0xA9 ≠ krb p := by simp only [krb]; omega
  have hstaged := key_ne_of_page (f := COM.PAGE_STATUS_STAGED) (g := KREF.KREF_STATUS_SPREAD_ON) hpage (by decide) (by decide)
  rw [portCtrlTaken, rd_wrStaged hstaged, rd_wrStaged hstaged, rd_wrStaged hstaged, rd_wr_page hpage (by decide) (by decide),
    rd_wr_page hpage (by decide) (by decide)]

theorem portCtrlWrite_enables (hp : p < 8) (hu : Unlocked s (krb p)) (hen : portEn s p = false)
    (hs : rd s 0xA9 KREF.KREF_STATUS_SPREAD_ON = 0) (hv : bit v 0 = true) :
    exec (.portCtrlWrite p v) s = .next (kept s (portEnabled p (portCtrlTaken p v s))) := by
  have hspread : rdb (portCtrlTaken p v s) 0xA9 KREF.KREF_STATUS_SPREAD_ON = false :=
    rdb_of_eq_zero ((spreadOn_portCtrlTaken hp).trans hs)
  simp only [portCtrlTaken] at hspread
  exact (settle_onlyIf_hostCmd (decide_eq_true hp) hu).trans (by
    simp only [hen, hv, hspread, Bool.not_true, Bool.not_false, Bool.false_eq_true, false_and, and_false, true_and, or_self,
      if_false]
    rfl)

end PortRegisters

/-! ## The tables of a Kerb port (R308) -/

section KerbTables

variable {s : State} {p pg : Nat} {fs : List Field}

theorem krbTable_there (hp : p < 8) (h : TableFree s (krb p)) (hr : krbRecord s p = some (pg, fs)) :
    exec (.krbTableRead p) s = .next (kept s (tblResult (krb p) 0 (readRecord (krb p) pg fs s))) ∧
    exec (.krbTableWrite p) s = .next (kept s (tblResult (krb p) 0 (stageRecord (krb p) pg fs s))) :=
  have hc := decide_eq_true hp
  ⟨(settle_onlyIf_tblCmd hc h).trans (by simp only [hr]), (settle_onlyIf_tblCmd hc h).trans (by simp only [hr])⟩

theorem krbTable_beyond (hp : p < 8) (h : TableFree s (krb p)) (hr : krbRecord s p = none) :
    exec (.krbTableRead p) s = .next (kept s (tblResult (krb p) 1 s)) ∧
    exec (.krbTableWrite p) s = .next (kept s (tblResult (krb p) 1 s)) :=
  have hc := decide_eq_true hp
  ⟨(settle_onlyIf_tblCmd hc h).trans (by simp only [hr]), (settle_onlyIf_tblCmd hc h).trans (by simp only [hr])⟩

end KerbTables

/-- Settles O19: each command of an unlocked or free page meets the conditions under which it acts, or those under which it is refused. -/
theorem kerbControlRegisters : Obligations.KerbControlRegisters := fun _ _ _ _ _ hp hl =>
  ⟨krefCtrlWrite_portsOff, krefCtrlWrite_refused, krefUnlock_lost, krefUnlock_regained, prbsInj_unlocked hp hl, prbsLock_locks hp hl,
    fun hc hk => ⟨prbsLock_loses hp hl hc hk, prbsLock_holds hp hl hc hk⟩, laneCtrlWrite_idle hp hl, portCtrlWrite_enables hp,
    fun _ _ => krbTable_there hp, krbTable_beyond hp⟩

end Sys2Proof.Machine

/-! Time (chapter 11): the servo's measurements, steps, loads of the time of day; captures, the FIFOs of time-stamps, the Lamplighter. -/

namespace Sys2Proof.Machine

/-! ## Conditions of an answer, and who gives a command -/

section Answers

variable {s : State} {byHost : Bool}

/-- The next state by a condition that holds. -/
theorem next_if_pos {c : Prop} [Decidable c] {t u : State} (h : c) :
    (.next (kept s (if c then t else u)) : Host.Outcome State Fault Refusal) = .next (kept s t) := by rw [if_pos h]

/-- The next state by a condition that does not hold. -/
theorem next_if_neg {c : Prop} [Decidable c] {t u : State} (h : ¬ c) :
    (.next (kept s (if c then t else u)) : Host.Outcome State Fault Refusal) = .next (kept s u) := by rw [if_neg h]

/-- A host command of an unlocked page has its effect, whoever gives it. -/
theorem hostCmdOf_unlocked {p off : Nat} {f : State → State} (h : Unlocked s p) : hostCmdOf byHost p off f s = f s := by
  cases byHost
  · rfl
  · exact hostCmd_unlocked h

end Answers

/-! ## The servo, steps and the time of day -/

section Clock

variable {s : State} {cyc i : Nat} {rest : List Nat} {byHost : Bool}

theorem timeMeasurement_complete (hc : servoTicks s ≤ rd s (held 0x30) HTIM.COUNT) (hs : rdb s 0x30 TIM0.CLK_CTRL_SOURCE = false) :
    exec (.timeMeasurement cyc) s
      = .next (kept s (measured (rdS s (held 0x30) HTIM.SUM / (max 1 (rd s (held 0x30) HTIM.COUNT) : Nat)) cyc (dropMeasurement s))) :=
  settle_onlyIf (by simp [hc, hs])

/-- The first of the steps that are due is applied; the others are dropped (R334, R336). -/
theorem stepApply_due (ho : s.clock.tickOpen = true) (hd : [0, 1, 2].filter (stepDue s) = i :: rest) :
    exec .stepApply s = .next (kept s (
      let t := forEach (i :: rest) (fun j t => wr (held 0x30) (HTIM.STEP_AT j) 0 t) (forEach (List.range 4) lampStep (applyStep i s))
      if rest = [] then t else stepResult 5 t)) :=
  (settle_onlyIf ho).trans (by rw [hd])

theorem stepSet_software (h : Unlocked s 0x30) (hw : hwServo s = false) :
    exec (.stepSet cyc) s = .next (kept s (requestStep 2
      ((rd s 0x30 TIM0.SET_NS + rd64 s 0x30 TIM0.SET_SEC_LO TIM0.SET_SEC_HI * 1000000000 : Nat) - curNs s cyc : Int) cyc s)) :=
  (settle_hostCmd_unlocked h).trans (by simp only [hw, Bool.false_eq_true, if_false])

theorem stepAdjust_software (h : Unlocked s 0x30) (hw : hwServo s = false) :
    exec (.stepAdjust cyc) s = .next (kept s (requestStep 2 (toSigned 64 (rd64 s 0x30 TIM0.ADJ_NS_LO TIM0.ADJ_NS_HI)) cyc s)) :=
  (settle_hostCmd_unlocked h).trans (by simp only [hw, Bool.false_eq_true, if_false])

theorem stepSet_hardware (h : Unlocked s 0x30) (hw : hwServo s = true) : exec (.stepSet cyc) s = .next (kept s (stepResult 2 s)) :=
  (settle_hostCmd_unlocked h).trans (by simp only [hw, if_true])

theorem stepAdjust_hardware (h : Unlocked s 0x30) (hw : hwServo s = true) : exec (.stepAdjust cyc) s = .next (kept s (stepResult 2 s)) :=
  (settle_hostCmd_unlocked h).trans (by simp only [hw, if_true])

theorem stepAccept_pending (h : Unlocked s 0x30) (hp : rdb s 0x30 TIM0.CLK_STATUS_STEP_PENDING = true) :
    exec (.stepAccept cyc) s = .next (kept s (stepResult 1 (acceptPending cyc s))) :=
  (settle_hostCmd_unlocked h).trans (by simp only [hp, if_true])

theorem stepDiscard_pending (h : Unlocked s 0x30) (hp : rdb s 0x30 TIM0.CLK_STATUS_STEP_PENDING = true) :
    exec .stepDiscard s
      = .next (kept s (stepResult 0 (wr64 0x30 TIM0.PENDING_STEP_LO TIM0.PENDING_STEP_HI 0 (wr 0x30 TIM0.CLK_STATUS_STEP_PENDING 0 s)))) :=
  (settle_hostCmd_unlocked h).trans (by simp only [hp, if_true])

theorem stepAccept_none (h : Unlocked s 0x30) (hp : rdb s 0x30 TIM0.CLK_STATUS_STEP_PENDING = false) :
    exec (.stepAccept cyc) s = .next (kept s (stepResult 3 s)) :=
  (settle_hostCmd_unlocked h).trans (by simp only [hp, Bool.false_eq_true, if_false])

theorem stepDiscard_none (h : Unlocked s 0x30) (hp : rdb s 0x30 TIM0.CLK_STATUS_STEP_PENDING = false) :
    exec .stepDiscard s = .next (kept s (stepResult 3 s)) :=
  (settle_hostCmd_unlocked h).trans (by simp only [hp, Bool.false_eq_true, if_false])

theorem clearUncertain_uncertain (h : Unlocked s 0x30) (hw : hwServo s = false) (hc : clkState s = clkUncertain) :
    exec .clearUncertain s
      = .next (kept s (if lastTheta s ≤ rd s 0x30 TIM0.LOCK_NS then enterClk clkLocked (rd s 0x30 TIM0.LOCK_NS) s
          else enterClk clkLocking (lastTheta s) s)) :=
  (settle_hostCmd_unlocked h).trans (by simp only [hw, hc, ne_eq, not_true_eq_false, Bool.false_eq_true, if_false])

theorem autoAccept_held (ha : rdb s 0x30 TIM0.CLK_CTRL_AUTO_ACCEPT = true) (hp : rdb s 0x30 TIM0.CLK_STATUS_STEP_PENDING = true)
    (h0 : rd s (held 0x30) (HTIM.STEP_AT 0) = 0) (ht : rd s (held 0x30) HTIM.FIRST_TICK + rd s 0x30 TIM0.ACCEPT_HOLD ≤ s.clock.tick) :
    exec .autoAccept s = .next (kept s (acceptPending 0 s)) :=
  settle_onlyIf (by simp [ha, hp, h0, ht])

/-- TOD_RESULT of the pair written: 2 too far from the port's superframe count, 3 the port not in SYNC, 1 a good pair (R328). -/
def todResult (s : State) : Nat :=
  let p := rd s 0x30 TIM0.TOD_CMD_PORT
  if 2 ^ 30 < ((rd64 s 0x30 TIM0.TOD_SFC_LO TIM0.TOD_SFC_HI : Int) - rd64 s (0x40 + 0x20 * p) FB0.SFC_LO FB0.SFC_HI).natAbs then 2
  else if rd s (0x40 + 0x20 * p) FB0.DS_STATUS_SYNC_STATE ≠ 2 then 3 else 1

/-- TOD_CMD.LOAD shows its result and raises TOD_LOADED. -/
def todAnswer (r : Nat) (s : State) : State :=
  raise 0x30 TIM0.evTOD_LOADED [rd s 0x30 TIM0.TOD_CMD_PORT, r] (wr 0x30 TIM0.TOD_CMD_LOAD 0 (wr 0x30 TIM0.TOD_CMD_TOD_RESULT r s))

/-- The pair written is port p's reference from the next tick boundary. -/
def todNext (p n : Nat) (t : State) : State :=
  let ns := rd t 0x30 TIM0.TOD_NS + rd64 t 0x30 TIM0.TOD_SEC_LO TIM0.TOD_SEC_HI * 1000000000
  wr (held 0x30) (HTIM.NEXT_SET p) 1 (wr (held 0x30) (HTIM.NEXT_T p) ns (wr (held 0x30) (HTIM.NEXT_N p) n t))

theorem todLoad_unlocked (h : Unlocked s 0x30) :
    exec (.todLoad byHost) s = .next (kept s (
      if todResult s = 1 then
        todNext (rd s 0x30 TIM0.TOD_CMD_PORT) (rd64 s 0x30 TIM0.TOD_SFC_LO TIM0.TOD_SFC_HI) (todAnswer (todResult s) s)
      else todAnswer (todResult s) s)) :=
  (settle_kept s _).trans (by rw [hostCmdOf_unlocked h]; rfl)

theorem todLoad_good (h : Unlocked s 0x30)
    (hn : ((rd64 s 0x30 TIM0.TOD_SFC_LO TIM0.TOD_SFC_HI : Int)
      - rd64 s (0x40 + 0x20 * rd s 0x30 TIM0.TOD_CMD_PORT) FB0.SFC_LO FB0.SFC_HI).natAbs ≤ 2 ^ 30)
    (hsync : rd s (0x40 + 0x20 * rd s 0x30 TIM0.TOD_CMD_PORT) FB0.DS_STATUS_SYNC_STATE = 2) :
    exec (.todLoad byHost) s = .next (kept s
      (todNext (rd s 0x30 TIM0.TOD_CMD_PORT) (rd64 s 0x30 TIM0.TOD_SFC_LO TIM0.TOD_SFC_HI) (todAnswer 1 s))) := by
  have hgood : todResult s = 1 := by
    unfold todResult
    rw [if_neg (Nat.not_lt.mpr hn), if_neg (not_not_intro hsync)]
  rw [todLoad_unlocked h, hgood, if_pos rfl]

end Clock

/-- Settles O26: each command meets the condition under which it acts. -/
theorem servoAndSteps : Obligations.ServoAndSteps := fun _ _ _ _ _ =>
  ⟨timeMeasurement_complete, stepApply_due, fun h hw => ⟨stepSet_software h hw, stepAdjust_software h hw⟩,
    fun h hw => ⟨stepSet_hardware h hw, stepAdjust_hardware h hw⟩, fun h hp => ⟨stepAccept_pending h hp, stepDiscard_pending h hp⟩,
    fun h hp => ⟨stepAccept_none h hp, stepDiscard_none h hp⟩, clearUncertain_uncertain, autoAccept_held, todLoad_good⟩

/-! ## Captures, the FIFOs and the Lamplighter -/

section Captures

variable {s : State} {n len cyc ticks : Nat} {byHost : Bool}

/-- The edge that EDGE selects, of a long enough pulse on an enabled input that is not stuck, is judged (R351). -/
theorem captureEdge_judged (hn : n < 2) (hr : s.clock.running = true) (he : rdb s 0x31 (TIM1.CAP_CTRL_EN n) = true)
    (hs : rdb s 0x31 (TIM1.CAP_STATUS_STUCK n) = false) (hl : 4 ≤ len) :
    exec (.captureEdge n (rdb s 0x31 (TIM1.CAP_CTRL_EDGE n)) len cyc) s = .next (kept s (
      if edgeTooSoon s n cyc then raiseFirst 0x31 TIM1.evPPS_REJECT [n] (inc 0x31 (TIM1.REJECTED n) s) else acceptEdge n cyc s)) :=
  settle_onlyIf (by simp [hn, hr, he, hs, hl])

theorem captureEdge_accepted (hn : n < 2) (hr : s.clock.running = true) (he : rdb s 0x31 (TIM1.CAP_CTRL_EN n) = true)
    (hs : rdb s 0x31 (TIM1.CAP_STATUS_STUCK n) = false) (hl : 4 ≤ len) (ht : edgeTooSoon s n cyc = false) :
    exec (.captureEdge n (rdb s 0x31 (TIM1.CAP_CTRL_EDGE n)) len cyc) s = .next (kept s (acceptEdge n cyc s)) :=
  (captureEdge_judged hn hr he hs hl).trans (by simp only [ht, Bool.false_eq_true, if_false])

theorem captureEdge_rejected (hn : n < 2) (hr : s.clock.running = true) (he : rdb s 0x31 (TIM1.CAP_CTRL_EN n) = true)
    (hs : rdb s 0x31 (TIM1.CAP_STATUS_STUCK n) = false) (hl : 4 ≤ len) (ht : edgeTooSoon s n cyc = true) :
    exec (.captureEdge n (rdb s 0x31 (TIM1.CAP_CTRL_EDGE n)) len cyc) s
      = .next (kept s (raiseFirst 0x31 TIM1.evPPS_REJECT [n] (inc 0x31 (TIM1.REJECTED n) s))) :=
  (captureEdge_judged hn hr he hs hl).trans (by simp only [ht, if_true])

theorem inputStuck_held (hn : n < 2) (hs : rdb s 0x31 (TIM1.CAP_STATUS_STUCK n) = false) (ht : rd s 0x31 (TIM1.STUCK_TICKS n) ≤ ticks) :
    exec (.inputStuck n false ticks) s = .next (kept s (raise 0x31 TIM1.evINPUT_STUCK [n, 1] (wr 0x31 (TIM1.CAP_STATUS_STUCK n) 1 s))) :=
  settle_onlyIf (by simp [hn, hs, ht])

theorem inputStuck_released (hn : n < 2) (hs : rdb s 0x31 (TIM1.CAP_STATUS_STUCK n) = true) (ht : 8 ≤ ticks) :
    exec (.inputStuck n true ticks) s = .next (kept s (raise 0x31 TIM1.evINPUT_STUCK [n, 0] (wr 0x31 (TIM1.CAP_STATUS_STUCK n) 0 s))) :=
  settle_onlyIf (by simp [hn, hs, ht])

theorem ppsLost_silent (hl : rdb s 0x31 (TIM1.CAP_STATUS_LOST 0) = false)
    (ht : rd s (held 0x30) (HTIM.LAST_EDGE 0) + 16000 * tickCycles ≤ startOf (now s) + 1) :
    exec .ppsLost s = .next (kept s (followSource (raise 0x31 TIM1.evPPS_LOST [1] (wr 0x31 (TIM1.CAP_STATUS_LOST 0) 1 s)))) :=
  settle_onlyIf (by simp [hl, ht])

theorem ppsArm_unlocked (h : Unlocked s 0x30) : exec .ppsArm s = .next (kept s (wr 0x30 TIM0.PPS_NEXT_SEC_HI_ARM 1 s)) :=
  settle_hostCmd_unlocked h

theorem txtsPop_unlocked (hn : n < 8) (h : Unlocked s 0x32) :
    exec (.txtsPop n byHost) s = .next (kept s (txtsShow n { s with txts := dropFirst (fun x => x.port = n) s.txts })) :=
  (settle_onlyIf (decide_eq_true hn)).trans (by rw [hostCmdOf_unlocked h])

theorem capPop_unlocked (hn : n < 2) (h : Unlocked s 0x31) :
    exec (.capPop n) s = .next (kept s (capShow n { s with caps := dropFirst (fun x => x.port = n) s.caps })) :=
  settle_onlyIf_hostCmd (decide_eq_true hn) h

theorem lampArm_unlocked (hn : n < 4) (h : Unlocked s 0x31) :
    exec (.lampArm n) s = .next (kept s (wr (held 0x30) (HTIM.L_ARM n) 1 (wr 0x31 (TIM1.LAMP_CTRL_ARM n) 1 s))) :=
  settle_onlyIf_hostCmd (decide_eq_true hn) h

theorem lampPulse_due (hn : n < 4) (hr : s.clock.running = true) (hl : rd s (held 0x30) (HTIM.L_RUN n) ≠ 0)
    (ht : reached s cyc (rd s (held 0x30) (HTIM.L_NEXT n)) = true) :
    exec (.lampPulse n cyc) s = .next (kept s (lampPulse n cyc s)) :=
  settle_onlyIf (by simp [hn, hr, hl, ht])

end Captures

/-- Settles O27: each command meets the condition under which it acts. -/
theorem capturesAndOutputs : Obligations.CapturesAndOutputs := fun _ _ _ _ _ _ =>
  ⟨captureEdge_accepted, captureEdge_rejected, inputStuck_held, inputStuck_released, ppsLost_silent, ppsArm_unlocked, txtsPop_unlocked,
    capPop_unlocked, lampArm_unlocked, lampPulse_due⟩

end Sys2Proof.Machine

/-! Tramlines (chapter 12): highways, tributaries, the performance bins and the table commands. -/

namespace Sys2Proof.Machine

/-! ## Highways and their tributaries -/

section Highways

variable {s : State} {h n cyc : Nat} {d : List Byte} {ok : Bool}

theorem hwyTxFrame_starts (hon : hwyOn s h = true) (hst : frameMayStart s h cyc = true) :
    exec (.hwyTxFrame h cyc) s = .next (kept s (hwyTx h s)) :=
  settle_onlyIf (by simp [hon, hst])

/-- A frame on a running highway shows its clock; under EXTERNAL one with its sync out of place only counts FS_ERR (R356). -/
theorem hwyRxFrame_starts (hon : hwyOn s h = true) (hst : frameMayStart s h cyc = true) :
    exec (.hwyRxFrame h d ok cyc) s = .next (kept s (
      let t := wr 0x1A0 (TRM0.HWY_STATUS_CLK_OK h) 1 s
      if hwyTiming t h = 2 ∧ !ok then inc 0x1A0 (TRM0.FS_ERR h) t
      else forEach (tribsOf t h) (fun n t => tribReceive n (slotOfBytes d (n % 16)) t) t)) :=
  settle_onlyIf (by simp [hon, hst])

/-- Showing a highway's clock leaves its TIMING alone. -/
theorem hwyTiming_wr_clkOk (v : Nat) : hwyTiming (wr 0x1A0 (TRM0.HWY_STATUS_CLK_OK h) v s) h = hwyTiming s h := by
  unfold hwyTiming
  rw [rd_wr_off (by simp only [TRM0.HWY_CTRL_TIMING, TRM0.HWY_STATUS_CLK_OK]; omega)]

theorem hwyRxFrame_received (hon : hwyOn s h = true) (hst : frameMayStart s h cyc = true) (hok : hwyTiming s h = 2 → ok = true) :
    exec (.hwyRxFrame h d ok cyc) s = .next (kept s (
      let t := wr 0x1A0 (TRM0.HWY_STATUS_CLK_OK h) 1 s
      forEach (tribsOf t h) (fun n t => tribReceive n (slotOfBytes d (n % 16)) t) t)) := by
  have hin : ¬ (hwyTiming (wr 0x1A0 (TRM0.HWY_STATUS_CLK_OK h) 1 s) h = 2 ∧ (!ok) = true) := by
    rw [hwyTiming_wr_clkOk]
    rintro ⟨hext, hbad⟩
    simp [hok hext] at hbad
  rw [hwyRxFrame_starts hon hst]
  simp only [if_neg hin]

theorem hwyRxFrame_outOfPlace (hon : hwyOn s h = true) (hst : frameMayStart s h cyc = true) (hext : hwyTiming s h = 2) :
    exec (.hwyRxFrame h d false cyc) s = .next (kept s (inc 0x1A0 (TRM0.FS_ERR h) (wr 0x1A0 (TRM0.HWY_STATUS_CLK_OK h) 1 s))) := by
  rw [hwyRxFrame_starts hon hst]
  simp only [hwyTiming_wr_clkOk, hext, Bool.not_false, and_self, if_true]

theorem hwyClockLost_running (hon : hwyOn s h = true) (hc : rdb s 0x1A0 (TRM0.HWY_STATUS_CLK_OK h) = true) :
    exec (.hwyClockLost h) s = .next (kept s (
      let t := raise 0x1A0 TRM0.evCLOCK_LOST [h] (wr 0x1A0 (TRM0.HWY_STATUS_CLK_OK h) 0 s)
      forEach (tribsOf t h) (setDefect · TRIB.LOS 0 true) t)) :=
  settle_onlyIf (by simp [hon, hc])

theorem framerFault_cleared (hh : h < 4) :
    exec (.framerFault h true) s = .next (kept s { s with framerBad := s.framerBad.filter (fun k => decide (k ≠ h)) }) :=
  settle_onlyIf (decide_eq_true hh)

theorem framerFault_raised (hh : h < 4) :
    exec (.framerFault h false) s = .next (kept s (
      let t := raiseFault 0x1A0 TRM0.evFRAMER_FAULT (locUnit 0x1C h) false [] { s with framerBad := s.framerBad ++ [h] }
      forEach (tribsOf t h) (setDefect · TRIB.LOS 0 true) t)) :=
  settle_onlyIf (decide_eq_true hh)

theorem crc4Interwork_found (hn : n < 64) (hon : tribOn s n = true) (hf : framing s n = 2) (ha : tr s n TRIB.ALIGN_STATE = 3)
    (hi : rdb s (Tab.trib n) TRIB.CRC4_INTERWORK = false) (hm : (trib s n).mf = false) (hr : 3200 ≤ (trib s n).mfRestart) :
    exec (.crc4Interwork n) s = .next (kept s (raise 0x1A0 TRM0.evCRC4_INTERWORK [n] (wr (Tab.trib n) TRIB.CRC4_INTERWORK 1 s))) :=
  settle_onlyIf (by simp [hn, hon, hf, ha, hi, hm, hr])

theorem tribPacketise_gathered (hn : n < 64) (hon : tribOn s n = true) (hc : tr s n TRIB.CE_MODE ≠ 0) (hf : tr s n TRIB.FRAMES ≠ 0)
    (hg : tr s n TRIB.FRAMES ≤ (trib s n).gather.length) (ha : admissionOpen s 0 = true) :
    exec (.tribPacketise n) s = .next (kept s (packetise n s)) :=
  settle_onlyIf (by simp [hn, hon, hc, hf, hg, ha])

end Highways

/-! ## Performance bins and table commands (R362, R371) -/

section Bins

variable {s : State}

theorem perfSecond_ended (ht : s.clock.tick % 8000 = 0) :
    exec .perfSecond s = .next (kept s (
      let t := forEach (perfTribs s) (perfSecond (tramPowered s)) s
      if t.clock.tick % 7200000 = 72000 then copyBins t else t)) :=
  settle_onlyIf (decide_eq_true ht)

theorem binClosed_ended (ht : s.clock.tick % 7200000 = 0) :
    exec .binClosed s = .next (kept s (
      let bad := (perfTribs s).foldl (fun v n => setBit v n (rdb s (Tab.pbin n 0) PBIN.SUSPECT)) 0
      raise 0x1A2 TRM2.evBIN_CLOSED [bad % 2 ^ 32, bad / 2 ^ 32]
        (forEach (perfTribs s) (fun n t => closeBin n 0 (if t.clock.tick % 691200000 = 0 then closeBin n 2 t else t)) s))) :=
  settle_onlyIf (decide_eq_true ht)

theorem tribRead_free (h : TableFree s 0x1A1) :
    exec .tribRead s = .next (kept s (tblResult 0x1A1 0 (readRecord 0x1A1 (Tab.trib (rd s 0x1A1 TRM1.TBL_ADDR)) TRIB.fields s))) :=
  settle_tblCmd h

theorem tribReadClear_free (h : TableFree s 0x1A1) :
    exec .tribReadClear s = .next (kept s (tblResult 0x1A1 0 (forEach tribCounters
      (fun f t => wr (Tab.trib (rd s 0x1A1 TRM1.TBL_ADDR)) f 0 t)
      (readRecord 0x1A1 (Tab.trib (rd s 0x1A1 TRM1.TBL_ADDR)) TRIB.fields s)))) :=
  settle_tblCmd h

theorem tribWrite_staged (h : TableFree s 0x1A1) (hr : tribCheck s (dataField s 0x1A1) = 0) :
    exec .tribWrite s = .next (kept s (tblResult 0x1A1 0 (stageRecord 0x1A1 (Tab.trib (rd s 0x1A1 TRM1.TBL_ADDR))
      (TRIB.fields.filter (fun f => f ≠ TRIB.FREQ_PPB ∨ dataField s 0x1A1 TRIB.CR_MODE = 3)) s))) :=
  (settle_tblCmd h).trans (by simp only [hr, ne_eq, not_true_eq_false, if_false])

theorem tribWrite_refused (h : TableFree s 0x1A1) (hr : tribCheck s (dataField s 0x1A1) ≠ 0) :
    exec .tribWrite s = .next (kept s (raise 0x1A1 TRM1.evRECORD_REFUSED [rd s 0x1A1 TRM1.TBL_ADDR, tribCheck s (dataField s 0x1A1)]
      (tblResult 0x1A1 (tribCheck s (dataField s 0x1A1)) s))) :=
  (settle_tblCmd h).trans (by simp only [if_pos hr])

theorem perfBinRead_free (h : TableFree s 0x1A2) :
    exec .perfBinRead s = .next (kept s (tblResult 0x1A2 0
      (readRecord 0x1A2 (Tab.pbin (rd s 0x1A2 TRM2.TBL_ADDR_TRIB) (rd s 0x1A2 TRM2.TBL_ADDR_BIN)) PBIN.fields s))) :=
  settle_tblCmd h

end Bins

/-- Settles O28: each command meets the condition under which it acts. -/
theorem tramlinesCommands : Obligations.TramlinesCommands := fun _ _ _ _ _ _ =>
  ⟨hwyTxFrame_starts, hwyRxFrame_received, hwyRxFrame_outOfPlace, hwyClockLost_running, fun hh => ⟨framerFault_cleared hh, framerFault_raised hh⟩,
    crc4Interwork_found, tribPacketise_gathered, perfSecond_ended, binClosed_ended, fun h => ⟨tribRead_free h, tribReadClear_free h⟩,
    tribWrite_staged, tribWrite_refused, perfBinRead_free⟩

end Sys2Proof.Machine

/-! The Mews (chapter 13): the cores' dispatch, bundles, transfers, waits and overruns; the router, faults, tests and the role table. -/

namespace Sys2Proof.Machine

/-! ## Cores -/

section Cores

variable {s : State} {c at_ n d size r : Nat} {rest : List Nat}

/-- A core that has its list of this tick takes the next of its roles (R391). -/
theorem mewsDispatch_next (hc : c < 8) (he : rdb s 0x1C0 MEW0.MEW_CTRL_EN = true) (hw : coreWorks s c = true) (hi : (coreOf s c).role = 0)
    (ho : s.clock.tickOpen = false) (hd : rd s (held 0x1C0) (HMEW.DISP c) = s.clock.tick + 1)
    (hr : (coreOf s c).todo.filter (roleRuns s c) = r :: rest) :
    exec (.mewsDispatch c) s = .next (kept s (setCoreState c coreRunning (putCore c (startTask s r rest) s))) :=
  (settle_onlyIf (by simp [hc, he, hw, hi, ho])).trans (by simp only [if_pos hd, hr])

theorem bundleIssue_stalls (hi : canIssue s c = true)
    (hs : bundleStalls (taskCtx s c (taskRole (coreOf s c))) (coreOf s c) (taskBundle s c (coreOf s c)) = true) :
    exec (.bundleIssue c) s = .next (kept s (putCore c { coreOf s c with cycles := (coreOf s c).cycles + 1 } s)) :=
  (settle_onlyIf hi).trans (by simp only [hs, if_true])

theorem bundleIssue_runs (hi : canIssue s c = true)
    (hs : bundleStalls (taskCtx s c (taskRole (coreOf s c))) (coreOf s c) (taskBundle s c (coreOf s c)) = false)
    (ht : bundleTrap (taskCtx s c (taskRole (coreOf s c))) (land (coreOf s c)) (taskBundle s c (coreOf s c)) = 0) :
    exec (.bundleIssue c) s = .next (kept s (lateStop c (runBundle c (land (coreOf s c)) (taskCtx s c (taskRole (coreOf s c)))
      (taskBundle s c (coreOf s c)) s))) :=
  (settle_onlyIf hi).trans (by simp only [hs, ht, ne_eq, not_true_eq_false, Bool.false_eq_true, if_false])

theorem bundleIssue_traps (hi : canIssue s c = true)
    (hs : bundleStalls (taskCtx s c (taskRole (coreOf s c))) (coreOf s c) (taskBundle s c (coreOf s c)) = false)
    (ht : bundleTrap (taskCtx s c (taskRole (coreOf s c))) (land (coreOf s c)) (taskBundle s c (coreOf s c)) ≠ 0) :
    exec (.bundleIssue c) s = .next (kept s (taskTrap c
      (bundleTrap (taskCtx s c (taskRole (coreOf s c))) (land (coreOf s c)) (taskBundle s c (coreOf s c))) s)) :=
  (settle_onlyIf hi).trans (by simp only [hs, ht, ne_eq, not_false_eq_true, Bool.false_eq_true, if_false, if_true])

theorem taskTrap_traps (hi : canIssue s c = true)
    (hs : bundleStalls (taskCtx s c (taskRole (coreOf s c))) (coreOf s c) (taskBundle s c (coreOf s c)) = false)
    (ht : bundleTrap (taskCtx s c (taskRole (coreOf s c))) (land (coreOf s c)) (taskBundle s c (coreOf s c)) ≠ 0) :
    exec (.taskTrap c) s = .next (kept s (taskTrap c
      (bundleTrap (taskCtx s c (taskRole (coreOf s c))) (land (coreOf s c)) (taskBundle s c (coreOf s c))) s)) :=
  (settle_onlyIf hi).trans (by simp only [hs, ht, Bool.false_eq_true, or_self, if_false])

theorem xferComplete_task (hc : c < 8) (hr : (coreOf s c).role ≠ 0) : exec (.xferComplete c) s = .next (kept s (moveXfer c s)) :=
  settle_onlyIf (decide_eq_true ⟨hc, hr⟩)

theorem ckptComplete_running (hc : c < 8) (hr : (coreOf s c).role ≠ 0) (hk : (coreOf s c).ckptRun = some (at_, n)) :
    exec (.ckptComplete c) s = .next (kept s (putCore c { coreOf s c with
      ckptRun := none, ckptDone := some (at_ - roleF s (taskRole (coreOf s c)) ROLE.DATA_BASE, dmemRead s c at_ n) } s)) :=
  (settle_onlyIf (decide_eq_true ⟨hc, hr⟩)).trans (by simp only [hk])

/-- A stalled BALLOC asks again, and waits for a block more while there is no buffer (R398). -/
theorem ballocRetry_none (hc : c < 8) (hr : (coreOf s c).role ≠ 0) (hs : (coreOf s c).stalled = some (d, size))
    (hb : (askNow 9 size carveControl clMews s).1 = emptyHandle) :
    exec (.ballocRetry c) s = .next (kept s (putCore c { coreOf s c with cycles := (coreOf s c).cycles + blockCycles }
      (askNow 9 size carveControl clMews s).2)) :=
  (settle_onlyIf (decide_eq_true ⟨hc, hr⟩)).trans (by simp only [hs, hb, if_true])

theorem ballocRetry_taken (hc : c < 8) (hr : (coreOf s c).role ≠ 0) (hs : (coreOf s c).stalled = some (d, size))
    (hb : (askNow 9 size carveControl clMews s).1 ≠ emptyHandle) :
    exec (.ballocRetry c) s = .next (kept s (
      let g := askNow 9 size carveControl clMews s
      let m := { coreOf s c with cycles := (coreOf s c).cycles + blockCycles }
      setHandles (taskRole m) (roleHandlesOf g.2 (taskRole m) ++ [g.1])
        (putCore c { m with stalled := none, pend := m.pend ++ [⟨1, d, g.1⟩] } g.2))) :=
  (settle_onlyIf (decide_eq_true ⟨hc, hr⟩)).trans (by simp only [hs, if_neg hb])

/-- A role that waits, its transfers and checkpoint done and its outputs within their checks, ends its task (R393). -/
theorem taskWait_done (hc : c < 8) (hr : (coreOf s c).role ≠ 0) (hw : (coreOf s c).waiting = true) (hk : (coreOf s c).ckptRun = none)
    (hx : (coreOf s c).xfers = []) (ho : (coreOf s c).outs.all (fun p => portOk s p.1 p.2) = true) :
    exec (.taskWait c) s = .next (kept s (
      let m := coreOf s c
      let t := releaseOuts (taskRole m) m.outs s
      let t := match m.ckptDone with
        | some k => { t with ckpts := Map.put none t.ckpts (taskRole m) (some k) }
        | none => t
      mewsMaskEnd (wr (Tab.role (taskRole m)) HROLE.MASKING 0 (endTask c (countFlags (taskRole m) m.flags t))))) :=
  (settle_onlyIf (by simp [hc, hr, hw, hk])).trans (by
    cases hd : (coreOf s c).ckptDone with
    | none => simp only [hx, hd, forEach, List.foldl, ho, Bool.not_true, Bool.false_eq_true, if_false]
    | some k => simp only [hx, hd, forEach, List.foldl, ho, Bool.not_true, Bool.false_eq_true, if_false])

theorem taskOverrun_ordinary (hc : c < 8) (hr : (coreOf s c).role ≠ 0) (h0 : (coreOf s c).rep = 0) (hw : (coreOf s c).waiting = false)
    (hb : roleF s (taskRole (coreOf s c)) ROLE.BUDGET ≤ (coreOf s c).cycles) (ho : rosanegRole (taskRole (coreOf s c)) = false) :
    exec (.taskOverrun c) s = .next (kept s (stopRole (taskRole (coreOf s c)) 0x100 (endTask c s))) :=
  (settle_onlyIf (by simp [hc, hr, h0, hw, hb])).trans (by simp only [ho, Bool.false_eq_true, if_false])

end Cores

/-- Settles O29: each command meets the condition under which it acts. -/
theorem mewsCoreCommands : Obligations.MewsCoreCommands := fun _ _ _ _ _ _ _ _ hc =>
  ⟨mewsDispatch_next hc, bundleIssue_stalls, fun hi => ⟨bundleIssue_runs hi, fun hs ht => ⟨bundleIssue_traps hi hs ht, taskTrap_traps hi hs ht⟩⟩,
    fun hr => ⟨xferComplete_task hc hr, ckptComplete_running hc hr, ballocRetry_none hc hr, ballocRetry_taken hc hr⟩,
    taskWait_done hc, taskOverrun_ordinary hc⟩

/-! ## The router, faults and tests -/

section Router

variable {s : State} {c u a w r cyc : Nat}

/-- The router serves the first of the requesters it has still to serve in the cycle (R395). -/
theorem messageDelivery_first {q : Nat} (hc : cyc < 2430) (hg : (routerGone s (startOf (now s) + cyc)).2 < 2)
    (hn : routerNext s cyc (routerGone s (startOf (now s) + cyc)).1 = some q) :
    exec (.messageDelivery cyc) s = .next (kept s (routeFrom q cyc (startOf (now s) + cyc) s)) :=
  (settle_onlyIf (decide_eq_true ⟨hc, hg⟩)).trans (by simp only [hn])

theorem mewsCoreFault_working (hc : c < 8) (hu : u < 6) (hw : coreWorks s c = true) :
    exec (.mewsCoreFault c u a w) s = .next (kept s (coreFault c u (a % 2) w s)) :=
  settle_onlyIf (decide_eq_true ⟨hc, hu, hw⟩)

theorem routerFault_raised (hu : u < 2) :
    exec (.routerFault u) s = .next (kept s (raiseFault 0x1C0 MEW0.evROUTER_FAULT (locUnit 0x28 u) false [] s)) :=
  settle_onlyIf (decide_eq_true hu)

theorem coreTestDone_passed (hc : c < 8) (ht : coreState s c = coreTesting) (h0 : rd s (held 0x1C0) (HMEW.TEST c) ≠ 0)
    (hd : rd s (held 0x1C0) (HMEW.TEST c) + 799 ≤ s.clock.tick) :
    exec (.coreTestDone c true) s = .next (kept s (
      let t := inc 0x1C0 (MEW0.TESTS c) (wr (held 0x1C0) (HMEW.TEST c) 0 s)
      let t := wr 0x1C0 MEW0.MEW_STATUS_CORES_AVAILABLE (setBit (rd t 0x1C0 MEW0.MEW_STATUS_CORES_AVAILABLE) c true) t
      let t := wr 0x1C0 MEW0.MEW_STATUS_CORES_FAULTED (setBit (rd t 0x1C0 MEW0.MEW_STATUS_CORES_FAULTED) c false) t
      raise 0x1C0 MEW0.evCORE_TESTED [c, 1] (setCoreState c coreIdle t))) :=
  settle_onlyIf (decide_eq_true ⟨hc, .inr ht, h0, hd⟩)

/-- A command to a core that no role uses or stands by on is done, RESULT 1 (R404, R407). -/
theorem settle_coreCmd_unused {f : State → State} (hc : c < 8) (h : Unlocked s 0x1C0) (hr : rd s 0x1C0 (MEW0.CORE_ROLES c) = 0)
    (hs : rd s 0x1C0 (MEW0.CORE_STANDBY_FOR c) = 0) :
    settle s (onlyIf (c < 8) (coreCmd c f) s) = .next (kept s (wr 0x1C0 (MEW0.CORE_CMD_RESULT c) 1 (f s))) :=
  (settle_onlyIf_hostCmd (decide_eq_true hc) h).trans (by simp only [hr, hs, ne_eq, not_true_eq_false, or_self, if_false])

theorem settle_coreCmd_used {f : State → State} (hc : c < 8) (h : Unlocked s 0x1C0) (hr : rd s 0x1C0 (MEW0.CORE_ROLES c) ≠ 0) :
    settle s (onlyIf (c < 8) (coreCmd c f) s) = .next (kept s (wr 0x1C0 (MEW0.CORE_CMD_RESULT c) 2 s)) :=
  (settle_onlyIf_hostCmd (decide_eq_true hc) h).trans (by simp only [if_pos (Or.inl hr)])

end Router

/-! ## The role table -/

section Roles

variable {s : State} {r v : Nat} {host : Bool}

theorem roleRestart_due (ho : s.clock.tickOpen = true) (hd : r ∈ s.roleDue) (hr : r < 256) (hs : roleState s r = roleRestarting) :
    exec (.roleRestart r) s = .next (kept s (restartRole r s)) :=
  settle_onlyIf (decide_eq_true ⟨ho, hd, hr, hs⟩)

theorem roleChanged_due (ho : s.clock.tickOpen = true) (hr : r < 256) (hd : r + 256 ∈ s.roleDue) :
    exec (.roleChanged r) s = .next (kept s (changeRole r s)) :=
  settle_onlyIf (decide_eq_true ⟨ho, hr, hd⟩)

/-- A table command of a free page has its effect, whoever gives it. -/
theorem settle_tblCmdOf {p : Nat} {f : State → State} (h : TableFree s p) : settle s (tblCmdOf host p f s) = .next (kept s (f s)) := by
  rw [tblCmdOf_free host h]; rfl

theorem roleRead_free (h : TableFree s 0x1C1) :
    exec .roleRead s = .next (kept s (tblResult 0x1C1 0 (readRecord 0x1C1 (Tab.role (tblRole s)) ROLE.fields s))) := settle_tblCmd h

theorem roleReadClear_free (h : TableFree s 0x1C1) :
    exec .roleReadClear s = .next (kept s (forEach [ROLE.GUARD_OVF, ROLE.SATURATIONS, ROLE.TRAPS, ROLE.RESTARTS]
      (fun f t => setRole (tblRole s) f 0 t) (tblResult 0x1C1 0 (readRecord 0x1C1 (Tab.role (tblRole s)) ROLE.fields s)))) := settle_tblCmd h

theorem roleWrite_checked (h : TableFree s 0x1C1) :
    exec (.roleWrite host) s = .next (kept s (roleResult (tblRole s) (roleCheck s (tblRole s) host)
      (if roleCheck s (tblRole s) host = 0 then stageRecord 0x1C1 (Tab.role (tblRole s)) ROLE.fields s else s))) := settle_tblCmdOf h

/-- The role lies out of reach of who gives the command: 0 and 0xFF of everyone, the Rosaneg roles of host software (R408). -/
def outOfReach (host : Bool) (r : Nat) : Prop := r = 0 ∨ r = 0xFF ∨ (host = true ∧ r < 0x20)

theorem not_outOfReach (hlo : 0x20 ≤ r) (hhi : r < 0xFF) : ¬ outOfReach host r := by
  unfold outOfReach; omega

theorem roleStart_outOfReach (h : TableFree s 0x1C1) (hr : outOfReach host (tblRole s)) :
    exec (.roleStart host) s = .next (kept s (roleResult (tblRole s) 1 s)) :=
  (settle_tblCmdOf h).trans (by unfold outOfReach at hr; simp only [if_pos hr, Nat.one_ne_zero, false_and, if_false])

theorem roleStop_outOfReach (h : TableFree s 0x1C1) (hr : outOfReach host (tblRole s)) :
    exec (.roleStop host) s = .next (kept s (roleResult (tblRole s) 1 s)) :=
  (settle_tblCmdOf h).trans (by
    unfold outOfReach at hr
    simp only [if_pos hr, ne_eq, Nat.one_ne_zero, not_false_eq_true, true_or, if_true])

/-- A STOPPED role with an image, on a working core, runs again from the next tick boundary (R403). -/
theorem roleStart_stopped (h : TableFree s 0x1C1) (hr : ¬ outOfReach host (tblRole s)) (hs : roleState s (tblRole s) = roleStopped)
    (hi : (roleImage s (tblRole s)).isNone = false) (hw : coreWorks s (roleCore s (tblRole s)) = true) :
    exec (.roleStart host) s
      = .next (kept s (roleResult (tblRole s) 0 (dueRole (tblRole s) (wr (Tab.role (tblRole s)) HROLE.BY_START 1 s)))) :=
  (settle_tblCmdOf h).trans (by
    unfold outOfReach at hr
    simp only [if_neg hr, hi, hs, hw, Bool.not_true, Bool.false_eq_true, and_false, true_or, and_self, if_false, if_true])

theorem roleStop_running (h : TableFree s 0x1C1) (hr : ¬ outOfReach host (tblRole s)) (hs : roleState s (tblRole s) = roleRunning)
    (hm : (coreOf s (roleCore s (tblRole s))).role ≠ tblRole s + 1) :
    exec (.roleStop host) s = .next (kept s (roleResult (tblRole s) 0 (parkRole (tblRole s) roleStopped s))) :=
  (settle_tblCmdOf h).trans (by
    unfold outOfReach at hr
    simp [hr, hs, hm])

theorem mewCtrlWrite_unlocked (h : Unlocked s 0x1C0) :
    exec (.mewCtrlWrite v) s
      = .next (kept s (wrStaged 0x1C0 0x1C0 MEW0.MEW_CTRL_CUSTOMER_EN (bitsOf v 1 1) (wr 0x1C0 MEW0.MEW_CTRL_EN (v % 2) s))) :=
  settle_hostCmd_unlocked h

end Roles

/-- Settles O30: each command meets the condition under which it acts. -/
theorem mewsRouterAndRoles : Obligations.MewsRouterAndRoles := fun _ _ _ _ _ _ _ _ =>
  ⟨fun _ _ => messageDelivery_first, mewsCoreFault_working, routerFault_raised, coreTestDone_passed,
    fun hc h hr hs => ⟨settle_coreCmd_unused hc h hr hs, settle_coreCmd_unused hc h hr hs⟩,
    fun hc h hr => ⟨settle_coreCmd_used hc h hr, settle_coreCmd_used hc h hr⟩, roleRestart_due, roleChanged_due,
    fun h => ⟨roleRead_free h, roleReadClear_free h, roleWrite_checked h⟩,
    fun h hr => ⟨roleStart_outOfReach h hr, roleStop_outOfReach h hr⟩,
    fun h hlo hhi => roleStart_stopped h (not_outOfReach hlo hhi), fun h hlo hhi => roleStop_running h (not_outOfReach hlo hhi),
    mewCtrlWrite_unlocked⟩

end Sys2Proof.Machine

/-! Arcade (chapter 14): the table commands of the directory and of the rings. -/

namespace Sys2Proof.Machine

/-! ## The directory's commands (R413 to R441) -/

section Directory

variable {s : State} {l : List Byte} {from_ n : Nat}

theorem dirRead_free (h : TableFree s 0x1E1) :
    exec .dirRead s = .next (kept s (tblResult 0x1E1 0 (readRecord 0x1E1 (Tab.dir (rd s 0x1E1 ARC1.TBL_ADDR)) DIRE.fields s))) :=
  settle_tblCmd h

/-- A directory command of a free page takes its operands and sets BUSY. -/
theorem settle_dirPost {op : Nat} (h : TableFree s 0x1E1) :
    settle s (dirPost op l s) = .next (kept s (dirCmdNow op (rd s 0x1E1 ARC1.TBL_ADDR) l s)) :=
  settle_tblCmd h

theorem dirSysRead_free (h : TableFree s 0x1E1) :
    exec .dirSysRead s = .next (kept s (dirCmdNow 8 (rd64 s 0x1E1 ARC1.OP_ADDR_LO ARC1.OP_ADDR_HI) (sysBytes s)
      { s with fresh := s.fresh + 4096 })) :=
  settle_tblCmd h

/-- Within the list a slice needs no free value. -/
theorem sysSlice_within (h : from_ + n ≤ l.length) : sysSlice s l from_ n = (l.drop from_).take n := by
  have hlen : ((l.drop from_).take n).length = n := by rw [List.length_take, List.length_drop]; omega
  unfold sysSlice
  simp only [hlen, Nat.sub_self, List.range_zero, List.map_nil, List.append_nil]

/-- The bytes of an image slot are those of its image (R441). -/
theorem sysBytes_image (hi : rd s 0x1E1 ARC1.OP_SYS_ITEM = 1)
    (h : 4096 * rd s 0x1E1 ARC1.OP_SYS_OFFSET % 2 ^ 26 + 4096 ≤ (slotBytes s (4096 * rd s 0x1E1 ARC1.OP_SYS_OFFSET / 2 ^ 26)).length) :
    sysBytes s = ((slotBytes s (4096 * rd s 0x1E1 ARC1.OP_SYS_OFFSET / 2 ^ 26)).drop (4096 * rd s 0x1E1 ARC1.OP_SYS_OFFSET % 2 ^ 26)).take 4096 := by
  unfold sysBytes
  rw [if_pos hi, sysSlice_within h]

end Directory

/-! ## Rings and readers (R429, R431, R444) -/

section Rings

variable {s : State}

theorem ringTableRead_there (h : TableFree s 0x1E2) (hi : arcIndexOk s = true) :
    exec .ringTableRead s = .next (kept s (tblResult 0x1E2 0 (readRecord 0x1E2 (arcRecord s).1 (arcRecord s).2 s))) :=
  (settle_tblCmd h).trans (by simp only [hi, Bool.not_true, Bool.false_eq_true, if_false])

theorem ringTable_beyond (h : TableFree s 0x1E2) (hi : arcIndexOk s = false) :
    exec .ringTableRead s = .next (kept s (tblResult 0x1E2 1 s)) ∧ exec .ringTableWrite s = .next (kept s (tblResult 0x1E2 1 s)) ∧
    exec .ringTableReadClear s = .next (kept s (tblResult 0x1E2 1 s)) :=
  ⟨(settle_tblCmd h).trans (by simp only [hi, Bool.not_false, if_true]), (settle_tblCmd h).trans (by simp only [hi, Bool.not_false, if_true]),
    (settle_tblCmd h).trans (by simp only [hi, Bool.not_false, if_true])⟩

theorem ringTableWrite_ring (h : TableFree s 0x1E2) (hi : arcIndexOk s = true) (ht : rdb s 0x1E2 ARC2.TBL_ADDR_TABLE = false) :
    exec .ringTableWrite s = .next (kept s
      { wr 0x1E2 TBL.BUSY 1 s with ringCmd := some (rd s 0x1E2 ARC2.TBL_ADDR_INDEX, dataField s 0x1E2 RING.PENDING_LEN, false) }) :=
  (settle_tblCmd h).trans (by simp only [hi, ht, Bool.not_true, Bool.false_eq_true, if_false])

theorem ringTableWrite_reader (h : TableFree s 0x1E2) (hi : arcIndexOk s = true) (ht : rdb s 0x1E2 ARC2.TBL_ADDR_TABLE = true)
    (hv : dataField s 0x1E2 READER.VALID ≠ 1) :
    exec .ringTableWrite s = .next (kept s (tblResult 0x1E2 0 (stageReader (rd s 0x1E2 ARC2.TBL_ADDR_INDEX) s))) :=
  (settle_tblCmd h).trans (by simp only [hi, ht, hv, Bool.not_true, Bool.false_eq_true, false_and, if_false, if_true])

theorem ringTableWrite_noRing (h : TableFree s 0x1E2) (hi : arcIndexOk s = true) (ht : rdb s 0x1E2 ARC2.TBL_ADDR_TABLE = true)
    (hv : dataField s 0x1E2 READER.VALID = 1) (hr : rdb s (Tab.ring (dataField s 0x1E2 READER.RING)) RING.VALID = false) :
    exec .ringTableWrite s = .next (kept s (tblResult 0x1E2 2 s)) :=
  (settle_tblCmd h).trans (by simp only [hi, ht, hv, hr, Bool.not_true, Bool.not_false, Bool.false_eq_true, and_self, if_false, if_true])

theorem ringTableReadClear_there (h : TableFree s 0x1E2) (hi : arcIndexOk s = true) :
    exec .ringTableReadClear s = .next (kept s (
      let pg := (arcRecord s).1
      let t := tblResult 0x1E2 0 (readRecord 0x1E2 pg (arcRecord s).2 s)
      if rdb t 0x1E2 ARC2.TBL_ADDR_TABLE then wr pg READER.OVERRUN 0 (wr pg READER.OVERRUNS 0 t) else t)) :=
  (settle_tblCmd h).trans (by simp only [hi, Bool.not_true, Bool.false_eq_true, if_false])

end Rings

/-- Settles O32: each command finds its page free, and its index within the table or beyond it. -/
theorem directoryAndRingCommands : Obligations.DirectoryAndRingCommands := fun _ _ =>
  ⟨fun h => ⟨dirRead_free h, settle_dirPost h, settle_dirPost h, settle_dirPost h, settle_dirPost h, settle_dirPost h, settle_dirPost h⟩,
    fun h => ⟨dirSysRead_free h, sysBytes_image⟩, ringTableRead_there, ringTable_beyond, ringTableWrite_ring, ringTableWrite_reader,
    ringTableWrite_noRing, ringTableReadClear_there⟩

end Sys2Proof.Machine

/-! Town Hall (chapter 15): Yunager's steps, the two pairs and the modes of the functions. -/

namespace Sys2Proof.Machine

/-! ## Steps and pairs (R447 to R450) -/

section Pairs

variable {s : State} {o : List YOut} {p op : Nat}

theorem yunagerStepEnd_over (ho : s.clock.tickOpen = true) (hr : stepsRun s = true) (h0 : rd s (held 8) HTHL.STEP ≠ 0)
    (ht : rd s (held 8) HTHL.STEP ≤ s.clock.tick) : exec (.yunagerStepEnd o) s = .next (kept s (stepEnd o s)) :=
  settle_onlyIf (decide_eq_true ⟨ho, hr, h0, ht⟩)

theorem pairMiscompare_running (hr : stepsRun s = true) :
    exec .pairMiscompare s = .next (kept s (pairFault (inc 8 THL.MISCOMPARES s))) :=
  settle_onlyIf hr

theorem yunagerStepTimeout_over (hr : stepsRun s = true) (h0 : rd s (held 8) HTHL.STEP ≠ 0)
    (ht : rd s (held 8) HTHL.STEP + 8 ≤ s.clock.tick + 1) : exec .yunagerStepTimeout s = .next (kept s (pairFault s)) :=
  settle_onlyIf (decide_eq_true ⟨hr, h0, ht⟩)

theorem takeover_asked (ho : s.clock.tickOpen = true) (ht : rdb s (held 8) HTHL.TAKE = true) :
    exec .takeover s = .next (kept s (
      let f := rd s (held 8) HTHL.FAILED
      let t := wr 8 THL.THL_STATUS_ACTIVE_PAIR (1 - f) (setPair (1 - f) pairActive (wr (held 8) HTHL.TAKE 0 s))
      let t := inc 8 THL.TAKEOVERS (pushEv (mkEv t 8 THL.evTAKEOVER (pairLoc f) true []) t)
      if rd t (held 8) HTHL.STEP = 0 then stepBegin t else stepAgain t)) :=
  settle_onlyIf (decide_eq_true ⟨ho, ht⟩)

theorem pairTestDone_over (hp : p < 2) (hs : pairState s p = pairTesting) (ht : rd s (held 8) (HTHL.TEST p) + 4000 ≤ s.clock.tick + 1) :
    exec (.pairTestDone p true) s = .next (kept s (raise 8 THL.evPAIR_TESTED [p, 1] (closeFault Tag.pair (setPair p pairStandby s)))) ∧
    exec (.pairTestDone p false) s = .next (kept s (raise 8 THL.evPAIR_TESTED [p, 0] (setPair p pairFailed s))) :=
  have hc := decide_eq_true (And.intro hp (And.intro hs ht))
  ⟨settle_onlyIf hc, settle_onlyIf hc⟩

/-- PAIR_CMD holds the pair and the operation. -/
def namePair (p op : Nat) (s : State) : State := wr 8 THL.PAIR_CMD_PAIR p (wr 8 THL.PAIR_CMD_OP op s)

/-- PAIR_CMD's own fields alone are written. -/
theorem rd_namePair {q : Nat} {g : Field} (hp : g.key q ≠ THL.PAIR_CMD_PAIR.key 8) (ho : g.key q ≠ THL.PAIR_CMD_OP.key 8) :
    rd (namePair p op s) q g = rd s q g := (rd_wr_other hp).trans (rd_wr_other ho)

theorem activePair_namePair (p op : Nat) (s : State) : activePair (namePair p op s) = activePair s := rd_namePair (by decide) (by decide)

theorem pairState_namePair (p op q : Nat) (s : State) : pairState (namePair p op s) q = pairState s q := by
  unfold pairState
  rw [rd_namePair (by decide) (by decide), rd_namePair (by decide) (by decide)]

theorem take_namePair (p op : Nat) (s : State) : rdb (namePair p op s) (held 8) HTHL.TAKE = rdb s (held 8) HTHL.TAKE := by
  unfold rdb
  rw [rd_namePair (by decide) (by decide)]

/-- A PAIR_CMD on the pair that is STANDBY, with no takeover asked for, is done, RESULT 1 (Table 15.6). -/
theorem settle_pairCmd_standby {f : State → State} (hp : p < 2) (h : Unlocked s 8) (ha : p ≠ activePair s) (hs : pairState s p = pairStandby)
    (ht : rdb s (held 8) HTHL.TAKE = false) :
    settle s (onlyIf (p < 2) (pairCmd p op f) s) = .next (kept s (f (wr 8 THL.PAIR_RESULT 1 (namePair p op s)))) := by
  have hdo : ¬ (p = activePair (namePair p op s) ∨ pairState (namePair p op s) p ≠ pairStandby
      ∨ rdb (namePair p op s) (held 8) HTHL.TAKE = true) := by
    rw [activePair_namePair, pairState_namePair, take_namePair, hs, ht]
    simp only [ha, ne_eq, not_true_eq_false, Bool.false_eq_true, or_self, not_false_eq_true]
  exact (settle_onlyIf_hostCmd (decide_eq_true hp) h).trans (next_if_neg hdo)

theorem yunagerRestart_stopped (h0 : rdb s (held 8) HTHL.STOPPED = true) (hr : yunagerRuns s = true) :
    exec .yunagerRestart s = .next (kept s (raise 8 THL.evYUNAGER_RESTART [] (wr (held 8) HTHL.STOPPED 0
      (measureNow 0 kindRestart 0 (rd s (held 0x10) HSEC.DIGEST) s)))) :=
  settle_onlyIf (decide_eq_true ⟨h0, hr⟩)

end Pairs

/-! ## The modes of the functions (R452) -/

section Functions

variable {s : State}

/-- The modes asked for are in effect from the tick, and FUNC_CHANGED says so when they differ. -/
def funcTaken (s : State) : State :=
  let old := rd s 8 THL.FUNC_EFFECTIVE
  let new := old % 64 + rd s 8 THL.FUNC_MODE / 64 * 64
  let t := wr (held 8) HTHL.FUNC_AT 0 (wr 8 THL.FUNC_EFFECTIVE new s)
  if new = old then t else raise 8 THL.evFUNC_CHANGED [old, new] t

theorem funcTaken_portWrites (s : State) : (funcTaken s).portWrites = s.portWrites := by
  unfold funcTaken
  dsimp only
  split
  · rfl
  · exact pushEv_portWrites ..

/-- The released port writes of a party that has left are discarded, and each is counted. -/
def dropLeft (t : State) : State :=
  forEach (t.portWrites.filter (fun w => decide (w.2.1 ≠ 0x40) && portHost t w.2.1)) (fun _ u => discardOut u)
    { t with portWrites := t.portWrites.filter (fun w => decide (w.2.1 = 0x40) || !portHost t w.2.1) }

theorem dropLeft_none {t : State} (h : t.portWrites = []) : dropLeft t = t := by
  unfold dropLeft
  rw [h]
  show { t with portWrites := [] } = t
  rw [← h]

theorem funcModeEffect_due (ho : s.clock.tickOpen = true) (h0 : rd s (held 8) HTHL.FUNC_AT ≠ 0)
    (ht : rd s (held 8) HTHL.FUNC_AT ≤ now s + 1) (hw : s.portWrites = []) :
    exec .funcModeEffect s = .next (kept s (funcTaken s)) := by
  have hdone : exec .funcModeEffect s = .next (kept s (dropLeft (funcTaken s))) := settle_onlyIf (decide_eq_true ⟨ho, h0, ht⟩)
  rw [hdone, dropLeft_none ((funcTaken_portWrites s).trans hw)]

end Functions

/-- Settles O33: each command meets the condition under which it acts. -/
theorem townHallCommands : Obligations.TownHallCommands := fun _ _ _ =>
  ⟨yunagerStepEnd_over, fun hr => ⟨pairMiscompare_running hr, yunagerStepTimeout_over hr⟩, takeover_asked, pairTestDone_over,
    fun hp h ha hs ht => ⟨settle_pairCmd_standby hp h ha hs ht, settle_pairCmd_standby hp h ha hs ht, settle_pairCmd_standby hp h ha hs ht⟩,
    yunagerRestart_stopped, funcModeEffect_due⟩

end Sys2Proof.Machine

/-! The security block (chapter 16): the fuse array, which a step can only blow, and the rollback counters; booting, image slots and fuse
commands; measurements, quotes, debug grants and the loading of Mews images. -/

namespace Sys2Proof.Machine

/-! ## The highest blown bit (R477) -/

section TopBit

variable {v w n i : Nat}

theorem bit_eq_testBit (v i : Nat) : bit v i = v.testBit i := Nat.testBit_eq_decide_div_mod_eq.symm

theorem bit_or (v w i : Nat) : bit (v ||| w) i = (bit v i || bit w i) := by simp only [bit_eq_testBit, Nat.testBit_or]

/-- Every bit set in the one is set in the other. -/
def BitsIn (v w : Nat) : Prop := ∀ i, bit v i = true → bit w i = true

theorem BitsIn.refl (v : Nat) : BitsIn v v := fun _ h => h

theorem BitsIn.trans {u : Nat} (h : BitsIn u v) (h' : BitsIn v w) : BitsIn u w := fun i hi => h' i (h i hi)

theorem bitsIn_or_left (v w : Nat) : BitsIn v (v ||| w) := fun i hi => by rw [bit_or, hi, Bool.true_or]

/-- Fusing the same bits into both keeps the one within the other. -/
theorem BitsIn.or_left (h : BitsIn v w) (u : Nat) : BitsIn (u ||| v) (u ||| w) := fun i hi => by
  rw [bit_or, Bool.or_eq_true] at hi ⊢
  exact hi.imp_right (h i)

/-- The highest blown bit lies at or above n exactly when one of the 64 bits from n on is blown. -/
theorem lt_topBit_iff : n < topBit v ↔ ∃ i, n ≤ i ∧ i < 64 ∧ bit v i = true := by
  have hsorted : (List.range 64).reverse.Pairwise (· > ·) := List.pairwise_reverse.mpr List.pairwise_lt_range
  unfold topBit
  split
  · next i hi =>
    obtain ⟨hbit, above, below, hl, habove⟩ := List.find?_eq_some_iff_append.mp hi
    have hmem (j : Nat) : j < 64 ↔ j ∈ above ++ i :: below := by rw [← hl, List.mem_reverse, List.mem_range]
    rw [hl, List.pairwise_append, List.pairwise_cons] at hsorted
    obtain ⟨-, ⟨hbelow, -⟩, -⟩ := hsorted
    constructor
    · exact fun hn => ⟨i, by omega, (hmem i).mpr (by simp), hbit⟩
    · rintro ⟨j, hnj, hj, hbj⟩
      have hji : j ≤ i := by
        rcases List.mem_append.mp ((hmem j).mp hj) with ha | hb
        · have := habove j ha
          simp only [hbj, Bool.not_true, Bool.false_eq_true] at this
        · rcases List.mem_cons.mp hb with rfl | hb
          · exact Nat.le_refl _
          · exact Nat.le_of_lt (hbelow j hb)
      omega
  · next hnone =>
    constructor
    · intro h; omega
    · rintro ⟨j, -, hj, hbj⟩
      exact absurd hbj (List.find?_eq_none.mp hnone j (List.mem_reverse.mpr (List.mem_range.mpr hj)))

theorem topBit_le_64 (v : Nat) : topBit v ≤ 64 := Nat.not_lt.mp (fun h => by
  obtain ⟨i, hlo, hhi, -⟩ := lt_topBit_iff.mp h; omega)

theorem topBit_none (h : ∀ i < 64, bit v i = false) : topBit v = 0 := Nat.eq_zero_of_not_pos (fun hpos => by
  obtain ⟨i, -, hi, hb⟩ := lt_topBit_iff.mp hpos
  rw [h i hi] at hb; exact Bool.noConfusion hb)

theorem topBit_highest (hi : i < 64) (hb : bit v i = true) (habove : ∀ j, i < j → j < 64 → bit v j = false) : topBit v = i + 1 := by
  have hlow : i < topBit v := lt_topBit_iff.mpr ⟨i, Nat.le_refl i, hi, hb⟩
  have hhigh : ¬ i + 1 < topBit v := fun h => by
    obtain ⟨j, hij, hj, hbj⟩ := lt_topBit_iff.mp h
    rw [habove j hij hj] at hbj; exact Bool.noConfusion hbj
  omega

theorem topBit_mono (h : BitsIn v w) : topBit v ≤ topBit w := Nat.le_of_not_lt (fun hlt => by
  obtain ⟨i, hlo, hhi, hb⟩ := lt_topBit_iff.mp hlt
  exact absurd (lt_topBit_iff.mpr ⟨i, hlo, hhi, h i hb⟩) (Nat.lt_irrefl _))

end TopBit

/-! ## Blowing (R470) -/

section Blowing

variable {s t : State} {m m' : Map Nat} {l pub : List Byte}

/-- The one fuse array comes of the other by blowing bits of its fields, any number of times. -/
inductive Blown (m : Map Nat) : Map Nat → Prop where
  | none : Blown m m
  | field {m' : Map Nat} (h : Blown m m') (k v : Nat) : Blown m (Map.put 0 m' k (Map.get 0 m' k ||| v))

/-- Blowing keeps the canonical form of the fuse array. -/
theorem Blown.wf (h : Blown m m') (hm : Map.wf 0 m = true) : Map.wf 0 m' = true := by
  induction h with
  | none => exact hm
  | field _ k v ih => exact Map.wf_put k _ ih

/-- A blown bit stays blown. -/
theorem Blown.bitsIn (h : Blown m m') (k : Nat) : BitsIn (Map.get 0 m k) (Map.get 0 m' k) := by
  induction h with
  | none => exact BitsIn.refl _
  | field _ j v ih =>
    by_cases hk : k = j
    · subst hk
      rw [Map.get_put_same]
      exact ih.trans (bitsIn_or_left _ v)
    · rwa [Map.get_put_other _ _ _ _ hk]

theorem Blown.fuse (h : Blown s.otp t.otp) (k : Nat) : BitsIn (fuse s k) (fuse t k) := (h.bitsIn k).or_left _

theorem Blown.rollback (h : Blown s.otp t.otp) (n : Nat) : rollback s n ≤ rollback t n := topBit_mono (h.fuse (16 + n))

theorem Blown.of_eq (h : t.otp = s.otp) : Blown s.otp t.otp := h ▸ .none

theorem Blown.blow {m : Map Nat} (h : Blown m s.otp) (k v : Nat) : Blown m (blow k v s).otp := h.field k v

/-! What measuring and settling a fuse command leave of the fuses. -/

theorem setMeasReg_otp (i v : Nat) (s : State) : (setMeasReg i v s).otp = s.otp := forEach_keeps State.otp (fun _ _ => wr_otp ..) s

theorem extendMeas_otp (e : MeasEntry) (s : State) : (extendMeas e s).otp = s.otp := by
  unfold extendMeas
  dsimp only
  split
  · exact setMeasReg_otp ..
  · split
    · simp only [raise_otp, wr_otp, setMeasReg_otp]
    · simp only [inc_eq, wr_otp, setMeasReg_otp]

theorem fuseMeasured_otp (s : State) : (fuseMeasured s).otp = s.otp := by
  unfold fuseMeasured measureNow
  split
  · rfl
  · exact extendMeas_otp ..

theorem fuseResult_otp (op r : Nat) (s : State) : (fuseResult op r s).otp = s.otp := raise_otp ..

/-- The end of a fuse command blows bits of at most two fields. -/
theorem fuseEnd_blown (missing : Nat) (s : State) : Blown s.otp (fuseEnd missing s).otp := by
  have start : Blown s.otp (wr (held 0x10) HSEC.FUSE_OP 0 s).otp := .none
  unfold fuseEnd
  dsimp only
  split
  · split
    · rw [fuseMeasured_otp, fuseResult_otp]; exact (start.blow _ _).blow _ _
    · rw [fuseResult_otp]; exact start.blow _ _
  · split
    · split
      · rw [fuseResult_otp]; exact start
      · rw [fuseMeasured_otp, fuseResult_otp]; exact start.blow _ _
    · split
      · split
        · rw [fuseResult_otp]; exact start
        · rw [fuseMeasured_otp, fuseResult_otp]; exact start.blow _ _
      · split
        · exact start.blow _ _
        · rw [raise_otp]; exact start.blow _ _

/-- Whatever the command, it can only blow fuses: FUSE_DONE blows those of its operation, no other command touches them. -/
theorem exec_blown {c : Instr} (h : exec c s = .next t) : Blown s.otp t.otp := by
  by_cases hc : ∃ n, c = .fuseDone n
  · obtain ⟨n, rfl⟩ := hc
    obtain rfl := Host.Outcome.next.inj h
    show Blown s.otp (onlyIf _ (fuseEnd n) s).otp
    unfold onlyIf
    split
    · exact fuseEnd_blown n s
    · exact .none
  · obtain ⟨hkeep, -⟩ := whatMovesTheClock c s t h
    exact .of_eq (hkeep fun n hn => hc ⟨n, hn⟩)

theorem step_blown (h : step s = .next t) : Blown s.otp t.otp := by
  cases hq : s.pending with
  | nil =>
    obtain rfl := Host.Outcome.next.inj ((step_of_empty hq).symm.trans h)
    exact .none
  | cons c q =>
    rw [step_of_front hq] at h
    exact (exec_blown h :)

/-- Settles O45: a step only blows fuses, blown bits stay, and a counter is the highest of its bits. -/
theorem fusesOnlyBlow : Obligations.FusesOnlyBlow := fun _ _ h => ⟨(step_blown h).fuse, (step_blown h).rollback⟩

/-- Settles O46: a step only blows fuses, and a write of the array keeps its form. -/
theorem fuseArrayStaysCanonical : Obligations.FuseArrayStaysCanonical := fun _ _ hm h => (step_blown h).wf hm

/-! ## Rollback counters as floors (R477) -/

theorem imgCheck_passes_version (h : imgCheck s l = 0) : rollback s 0 ≤ imgVersion l := by
  unfold imgCheck at h
  dsimp only at h
  by_contra hv
  simp only [Nat.lt_of_not_le hv, if_true] at h
  split at h
  · omega
  · split at h
    · omega
    · split at h <;> omega

theorem mewsLoadResult_passes_version (h : mewsLoadResult s l pub = 0) : rollback s (mewsImage l).counter ≤ (mewsImage l).version := by
  unfold mewsLoadResult at h
  dsimp only at h
  by_contra hv
  have hlow : leAt l 0x26 2 < rollback s (leAt l 0x24 1) := Nat.lt_of_not_le hv
  simp only [hlow, if_true] at h
  split at h
  · omega
  · split at h
    · omega
    · split at h <;> omega

/-- Settles O48: by what the highest blown bit is, and by the checks that the two image checks make. -/
theorem rollbackCounters : Obligations.RollbackCounters := fun s _ v _ =>
  ⟨rfl, topBit_none, fun _ => topBit_highest, topBit_le_64 v, (Blown.none.blow _ v : Blown s.otp _).rollback _,
    fun _ hpass hn => hn ▸ imgCheck_passes_version hpass, fun _ _ hpass hn => hn ▸ mewsLoadResult_passes_version hpass⟩

end Blowing

/-! ## Booting and image slots (R474 to R476) -/

section Boot

variable {s : State} {l : List Byte}

theorem romBoot_noRecord {ok : Bool} (hr : rdb s (held 0x10) HSEC.ROM = true) (he : s.resumeRec = []) :
    exec (.romBoot ok) s = .next (kept s (romBoot s)) :=
  (settle_onlyIf hr).trans (next_if_neg fun h => h.2 he)

theorem romBoot_resumes (hr : rdb s (held 0x10) HSEC.ROM = true) (hw : rdb s (held 0x10) HSEC.WAKING = true) (he : s.resumeRec ≠ []) :
    exec (.romBoot true) s = .next (kept s (romResume s)) :=
  (settle_onlyIf hr).trans (by simp only [hw, he, ne_eq, not_false_eq_true, and_self, if_true])

theorem romBoot_refusesRecord (hr : rdb s (held 0x10) HSEC.ROM = true) (hw : rdb s (held 0x10) HSEC.WAKING = true) (he : s.resumeRec ≠ []) :
    exec (.romBoot false) s = .next (kept s (romBoot (wr (held 0x10) HSEC.RESUME_REFUSED 1 { s with resumeRec := [] }))) :=
  (settle_onlyIf hr).trans (by simp only [hw, he, ne_eq, not_false_eq_true, and_self, Bool.false_eq_true, if_true, if_false])

/-- A host boot's RESULT: 1 for a read that failed or gave another length, else the candidate's (R476). -/
def hbootResult (bytes : Option (List Byte)) (s : State) : Nat :=
  if bytes.isNone ∨ (bytes.getD []).length ≠ rd s 0x10 SEC0.HBOOT_LEN then 1 else candidateResult s (bytes.getD []) true

theorem hbootGo_inHostBoot {bytes : Option (List Byte)} (hs : rd s 0x10 SEC0.BOOT_STATUS_STAGE = 2) (h : Unlocked s 0x10) :
    exec (.hbootGo bytes) s = .next (kept s (
      if hbootResult bytes s = 0 then bootImage (bytes.getD []) 0 true (wr 0x10 SEC0.BOOT_STATUS_RESULT (hbootResult bytes s) s)
      else wr 0x10 SEC0.BOOT_STATUS_RESULT (hbootResult bytes s) s)) :=
  settle_onlyIf_hostCmd (decide_eq_true hs) h

theorem hbootGo_good (hs : rd s 0x10 SEC0.BOOT_STATUS_STAGE = 2) (h : Unlocked s 0x10) (hl : l.length = rd s 0x10 SEC0.HBOOT_LEN)
    (hc : candidateResult s l true = 0) :
    exec (.hbootGo (some l)) s = .next (kept s (bootImage l 0 true (wr 0x10 SEC0.BOOT_STATUS_RESULT 0 s))) := by
  have hr : hbootResult (some l) s = 0 := by simp [hbootResult, hl, hc]
  rw [hbootGo_inHostBoot hs h, hr, if_pos rfl, Option.getD_some]

theorem hbootGo_readFailed (hs : rd s 0x10 SEC0.BOOT_STATUS_STAGE = 2) (h : Unlocked s 0x10) :
    exec (.hbootGo none) s = .next (kept s (wr 0x10 SEC0.BOOT_STATUS_RESULT 1 s)) := by
  have hr : hbootResult none s = 1 := if_pos (.inl rfl)
  rw [hbootGo_inHostBoot hs h, hr, if_neg Nat.one_ne_zero]

/-- A good image of the stated length is written to a slot that is not the booted one, outside a trial (R474). -/
theorem imgWrite_good (hr : yunagerRuns s = true) (h : Unlocked s 0x10) (hs : rd s 0x10 SEC0.IMG_SLOT ≠ rd s 0x10 SEC0.BOOT_STATUS_SLOT)
    (ht : rdb s (held 0x10) HSEC.TRIAL = false) (hl : l.length = rd s 0x10 SEC0.IMG_LEN) (hn : l.length = 128 + imgLength l + 64)
    (hc : imgCheck s l = 0) :
    exec (.imgWrite (some l)) s
      = .next (kept s (imgDone 1 { s with imgSlots := Map.put none s.imgSlots (rd s 0x10 SEC0.IMG_SLOT) (some l) })) := by
  have hgood : ¬ (l.length ≠ rd s 0x10 SEC0.IMG_LEN ∨ l.length ≠ 128 + imgLength l + 64 ∨ imgCheck s l ≠ 0) := by
    rw [← hl, ← hn, hc]; simp only [ne_eq, not_true_eq_false, or_self, not_false_eq_true]
  refine (settle_onlyIf_hostCmd hr h).trans ?_
  simp only [hs, ht, false_and, Option.isNone_some, Option.getD_some, Bool.false_eq_true, if_false, if_neg hgood]

theorem imgSetPref_running (hr : yunagerRuns s = true) (h : Unlocked s 0x10) :
    exec .imgSetPref s = .next (kept s (
      let t := wr (held 0x10) HSEC.PREF_VALID 1 (wr (held 0x10) HSEC.PREF_SLOT (rd s 0x10 SEC0.IMG_SLOT) s)
      imgDone 1 (showPref (wr (held 0x10) HSEC.ATTEMPTS 0 (wr (held 0x10) HSEC.TRIAL (rd t 0x10 SEC0.IMG_TRIAL) t))))) :=
  settle_onlyIf_hostCmd hr h

theorem imgConfirm_running (hr : yunagerRuns s = true) (h : Unlocked s 0x10) :
    exec .imgConfirm s = .next (kept s (imgDone 1 (confirmImage s))) :=
  settle_onlyIf_hostCmd hr h

end Boot

/-! ## Fuse commands (R471, R477, R478, R483, R484) -/

section FuseCommands

variable {s : State} {n v : Nat}

theorem fuseEnroll_starts (hn : n < 2) (h : Unlocked s 0x10) (hb : fuseBusy s = false) (hh : fuse s (hashFuse n) = 0)
    (hs : fuse s (stateFuse n) = 0) (ha : authorised s n = true) :
    exec (.fuseEnroll n) s = .next (kept s (
      let d := (List.range 16).foldl (fun a w => a + rd s 0x10 (SEC0.FUSE_DATA w) * 2 ^ (32 * w)) 0
      fuseStart fuseEnroll n d (bitsToBlow 0 d + 1) (wr 0x10 SEC0.FUSE_RESULT 0 (useAuth s)))) :=
  (settle_onlyIf_hostCmd (decide_eq_true hn) h).trans (by
    simp only [hb, hh, hs, ha, ne_eq, not_true_eq_false, or_self, Bool.not_true, Bool.false_eq_true, if_false])

theorem fuseRevoke_starts (hn : n < 2) (h : Unlocked s 0x10) (hb : fuseBusy s = false) (he : enrolled s n = true) (ha : authorised s n = true) :
    exec (.fuseRevoke n) s
      = .next (kept s (fuseStart fuseRevoke n 0 (if revoked s n then 0 else 1) (wr 0x10 SEC0.FUSE_RESULT 0 (useAuth s)))) :=
  (settle_onlyIf_hostCmd (decide_eq_true hn) h).trans (by simp only [hb, he, ha, Bool.not_true, Bool.false_eq_true, if_false])

theorem fuseLock_starts (h : Unlocked s 0x10) (hb : fuseBusy s = false) (he : enrolled s 0 = true ∨ enrolled s 1 = true) :
    exec .fuseLock s = .next (kept s (fuseStart fuseLock 0 0 (if ownerLock s then 0 else 1) (wr 0x10 SEC0.FUSE_RESULT 0 s))) := by
  have hany : ¬ ((!enrolled s 0) = true ∧ (!enrolled s 1) = true) := by rcases he with he | he <;> simp [he]
  exact (settle_hostCmd_unlocked h).trans (by simp only [hb, hany, Bool.false_eq_true, if_false])

theorem fuseCommands_busy (hn : n < 2) (h : Unlocked s 0x10) (hb : fuseBusy s = true) :
    exec (.fuseEnroll n) s = .next (kept s (fuseResult fuseEnroll 2 s)) ∧
    exec (.fuseRevoke n) s = .next (kept s (fuseResult fuseRevoke 2 s)) ∧ exec .fuseLock s = .next (kept s (fuseResult fuseLock 2 s)) :=
  ⟨(settle_onlyIf_hostCmd (decide_eq_true hn) h).trans (next_if_pos hb), (settle_onlyIf_hostCmd (decide_eq_true hn) h).trans (next_if_pos hb),
    (settle_hostCmd_unlocked h).trans (next_if_pos hb)⟩

/-- RB_CMD with a value that a counter can hold (R477, R478). -/
theorem rbRaise_unlocked (hn : n < 64) (hv : v ≤ 64) (h : Unlocked s 0x12) :
    exec (.rbRaise n v) s = .next (kept s (
      if fuseBusy s ∨ rdb s (held 0x10) HSEC.TRIAL ∨ !versionRuns s n v then wr 0x12 SEC2.RB_RESULT 2 s
      else fuseStart fuseRaise n v (v - rollback s n) (wr 0x12 SEC2.RB_RESULT 0 s))) :=
  (settle_onlyIf_hostCmd (decide_eq_true ⟨hn, Nat.lt_of_le_of_lt hv (by decide)⟩) h).trans (by simp only [Nat.min_eq_left hv])

theorem rbRaise_starts (hn : n < 64) (hv : v ≤ 64) (h : Unlocked s 0x12) (hb : fuseBusy s = false) (ht : rdb s (held 0x10) HSEC.TRIAL = false)
    (hr : versionRuns s n v = true) :
    exec (.rbRaise n v) s = .next (kept s (fuseStart fuseRaise n v (v - rollback s n) (wr 0x12 SEC2.RB_RESULT 0 s))) :=
  (rbRaise_unlocked hn hv h).trans (next_if_neg (by simp [hb, ht, hr]))

theorem rbRaise_noVersion (hn : n < 64) (hv : v ≤ 64) (h : Unlocked s 0x12) (hr : versionRuns s n v = false) :
    exec (.rbRaise n v) s = .next (kept s (wr 0x12 SEC2.RB_RESULT 2 s)) :=
  (rbRaise_unlocked hn hv h).trans (next_if_pos (by simp [hr]))

theorem fuseDone_due (h0 : rd s (held 0x10) HSEC.FUSE_OP ≠ 0) (ht : rd s (held 0x10) HSEC.FUSE_AT ≤ startOf (now s + 1)) :
    exec (.fuseDone n) s = .next { fuseEnd n s with clock := s.clock, pending := s.pending } := by
  have hdone : onlyIf (rd s (held 0x10) HSEC.FUSE_OP ≠ 0 ∧ rd s (held 0x10) HSEC.FUSE_AT ≤ startOf (now s + 1)) (fuseEnd n) s = fuseEnd n s :=
    onlyIf_true (decide_eq_true ⟨h0, ht⟩)
  show execFuseDone n s = _
  unfold execFuseDone
  rw [hdone]

end FuseCommands

/-- Settles O35: each command meets the condition under which it acts, or the one under which it is turned away. -/
theorem bootImagesAndFuses : Obligations.BootImagesAndFuses := fun _ _ _ _ =>
  ⟨romBoot_noRecord, fun hr hw he => ⟨romBoot_resumes hr hw he, romBoot_refusesRecord hr hw he⟩, hbootGo_good, hbootGo_readFailed, imgWrite_good,
    fun hr h => ⟨imgSetPref_running hr h, imgConfirm_running hr h⟩, fuseEnroll_starts, fuseRevoke_starts, fuseLock_starts, fuseCommands_busy,
    rbRaise_starts, rbRaise_noVersion, fuseDone_due⟩

/-! ## Measurements and quotes (R479 to R482) -/

section Quotes

variable {s : State} {q : List Byte}

theorem measExtGo_running (h : Unlocked s 0x11) (hg : rdb s 0x11 SEC1.MEAS_EXT_GO = false) (hr : s.clock.running = true) :
    exec .measExtGo s = .next (kept s (
      let d := (List.range 16).foldl (fun a w => a + rd s 0x11 (SEC1.MEAS_EXT w) * 2 ^ (32 * w)) 0
      measure 7 kindHost (now s) 0 d (wr 0x11 SEC1.MEAS_EXT_GO 1 s))) :=
  (settle_hostCmd_unlocked h).trans (by simp only [hg, hr, Bool.false_eq_true, if_false, if_true])

theorem quoteRequest_inProgress (h : Unlocked s 0x11) (hq : quoting s = true) :
    exec .quoteRequest s = .next (kept s (raise 0x11 SEC1.evQUOTE_DONE [2] (wr 0x11 SEC1.QUOTE_STATUS 2 s))) :=
  (settle_hostCmd_unlocked h).trans (next_if_pos hq)

theorem quoteRequest_taken (h : Unlocked s 0x11) (hq : quoting s = false) :
    exec .quoteRequest s = .next (kept s (
      let n := (List.range 8).foldl (fun a i => a + rd s 0x11 (SEC1.QUOTE_NONCE i) * 2 ^ (32 * i)) 0
      let t := wr (held 0x10) HSEC.NONCE n (wr (held 0x10) HSEC.QUOTE_ADDR (rd64 s 0x11 SEC1.QUOTE_ADDR_LO SEC1.QUOTE_ADDR_HI) s)
      wr 0x11 SEC1.QUOTE_CMD 1 (wr 0x11 SEC1.QUOTE_STATUS 0 (wr (held 0x10) HSEC.QUOTE_AT (now t + 4) t)))) :=
  (settle_hostCmd_unlocked h).trans (by simp only [hq, Bool.false_eq_true, if_false])

theorem quoteSnapshot_due (h0 : rd s (held 0x10) HSEC.QUOTE_AT ≠ 0) (ht : rd s (held 0x10) HSEC.QUOTE_AT ≤ now s + 1) :
    exec .quoteSnapshot s = .next (kept s (wr (held 0x10) HSEC.QUOTE_AT 0 { s with quoteSnap := some (quoteBytes s) })) :=
  settle_onlyIf (decide_eq_true ⟨h0, .inr ht⟩)

theorem quoteWritten_signed (hq : s.quoteSnap = some q) :
    exec .quoteWritten s = .next (kept s (raise 0x11 SEC1.evQUOTE_DONE [1] (wr 0x11 SEC1.QUOTE_CMD 0 (wr 0x11 SEC1.QUOTE_STATUS 1
      { s with quoteSnap := none, quoteOut := some (rd s (held 0x10) HSEC.QUOTE_ADDR,
          q ++ (Config.ed25519Sign identitySecret q ++ List.replicate 64 0).take 64) })))) := by
  show execQuoteWritten s = _
  unfold execQuoteWritten
  rw [hq]
  exact settle_kept ..

end Quotes

/-! ## Debug grants (R484, R485) -/

section Debug

variable {s : State}

theorem dbgRequest_drawn (h : Unlocked s 0x12) (ht : rdb s 0x12 SEC2.DBG_STATUS_THROTTLED = false) (hr : rngFailed s = false) :
    exec .dbgRequest s = .next (kept s (
      let t := forEach (List.range 8) (fun i t => wr 0x12 (SEC2.DBG_CHAL i) ((draw 256 s).1 / 2 ^ (32 * i)) t) (draw 256 s).2
      wr (held 0x10) HSEC.CHAL_TICK (t.clock.tick + 1) (wr 0x12 SEC2.DBG_STATUS_CHAL_VALID 1 t))) :=
  (settle_hostCmd_unlocked h).trans (next_if_neg (by simp [ht, hr]))

theorem dbgRequest_refused (h : Unlocked s 0x12) (hr : rdb s 0x12 SEC2.DBG_STATUS_THROTTLED = true ∨ rngFailed s = true) :
    exec .dbgRequest s = .next (kept s (raise 0x12 SEC2.evDEBUG_REFUSED [] s)) :=
  (settle_hostCmd_unlocked h).trans (next_if_pos hr)

theorem dbgSubmit_granted (h : Unlocked s 0x12) (hr : responseOk s = true) (hb : bit (leAt (responseBytes s) 0 4) 31 = false) :
    exec .dbgSubmit s = .next (kept s (
      let r := responseBytes s
      let t := wr (held 0x10) HSEC.GRANT_SCOPE (leAt r 0 4) (wr (held 0x10) HSEC.GRANT_SLOT (leAt r 8 1) (wr (held 0x10) HSEC.GRANT_TICKS (leAt r 4 4) s))
      wr (held 0x10) HSEC.GRANT_DUE (now t + 2) t)) :=
  (settle_hostCmd_unlocked h).trans (by simp only [hr, hb, Bool.not_true, Bool.false_eq_true, if_false])

theorem dbgSubmit_refused (h : Unlocked s 0x12) (hr : responseOk s = false) :
    exec .dbgSubmit s = .next (kept s (raise 0x12 SEC2.evDEBUG_REFUSED [] (inc 0x12 SEC2.DBG_FAILS (wr (held 0x10) HSEC.FAIL_TICK (s.clock.tick + 1)
      (wr 0x12 SEC2.DBG_STATUS_THROTTLED 1 (wr 0x12 SEC2.DBG_STATUS_CHAL_VALID 0 s)))))) :=
  (settle_hostCmd_unlocked h).trans (by simp only [hr, Bool.not_false, if_true])

theorem dbgRelock_unlocked (h : Unlocked s 0x12) : exec .dbgRelock s = .next (kept s (endGrant (wr (held 0x10) HSEC.GRANT_DUE 0 s))) :=
  settle_hostCmd_unlocked h

theorem debugGrant_due (h0 : rd s (held 0x10) HSEC.GRANT_DUE ≠ 0) (ht : rd s (held 0x10) HSEC.GRANT_DUE ≤ now s + 1) :
    exec .debugGrant s = .next (kept s (
      let d := rd s (held 0x10) HSEC.GRANT_TICKS
      let scope := rd s (held 0x10) HSEC.GRANT_SCOPE
      let slot := rd s (held 0x10) HSEC.GRANT_SLOT
      let t := wr (held 0x10) HSEC.GRANT_DUE 0 (wr (held 0x10) HSEC.GRANTED 1 (wr 0x12 SEC2.DBG_STATUS_SCOPE scope s))
      let t := wr 0x12 SEC2.DBG_REMAIN (if d = 0 then 0xFFFFFFFF else d) t
      raise 0x12 SEC2.evDEBUG_GRANTED [scope, slot, d]
        (extendMeas ⟨2, kindGrant, now t, 0, Config.sha512 (toLe 4 scope ++ toLe 4 d ++ toLe 1 slot)⟩ t))) :=
  settle_onlyIf (decide_eq_true ⟨h0, .inr ht⟩)

theorem debugExpiry_over (hg : rdb s (held 0x10) HSEC.GRANTED = true) (hr : rd s 0x12 SEC2.DBG_REMAIN = 0) :
    exec .debugExpiry s = .next (kept s (endGrant s)) :=
  settle_onlyIf (decide_eq_true ⟨hg, hr⟩)

theorem dbgChallengeExpiry_over (hv : rdb s 0x12 SEC2.DBG_STATUS_CHAL_VALID = true)
    (ht : rd s (held 0x10) HSEC.CHAL_TICK + 80000 ≤ s.clock.tick + 1) :
    exec .dbgChallengeExpiry s = .next (kept s (wr 0x12 SEC2.DBG_STATUS_CHAL_VALID 0 s)) :=
  settle_onlyIf (decide_eq_true ⟨hv, ht⟩)

end Debug

/-! ## Randomness and keys (R486, R487) -/

section RandomAndKeys

variable {s : State} {p k : Nat}

theorem rngTestFail_working (h : rngFailed s = false) :
    exec .rngTestFail s = .next (kept s (raiseFault 0x12 SEC2.evRNG_FAIL (locUnit 3 1) false [] (wr 0x12 SEC2.RNG_STATUS_RNG_FAIL 1 s))) :=
  settle_onlyIf ((Bool.not_eq_true' _).mpr h)

theorem rngRecover_failed (h : rngFailed s = true) : exec .rngRecover s = .next (kept s (wr 0x12 SEC2.RNG_STATUS_RNG_FAIL 0 s)) :=
  settle_onlyIf h

theorem keyDbe_inStore (hp : p < 2) (hk : k < 5) :
    exec (.keyDbe p k) s = .next (kept s (keyDbe p k (wr (instBase 0x12) COM.PAGE_FAULT_UNCORRECTED 1 s))) :=
  settle_onlyIf (decide_eq_true ⟨hp, hk⟩)

end RandomAndKeys

/-! ## Loading Mews images (R405, R406) -/

section MewsLoads

variable {s : State} {r : Nat} {l pub : List Byte}

/-- LOAD_CTRL.START holds the role and who asked. -/
def loadAsked (r : Nat) (host : Bool) (s : State) : State := wr (held 0x1C0) HMEW.LOAD_ROLE r (wrb (held 0x1C0) HMEW.LOAD_HOST host s)

theorem mewsLoadStart_idle (h : Unlocked s 0x1C2) (hb : rdb s 0x1C2 MEW2.LOAD_STATUS_BUSY = false) (hr : rd s 0x1C2 MEW2.LOAD_ROLE = r) :
    exec (.mewsLoadStart true) s = .next (kept s (
      let t := loadAsked r true s
      if r = 0 ∨ r = 0xFF ∨ (true = true ∧ r < 0x20) ∨ ¬ (roleState t r = roleUnassigned ∨ roleState t r = roleStopped) then mewsLoadDone 1 t
      else wr 0x1C2 MEW2.LOAD_CTRL_START 1 (wr 0x1C2 MEW2.LOAD_STATUS_BUSY 1 t))) := by
  subst hr
  refine (settle_kept s _).trans ?_
  simp only [if_true, hostCmd_unlocked h]
  exact next_if_neg (Bool.eq_false_iff.mp hb)

/-- Holding a load's operands leaves the role's state alone. -/
theorem roleState_loadAsked (r q : Nat) (host : Bool) (s : State) : roleState (loadAsked r host s) q = roleState s q := by
  have hpage : Tab.role q ≠ held 0x1C0 := by unfold Tab.role held; omega
  unfold roleState loadAsked
  rw [rd_wr_page hpage (by decide) (by decide), wrb_eq, rd_wr_page hpage (by decide) (by decide)]

theorem mewsLoadStart_roleZero (h : Unlocked s 0x1C2) (hb : rdb s 0x1C2 MEW2.LOAD_STATUS_BUSY = false) (hr : rd s 0x1C2 MEW2.LOAD_ROLE = 0) :
    exec (.mewsLoadStart true) s = .next (kept s (mewsLoadDone 1 (loadAsked 0 true s))) :=
  (mewsLoadStart_idle h hb hr).trans (next_if_pos (.inl rfl))

/-- A customer role that is UNASSIGNED or STOPPED takes a load (R406). -/
theorem mewsLoadStart_customer (h : Unlocked s 0x1C2) (hb : rdb s 0x1C2 MEW2.LOAD_STATUS_BUSY = false) (hr : rd s 0x1C2 MEW2.LOAD_ROLE = r)
    (hlo : 0x20 ≤ r) (hhi : r < 0xFF) (hs : roleState s r = roleUnassigned ∨ roleState s r = roleStopped) :
    exec (.mewsLoadStart true) s
      = .next (kept s (wr 0x1C2 MEW2.LOAD_CTRL_START 1 (wr 0x1C2 MEW2.LOAD_STATUS_BUSY 1 (loadAsked r true s)))) := by
  refine (mewsLoadStart_idle h hb hr).trans (next_if_neg ?_)
  rw [roleState_loadAsked]
  rintro (h0 | hff | ⟨-, hlow⟩ | hstate)
  · omega
  · omega
  · omega
  · exact hstate hs

theorem mewsLoadDone_readFailed (hb : rdb s 0x1C2 MEW2.LOAD_STATUS_BUSY = true) (ha : rdb s 0x1C2 MEW2.LOAD_CTRL_FROM_ARCADE = false) :
    exec (.mewsLoadDone none pub) s = .next (kept s (mewsLoadDone 6 s)) :=
  (settle_onlyIf hb).trans (by simp only [ha, Bool.false_eq_true, if_false])

theorem mewsLoadDone_refused (hb : rdb s 0x1C2 MEW2.LOAD_STATUS_BUSY = true) (ha : rdb s 0x1C2 MEW2.LOAD_CTRL_FROM_ARCADE = false)
    (hr : mewsLoadResult s l pub ≠ 0) :
    exec (.mewsLoadDone (some l) pub) s = .next (kept s (mewsLoadDone (mewsLoadResult s l pub) s)) :=
  (settle_onlyIf hb).trans (by simp only [ha, hr, ne_eq, not_false_eq_true, Bool.false_eq_true, if_false, if_true])

theorem mewsLoadDone_taken (hb : rdb s 0x1C2 MEW2.LOAD_STATUS_BUSY = true) (ha : rdb s 0x1C2 MEW2.LOAD_CTRL_FROM_ARCADE = false)
    (hr : mewsLoadResult s l pub = 0) :
    exec (.mewsLoadDone (some l) pub) s = .next (kept s (
      measureNow (if leAt l 0x0A 1 = 0 then 4 else 5) kindMews (leAt l 0x28 8) (Config.sha512 (l.take (l.length - 64)))
        (mewsLoadDone 0 (takeImage (rd s (held 0x1C0) HMEW.LOAD_ROLE) (mewsImage l) s)))) :=
  (settle_onlyIf hb).trans (by simp only [ha, hr, ne_eq, not_true_eq_false, Bool.false_eq_true, if_false])

end MewsLoads

/-- Settles O36: each command meets the condition under which it acts, or the one under which it is refused. -/
theorem measurementsAndDebug : Obligations.MeasurementsAndDebug := fun _ _ _ _ _ _ =>
  ⟨measExtGo_running, quoteRequest_inProgress, quoteRequest_taken, quoteSnapshot_due, quoteWritten_signed, dbgRequest_drawn, dbgRequest_refused,
    dbgSubmit_granted, dbgSubmit_refused, dbgRelock_unlocked, debugGrant_due, debugExpiry_over, dbgChallengeExpiry_over, rngTestFail_working,
    rngRecover_failed, keyDbe_inStore, mewsLoadStart_roleZero, fun _ => mewsLoadStart_customer,
    fun hb ha => ⟨mewsLoadDone_readFailed hb ha, mewsLoadDone_refused hb ha, mewsLoadDone_taken hb ha⟩⟩

end Sys2Proof.Machine

/-! Power (chapter 17): wake sources, alarm inputs, the feed and the power domains. -/

namespace Sys2Proof.Machine

/-! ## Wake sources and alarms (R504, R512, R513) -/

section Wakes

variable {s : State} {ms i count ticks : Nat} {v : Bool}

theorem wakePin_rises (hl : rdb s 0x21 PWR1.WAKE_STATUS_LEVEL = false) (hs : rdb s (held 0x20) HPWR.STANDBY = true) :
    exec (.wakePin ms) s = keepQueue s (
      let t := wr 0x21 PWR1.WAKE_STATUS_LEVEL 1 s
      let t := if powerState t = 0 then wr (held 0x20) HPWR.WAKE_TICK (t.clock.tick + 1) t else t
      if rd t (held 0x20) HPWR.WAKE_MS ≠ 0 ∧ ms + 1 < rd t (held 0x20) HPWR.WAKE_MS + 100 then
        wr (held 0x20) HPWR.WAKE_HELD 1 (inc 0x21 PWR1.WAKES_LIMITED t)
      else acceptPin ms t) :=
  keepQueue_onlyIf (by simp [hl, hs])

theorem wakeLimitExpiry_held (hh : rdb s (held 0x20) HPWR.WAKE_HELD = true) (hl : rdb s 0x21 PWR1.WAKE_STATUS_LEVEL = true)
    (ht : rd s (held 0x20) HPWR.WAKE_MS + 100 ≤ ms + 1) :
    exec (.wakeLimitExpiry ms) s = keepQueue s (acceptPin ms (wr (held 0x20) HPWR.WAKE_HELD 0 s)) :=
  keepQueue_onlyIf (decide_eq_true ⟨hh, hl, ht⟩)

theorem wakeInactive_falls (hl : rdb s 0x21 PWR1.WAKE_STATUS_LEVEL = true) :
    exec .wakeInactive s = .next (kept s (
      let t := wr (held 0x20) HPWR.WAKE_HELD 0 (wr (held 0x20) HPWR.WAKE_TICK 0 (wr 0x21 PWR1.WAKE_STATUS_LEVEL 0 s))
      if rdb t 0x21 PWR1.WAKE_STATUS_STUCK then raise 0x21 PWR1.evWAKE_STUCK [0] (wr 0x21 PWR1.WAKE_STATUS_STUCK 0 t) else t)) :=
  settle_onlyIf hl

theorem wakeStuck_held (hp : powerState s = 0) (hl : rdb s 0x21 PWR1.WAKE_STATUS_LEVEL = true) (hs : rdb s 0x21 PWR1.WAKE_STATUS_STUCK = false)
    (h0 : rd s (held 0x20) HPWR.WAKE_TICK ≠ 0) (ht : rd s (held 0x20) HPWR.WAKE_TICK + 80000 ≤ s.clock.tick) :
    exec .wakeStuck s = .next (kept s (raise 0x21 PWR1.evWAKE_STUCK [1] (wr 0x21 PWR1.WAKE_STATUS_STUCK 1 s))) :=
  settle_onlyIf (by simp [hp, hl, hs, h0, ht])

theorem sleepTimerWake_over (h0 : rd s 0x20 PWR0.SLEEP_TIMER ≠ 0) (hm : mode s = modeDormant) (ht : timerOver s count = true) :
    exec (.sleepTimerWake count) s = keepQueue s (wakeBy 2 s) :=
  keepQueue_onlyIf (decide_eq_true ⟨h0, hm, ht⟩)

/-- A debounced change of an enabled input that is not frozen is judged for chatter and taken (R513). -/
theorem alarmChange_debounced (hi : i < 8) (hp : pd0On s = true) (hm : max 1 (rd s 0x21 (PWR1.ALM_DEB i)) ≤ ms)
    (he : bit (rd s 0x21 PWR1.ALM_CTRL_EN) i = true) (hf : bit (rd s 0x21 PWR1.FROZEN) i = false)
    (hv : (v == bit (rd s 0x21 PWR1.ALM_CTRL_POLARITY) i) ≠ bit (rd s 0x21 PWR1.ALM_STATE) i) :
    exec (.alarmChange i v ms) s = keepQueue s (almTake i v (almChatter i s)) :=
  keepQueue_onlyIf (decide_eq_true ⟨hi, hp, hm, he, (Bool.not_eq_true' _).mpr hf, hv⟩)

theorem alarmRelease_frozen (hi : i < 8) (hp : pd0On s = true) (ht : max 1 (rd s 0x21 PWR1.CHAT_WINDOW) ≤ ticks)
    (hf : bit (rd s 0x21 PWR1.FROZEN) i = true) :
    exec (.alarmRelease i v ticks) s = keepQueue s (almTake i v (raise 0x21 PWR1.evALM_CHATTER [i, 0]
      (wr 0x21 PWR1.FROZEN (setBit (rd s 0x21 PWR1.FROZEN) i false) { s with almTimes := s.almTimes.filter (fun x => x.1 ≠ i) }))) :=
  keepQueue_onlyIf (decide_eq_true ⟨hi, hp, ht, hf⟩)

end Wakes

/-! ## The feed and the domains (R493, R506 to R511) -/

section Feed

variable {s : State} {b count phase d : Nat} {ppb : Int} {v low : Bool}

theorem pmbusPoll_failed (hp : pd0On s = true) :
    exec (.pmbusPoll none) s = keepQueue s (
      let n := rd s (held 0x20) HPWR.POLL_FAILS
      let t := wr (held 0x20) HPWR.POLL_FAILS (min 3 (n + 1)) (inc 0x21 PWR1.PMBUS_ERRORS s)
      if n = 2 then raise 0x21 PWR1.evPMBUS_LOST [1] (wr 0x21 PWR1.FEED_STATUS_BUDGET_KNOWN 0 t) else t) :=
  keepQueue_onlyIf hp

theorem pmbusPoll_answered (hp : pd0On s = true) :
    exec (.pmbusPoll (some b)) s = keepQueue s (
      let t := wr 0x21 PWR1.FEED_STATUS_BUDGET_KNOWN 1 (wr (held 0x20) HPWR.POLL_FAILS 0
        (wr (held 0x20) HPWR.BUDGET b (wr (held 0x20) HPWR.BUDGET_TICK s.clock.tick s)))
      let t := if rd s (held 0x20) HPWR.POLL_FAILS = 3 then raise 0x21 PWR1.evPMBUS_LOST [0] t else t
      if mode t = modeDormant ∧ rdb t (held 0x20) HPWR.BY_BUDGET ∧ rd t 0x21 PWR1.LEAN_MIN_MW + rd t 0x21 PWR1.HYST_MW ≤ b then wakeBy 5 t
      else t) :=
  (keepQueue_onlyIf hp).trans (by simp only [decide_eq_true_eq])

theorem feedWarn_changes (hp : pd0On s = true) (hv : v ≠ feedWarn s) :
    exec (.feedWarn v) s = .next (kept s (raise 0x21 PWR1.evFEED_WARN [b2n v] (wrb 0x21 PWR1.FEED_STATUS_WARN v s))) :=
  settle_onlyIf (decide_eq_true ⟨hp, hv⟩)

theorem feedFail_recognised (hp : pd0On s = true) (hf : rdb s (held 0x20) HPWR.FAILED = false) :
    exec .feedFail s = .next (kept s (
      let t := wr 0x21 PWR1.FEED_STATUS_FAIL 1 (clearPending (endTr s))
      let t := wr (held 0x20) HPWR.FEED_AT (now t + 2) (wr (held 0x20) HPWR.FEED_ACTED 0 (wr (held 0x20) HPWR.FAILED 1 t))
      let e := { mkEv t 0x21 PWR1.evFEED_FAIL 0 false [] with deferred := true }
      let t := appendFlog e t
      if t.deferred.length < 256 then { t with deferred := t.deferred ++ [e] } else { t with deferredLost := t.deferredLost + 1 })) :=
  settle_onlyIf (decide_eq_true ⟨hp, (Bool.not_eq_true' _).mpr hf⟩)

theorem holdupEnd_over (hf : rdb s (held 0x20) HPWR.FAILED = true) (h0 : rd s (held 0x20) HPWR.FEED_AT ≠ 0)
    (ht : low = true ∨ holdupOver s = true) :
    exec (.holdupEnd low count phase ppb) s = keepQueue s (
      let n := (acceptedFrames s).length
      let t := forEach (acceptedFrames s) (fun e t => countOutcome e.port e.cls ocAbandoned t) s
      let t := wr 0x20 PWR0.ABANDONED_LAST n (wr (held 0x20) HPWR.FEED_AT 0 t)
      let t := appendFlog (mkEv t 0x21 PWR1.evFEED_FAIL 0 false [n]) t
      let t := if t.clock.running then sleepRecord (t.clock.tick + 1) (curTime t ((64 - t.clock.block) * blockCycles)) count phase ppb t else t
      let t := deepState 0 { t with resumeRec := [] }
      showDormant 3 1 (endTr { t with clock := { t.clock with running := false, tickOpen := false } })) :=
  keepQueue_onlyIf (decide_eq_true ⟨hf, h0, ht⟩)

theorem feedReturn_good (hp : pd0On s = true) (hf : rdb s (held 0x20) HPWR.FAILED = true) (h0 : rd s (held 0x20) HPWR.FEED_AT = 0)
    (hv : rdb s (held 0x20) HPWR.VIN = true) :
    exec .feedReturn s = keepQueue s (wakeBy 6 (wr 0x21 PWR1.FEED_STATUS_FAIL 0 s)) :=
  keepQueue_onlyIf (decide_eq_true ⟨hp, hf, h0, hv⟩)

theorem domainReady_due (hd : d < 20) (h0 : rd s (held 0x20) (HPWR.READY d) ≠ 0) (ht : rd s (held 0x20) (HPWR.READY d) ≤ now s + 1) :
    exec (.domainReady d) s = .next (kept s (wr (held 0x20) (HPWR.READY d) 0 (resetDomain d s))) :=
  settle_onlyIf (decide_eq_true ⟨hd, h0, ht⟩)

end Feed

/-- Settles O38: each command meets the condition under which it acts. -/
theorem wakesAlarmsAndFeed : Obligations.WakesAlarmsAndFeed := fun _ _ _ _ _ _ _ _ _ _ _ =>
  ⟨wakePin_rises, wakeLimitExpiry_held, wakeInactive_falls, wakeStuck_held, sleepTimerWake_over, alarmChange_debounced, alarmRelease_frozen,
    pmbusPoll_failed, pmbusPoll_answered, feedWarn_changes, feedFail_recognised, holdupEnd_over, feedReturn_good, domainReady_due⟩

end Sys2Proof.Machine

/-! The register pages (chapter 18): a staged write and its commit; events that are first in a tick, and clearing event bits. -/

namespace Sys2Proof.Machine

/-! ## Staging and commit (R520, R521) -/

section Staging

variable {s : State} {p v : Nat} {f : Field}

/-- Where no listed pair passes a test, inserting one that does leaves it alone to pass. -/
theorem filter_insertKey {α : Type} {k : Nat} {x : α} {m : Map α} {q : Nat × α → Bool} (hq : q (k, x) = true) (hm : m.filter q = []) :
    (Map.insertKey k x m).filter q = [(k, x)] := by
  induction m with
  | nil => simp [Map.insertKey, hq]
  | cons e r ih =>
    obtain ⟨j, w⟩ := e
    have he : ¬ q (j, w) = true := List.filter_eq_nil_iff.mp hm (j, w) (by simp)
    have hr : r.filter q = [] := List.filter_eq_nil_iff.mpr fun y hy => List.filter_eq_nil_iff.mp hm y (by simp [hy])
    by_cases hk : k < j
    · simp [Map.insertKey, hk, hq, he, hr]
    · simp [Map.insertKey, hk, he, ih hr]

/-- A field's key names its page. -/
theorem key_page (hf : f.off * 8 + f.lo < 32768) : f.key p / 32768 = p := by unfold Field.key; omega

/-- The commits of a BAR0 page's fields are the page's own. -/
theorem ownerOf_page (hp : p < 0x1000) : ownerOf p = p := if_pos hp

/-- A write to a field of a page for which nothing is staged is all that is staged for it. -/
theorem stagedOf_wrStaged (hp : p < 0x1000) (hf : f.off * 8 + f.lo < 32768) (hs : stagedOf s p = []) :
    stagedOf (wrStaged p p f v s) p = [(f.key p, some (v % 2 ^ f.width, f.rst))] := by
  have hkey : decide (ownerOf (f.key p / 32768) = p) = true := by rw [key_page hf, ownerOf_page hp, decide_eq_true rfl]
  have herase : (Map.erase s.staged (f.key p)).filter (fun e => ownerOf (e.1 / 32768) = p) = [] :=
    List.filter_eq_nil_iff.mpr fun y hy => List.filter_eq_nil_iff.mp hs y (List.mem_filter.mp hy).1
  show (Map.put none s.staged (f.key p) (some (v % 2 ^ f.width, f.rst))).filter _ = _
  rw [Map.put, if_neg (Option.some_ne_none _)]
  exact filter_insertKey hkey herase

/-- After a page's commit nothing is staged for it. -/
theorem stagedOf_applyStaged (p : Nat) (s : State) : stagedOf (applyStaged p s) p = [] := by
  show (s.staged.filter (fun e => ownerOf (e.1 / 32768) ≠ p)).filter (fun e => ownerOf (e.1 / 32768) = p) = []
  exact List.filter_eq_nil_iff.mpr fun e he => by simpa using (List.mem_filter.mp he).2

/-- The commit of a page with one staged write puts it in effect and clears STAGED. -/
theorem rd_applyStaged_one {q k x rst : Nat} {g : Field} (hs : stagedOf s p = [(k, some (x, rst))])
    (hg : g.key q ≠ COM.PAGE_STATUS_STAGED.key p) : rd (applyStaged p s) q g = Map.get g.rst (Map.put rst s.regs k x) (g.key q) := by
  unfold applyStaged
  rw [rd_wr_other hg]
  simp only [rd, hs, List.foldl]

/-- The write and its commit change no field of another page. -/
theorem commit_keeps_other_pages (hp : p < 0x1000) (hf : f.off * 8 + f.lo < 32768) (hs : stagedOf s p = []) :
    RegsKeptBut [p] s (applyStaged p (wrStaged p p f v s)) := by
  intro q g hq hg
  have hqp : q ≠ p := by simpa using hq
  have hflag : g.key q ≠ COM.PAGE_STATUS_STAGED.key p := key_ne_of_page hqp (by decide) hg
  rw [rd_applyStaged_one (stagedOf_wrStaged hp hf hs) hflag, Map.get_put_other _ _ _ _ (key_ne_of_page hqp hf hg)]
  exact rd_wrStaged hflag

end Staging

/-- Settles O52: the write is the one thing staged for the page, and the commit applies it. -/
theorem stageThenCommit : Obligations.StageThenCommit := by
  intro s p v f hp hacc hf hflag hs
  have hwrite : writeField p f v s = wrStaged p p f v s := by unfold writeField; rw [hacc]
  have hstaged := stagedOf_wrStaged (v := v) hp hf hs
  simp only [hwrite]
  refine ⟨rd_wrStaged hflag, rdStaged_wrStaged_self p, rd_wr_self .., ?_, rd_wr_self .., stagedOf_applyStaged .., commit_keeps_other_pages hp hf hs⟩
  rw [rd_applyStaged_one hstaged hflag, Map.get_put_same]

/-! ## First in a tick, and event bits (R530, Table 0.4) -/

section EventBits

variable {s : State}

theorem firstKey_mem_raiseFirst (pg b : Nat) (d : List Nat) (s : State) : firstKey pg b 0 ∈ (raiseFirst pg b d s).firsts := by
  unfold raiseFirst
  split
  · assumption
  · rw [raise, pushEv_firsts]; exact List.mem_cons_self

/-- PAGE_EVENT keeps its bits but those written 1. -/
theorem rd_writeField_pageEvent (p v : Nat) (s : State) :
    rd (writeField p COM.PAGE_EVENT v s) p COM.PAGE_EVENT = (rd s p COM.PAGE_EVENT &&& (2 ^ 32 - 1 - v % 2 ^ 32)) % 2 ^ 32 :=
  rd_wr_self s p COM.PAGE_EVENT _

/-- Within 32 bits, the complement of a word holds the bits that the word does not. -/
theorem bit_complement (v : Nat) {i : Nat} (hi : i < 32) : bit (2 ^ 32 - 1 - v % 2 ^ 32) i = !bit v i := by
  have hlt : v % 2 ^ 32 < 2 ^ 32 := Nat.mod_lt _ (Nat.two_pow_pos 32)
  rw [← bit_mod_two_pow (n := v) hi, show 2 ^ 32 - 1 - v % 2 ^ 32 = 2 ^ 32 - (v % 2 ^ 32 + 1) by omega, bit_eq_testBit, bit_eq_testBit,
    Nat.testBit_two_pow_sub_succ hlt, decide_eq_true hi, Bool.true_and]

theorem bit_and (v w i : Nat) : bit (v &&& w) i = (bit v i && bit w i) := by simp only [bit_eq_testBit, Nat.testBit_and]

end EventBits

/-- Settles O58: a raised event is in the list of those first in the tick; a write of PAGE_EVENT keeps the bits of its complement. -/
theorem firstInTickAndClears : Obligations.FirstInTickAndClears :=
  ⟨fun pg b d _ s => raiseFirst_again (firstKey_mem_raiseFirst pg b d s),
    fun p v _ s hi => by rw [rd_writeField_pageEvent, bit_mod_two_pow hi, bit_and, bit_complement v hi]⟩

end Sys2Proof.Machine
